-- ==== Sys2Proof/Word.lean ====
section
/-! DEFINITION. The words of the CFM-8420: bytes, 32-bit registers, 64-bit values (00_scope R5, R7). -/

namespace Sys2Proof

/-- One byte of a buffer, record or frame. -/
abbrev Byte := BitVec 8

/-- One register (00_scope R7). -/
abbrev Word := BitVec 32

/-- A 64-bit value: a point's VALUE, a master accumulator. -/
abbrev Word64 := BitVec 64

end Sys2Proof
end

