-- ==== Sys2Proof/Syntax.lean ====
section
/-! DEFINITION. The commands of the block: one constructor of `Instr` per row of the table of operations and events,
in the table's order. Operands are what arrives from outside (a route and tag, a written value, a frame, a level, a
measured quantity); everything else a command needs stands in State. -/

namespace Sys2Proof

/-- A route that carries Steward commands (04: 16 mailboxes, 64 sessions). -/
inductive Route where
  | mailbox (m : Nat)
  | session (n : Nat)
  deriving DecidableEq, Repr

/-- Who makes a register access (02 R46, R61; 03 Table 3.6; 04 R151; 20 R531). -/
inductive Agent where
  /-- Steward on Sage core 0. -/
  | steward
  /-- The application on Sage core 1. -/
  | core1
  /-- Chervil, the management processor. -/
  | chervil
  /-- A block access command of a house ADMINISTRATOR (05 R160). -/
  | block
  /-- The carrier host through the SPI mirror of the MB_ registers (04 R151). -/
  | spi
  deriving DecidableEq, Repr

/-- What a register access names: the address and the width of the access in bytes, of which only 4 is performed
(00 R7). -/
structure RegAt where
  addr : Nat
  width : Nat := 4
  deriving DecidableEq, Repr

/-- An access of the point fabric: the path's tenant, writer id and source island (03 Tables 3.6 and 3.7). -/
structure Requester where
  tenant : Nat
  writer : Nat
  island : Nat
  deriving DecidableEq, Repr

/-- The operation of a crossing (02, "Crossings"). -/
inductive XOp where
  | readReg (addr : Nat)
  | writeReg (addr : Nat) (value : Word)
  | readPoint (who : Requester) (pt : Nat)
  | writePoint (who : Requester) (pt type quality : Nat) (value : Word64) (time : Nat)
  deriving DecidableEq, Repr

/-- Where in MGT a request comes from, for the states BOOT and UPDATE (02 Table 2.6, R65). -/
inductive XPath where
  | ordinary
  | mgtSequencer
  | mgtUpdate
  deriving DecidableEq, Repr

/-- A request at a target's port (02, "Crossings"). -/
structure XRequest where
  src : Nat
  dst : Nat
  slot : Nat
  gen : Nat
  reqEpoch : Nat
  targetEpoch : Nat
  path : XPath
  /-- 0 island logic, 1 Sage core 0, 2 Sage core 1 (02 Table 2.22). -/
  source : Nat
  op : XOp
  deriving DecidableEq, Repr

/-- A reply at a requester's port (02 R66). -/
structure XReply where
  target : Nat
  requester : Nat
  slot : Nat
  gen : Nat
  reqEpoch : Nat
  targetEpoch : Nat
  status : Nat
  data : Word64
  deriving DecidableEq, Repr

/-- What a MACsec port found when it validated a frame (12 Table 12.7, counters 24 to 27). -/
inductive MacsecResult where
  | plain
  | ok
  | badIcv
  | replay
  | noSa
  deriving DecidableEq, Repr

/-- A frame at a port: the bytes from the destination address up to, not including, the FCS; what the MAC found. -/
structure RxFrame where
  bytes : List Byte
  codeErr : Bool
  fcsOk : Bool
  macsec : MacsecResult
  deriving DecidableEq, Repr

/-- A frame on a message bus (15). -/
structure BusFrame where
  ide : Bool
  fd : Bool
  xl : Bool
  rtr : Bool
  id : Nat
  dlc : Nat
  data : List Byte
  xlHdr : Nat
  xlAf : Nat
  /-- Start-of-frame instant, TAI ns (15 R411). -/
  sof : Nat
  deriving DecidableEq, Repr

/-- How a transmission attempt ended (15 R415). -/
inductive BusTxEnd where
  /-- Sent; its start-of-frame instant, TAI ns. -/
  | sent (sof : Nat)
  | lostArbitration
  | error (kind : Nat)
  deriving DecidableEq, Repr

/-- What the wake decoder of a sleeping channel saw (15 R421). -/
inductive BusWake where
  | frame (f : BusFrame)
  | erroneous
  deriving DecidableEq, Repr

/-- A received PTP message, as the fields the manual names (13). Stamps are the hardware stamps before corrections. -/
structure PtpMsg where
  port : Nat
  domain : Nat
  sourceId : Nat
  seq : Nat
  /-- Log message interval, or the requested interval of Signaling. -/
  logInterval : Int
  twoStep : Bool
  /-- Ingress stamp, TAI ns. -/
  ingress : Int
  /-- Origin, request receipt or response origin timestamp carried, TAI ns. -/
  origin : Int
  /-- correctionField, ns. -/
  correction : Int
  /-- Announce: grandmaster identity, priorities, clockClass, clockAccuracy, variance, stepsRemoved, offset and flags. -/
  gmId : Nat
  priority1 : Nat
  clockClass : Nat
  clockAccuracy : Nat
  variance : Nat
  priority2 : Nat
  stepsRemoved : Nat
  utcOffset : Int
  /-- Announce: its flag octets. Signaling: which intervals are asked for: [0] link delay, [1] Sync, [2] Announce. -/
  flags : Nat
  timeSource : Nat
  deriving DecidableEq, Repr

/-- What reaches the BACnet/SC profile on a session slot: a service request (04 R149), and the events that make it
possible and that no other row of the table carries (04 R145, R146; log 42). -/
inductive BacnetService where
  | whoIs
  | readProperty (object property : Nat)
  | readPropertyMultiple (items : List (Nat × Nat))
  /-- A property at a priority 1 to 16; `none` relinquishes. The value is a binary32 code, 0 or 1, or a state number, by
  the object's type (04 Table 4.12). -/
  | writeProperty (object property priority : Nat) (value : Option Word64)
  /-- A subscription to an object's changes, or its cancellation. -/
  | subscribeCOV (object : Nat) (cancel : Bool)
  | other (service : Nat)
  /-- A tenant asks for its device, with the URIs of its primary and failover hub (04 R145). -/
  | ask (tenant : Nat) (primary failover : List Byte)
  /-- The device's connection to one of its hubs stands (04 R145). -/
  | connect (tenant : Nat) (failover : Bool)
  /-- Steward maps an object of a tenant's device onto a point (04 R146). -/
  | map (tenant object type pt : Nat) (relinquish : Word64)
  /-- Steward looks whether a subscribed object has changed (04 R149). -/
  | covDue (object : Nat)
  deriving DecidableEq, Repr

/-- A twin frame's body as it arrives, with the header's SEQ, fragment and check result (16 Table 16.10). -/
structure TwinRx where
  seq : Nat
  last : Bool
  frag : Nat
  time : Nat
  body : List Byte
  checkOk : Bool
  /-- Ring frames: the sender's address, and whether it came under a secure association (16 R441, R457). -/
  sender : Nat
  secured : Bool
  deriving DecidableEq, Repr

/-- What Chervil's sensors read (17 Table 17.7). -/
structure SensorReading where
  dies : List Int
  board : Int
  rails : List Nat
  /-- Rails that have been outside ±5 % for 100 µs. -/
  railFaults : List Nat
  vinMv : Nat
  vinMa : Nat
  fieldMv : Nat
  fieldMa : Nat
  vstoreMv : Nat
  portMa : List Nat
  deriving DecidableEq, Repr

/-- What detection and classification of a field port found (17 R472). -/
inductive PowerProbe where
  | failed
  | pdClass (c : Nat)
  deriving DecidableEq, Repr

/-- The commands, one per row of spec/opcode_table.json. -/
inductive Instr where
  -- Steward commands, Table 5.1, with the events that complete them
  | systemInfo (r : Route) (tag : Nat)
  | mailboxBind (r : Route) (tag : Nat)
  | netConfig (r : Route) (tag : Nat)
  | systemReset (r : Route) (tag : Nat)
  | systemResetStart
  | pointRead (r : Route) (tag : Nat)
  | pointWrite (r : Route) (tag : Nat)
  | pointDefine (r : Route) (tag : Nat)
  | pointUndefine (r : Route) (tag : Nat)
  | pointClaim (r : Route) (tag : Nat)
  | pointRelease (r : Route) (tag : Nat)
  | forceSet (r : Route) (tag : Nat)
  | forceClear (r : Route) (tag : Nat)
  | forceList (r : Route) (tag : Nat)
  | shareSet (r : Route) (tag : Nat)
  | shareDelete (r : Route) (tag : Nat)
  | shareLink (r : Route) (tag : Nat)
  | sliceSet (r : Route) (tag : Nat)
  | sliceList (r : Route) (tag : Nat)
  | programLoad (r : Route) (tag : Nat)
  | programLoadChecked
  | programStatus (r : Route) (tag : Nat)
  | programExchange (r : Route) (tag : Nat)
  | programRun (r : Route) (tag : Nat)
  | programUnload (r : Route) (tag : Nat)
  | loopTableLoad (r : Route) (tag : Nat)
  | loopEnable (r : Route) (tag : Nat)
  | loopStatus (r : Route) (tag : Nat)
  | traceConfig (r : Route) (tag : Nat)
  | traceRead (r : Route) (tag : Nat)
  | meterRead (r : Route) (tag : Nat)
  | circuitMap (r : Route) (tag : Nat)
  | calibrationLoad (r : Route) (tag : Nat)
  | accConfig (r : Route) (tag : Nat)
  | apportionSet (r : Route) (tag : Nat)
  | spillConfig (r : Route) (tag : Nat)
  | demandRead (r : Route) (tag : Nat)
  | instantRead (r : Route) (tag : Nat)
  | seriesDefine (r : Route) (tag : Nat)
  | seriesDelete (r : Route) (tag : Nat)
  | recorderRead (r : Route) (tag : Nat)
  | seriesClear (r : Route) (tag : Nat)
  | recorderStatus (r : Route) (tag : Nat)
  | timeRead (r : Route) (tag : Nat)
  | ptpConfig (r : Route) (tag : Nat)
  | ppsConfig (r : Route) (tag : Nat)
  | calRead (r : Route) (tag : Nat)
  | calSet (r : Route) (tag : Nat)
  | alarmSet (r : Route) (tag : Nat)
  | trimSet (r : Route) (tag : Nat)
  | backupRead (r : Route) (tag : Nat)
  | backupWrite (r : Route) (tag : Nat)
  | portStatus (r : Route) (tag : Nat)
  | portConfig (r : Route) (tag : Nat)
  | portCounters (r : Route) (tag : Nat)
  | gateListLoad (r : Route) (tag : Nat)
  | deviceTable (r : Route) (tag : Nat)
  | ringTables (r : Route) (tag : Nat)
  | macsecConfig (r : Route) (tag : Nat)
  | busConfig (r : Route) (tag : Nat)
  | busConfigApply (ch : Nat)
  | busObjectSet (r : Route) (tag : Nat)
  | busStatus (r : Route) (tag : Nat)
  | busSleep (r : Route) (tag : Nat)
  | busSleepEntry (ch : Nat)
  | twinStatus (r : Route) (tag : Nat)
  | twinHealth (r : Route) (tag : Nat)
  | twinConfig (r : Route) (tag : Nat)
  | twinHandover (r : Route) (tag : Nat)
  | witnessConfig (r : Route) (tag : Nat)
  | tenantEnrol (r : Route) (tag : Nat)
  | tenantRemove (r : Route) (tag : Nat)
  | keyImport (r : Route) (tag : Nat)
  | keyDelete (r : Route) (tag : Nat)
  | keyList (r : Route) (tag : Nat)
  | attest (r : Route) (tag : Nat)
  | debugEnable (r : Route) (tag : Nat)
  | keyEncrypt (r : Route) (tag : Nat)
  | keyDecrypt (r : Route) (tag : Nat)
  | keyWrap (r : Route) (tag : Nat)
  | keyUnwrap (r : Route) (tag : Nat)
  | keyDerive (r : Route) (tag : Nat)
  | updateBegin (r : Route) (tag : Nat)
  | updateSegment (r : Route) (tag : Nat)
  | updateFinalChecked
  | updateActivate (r : Route) (tag : Nat)
  | updateConfirm (r : Route) (tag : Nat)
  | updateFallback (r : Route) (tag : Nat)
  | updateStatus (r : Route) (tag : Nat)
  | sensorsRead (r : Route) (tag : Nat)
  | faultLogRead (r : Route) (tag : Nat)
  | powerConfig (r : Route) (tag : Nat)
  | fieldPower (r : Route) (tag : Nat)
  | islandControl (r : Route) (tag : Nat)
  | factoryReset (r : Route) (tag : Nat)
  | blockRead (r : Route) (tag : Nat)
  | blockWrite (r : Route) (tag : Nat)
  | transferTimeout (code : Nat)
  -- SPI and the mailboxes
  | spiWrite (addr : Nat) (data : List Byte)
  | spiRead (addr n : Nat)
  | writeQuad (addr : Nat) (data : List Byte)
  | readQuad (addr n : Nat)
  | spiStatus (n : Nat)
  | spiIdent
  | mbDoorbellWrite (by_ : Agent) (value : Word)
  -- sessions
  | sessionHello (n : Nat) (body : List Byte)
  | sessionAccept (n : Nat) (body : List Byte)
  | sessionProof (n : Nat) (body : List Byte)
  | sessionRecord (n : Nat) (body : List Byte)
  | sessionIdleTimeout (n : Nat)
  | sessionTcpClose (n : Nat)
  | bacnetService (n : Nat) (svc : BacnetService)
  -- crossings and islands
  | crossingRequest (q : XRequest)
  | crossingReply (p : XReply)
  | epochNotice (island receiver epoch : Nat)
  | slotFreedSend (island target : Nat)
  | slotReuseTimeout (island target slot : Nat)
  | islReqStateOff (by_ : Agent) (island : Nat) (value : Word)
  | islReqStateReset (by_ : Agent) (island : Nat) (value : Word)
  | islReqStateRun (by_ : Agent) (island : Nat) (value : Word)
  | islReqStateRetain (by_ : Agent) (island : Nat) (value : Word)
  | islReqStateUpdate (by_ : Agent) (island : Nat) (value : Word)
  | drainEnd (island : Nat)
  | resetRelease (island : Nat)
  | bootComplete (island : Nat)
  | bootTimeout (island : Nat)
  | islandIdleEntry (island : Nat)
  | islandWake (island : Nat)
  | islandFaultEntry (island cause localCause : Nat)
  | mgtFaultTimeout
  | autoRecovery (island : Nat)
  | clkRange (island kHz : Nat)
  | refclkLost
  | refclkReturn
  | rcRead (by_ : Agent) (addr : RegAt)
  | registerWrite (by_ : Agent) (addr : RegAt) (value : Word)
  -- Jiosh and the fabric
  | jioshReport (port : Nat) (frame : List Byte)
  | jioshAnnounce (port : Nat) (frame : List Byte)
  | jioshAck (port : Nat) (frame : List Byte)
  | jioshPeer (port : Nat) (sender : Nat) (secured : Bool) (frame : List Byte)
  | deviceStale (port serial : Nat)
  | deviceAbsent (port serial : Nat)
  | exportSend
  | fabricRead (who : Requester) (pt : Nat)
  | fabricWrite (who : Requester) (pt type quality : Nat) (value : Word64) (time : Nat)
  | imageGather
  | imageScatter
  | scrubRead
  | retentiveSave
  | storeRestore
  -- the Thyme cycle
  | taskRelease (t : Nat)
  | gatherComplete (t status : Nat)
  | scatterComplete (t status : Nat)
  -- Thyme instructions: the running task executes the word at its PC
  | thNop | thLd | thLdn | thAnd | thAndn | thOr | thOrn | thXor | thXorn | thSt | thStn | thSet | thRst
  | thNota | thSeta | thClra | thAndb | thOrb | thXorb | thClose | thPush | thRead | thPop
  | thEdgp | thEdgn | thTon | thTof | thTp | thTet | thCtu | thCtd | thCrst | thCld | thTcv
  | thLdw | thLdb | thLdwh | thStw | thStwc | thLdq | thLdqb | thLdix | thLdw64 | thStw64 | thXch | thStnz
  | thAdd | thSub | thMul | thDiv | thMod | thDivu | thModu | thNeg | thAbs | thAndw | thOrw | thXorw | thNotw
  | thShl | thShr | thSar | thRol | thAdd64 | thSub64 | thMul64 | thDiv64 | thMod64
  | thAddf | thSubf | thMulf | thDivf | thSqrtf | thAbsf | thNegf | thAddd | thSubd | thMuld | thDivd | thSqrtd
  | thItof | thUtof | thFtoi | thFtod | thDtof | thItol | thLtod | thDtol
  | thCmpi | thCmpu | thCmpf | thCmpl | thCmpd | thJmp | thJt | thJf | thCall | thRet | thEnd | thClrv
  | thCtrlRunWrite (by_ : Agent) (value : Word)
  -- the loop engine
  | groupRelease (g : Nat)
  | loopSample (g : Nat)
  | loopEvaluate (g : Nat)
  | loopSecondBitWrite (loop : Nat)
  -- metering and energy
  | afeFrame (bytes : List Byte)
  | afeLinkTimeout
  | totalsSave
  | saveNow (by_ : Agent) (value : Word)
  | snap (by_ : Agent) (value : Word)
  | ackWrap (by_ : Agent) (value : Word)
  | ackFail (by_ : Agent) (value : Word)
  | demandBoundary
  | spillPulseStart (o : Nat)
  | spillPulseEnd (o : Nat)
  | pulseAccepted (k : Nat) (level : Bool)
  | pulsePointWrite
  | totalsRestore
  -- Harvest
  | harvestSample
  | harvestClose
  | hvWselWrite (by_ : Agent) (w : Nat) (value : Word)
  | hvWdataRead (by_ : Agent) (w : Nat)
  | dropHistory (by_ : Agent) (value : Word)
  -- ports and switch
  | frameReceive (port : Nat) (f : RxFrame)
  | frameTransmit (port : Nat)
  | addressAgeOut (mac : Nat)
  | ucLookup (by_ : Agent) (value : Word)
  | ucWrite (by_ : Agent) (value : Word)
  | ucDelete (by_ : Agent) (value : Word)
  | ucRead (by_ : Agent) (value : Word)
  | flushDyn (by_ : Agent) (value : Word)
  | gateListChange (port : Nat)
  | gateEntryChange (port : Nat)
  | pauseEnd (port : Nat)
  | hsrSupervision
  | hsrDuplicateExpiry
  | hsrNodeForget (mac : Nat)
  | linkUp (port : Nat)
  | linkDown (port : Nat)
  | bypassClose
  | bypassOpen
  -- network time
  | sync (m : PtpMsg)
  | followUp (m : PtpMsg)
  | pdelayReq (m : PtpMsg)
  | pdelayResp (m : PtpMsg)
  | pdelayRespFollowUp (m : PtpMsg)
  | announce (m : PtpMsg)
  | signaling (m : PtpMsg)
  | syncSend (port : Nat)
  | announceSend (port : Nat)
  | pdelayReqSend (port : Nat)
  | syncTimeout
  | announceTimeout
  | ppsInEdge (stamp widthNs : Nat)
  | ppsInLost
  | ppsOutRise
  | ppsOutFall
  | tuCmpWrite (by_ : Agent) (k : Nat) (value : Word)
  | compareFire (k : Nat)
  | timeLatchRead (by_ : Agent)
  -- Almanac
  | calendarTick
  | trimWindow
  | trimCorrection
  | haltSet (by_ : Agent) (value : Word)
  | haltRelease (by_ : Agent) (value : Word)
  | alTimeWrite (by_ : Agent) (value : Word)
  | alDateWrite (by_ : Agent) (value : Word)
  | alTimeRead (by_ : Agent)
  | alAlarmWrite (by_ : Agent) (addr : Nat) (value : Word)
  | alBkpWrite (by_ : Agent) (w : Nat) (value : Word)
  | backupCheck
  | calendarSync
  | vaonLow
  | vbatSwitch
  | vaonReturn
  | coreLost
  -- message bus
  | busFrameReceive (ch : Nat) (f : BusFrame)
  | busTxAttemptEnd (ch object : Nat) (outcome : BusTxEnd)
  | busPeriodRequest (ch object : Nat)
  | bcTxreqWrite (by_ : Agent) (ch : Nat) (value : Word)
  | bcTxabortWrite (by_ : Agent) (ch : Nat) (value : Word)
  | bcRxackWrite (by_ : Agent) (ch : Nat) (value : Word)
  | recover (by_ : Agent) (ch : Nat) (value : Word)
  | busOffRecovered (ch : Nat)
  | busWakeEdge (ch : Nat)
  | busWakeFrame (ch : Nat) (seen : BusWake)
  -- twins
  | renewSend
  | renew (f : TwinRx)
  | grant (f : TwinRx)
  | leaseInEdge
  | leaseBurst
  | grantLow
  | grantGuardEnd
  | release (f : TwinRx)
  | takeover
  | withdraw (f : TwinRx)
  | selfDiagnosis (cause island : Nat)
  | helloSend
  | hello (f : TwinRx)
  | helloTimeout
  | handover (f : TwinRx)
  | handoverBoundary
  | unpair (f : TwinRx)
  | state (f : TwinRx)
  | journalShip
  | verdict (f : TwinRx)
  | resync (f : TwinRx)
  | fullTransferDone
  | healthSend
  | health (f : TwinRx)
  /-- Results of THY, LOOP, MTR and PF, true where the island passed. -/
  | knownAnswerTest (passed : List Bool)
  | twinLinkDown
  | relayDown (f : TwinRx)
  | relayUp (f : TwinRx)
  | offerSend
  | offer (f : TwinRx)
  | querySend
  | query (f : TwinRx)
  | probe (f : TwinRx)
  | probeReply (f : TwinRx)
  | probeTimeout (number : Nat)
  | answer (f : TwinRx)
  -- power, start-up and management
  | moduleStart (vinMv : Nat)
  | startComplete
  | resetNAssert
  | pwrWarnAssert (vinMv : Nat)
  | warningSaveDone (us : Nat)
  | pwrWarnRelease (vinMv vstoreMv : Nat)
  | holdupEnd
  | holdupMeasure (microfarad : Nat)
  | fuseTrip (n : Nat)
  | fuseRetry (n : Nat) (found : PowerProbe)
  | fieldOvercurrent
  | portPowerUp (n : Nat) (found : PowerProbe)
  | fieldLost
  | fieldReturn
  | sensorSample (reading : SensorReading)
  | thermalShutdown
  | faultLogFlush
  -- Vigil
  | vigilSource (sources : List Nat)
  | vgLatchClear (by_ : Agent) (value : Word)
  | vgCfgWrite (by_ : Agent) (value : Word)
  | vaultReseed
  -- field update
  | confirmTimeout
  | trialStart
  | abandon (by_ : Agent) (value : Word)
  -- interrupts and check units
  | icTclaimRead (by_ : Agent) (t : Nat)
  | icTcompleteWrite (by_ : Agent) (t : Nat) (value : Word)
  | unfreeze (by_ : Agent) (t : Nat) (value : Word)
  | icSwsetWrite (by_ : Agent) (value : Word)
  | icSwclrWrite (by_ : Agent) (value : Word)
  | icSrcWrite (by_ : Agent) (n : Nat) (value : Word)
  | moderationEnd (t : Nat)
  | chkStart (by_ : Agent) (c : Nat) (value : Word)
  | chkFinish (by_ : Agent) (c : Nat) (value : Word)
  | chkIn8Write (by_ : Agent) (c : Nat) (value : Word)
  | chkIn16Write (by_ : Agent) (c : Nat) (value : Word)
  | chkIn32Write (by_ : Agent) (c : Nat) (value : Word)
  -- rows at the table's end
  | busReceiveError (ch kind : Nat) (byProtocolException : Bool)
  | busIntegrated (ch : Nat)
  | leaseWireQuiet
  | witnessUnreachable (index : Nat)
  | dieCooled
  | attestPartsExpire (r : Route)
  | updateReset
  deriving DecidableEq, Repr

end Sys2Proof
end

