-- ==== Sys2Proof/Config.lean ====
section
/-! DEFINITION. The free values of the model: constants with no body. A statement that goes through one of them holds
whatever its value is. Each is named in a log entry under notes/assumptions. -/

namespace Sys2Proof.Config

/-- A value the manual leaves open, drawn with the step counter of State (log 1). -/
opaque freeNat : Nat → Nat

/-- The set of the fabric's cache that a record lies in, mod 8,192 (03 R104; log 15). -/
opaque cacheSet : Nat → Nat

/-- Which of its older records a full set of the cache gives up, mod 15, at an access by its number (03 R104; log 15). -/
opaque cacheVictim : Nat → Nat

/-- SHA3-512 of a byte string, 64 bytes as one number (FIPS 202; log 16). -/
opaque sha3 : List Byte → BitVec 512

/-- KMAC256 (K, X, L, S), its first L bits as one number (log 16). -/
opaque kmac : List Byte → List Byte → Nat → String → Nat

/-- AES-256-GCM encryption: key, nonce, additional data, plaintext to ciphertext (log 16). -/
opaque gcmSeal : Nat → List Byte → List Byte → List Byte → List Byte

/-- AES-256-GCM tag over key, nonce, additional data and ciphertext (log 16). -/
opaque gcmTag : Nat → List Byte → List Byte → List Byte → List Byte

/-- AES-256-GCM decryption: key, nonce, additional data, ciphertext to plaintext (log 16). -/
opaque gcmOpen : Nat → List Byte → List Byte → List Byte → List Byte

/-- ML-KEM-1024 decapsulation: key seed and ciphertext to the shared secret, none on failure (log 16). -/
opaque kemDecap : Nat → List Byte → Option Nat

/-- ML-KEM-1024 encapsulation key of a key seed, 1,568 bytes (log 16). -/
opaque kemPublic : Nat → List Byte

/-- HashML-DSA-87 signature of a key seed over a message (log 16). -/
opaque dsaSign : Nat → List Byte → List Byte

/-- ML-DSA-87 public key of a key seed (log 16). -/
opaque dsaPublic : Nat → List Byte

/-- Whether a HashML-DSA-87 signature verifies under vendor key k over a message (19 R517; log 16). -/
opaque dsaVerify : Nat → List Byte → List Byte → Bool

/-- Which ordering code of 00 Table 0.1 is marked on the module (log 13). -/
opaque orderingCode : Nat

/-- Minor version and build of Steward 3 (05 Table 5.2; log 13). -/
opaque stewardBuild : Nat

/-- Chervil's firmware release (05 Table 5.2, 17; log 13). -/
opaque chervilVersion : Nat

/-- Silicon revisions of the three dies (05 Table 5.2; log 13). -/
opaque silicon : Nat

/-- The digits of the module's serial number (00; log 13). -/
opaque serialDigit : Nat → Nat

/-- The device root held in fuses (18 R487; log 13). -/
opaque deviceRoot : Nat

/-- The test root, the same in every module (18 R489; log 13). -/
opaque testRoot : Nat

/-- The debug authorisation key held in fuses (18 R487; log 13). -/
opaque debugKey : Nat

/-- The code, binary64, of a channel delayed by a fraction of a sample period: of PHASE and the codes received, newest
first; the manual gives no interpolation (09 R258; log 17). -/
opaque fractionalDelay : Int → List Int → BitVec 64

/-- A code after the first-order high-pass filter at 0.1 Hz: its memory has no end, so it is drawn with the step counter
and the channel (09 R258; log 17). -/
opaque highPass : Nat → BitVec 64 → BitVec 64

/-- A reference sample after the 40 to 70 Hz band-pass filter, whose coefficients the manual does not give; drawn with the
step counter and the channel (09 R270; log 17). -/
opaque bandPass : Nat → BitVec 64 → BitVec 64

/-- Real and imaginary part of cexp(−2πi f k ÷ 8000), binary64, of f and k: the manual states no rounding of the
exponential (09 R274; log 17). -/
opaque binCos : BitVec 64 → Nat → BitVec 64
opaque binSin : BitVec 64 → Nat → BitVec 64

/-- The rate the servo has estimated, from the present TU_RATE and the offset (13 R374; log 18). -/
opaque servoRate : Int → Int → Int

/-- How far beyond its estimate the servo runs to slew an offset out, before the limit of 13 R374 (log 18). -/
opaque servoSlew : Int → Int → Int

/-- The clockIdentity of the module's clock, of its base address: the manual gives no rule (13 R368; log 49). -/
opaque clockIdentity : Nat → Nat

/-- The offsetScaledLogVariance the module announces of its own clock (13 R368; log 49). -/
opaque clockVariance : Nat

/-- The factory image that both update slots hold at delivery (00 R2, 19 Table 19.1; log 59). -/
opaque factoryImage : List Byte

/-- The check value of a stored key's record under a seed: R494 gives the record's fields, and neither its layout nor its
ciphertext (log 122). -/
opaque keyCheck : Nat → List Nat → Nat

/-- A BACnet/SC value of a property the manual names without giving its content (log 19). -/
opaque bacnetProperty : Nat → Nat → List Byte

/-- The TCP/IP, session nonce and identifier bytes drawn at random (04 R139; log 1). -/
opaque randomBytes : Nat → Nat → List Byte

end Sys2Proof.Config
end

