-- ==== Sys2Proof/Machine/Bytes.lean ====
section
/-! DEFINITION. Bit fields, byte order and signed readings of numbers (00_scope R5). -/

namespace Sys2Proof.Machine

/-- Bits [lo + w - 1 : lo] of a number. -/
def bitsOf (v lo w : Nat) : Nat := v / 2 ^ lo % 2 ^ w

/-- Bit i of a number. -/
def bitOf (v i : Nat) : Bool := v / 2 ^ i % 2 = 1

/-- Replaces bits [lo + w - 1 : lo] of a number. -/
def putBits (v lo w x : Nat) : Nat := v - bitsOf v lo w * 2 ^ lo + x % 2 ^ w * 2 ^ lo

/-- A Bool as a bit. -/
def b2n (b : Bool) : Nat := if b then 1 else 0

/-- A little-endian byte string as a number (R5). -/
def leNat : List Byte → Nat
  | [] => 0
  | b :: bs => b.toNat + 256 * leNat bs

/-- A number as n little-endian bytes (R5). -/
def leBytes : Nat → Nat → List Byte
  | 0, _ => []
  | n + 1, v => BitVec.ofNat 8 v :: leBytes n (v / 256)

/-- A big-endian byte string as a number (fields of external standards, R5). -/
def beNat (bs : List Byte) : Nat := bs.foldl (fun a b => a * 256 + b.toNat) 0

/-- A number as n big-endian bytes. -/
def beBytes (n v : Nat) : List Byte := (leBytes n v).reverse

/-- The n-byte little-endian field at an offset of a byte string. -/
def fld (p : List Byte) (off n : Nat) : Nat := leNat ((p.drop off).take n)

/-- The n bytes at an offset. -/
def sub (p : List Byte) (off n : Nat) : List Byte := (p.drop off).take n

/-- The two's complement reading of the low w bits. -/
def sInt (w v : Nat) : Int := if v % 2 ^ w < 2 ^ (w - 1) then (v % 2 ^ w : Nat) else (v % 2 ^ w : Nat) - (2 ^ w : Nat)

/-- The low w bits of an integer in two's complement. -/
def uNat (w : Nat) (i : Int) : Nat := (i % (2 ^ w : Nat)).toNat

/-- Two's complement of a byte field. -/
def sfld (p : List Byte) (off n : Nat) : Int := sInt (8 * n) (fld p off n)

/-- A count held at a largest value. -/
def satAdd (limit a b : Nat) : Nat := min limit (a + b)

/-- Replaces the bytes of a list at an offset. -/
def overlay (base : List Byte) (off : Nat) (data : List Byte) : List Byte :=
  base.take off ++ data.take (base.length - off) ++ base.drop (off + data.length)

/-- ASCII bytes of a string. -/
def ascii (t : String) : List Byte := t.toList.map fun c => BitVec.ofNat 8 c.toNat

/-- A byte string cut or padded with zeros to n bytes. -/
def padTo (n : Nat) (p : List Byte) : List Byte := p.take n ++ List.replicate (n - p.length) 0

/-- Whether every byte is zero. -/
def allZero (p : List Byte) : Bool := p.all (· == 0)

/-- Cuts a byte string into pieces of n bytes (fuel: at most k pieces). -/
def chunks (n : Nat) : Nat → List Byte → List (List Byte)
  | 0, _ => []
  | k + 1, p => if p.isEmpty then [] else p.take n :: chunks n k (p.drop n)

end Sys2Proof.Machine
end

