-- ==== Sys2Proof/Machine/Crc.lean ====
section
/-! DEFINITION. The check values of the module (20 Table 20.3): each polynomial bit by bit. -/

namespace Sys2Proof.Machine

/-- One bit of a reflected CRC-32 with the reversed polynomial. -/
def crc32Bit (poly : Word) (c : Word) : Word := if c.getLsbD 0 then (c >>> 1) ^^^ poly else c >>> 1

/-- Eight bits. -/
def crc32Byte (poly : Word) (c : Word) (b : Byte) : Word :=
  let f := crc32Bit poly
  f (f (f (f (f (f (f (f (c ^^^ b.zeroExtend 32))))))))

/-- Reversed polynomial of CRC-32/ISCSI. -/
def polyIscsi : Word := 0x82F63B78

/-- Reversed polynomial of CRC-32/ISO-HDLC. -/
def polyHdlc : Word := 0xEDB88320

/-- The register of CRC-32/ISCSI after a byte string, before the final inversion. -/
def crcIscsiRun (c : Word) (p : List Byte) : Word := p.foldl (crc32Byte polyIscsi) c

/-- CRC-32/ISCSI. -/
def crcIscsi (p : List Byte) : Word := ~~~(crcIscsiRun 0xFFFFFFFF p)

/-- The register of CRC-32/ISO-HDLC after a byte string, before the final inversion. -/
def crcHdlcRun (c : Word) (p : List Byte) : Word := p.foldl (crc32Byte polyHdlc) c

/-- CRC-32/ISO-HDLC. -/
def crcHdlc (p : List Byte) : Word := ~~~(crcHdlcRun 0xFFFFFFFF p)

/-- One bit of CRC-16 with polynomial 0x1021. -/
def crc16Bit (c : BitVec 16) : BitVec 16 := if c.getLsbD 15 then (c <<< 1) ^^^ 0x1021 else c <<< 1

/-- Eight bits. -/
def crc16Byte (c : BitVec 16) (b : Byte) : BitVec 16 :=
  let f := crc16Bit
  f (f (f (f (f (f (f (f (c ^^^ (b.zeroExtend 16 <<< 8)))))))))

/-- CRC-16/IBM-3740 continued from a register. -/
def crc16Run (c : BitVec 16) (p : List Byte) : BitVec 16 := p.foldl crc16Byte c

/-- CRC-16/IBM-3740: initial value 0xFFFF. -/
def crc16 (p : List Byte) : BitVec 16 := crc16Run 0xFFFF p

/-- One bit of CRC-8 with polynomial 0x07. -/
def crc8Bit (c : Byte) : Byte := if c.getLsbD 7 then (c <<< 1) ^^^ 0x07 else c <<< 1

/-- Eight bits. -/
def crc8Byte (c : Byte) (b : Byte) : Byte :=
  let f := crc8Bit
  f (f (f (f (f (f (f (f (c ^^^ b))))))))

/-- CRC-8/SMBUS: initial value 0. -/
def crc8Run (c : Byte) (p : List Byte) : Byte := p.foldl crc8Byte c

/-- CRC-8/SMBUS of a byte string. -/
def crc8 (p : List Byte) : Byte := crc8Run 0 p

end Sys2Proof.Machine
end

