-- ==== Sys2Proof/Machine/RegMap.lean ====
section
/-! DEFINITION. The register map: where every register stands, what its fields allow (00 Table 0.3), its reset value
and which bits survive a reset (00 R12). Fields that show live state are computed in Machine/Regs.lean. -/

namespace Sys2Proof.Machine

/-- A register, or an array of like registers at two strides. -/
structure RegRow where
  base : Nat
  stride : Nat := 4
  count : Nat := 1
  stride2 : Nat := 0
  count2 : Nat := 1
  /-- RW bits. -/
  rw : Nat := 0
  /-- W1C bits. -/
  w1c : Nat := 0
  /-- The register is RC. -/
  rc : Bool := false
  /-- Bits that survive a module reset and an island reset ("kept"). -/
  keep : Nat := 0
  /-- Bits that survive an island reset alone ("0; kept across island reset"). -/
  keepIsl : Nat := 0
  reset : Nat := 0
  deriving DecidableEq, Repr

/-- All bits of a register. -/
abbrev all32 : Nat := 0xFFFFFFFF

/-- Whether an address is a register of the row. -/
def RegRow.has (r : RegRow) (a : Nat) : Bool :=
  if r.stride2 = 0 then
    decide (r.base ≤ a) && decide ((a - r.base) % r.stride = 0) && decide ((a - r.base) / r.stride < r.count)
  else
    let o := a - r.base
    decide (r.base ≤ a) && decide (o / r.stride2 < r.count2) &&
      decide (o % r.stride2 % r.stride = 0) && decide (o % r.stride2 / r.stride < r.count)

/-- The register at the offset of block 0x00 of an island (02 Table 2.11). -/
def islReg (i off : Nat) : Nat := i * 0x10000000 + off

def rIslState (i : Nat) : Nat := islReg i 0x004
def rIslEpoch (i : Nat) : Nat := islReg i 0x008
def rIslCtrl (i : Nat) : Nat := islReg i 0x00C
def rIslFault (i : Nat) : Nat := islReg i 0x010
def rIslClk (i : Nat) : Nat := islReg i 0x014
def rIslPwr (i : Nat) : Nat := islReg i 0x018
def rIslPend (i : Nat) : Nat := islReg i 0x01C
def rIslDiscard (i : Nat) : Nat := islReg i 0x020
def rIslRefused (i : Nat) : Nat := islReg i 0x024
def rIslLastErr (i : Nat) : Nat := islReg i 0x028

/-- The rail of an island (17 Table 17.7). -/
def islandRail (i : Nat) : Nat := if i ≤ 3 then i else if i ≤ 6 then 4 else 5

/-- Rows of the common control block of island i (02 Tables 2.12 to 2.22). -/
def rowsIsl (i : Nat) : List RegRow := [
  { base := islReg i 0x000, reset := i + 0x00010000 },
  { base := rIslState i, reset := 0x31 },
  { base := rIslEpoch i, keep := 0xFFFF },
  { base := rIslCtrl i, rw := 0x17, keepIsl := 0x17, reset := 0x13 },
  { base := rIslFault i, w1c := 0xFF, keep := 0xFF00FF },
  { base := rIslClk i },
  { base := rIslPwr i, reset := 1 + islandRail i * 256 },
  { base := rIslPend i },
  { base := rIslDiscard i, rc := true },
  { base := rIslRefused i, rc := true, keep := all32 },
  { base := rIslLastErr i } ]

-- 03 Table 3.14
def rPfCtrl : Nat := 0x40100000
def rPfStatus : Nat := 0x40100004
def rPfEvent : Nat := 0x40100008
def rPfEventEn : Nat := 0x4010000C
def rPfDefined : Nat := 0x40100010
def rPfUsage : Nat := 0x40100014
def rPfScrubPos : Nat := 0x40100018
def rPfCacheMiss : Nat := 0x4010001C
def rPfDenied : Nat := 0x40100020
def rPfChkFail : Nat := 0x40100024
def rPfJiosh : Nat := 0x40100028
def rPfJioshDrop : Nat := 0x4010002C
def rPfJioshDup : Nat := 0x40100030
def rPfLastChk : Nat := 0x40100034

/-- Rows of the fabric block (03 Tables 3.15 to 3.25). -/
def rowsPf : List RegRow := [
  { base := rPfCtrl, rw := 0xFF03, reset := 0x0401 },
  { base := rPfStatus, keepIsl := 1 },
  { base := rPfEvent, w1c := 0x7F },
  { base := rPfEventEn, rw := 0x7F },
  { base := rPfDefined }, { base := rPfUsage }, { base := rPfScrubPos },
  { base := rPfCacheMiss, count := 3, rc := true },
  { base := rPfJiosh, rw := 0xFFFF, reset := 0x88B5 },
  { base := rPfJioshDrop, count := 2, rc := true },
  { base := rPfLastChk } ]

-- 04 Table 4.13
def rMbCtrl : Nat := 0x30200000
def rMbStatus : Nat := 0x30200004
def rMbDoorbell : Nat := 0x30200008
def rMbRespReady : Nat := 0x3020000C
def rMbIrqEn : Nat := 0x30200010
def rMbEvent : Nat := 0x30200014
def rMbStateLo : Nat := 0x30200018
def rMbStateHi : Nat := 0x3020001C
def rMbBadCheck : Nat := 0x30200020
def rMbLost : Nat := 0x30200024
def rMbSessionFail : Nat := 0x30200028
def rMbBind (m : Nat) : Nat := 0x30200040 + 4 * m

/-- Rows of the mailbox block (04 Tables 4.14 to 4.20). -/
def rowsMb : List RegRow := [
  { base := rMbCtrl, rw := 0xFFFFFF07, reset := 0xBACC3C03 },
  { base := rMbStatus }, { base := rMbDoorbell },
  { base := rMbRespReady, w1c := 0xFFFF },
  { base := rMbIrqEn, rw := 0x1FFFF, reset := 0xFFFF },
  { base := rMbEvent, w1c := 0x3F, reset := 8 },
  { base := rMbStateLo, count := 2 },
  { base := rMbBadCheck, count := 3, rc := true },
  { base := rMbBind 0, count := 16 } ]

-- 06 Table 6.15
def rThCtrl : Nat := 0x50100000
def rThStatus : Nat := 0x50100004
def rThEvent : Nat := 0x50100008
def rThEventEn : Nat := 0x5010000C
def rThProgId : Nat := 0x50100010
def rThStagedId : Nat := 0x50100014
def rThLoad : Nat := 0x50100018
def rThReject : Nat := 0x5010001C
def rThTPeriod (t : Nat) : Nat := 0x50100100 + 0x40 * t
def rThTPhase (t : Nat) : Nat := 0x50100104 + 0x40 * t
def rThTCfg (t : Nat) : Nat := 0x50100108 + 0x40 * t
def rThTState (t : Nat) : Nat := 0x5010010C + 0x40 * t
def rThTFaultPc (t : Nat) : Nat := 0x50100110 + 0x40 * t
def rThTLast (t : Nat) : Nat := 0x50100114 + 0x40 * t
def rThTMax (t : Nat) : Nat := 0x50100118 + 0x40 * t
def rThTOvr (t : Nat) : Nat := 0x5010011C + 0x40 * t
def rThTLost (t : Nat) : Nat := 0x50100120 + 0x40 * t
def rThTSkip (t : Nat) : Nat := 0x50100124 + 0x40 * t
def rThTCycles (t : Nat) : Nat := 0x50100128 + 0x40 * t
def rThTGFail (t : Nat) : Nat := 0x5010012C + 0x40 * t

-- 08 Table 8.10
def rLpCtrl : Nat := 0x60100000
def rLpStatus : Nat := 0x60100004
def rLpEvent : Nat := 0x60100008
def rLpEventEn : Nat := 0x6010000C
def rLpReject : Nat := 0x60100010
def rLpTraceDone : Nat := 0x60100014
def rLpWFail : Nat := 0x60100018
def rLpLoss : Nat := 0x6010001C
def rLpGLast (g : Nat) : Nat := 0x60100020 + 0x10 * g
def rLpGMax (g : Nat) : Nat := 0x60100024 + 0x10 * g
def rLpGOvr (g : Nat) : Nat := 0x60100028 + 0x10 * g
def rLpGSkip (g : Nat) : Nat := 0x6010002C + 0x10 * g
def rLpTCfg (c : Nat) : Nat := 0x60100100 + 0x10 * c
def rLpTStat (c : Nat) : Nat := 0x60100104 + 0x10 * c
def rLpTTimeLo (c : Nat) : Nat := 0x60100108 + 0x10 * c
def rLpTTimeHi (c : Nat) : Nat := 0x6010010C + 0x10 * c
def rLpLState (n : Nat) : Nat := 0x60101000 + 4 * n

-- 10 Table 10.8
def rMeStatus : Nat := 0x70100000
def rMeEvent : Nat := 0x70100004
def rMeEventEn : Nat := 0x70100008
def rMeAfeStatus : Nat := 0x7010000C
def rMeAfeBad : Nat := 0x70100010
def rMeCalId : Nat := 0x70100014
def rMeOvlLo : Nat := 0x70100018
def rMeOvlHi : Nat := 0x7010001C
def rMeFreeLo : Nat := 0x70100020
def rMeFreeHi : Nat := 0x70100024
def rMeSaveCtrl : Nat := 0x70200000
def rMeSaveStatus : Nat := 0x70200004
def rMeSaveTimeLo : Nat := 0x70200008
def rMeSaveTimeHi : Nat := 0x7020000C
def rMeAccCtrl : Nat := 0x70200010
def rMeAccLo : Nat := 0x70200014
def rMeAccHi : Nat := 0x70200018
def rMeAccInfo : Nat := 0x7020001C
def rMeDmdCtrl : Nat := 0x70200020
def rMeXCheck : Nat := 0x70200024
def rMePinCfg (k : Nat) : Nat := 0x70200040 + 4 * k
def rMePinWt (k : Nat) : Nat := 0x70200060 + 4 * k
def rMeSpillCfg (k : Nat) : Nat := 0x70200080 + 4 * k
def rMeSpillThr (k : Nat) : Nat := 0x702000A0 + 4 * k
def rMeSpillStat (k : Nat) : Nat := 0x702000C0 + 4 * k
def rMeSpillLost (k : Nat) : Nat := 0x702000E0 + 4 * k
def rMeTAcc (t : Nat) : Nat := 0x70200100 + 4 * t

-- 11 Table 11.10
def rHvCtrl : Nat := 0x40200000
def rHvStatus : Nat := 0x40200004
def rHvEvent : Nat := 0x40200008
def rHvEventEn : Nat := 0x4020000C
def rHvUsed : Nat := 0x40200010
def rHvSeries : Nat := 0x40200014
def rHvSkipped : Nat := 0x40200018
def rHvRejected : Nat := 0x4020001C
def rHvDropped : Nat := 0x40200020
def rHvStopped : Nat := 0x40200024
def rHvCloseLo : Nat := 0x40200028
def rHvCloseHi : Nat := 0x4020002C
def rHvWSel (w : Nat) : Nat := 0x40200100 + 0x20 * w
def rHvWCur (w : Nat) : Nat := 0x40200104 + 0x20 * w
def rHvWData (w : Nat) : Nat := 0x40200108 + 0x20 * w
def rHvWSeq (w : Nat) : Nat := 0x4020010C + 0x20 * w
def rHvWStat (w : Nat) : Nat := 0x40200110 + 0x20 * w
def rHvWTenant (w : Nat) : Nat := 0x40200114 + 0x20 * w

-- 12 Table 12.8
def rSwCtrl : Nat := 0x80100000
def rSwStatus : Nat := 0x80100004
def rSwEvent : Nat := 0x80100008
def rSwEventEn : Nat := 0x8010000C
def rSwMacBaseLo : Nat := 0x80100010
def rSwMacBaseHi : Nat := 0x80100014
def rSwAge : Nat := 0x80100018
def rSwUcMacLo : Nat := 0x80100020
def rSwUcMacHi : Nat := 0x80100024
def rSwUcData : Nat := 0x80100028
def rSwUcCmd : Nat := 0x8010002C
def rSwUcCount : Nat := 0x80100030
def rSwGroupFwd : Nat := 0x80100034
def rSwHsrCtrl : Nat := 0x80100038
def rSwGHash (k : Nat) : Nat := 0x80100040 + 4 * k
def rMacCtrl (p : Nat) : Nat := 0x80200000 + 0x1000 * p
def rMacStatus (p : Nat) : Nat := 0x80200004 + 0x1000 * p
def rMacEvent (p : Nat) : Nat := 0x80200008 + 0x1000 * p
def rMacPauseLeft (p : Nat) : Nat := 0x8020000C + 0x1000 * p
def rMacGate (p : Nat) : Nat := 0x80200010 + 0x1000 * p
def rMacCtrlHi (p : Nat) : Nat := 0x80200014 + 0x1000 * p
def rMacStatusHi (p : Nat) : Nat := 0x80200018 + 0x1000 * p
def rMacCnt (p i : Nat) : Nat := 0x80200800 + 0x1000 * p + 4 * i
def rMacWakeMask (p k i : Nat) : Nat := 0x80300000 + 0x1000 * p + 0x20 * k + 4 * i
def rMacWakeCrc (p k : Nat) : Nat := 0x80300010 + 0x1000 * p + 0x20 * k

-- 13 Table 13.11
def rTuCtrl : Nat := 0x90100000
def rTuStatus : Nat := 0x90100004
def rTuEvent : Nat := 0x90100008
def rTuEventEn : Nat := 0x9010000C
def rTuPtp : Nat := 0x90100010
def rTuTimeSecHi : Nat := 0x90100014
def rTuTimeSecLo : Nat := 0x90100018
def rTuTimeNs : Nat := 0x9010001C
def rTuTimeFrac : Nat := 0x90100020
def rTuOffset : Nat := 0x90100024
def rTuRate : Nat := 0x90100028
def rTuStepThresh : Nat := 0x9010002C
def rTuLastStepLo : Nat := 0x90100030
def rTuLastStepHi : Nat := 0x90100034
def rTuPpsOut : Nat := 0x90100038
def rTuPpsOffset : Nat := 0x9010003C
def rTuPpsInErr : Nat := 0x90100040
def rTuCmp (k : Nat) : Nat := 0x90100044 + 4 * k
def rTuGmIdLo : Nat := 0x9010004C
def rTuGmIdHi : Nat := 0x90100050
def rTuMasterChanges : Nat := 0x90100054
def rTuPState (p : Nat) : Nat := 0x90100100 + 0x20 * p
def rTuPDelay (p : Nat) : Nat := 0x90100104 + 0x20 * p
def rTuPCorr (p : Nat) : Nat := 0x90100108 + 0x20 * p
def rTuPAsym (p : Nat) : Nat := 0x9010010C + 0x20 * p
def rTuPSync (p : Nat) : Nat := 0x90100110 + 0x20 * p
def rTuPMiss (p : Nat) : Nat := 0x90100114 + 0x20 * p
def rTuPBad (p : Nat) : Nat := 0x90100118 + 0x20 * p

-- 14 Table 14.7
def rAlCtrl : Nat := 0x00100000
def rAlStatus : Nat := 0x00100004
def rAlEvent : Nat := 0x00100008
def rAlEventEn : Nat := 0x0010000C
def rAlTime : Nat := 0x00100010
def rAlDate : Nat := 0x00100014
def rAlSubsec : Nat := 0x00100018
def rAlTrim : Nat := 0x0010001C
def rAlAlmTime (k : Nat) : Nat := 0x00100020 + 0x10 * k
def rAlAlmDate (k : Nat) : Nat := 0x00100024 + 0x10 * k
def rAlAlmCtrl (k : Nat) : Nat := 0x00100028 + 0x10 * k
def rAlBkp (w : Nat) : Nat := 0x00100040 + 4 * w

-- 15 Table 15.6
def rBcCCtrl (c : Nat) : Nat := 0xA0100000 + 0x1000 * c
def rBcCStat (c : Nat) : Nat := 0xA0100004 + 0x1000 * c
def rBcCEvent (c : Nat) : Nat := 0xA0100008 + 0x1000 * c
def rBcCEventEn (c : Nat) : Nat := 0xA010000C + 0x1000 * c
def rBcNbt (c : Nat) : Nat := 0xA0100010 + 0x1000 * c
def rBcDbt (c : Nat) : Nat := 0xA0100014 + 0x1000 * c
def rBcXbt (c : Nat) : Nat := 0xA0100018 + 0x1000 * c
def rBcStamp (c : Nat) : Nat := 0xA010001C + 0x1000 * c
def rBcTxReq (c : Nat) : Nat := 0xA0100020 + 0x1000 * c
def rBcTxAbort (c : Nat) : Nat := 0xA0100024 + 0x1000 * c
def rBcRxAck (c : Nat) : Nat := 0xA0100028 + 0x1000 * c
def rBcRxf (c : Nat) : Nat := 0xA0100040 + 0x1000 * c
def rBcTxf (c : Nat) : Nat := 0xA0100044 + 0x1000 * c
def rBcNoMatch (c : Nat) : Nat := 0xA0100048 + 0x1000 * c
def rBcRxLost (c : Nat) : Nat := 0xA010004C + 0x1000 * c
def rBcBusOff (c : Nat) : Nat := 0xA0100050 + 0x1000 * c
def rBcShort (c : Nat) : Nat := 0xA0100054 + 0x1000 * c
def rBcObj (c n off : Nat) : Nat := 0xA0200000 + 0x8000 * c + 0x80 * n + off
def rBcXl (c b off : Nat) : Nat := 0xA0300000 + 0x4000 * c + 0x800 * b + off

-- 16 Table 16.14
def rTwCtrl : Nat := 0x10500000
def rTwStatus : Nat := 0x10500004
def rTwEvent : Nat := 0x10500008
def rTwEventEn : Nat := 0x1050000C
def rTwGrantLeft : Nat := 0x10500010
def rTwCause : Nat := 0x10500014
def rTwTakeLo : Nat := 0x10500018
def rTwTakeHi : Nat := 0x1050001C
def rTwEther : Nat := 0x10500020
def rTwCompared : Nat := 0x10500024
def rTwMismatch : Nat := 0x10500028
def rTwShipLost : Nat := 0x1050002C
def rTwRenewMissed : Nat := 0x10500030
def rTwRelayed : Nat := 0x10500034
def rTwQueries : Nat := 0x10500038

-- 17 Table 17.9
def rMgCtrl : Nat := 0x10100000
def rMgStatus : Nat := 0x10100004
def rMgEvent : Nat := 0x10100008
def rMgEventEn : Nat := 0x1010000C
def rMgResetCause : Nat := 0x10100010
def rMgChervilVer : Nat := 0x10100014
def rMgTemp01 : Nat := 0x10100018
def rMgTemp23 : Nat := 0x1010001C
def rMgTempBoard : Nat := 0x10100020
def rMgLogTotal : Nat := 0x10100024
def rMgRail (r : Nat) : Nat := 0x10100040 + 4 * r
def rPwCtrl : Nat := 0x10200000
def rPwStatus : Nat := 0x10200004
def rPwEvent : Nat := 0x10200008
def rPwEventEn : Nat := 0x1020000C
def rPwVin : Nat := 0x10200010
def rPwField : Nat := 0x10200014
def rPwHoldup : Nat := 0x10200018
def rPwSave : Nat := 0x1020001C
def rPwWarns : Nat := 0x10200020
def rPwFuseEn : Nat := 0x10200024
def rPwPCfg (n : Nat) : Nat := 0xB0200000 + 0x10 * n
def rPwPStat (n : Nat) : Nat := 0xB0200004 + 0x10 * n
def rPwPTrips (n : Nat) : Nat := 0xB0200008 + 0x10 * n

-- 18 Table 18.9
def rKvStatus : Nat := 0x20100000
def rKvEvent : Nat := 0x20100004
def rKvEventEn : Nat := 0x20100008
def rKvWorking : Nat := 0x2010000C
def rKvOps : Nat := 0x20100010
def rKvRefused : Nat := 0x20100014
def rKvDebugCtr : Nat := 0x20100018
def rVgCfg : Nat := 0x00200000
def rVgFilter : Nat := 0x00200004
def rVgTemp : Nat := 0x00200008
def rVgLatch : Nat := 0x0020000C
def rVgNow : Nat := 0x00200010
def rVgL3Time : Nat := 0x00200014
def rVgL3Date : Nat := 0x00200018

-- 19 Table 19.9
def rUpCtrl : Nat := 0x10300000
def rUpStatus : Nat := 0x10300004
def rUpEvent : Nat := 0x10300008
def rUpEventEn : Nat := 0x1030000C
def rUpReject : Nat := 0x10300010
def rUpReceived : Nat := 0x10300014
def rUpFloor : Nat := 0x10300018
def rUpFormat : Nat := 0x1030001C
def rUpKey : Nat := 0x10300020
def rUpRevoked : Nat := 0x10300024

-- 20 Tables 20.5 and 20.7
def rIcEvent : Nat := 0x30100000
def rIcStatus : Nat := 0x30100004
def rIcSwSet : Nat := 0x30100008
def rIcSwClr : Nat := 0x3010000C
def rIcAssert (k : Nat) : Nat := 0x30100020 + 4 * k
def rIcActive (k : Nat) : Nat := 0x30100040 + 4 * k
def rIcTThresh (t : Nat) : Nat := 0x30100100 + 0x80 * t
def rIcTClaim (t : Nat) : Nat := 0x30100104 + 0x80 * t
def rIcTComplete (t : Nat) : Nat := 0x30100108 + 0x80 * t
def rIcTStat (t : Nat) : Nat := 0x3010010C + 0x80 * t
def rIcTMod (t : Nat) : Nat := 0x30100110 + 0x80 * t
def rIcTFault (t : Nat) : Nat := 0x30100114 + 0x80 * t
def rIcTCtrl (t : Nat) : Nat := 0x30100118 + 0x80 * t
def rIcTStack (t e : Nat) : Nat := 0x30100140 + 0x80 * t + 4 * e
def rIcSrc (n : Nat) : Nat := 0x30101000 + 4 * n
def rChkEvent : Nat := 0x40300000
def rChkEventEn : Nat := 0x40300004
def rChkCtrl (c : Nat) : Nat := 0x40300100 + 0x40 * c
def rChkIn8 (c : Nat) : Nat := 0x40300104 + 0x40 * c
def rChkIn16 (c : Nat) : Nat := 0x40300108 + 0x40 * c
def rChkIn32 (c : Nat) : Nat := 0x4030010C + 0x40 * c
def rChkResult (c : Nat) : Nat := 0x40300110 + 0x40 * c
def rChkStat (c : Nat) : Nat := 0x40300114 + 0x40 * c
def rChkUnits (c : Nat) : Nat := 0x40300118 + 0x40 * c
def rChkFail (c : Nat) : Nat := 0x4030011C + 0x40 * c
def rChkAbort (c : Nat) : Nat := 0x40300120 + 0x40 * c

/-- Rows of the Thyme block (06 Tables 6.16 to 6.26). -/
def rowsTh : List RegRow := [
  { base := rThCtrl, rw := 3 }, { base := rThStatus },
  { base := rThEvent, w1c := 0xFF }, { base := rThEventEn, rw := 0xFF },
  { base := rThProgId, count := 2 }, { base := rThLoad }, { base := rThReject },
  { base := rThTPeriod 0, count := 2, stride2 := 0x40, count2 := 16 },
  { base := rThTCfg 0, stride := 0x40, count := 16, reset := 0x0FFF0000 },
  { base := rThTState 0, count := 2, stride2 := 0x40, count2 := 16 },
  { base := rThTLast 0, stride := 0x40, count := 16 },
  { base := rThTMax 0, stride := 0x40, count := 16, rc := true },
  { base := rThTOvr 0, count := 3, stride2 := 0x40, count2 := 16, rc := true },
  { base := rThTCycles 0, stride := 0x40, count := 16 },
  { base := rThTGFail 0, stride := 0x40, count := 16, rc := true } ]

/-- Rows of the loop block (08 Tables 8.11 to 8.20). -/
def rowsLp : List RegRow := [
  { base := rLpCtrl, rw := 0xF, reset := 0xF }, { base := rLpStatus },
  { base := rLpEvent, w1c := 0x7F }, { base := rLpEventEn, rw := 0x7F },
  { base := rLpReject }, { base := rLpTraceDone, w1c := 0xFFFF },
  { base := rLpWFail, count := 2, rc := true },
  { base := rLpGLast 0, stride := 0x10, count := 4 },
  { base := rLpGMax 0, count := 3, stride2 := 0x10, count2 := 4, rc := true },
  { base := rLpTCfg 0, count := 4, stride2 := 0x10, count2 := 16 },
  { base := rLpLState 0, count := 1024 } ]

/-- Rows of the metering blocks (10 Tables 10.9 to 10.17). -/
def rowsMe : List RegRow := [
  { base := rMeStatus }, { base := rMeEvent, w1c := 0x7FF }, { base := rMeEventEn, rw := 0x7FF },
  { base := rMeAfeStatus }, { base := rMeAfeBad, rc := true }, { base := rMeCalId, keep := all32 },
  { base := rMeOvlLo, count := 2, w1c := all32 }, { base := rMeFreeLo, count := 2 },
  { base := rMeSaveCtrl, rw := 0xFF, keep := 0xFF, reset := 0x0A },
  { base := rMeSaveStatus, keep := 7 }, { base := rMeSaveTimeLo, count := 2, keep := all32 },
  { base := rMeAccCtrl, rw := 0xFFF }, { base := rMeAccLo, count := 3 },
  { base := rMeDmdCtrl, rw := 0x3F, keep := 0x3F, reset := 15 }, { base := rMeXCheck, rc := true },
  { base := rMePinCfg 0, count := 8, rw := 0x3F03, keep := 0x3F03 },
  { base := rMePinWt 0, count := 8, rw := all32, keep := all32 },
  { base := rMeSpillCfg 0, count := 8, keep := 0x7F8FFF }, { base := rMeSpillThr 0, count := 8, keep := all32 },
  { base := rMeSpillStat 0, count := 8, w1c := 0x10000, keep := 0xFFFF },
  { base := rMeSpillLost 0, count := 8, rc := true },
  { base := rMeTAcc 0, count := 256, keep := 0x3F8FFF } ]

/-- Rows of the Harvest block (11 Tables 11.11 to 11.15). -/
def rowsHv : List RegRow := [
  { base := rHvCtrl, rw := 0x7FF01, reset := 1 }, { base := rHvStatus, keepIsl := 1 },
  { base := rHvEvent, w1c := 0x7F }, { base := rHvEventEn, rw := 0x7F },
  { base := rHvUsed, count := 2 }, { base := rHvSkipped, count := 4, rc := true }, { base := rHvCloseLo, count := 2 },
  { base := rHvWSel 0, stride := 0x20, count := 2, rw := all32 },
  { base := rHvWCur 0, stride := 0x20, count := 2, rw := 0x7F },
  { base := rHvWData 0, count := 3, stride2 := 0x20, count2 := 2 },
  { base := rHvWTenant 0, rw := 0xFFF, reset := 0xFFF }, { base := rHvWTenant 1, reset := 0xFFF } ]

/-- Rows of the switch blocks (12 Tables 12.8 to 12.10). -/
def rowsSw : List RegRow := [
  { base := rSwCtrl, rw := 3, reset := 3 }, { base := rSwStatus },
  { base := rSwEvent, w1c := 0x1F }, { base := rSwEventEn, rw := 0x1F },
  { base := rSwMacBaseLo, count := 2, keep := all32 }, { base := rSwAge, rw := 0xFFFFF, reset := 300 },
  { base := rSwUcMacLo, rw := all32 }, { base := rSwUcMacHi, rw := 0xFFFF },
  { base := rSwUcData, rw := 0xC00FFFFF }, { base := rSwUcCmd, rw := 0xFFFC, reset := 0x10000 },
  { base := rSwUcCount }, { base := rSwGroupFwd, rw := 0xFFFFF },
  { base := rSwHsrCtrl, rw := all32, reset := 400 + 2000 * 65536 },
  { base := rSwGHash 0, count := 16, rw := all32 },
  { base := rMacCtrl 0, count := 2, stride2 := 0x1000, count2 := 20 },
  { base := rMacEvent 0, stride := 0x1000, count := 20, w1c := 0x1F },
  { base := rMacPauseLeft 0, count := 4, stride2 := 0x1000, count2 := 20 },
  { base := rMacCnt 0 0, count := 40, stride2 := 0x1000, count2 := 20, rc := true },
  { base := rMacWakeMask 0 0 0, count := 128, stride2 := 0x1000, count2 := 20 } ]

/-- Rows of the time unit block (13 Tables 13.12 to 13.15). -/
def rowsTu : List RegRow := [
  { base := rTuCtrl, rw := 0x1F, reset := 1 }, { base := rTuStatus, reset := 0x1F00 },
  { base := rTuEvent, w1c := 0x1FF }, { base := rTuEventEn, rw := 0x1FF },
  { base := rTuPtp, rw := 0xFFFFFF, keep := 0xFFFFFF, reset := 248 * 256 + 248 * 65536 },
  { base := rTuTimeSecHi, count := 4 }, { base := rTuOffset }, { base := rTuRate, keepIsl := all32 },
  { base := rTuStepThresh, rw := 0xFFFFFF, keep := 0xFFFFFF, reset := 1000 }, { base := rTuLastStepLo, count := 2 },
  { base := rTuPpsOut, rw := 0x3FF, reset := 100 }, { base := rTuPpsOffset, rw := all32 }, { base := rTuPpsInErr },
  { base := rTuCmp 0, count := 2, rw := all32 }, { base := rTuGmIdLo, count := 2 },
  { base := rTuMasterChanges, rc := true },
  { base := rTuPState 0, count := 2, stride2 := 0x20, count2 := 20 },
  { base := rTuPCorr 0, stride := 0x20, count := 20, keep := all32 },
  { base := rTuPAsym 0, stride := 0x20, count := 20, keep := 0xFFFF },
  { base := rTuPSync 0, count := 3, stride2 := 0x20, count2 := 20, rc := true } ]

/-- Rows of the Almanac block and of Vigil (14 Table 14.8, 18 Table 18.11). -/
def rowsAl : List RegRow := [
  { base := rAlCtrl, rw := 1, keep := 1 }, { base := rAlStatus, keep := 0xFF03 },
  { base := rAlEvent, w1c := 0x7F, keep := 0x5F }, { base := rAlEventEn, rw := 0x7F, keep := 0x7F },
  { base := rAlTime, rw := 0x71F3F3F, keep := 0x71F3F3F }, { base := rAlDate, rw := 0xFF0F1F, keep := 0xFF0F1F },
  { base := rAlSubsec, keep := 0x7FFF }, { base := rAlTrim, rw := 0xFFFF, keep := 0xFFFF },
  { base := rAlAlmTime 0, stride := 0x10, count := 2, rw := 0x71F3F3F, keep := 0x71F3F3F },
  { base := rAlAlmDate 0, stride := 0x10, count := 2, rw := 0xFF0F1F, keep := 0xFF0F1F },
  { base := rAlAlmCtrl 0, stride := 0x10, count := 2, rw := 0x17F, w1c := 0x10000, keep := 0x1017F },
  { base := rAlBkp 0, count := 16, rw := all32, keep := all32 },
  { base := rVgCfg, rw := 0x80000FFF, keep := 0x80000FFF, reset := 0x6B0 },
  { base := rVgFilter, rw := 0xFF, keep := 0xFF, reset := 50 },
  { base := rVgTemp, rw := 0xFFFF, keep := 0xFFFF, reset := 206 + 110 * 256 },
  { base := rVgLatch, w1c := 0x3F, keep := 0x1033F }, { base := rVgNow },
  { base := rVgL3Time, count := 2, keep := all32 } ]

/-- Rows of the bus blocks (15 Tables 15.6 to 15.8). -/
def rowsBc : List RegRow := [
  { base := rBcCCtrl 0, count := 2, stride2 := 0x1000, count2 := 8 },
  { base := rBcCEvent 0, stride := 0x1000, count := 8, w1c := 0x1FF },
  { base := rBcCEventEn 0, stride := 0x1000, count := 8, rw := 0x1FF },
  { base := rBcNbt 0, count := 7, stride2 := 0x1000, count2 := 8 },
  { base := rBcRxf 0, count := 6, stride2 := 0x1000, count2 := 8, rc := true },
  { base := rBcObj 0 0 0, count := 32, stride2 := 0x80, count2 := 2048 },
  { base := rBcXl 0 0 0, count := 8192 } ]

/-- Rows of the twin, management, power and update blocks (16 Table 16.15, 17 Tables 17.10 and 17.11, 19 Table 19.10). -/
def rowsMgt : List RegRow := [
  { base := rTwCtrl, rw := 0xFFF7, keep := 0xFFF7, reset := 4 + 3 * 16 + 60 * 256 },
  { base := rTwStatus, keep := 0x2080 }, { base := rTwEvent, w1c := 0x1FF }, { base := rTwEventEn, rw := 0x1FF },
  { base := rTwGrantLeft }, { base := rTwCause, keep := 0x1FFF }, { base := rTwTakeLo, count := 2, keep := all32 },
  { base := rTwEther, rw := 0xFFFF, keep := 0xFFFF, reset := 0x88B6 }, { base := rTwCompared, count := 2 },
  { base := rTwShipLost, count := 4, rc := true },
  { base := rMgCtrl, rw := 0xFF01, keep := 0xFF01, reset := 1 + 105 * 256 }, { base := rMgStatus },
  { base := rMgEvent, w1c := 0x1F }, { base := rMgEventEn, rw := 0x1F },
  { base := rMgResetCause, w1c := 0xFF00, keep := 0xFF0F }, { base := rMgChervilVer, count := 4 },
  { base := rMgLogTotal, keep := all32 }, { base := rMgRail 0, count := 12 },
  { base := rPwCtrl, rw := 0x131FF, keep := 0x131FF, reset := 200 + 2 * 4096 }, { base := rPwStatus, reset := 1 },
  { base := rPwEvent, w1c := 0xFF }, { base := rPwEventEn, rw := 0xFF }, { base := rPwVin, count := 3 },
  { base := rPwSave, keep := 0x1FFFF }, { base := rPwWarns, rc := true }, { base := rPwFuseEn, keep := 0xFFFF },
  { base := rUpCtrl, rw := 0xFF, keep := 0xFF, reset := 60 }, { base := rUpStatus },
  { base := rUpEvent, w1c := 0x7F, keep := 0x60 }, { base := rUpEventEn, rw := 0x7F },
  { base := rUpReject, count := 2 }, { base := rUpFloor, count := 2, keep := all32 },
  { base := rUpKey, rw := all32, keep := all32 }, { base := rUpRevoked, keep := 0xF } ]

/-- Rows of the vault and field fuse blocks (18 Table 18.10, 17 Table 17.12). -/
def rowsKvFld : List RegRow := [
  { base := rKvStatus }, { base := rKvEvent, w1c := 0x7F }, { base := rKvEventEn, rw := 0x7F },
  { base := rKvWorking }, { base := rKvOps, count := 2, rc := true }, { base := rKvDebugCtr, keep := all32 },
  { base := rPwPCfg 0, stride := 0x10, count := 16, keep := all32 },
  { base := rPwPStat 0, stride := 0x10, count := 16 },
  { base := rPwPTrips 0, stride := 0x10, count := 16, rc := true } ]

/-- Rows of the interrupt controller and the check units (20 Tables 20.6 and 20.8). -/
def rowsIcChk : List RegRow := [
  { base := rIcEvent, w1c := 7 }, { base := rIcStatus, count := 3 }, { base := rIcAssert 0, count := 16 },
  { base := rIcTThresh 0, stride := 0x80, count := 3, rw := 0xF },
  { base := rIcTClaim 0, count := 3, stride2 := 0x80, count2 := 3 },
  { base := rIcTMod 0, stride := 0x80, count := 3, rw := 0xF03FF },
  { base := rIcTFault 0, count := 2, stride2 := 0x80, count2 := 3 },
  { base := rIcTStack 0 1, count := 15, stride2 := 0x80, count2 := 3 },
  { base := rIcSrc 48, count := 2, rw := 0x13F, reset := 0x12F }, { base := rIcSrc 50, rw := 0x13F, reset := 0x10F },
  { base := rIcSrc 0, count := 256, rw := 0x13F },
  { base := rChkEvent, w1c := 0x1FFFF }, { base := rChkEventEn, rw := 0x1FFFF },
  { base := rChkCtrl 10, stride := 0x40, count := 6, reset := 1 },
  { base := rChkCtrl 0, count := 6, stride2 := 0x40, count2 := 16 },
  { base := rChkUnits 0, count := 3, stride2 := 0x40, count2 := 16, rc := true } ]

/-- The rows that may hold an address: by island and block. -/
def rowsAt (a : Nat) : List RegRow :=
  let isl := a / 0x10000000
  let blk := a / 0x100000 % 256
  if blk = 0 then rowsIsl isl
  else if isl = 0 then rowsAl
  else if isl = 1 then rowsMgt
  else if isl = 2 then rowsKvFld
  else if isl = 3 then (if blk = 1 then rowsIcChk else rowsMb)
  else if isl = 4 then (if blk = 1 then rowsPf else if blk = 2 then rowsHv else rowsIcChk)
  else if isl = 5 then rowsTh
  else if isl = 6 then rowsLp
  else if isl = 7 then rowsMe
  else if isl = 8 then rowsSw
  else if isl = 9 then rowsTu
  else if isl = 10 then rowsBc
  else if isl = 11 then rowsKvFld
  else []

/-- The row of a register; an unimplemented offset has none (R8). -/
def regRow (a : Nat) : Option RegRow := (rowsAt a).find? (·.has a)

/-- The value a register holds in the delivered state: its reset value, or its value after a factory reset. -/
def regReset (a : Nat) : Nat := ((regRow a).map RegRow.reset).getD 0

/-- The blocks an island implements beside block 0x00 (02 R45; the register chapters). -/
def islandBlocks : Nat → List Nat
  | 0 => [1, 2]
  | 1 => [1, 2, 3, 5]
  | 2 => [1]
  | 3 => [1, 2]
  | 4 => [1, 2, 3]
  | 5 => [1]
  | 6 => [1]
  | 7 => [1, 2]
  | 8 => [1, 2, 3]
  | 9 => [1]
  | 10 => [1, 2, 3]
  | 11 => [2]
  | _ => []

/-- Whether an address lies in a block its island implements (R8). -/
def blockExists (a : Nat) : Bool :=
  let isl := a / 0x10000000
  decide (isl < 12) && (a / 0x100000 % 256 == 0 || (islandBlocks isl).contains (a / 0x100000 % 256))

end Sys2Proof.Machine
end

