-- ==== Sys2Proof/Machine/Tab.lean ====
section
/-! DEFINITION. Sparse tables: keys strictly rising, one entry a key, so that equal tables are equal data; memories of
bytes and of register words as such tables whose unlisted keys read as one default. -/

namespace Sys2Proof.Machine

/-- A sparse table: entries by rising key. -/
abbrev Tab (β : Type) := List (Nat × β)

/-- The entry at a key. -/
def tabGet {β : Type} : Tab β → Nat → Option β
  | [], _ => none
  | (k, v) :: t, i => if i = k then some v else if i < k then none else tabGet t i

/-- The entry at a key, or a default. -/
def tabGetD {β : Type} (t : Tab β) (i : Nat) (d : β) : β := (tabGet t i).getD d

/-- Sets the entry at a key, keeping the order. -/
def tabSet {β : Type} : Tab β → Nat → β → Tab β
  | [], i, v => [(i, v)]
  | (k, w) :: t, i, v =>
    if i = k then (i, v) :: t else if i < k then (i, v) :: (k, w) :: t else (k, w) :: tabSet t i v

/-- Removes the entry at a key. -/
def tabDel {β : Type} : Tab β → Nat → Tab β
  | [], _ => []
  | (k, w) :: t, i => if i = k then t else if i < k then (k, w) :: t else (k, w) :: tabDel t i

/-- Every key of a table lies above a bound, and the keys rise strictly. -/
def tabWfFrom {β : Type} : Nat → Tab β → Bool
  | _, [] => true
  | lo, (k, _) :: t => decide (lo ≤ k) && tabWfFrom (k + 1) t

/-- The canonical form: keys rise strictly. -/
def tabWf {β : Type} (t : Tab β) : Bool := tabWfFrom 0 t

/-- The keys of a table. -/
def tabKeys {β : Type} (t : Tab β) : List Nat := t.map Prod.fst

/-- The entries of a table without their keys. -/
def tabVals {β : Type} (t : Tab β) : List β := t.map Prod.snd

/-- Changes every entry. -/
def tabMap {β : Type} (f : Nat → β → β) (t : Tab β) : Tab β := t.map fun p => (p.1, f p.1 p.2)

/-- Keeps the entries a test accepts. -/
def tabFilter {β : Type} (f : Nat → β → Bool) (t : Tab β) : Tab β := t.filter fun p => f p.1 p.2

/-- The lowest of n numbers counted from lo that is no key. -/
def tabFree {β : Type} (t : Tab β) (lo : Nat) : Nat → Option Nat
  | 0 => none
  | n + 1 => if (tabGet t lo).isNone then some lo else tabFree t (lo + 1) n

/-- A memory of bytes: an unlisted address reads as 0, and no entry is 0 (log 5). -/
abbrev Mem := Tab Byte

/-- Reads one byte of a memory. -/
def memRead (m : Mem) (a : Nat) : Byte := tabGetD m a 0

/-- Writes one byte of a memory. -/
def memWrite (m : Mem) (a : Nat) (b : Byte) : Mem := if b = 0 then tabDel m a else tabSet m a b

/-- Writes bytes at rising addresses. -/
def memWriteList (m : Mem) (a : Nat) : List Byte → Mem
  | [] => m
  | b :: bs => memWriteList (memWrite m a b) (a + 1) bs

/-- Reads n bytes at rising addresses. -/
def memReadList (m : Mem) (a : Nat) : Nat → List Byte
  | 0 => []
  | n + 1 => memRead m a :: memReadList m (a + 1) n

/-- The canonical form of a memory. -/
def Mem.wf (m : Mem) : Bool := tabWf m && m.all fun p => p.2 != 0

end Sys2Proof.Machine
end

