-- ==== Sys2Proof/Machine/State.lean ====
section
/-! DEFINITION. The state of the block, as plain data: one structure a subsystem, each field's default being its value
right after a module reset in the delivered state (INVENTORY, State). -/

namespace Sys2Proof.Machine

/-- Why the machine stops with a fault. No meaning of this model stops with one: every command has an effect, so the
type is empty. -/
inductive Fault where
  deriving DecidableEq, Repr

/-- Why a command is refused. -/
inductive Refusal where
  /-- Raised by the dispatch for a command without a meaning; safe: nothing is claimed of it. -/
  | notModelled (mnemonic : String)
  deriving DecidableEq, Repr

/-! ## Islands and crossings (02) -/

/-- The states of an island (02 Table 2.6). -/
inductive IslState where
  | off | reset | boot | run | idle | retain | update | fault
  deriving DecidableEq, Repr

/-- An open outgoing slot (02, "Crossings"): number, generation, and the island logic or core that waits for it. -/
structure OutSlot where
  target : Nat
  slot : Nat
  gen : Nat
  source : Nat
  deriving DecidableEq, Repr

/-- A slot abandoned and not yet reused (R72). -/
structure DeadSlot where
  target : Nat
  slot : Nat
  /-- Instant of the abandonment, ns since reset. -/
  since : Nat
  deriving DecidableEq, Repr

/-- An epoch notice on its way to a port (R64), behind the replies its island sent to that port before it (R55). -/
structure EpochNotice where
  island : Nat
  receiver : Nat
  epoch : Nat
  /-- Replies of the island to the receiver that arrive first. -/
  ahead : Nat
  deriving DecidableEq, Repr

/-- One island and its port shell (02). -/
structure Island where
  state : IslState := .reset
  /-- The state being approached (Table 2.13). -/
  target : IslState := .run
  draining : Bool := false
  /-- When the drain began, ns since reset (R68, R70). -/
  drainStart : Nat := 0
  /-- The epoch (R63): 0 at power-on, and 1 once the domain is powered into RESET (log 7). -/
  epoch : Nat := 1
  /-- When the present state was entered, ns since reset. -/
  since : Nat := 0
  /-- The sequencer restarts the island (R574). -/
  restart : Bool := false
  /-- Its records of the other islands' epochs; none reads 0 (R65, R66). -/
  records : Tab Nat := []
  /-- Its open outgoing slots (R56). -/
  slots : List OutSlot := []
  /-- Generations of its slots, by target * 32 + slot (R72). -/
  gens : Tab Nat := []
  /-- Slots it abandoned (R72). -/
  dead : List DeadSlot := []
  /-- Requests waiting for a slot (R56). -/
  waiting : List XRequest := []
  /-- Instants of its automatic recoveries in the last hour (17 R478). -/
  recoveries : List Nat := []
  deriving DecidableEq, Repr

/-! ## Point fabric (03) -/

/-- The 32-byte point record (Table 3.1). -/
structure PointRec where
  value : Word64
  time : Nat
  owner : Nat
  type : Nat
  quality : Nat
  /-- Bits of Table 3.2. -/
  flags : Nat
  writer : Nat
  share : Nat
  series : Nat
  check : Word
  deriving DecidableEq, Repr

/-- A slice of the slice table (R87). -/
structure Slice where
  base : Nat
  count : Nat
  tenant : Nat
  deriving DecidableEq, Repr

/-- A share entry (Table 3.5): three grantees with rights. -/
structure Share where
  owner : Nat
  grants : List (Nat × Nat)
  deriving DecidableEq, Repr

/-- A force (R96, R97): forced value, when placed or last set, and the entry that writes change. -/
structure Force where
  pt : Nat
  type : Nat
  value : Word64
  time : Nat
  entryValue : Word64
  entryTime : Nat
  entryQuality : Nat
  deriving DecidableEq, Repr

/-- One copy of a force place in MRAM (07 Table 7.4). -/
structure ForceCopy where
  pt : Nat
  type : Nat
  /-- The record's underlying quality, and the force entry's. -/
  quality : Nat
  entryQuality : Nat
  value : Word64
  time : Nat
  check : Word
  deriving DecidableEq, Repr

/-- A retentive place in MRAM (R106): the directory entry and the record, two copies each with their check values. -/
structure RetPlace where
  dir0 : Nat
  dirCheck0 : Word
  dir1 : Nat
  dirCheck1 : Word
  copy0 : PointRec
  copy1 : PointRec
  deriving DecidableEq, Repr

/-- A bound field device (Table 3.26). -/
structure Device where
  port : Nat
  serial : Nat
  tenant : Nat
  address : Nat
  base : Nat
  count : Nat
  refresh : Nat
  /-- When its last REPORT was accepted, ns since reset. -/
  heard : Nat
  stale : Bool
  absent : Bool
  deriving DecidableEq, Repr

/-- A port entry of the device table (R116, R117). -/
structure Enrol where
  tenant : Nat
  base : Nat
  range : Nat
  refresh : Nat
  deriving DecidableEq, Repr

/-- An import entry (Table 3.27). -/
structure ImportEntry where
  sender : Nat
  remote : Nat
  localPt : Nat
  tenant : Nat
  deriving DecidableEq, Repr

/-- An export entry (Table 3.27). -/
structure ExportEntry where
  period : Nat
  pt : Nat
  dest : Nat
  tenant : Nat
  /-- The multiple of PERIOD last served, TAI ns (R118). -/
  sentAt : Nat
  deriving DecidableEq, Repr

/-- An image operation in the fabric's queue (R99). -/
structure ImageOp where
  task : Nat
  gather : Bool
  deriving DecidableEq, Repr

/-- A configured definition (R108): what Steward defines again after a module reset. -/
structure PointDef where
  type : Nat
  retentive : Bool
  owner : Nat
  share : Option Nat
  deriving DecidableEq, Repr

/-- The point fabric island. -/
structure Fabric where
  /-- Records by identifier; an unlisted one is undefined (R81). -/
  store : Tab PointRec := []
  /-- Identifiers marked failed (R105). -/
  failed : List Nat := []
  slices : Tab Slice := []
  shares : Tab Share := []
  /-- Forces by force index (R96). -/
  forces : Tab Force := []
  /-- Retentive places (R106). -/
  places : Tab RetPlace := []
  /-- Identifiers whose retentive save is pending (07 R217). -/
  saveDue : List Nat := []
  /-- Force indices whose save is pending. -/
  forceDue : List Nat := []
  /-- Force places in MRAM, two copies (07 Table 7.4). -/
  forceCopy0 : Tab ForceCopy := []
  forceCopy1 : Tab ForceCopy := []
  imageQueue : List ImageOp := []
  devices : List Device := []
  enrol : Tab Enrol := []
  imports : Tab ImportEntry := []
  exports : Tab ExportEntry := []
  /-- Last sequence accepted by source and kind (R113). -/
  jioshSeq : Tab Nat := []
  /-- Next sequence sent by port and kind (R113). -/
  jioshTx : Tab Nat := []
  /-- Full scrub passes made (16 Table 16.13). -/
  scrubPasses : Nat := 0
  /-- The record cache by set: the records it holds, the one used last in front (R104), and accesses made, the model's own. -/
  cache : Tab (List Nat) := []
  cacheTurn : Nat := 0
  /-- PF_CACHE_MISS, and its part of PF_EVENT.COUNT_STUCK. -/
  misses : Nat := 0
  missStuck : Bool := false
  /-- Points Steward defines again after a module reset (R108). -/
  defs : Tab PointDef := []
  deriving DecidableEq, Repr

/-! ## Mailboxes and sessions (04, 05) -/

/-- The states of a mailbox (Table 4.8). -/
inductive MbState where
  | idle | working | pending | done
  deriving DecidableEq, Repr

/-- A kept request and its response (R125, R126). -/
structure Kept where
  seq : Nat
  command : Nat
  tag : Nat
  response : List Byte
  deriving DecidableEq, Repr

/-- A binding (R136): tenant and role. -/
structure Bind where
  tenant : Nat
  role : Nat
  deriving DecidableEq, Repr

/-- A mailbox beside its buffers. -/
structure Mailbox where
  state : MbState := .idle
  kept : Option Kept := none
  bind : Option Bind := none
  deriving DecidableEq, Repr

/-- A request Steward accepted and has not finished (R121, R143). -/
structure Req where
  route : Route
  command : Nat
  seq : Nat
  tag : Nat
  session : Nat
  more : Bool
  payload : List Byte
  /-- A PENDING response was written (R122). -/
  pended : Bool
  deriving DecidableEq, Repr

/-- How far the establishment of a session has come (Table 4.11). -/
inductive SessStage where
  | offered | accepted | established | bacnet
  deriving DecidableEq, Repr

/-- A session slot (R139 to R144). -/
structure Session where
  stage : SessStage
  id : Nat
  tenant : Nat
  role : Nat
  credential : Nat
  /-- Everything exchanged so far. -/
  transcript : List Byte
  /-- The session's ML-KEM key seed, drawn fresh. -/
  kemSeed : Nat
  /-- Handle of its session keys in the vault; 0 before step 3. -/
  keys : Nat
  /-- The lowest record counter still accepted, and the next sent (R141). -/
  rxNext : Nat
  txNext : Nat
  /-- When its last valid record arrived, ns since reset (R144). -/
  heard : Nat
  kept : List Kept
  deriving DecidableEq, Repr

/-- A record or handshake message the module sent on a session. -/
structure SentRecord where
  session : Nat
  body : List Byte
  deriving DecidableEq, Repr

/-- An open MORE transfer (R158). -/
structure Transfer where
  command : Nat
  route : Route
  tag : Nat
  total : Nat
  data : List Byte
  /-- Bytes received; counted apart for transfers whose data go elsewhere. -/
  received : Nat
  /-- Instant of its last request, ns since reset. -/
  last : Nat
  /-- IMAGE_CHECK of PROGRAM_LOAD. -/
  check : Nat
  deriving DecidableEq, Repr

/-- A BACnet object (R146, R147). -/
structure BacObject where
  tenant : Nat
  /-- Object type: the ASHRAE 135 number. -/
  type : Nat
  pt : Nat
  /-- Priority array, 16 levels. -/
  priority : List (Option Word64)
  relinquish : Word64
  configError : Bool
  deriving DecidableEq, Repr

/-- The hubs of a tenant's BACnet device (R145): URIs, as bytes. -/
structure BacHubs where
  primary : List Byte
  failover : List Byte
  deriving DecidableEq, Repr

/-- A COV subscription: session slot, object, and the Present_Value and Status_Flags last notified (R149). -/
structure CovSub where
  session : Nat
  object : Nat
  last : Option (List Byte × Nat)
  deriving DecidableEq, Repr

/-- A BACnet answer sent. -/
inductive BacAnswer where
  /-- A COV notification: object, Present_Value and Status_Flags. -/
  | notify (object : Nat) (present : List Byte) (flags : Nat)
  /-- What Steward answers a tenant that asks for a device or an object. -/
  | status (st : Nat)
  | iAm (tenant : Nat)
  | value (object property : Nat) (v : List Byte)
  | error (cls code : Nat)
  | ack
  | reject (reason : Nat)
  /-- Each item with its value, or none for an error of class OBJECT. -/
  | multiple (items : List (Nat × Nat × Option (List Byte)))
  deriving DecidableEq, Repr

/-- The mailbox block and Steward's routes. -/
structure Mail where
  boxes : Tab Mailbox := [(0, { bind := some { tenant := 0, role := 3 } })]
  /-- The buffers by SPI address: requests at m * 0x2000, responses 0x1000 above (Table 4.6; log 5). -/
  buf : Mem := []
  inProgress : List Req := []
  sessions : Tab Session := []
  /-- Records and handshake messages sent. -/
  sent : List SentRecord := []
  transfers : List Transfer := []
  /-- Objects by object identifier, 2^32 apart for each tenant's device. -/
  bacObjects : Tab BacObject := []
  /-- The hubs of each tenant that has asked for a device (R145). -/
  bacHubs : Tab BacHubs := []
  /-- COV subscriptions. -/
  cov : List CovSub := []
  bacSent : List BacAnswer := []
  ready : Bool := false
  /-- Tenant of the Sage core 1 partition (03 Table 3.6; log 8). -/
  partition : Nat := 0
  /-- Network settings of the host and ring interfaces (Table 5.1 NET_CONFIG; log 9). -/
  netHost : List Byte := List.replicate 36 0
  netRing : List Byte := List.replicate 36 0
  deriving DecidableEq, Repr

/-! ## Thyme (06, 07) -/

/-- Task entry (06 Table 6.16). -/
structure TaskCfg where
  entry : Nat
  period : Nat
  phase : Nat
  tenant : Nat
  priority : Nat
  ovrLimit : Nat
  bitSlots : Nat
  wordSlots : Nat
  authOff : Nat
  authLen : Nat
  deriving DecidableEq, Repr

/-- Image map entry (06 Table 6.17), with the types its points had when the image passed step 8 (R186). -/
structure MapEntry where
  pt : Nat
  slot : Nat
  /-- 0 bit area, 1 word area. -/
  area : Nat
  /-- 0 INPUT, 1 OUTPUT, 2 LOCAL. -/
  role : Nat
  task : Nat
  count : Nat
  types : List Nat
  deriving DecidableEq, Repr

/-- Instance table entry (07 Table 7.1). -/
structure InstEntry where
  identity : Nat
  source : Nat
  kind : Nat
  task : Nat
  index : Nat
  deriving DecidableEq, Repr

/-- A program: its image and what the load checks read from it (06 R183). -/
structure Program where
  id : Nat
  mask : Nat
  code : List Word
  tasks : Tab TaskCfg
  maps : List MapEntry
  insts : List InstEntry
  image : List Byte
  deriving DecidableEq, Repr

/-- Timer instance (07 R204). -/
structure TimerInst where
  inPrev : Bool := false
  running : Bool := false
  q : Bool := false
  start : Nat := 0
  et : Nat := 0
  deriving DecidableEq, Repr

/-- Counter instance (07 R207, R209). -/
structure CounterInst where
  cv : Int := 0
  upPrev : Bool := false
  dnPrev : Bool := false
  upFresh : Bool := true
  dnFresh : Bool := true
  deriving DecidableEq, Repr

/-- Edge instance (07 R208, R209). -/
structure EdgeInst where
  prev : Bool := false
  fresh : Bool := true
  deriving DecidableEq, Repr

/-- A program with its instance memory: two stand side by side during an exchange (07 R227). -/
structure Loaded where
  prog : Program
  timers : Tab TimerInst := []
  counters : Tab CounterInst := []
  edges : Tab EdgeInst := []
  deriving DecidableEq, Repr

/-- The operation kept with a branch stack entry (06 Table 6.6). -/
inductive BrOp where
  | and | or | xor | none
  deriving DecidableEq, Repr

/-- The machine state of a task (06 Table 6.1). -/
structure Mach where
  ba : Bool := false
  wacc : Word := 0
  wext : Word := 0
  z : Bool := false
  n : Bool := false
  v : Bool := false
  ix : BitVec 16 := 0
  pc : Nat := 0
  branch : List (Bool × BrOp) := []
  calls : List Nat := []
  deriving DecidableEq, Repr

/-- Task states (06 Table 6.31). -/
inductive TaskState where
  | undefined | waiting | gathering | ready | running | scattering | stopped | faulted
  deriving DecidableEq, Repr

/-- An image slot: value, quality and failed mark of its last gather (06 R185, R186). -/
structure Slot where
  value : Nat := 0
  quality : Nat := 0
  failed : Bool := false
  deriving DecidableEq, Repr

/-- An OUTPUT slot offered to the scatter (R187), and what the fabric answered. -/
structure Offer where
  /-- Area * 65536 + slot. -/
  key : Nat
  pt : Nat
  type : Nat
  value : Nat
  status : Option Nat := none
  deriving DecidableEq, Repr

/-- Instance memory and image at the start of a cycle, for the changes shipped at its end (07 R231). -/
structure Before where
  timers : Tab TimerInst
  counters : Tab CounterInst
  edges : Tab EdgeInst
  bits : Tab Slot
  words : Tab Slot
  deriving DecidableEq, Repr

/-- One 16-byte item of a STATE record (16 R459). -/
structure ShipItem where
  key : Nat
  status : Nat := 0
  qual : Nat := 0
  flags : Nat := 0
  value : Nat := 0
  deriving DecidableEq, Repr

/-- A STATE record (16 R459, Table 16.12). -/
structure ShipRec where
  type : Nat
  unit : Nat
  items : List ShipItem
  deriving DecidableEq, Repr

/-- A task at run time. -/
structure Task where
  state : TaskState := .undefined
  mach : Mach := {}
  /-- The task already runs the new program of an exchange under way (07 R221). -/
  onNew : Bool := false
  /-- Release time of the present cycle, TAI ns. -/
  release : Nat := 0
  /-- The release before it, for R193. -/
  lastRelease : Nat := 0
  /-- The next instant of R188 that releases the task, TAI ns. -/
  nextRelease : Nat := 0
  /-- FIRST and EXCHANGED of the next or present cycle (06 Table 6.4). -/
  first : Bool := false
  exchanged : Bool := false
  /-- OVERRAN of the present cycle, and a release skipped since. -/
  overran : Bool := false
  skipped : Bool := false
  /-- Gather entries failed in this cycle. -/
  gfail : Nat := 0
  consecOvr : Nat := 0
  fault : Nat := 0
  /-- Overruns since the program last started anew (R576). -/
  lifeOvr : Nat := 0
  /-- A stop was requested while the cycle runs (R194). -/
  stopping : Bool := false
  /-- Image bit and word slots by address. -/
  bits : Tab Slot := []
  words : Tab Slot := []
  /-- Values last written to the store, by area * 65536 + slot; absent when unknown (R187, R216). -/
  written : Tab Nat := []
  /-- Timer clock of the cycle (07 R202), C at its release, and its release in ns since reset. -/
  clock : Nat := 0
  corr : Nat := 0
  releasedAt : Nat := 0
  /-- Slots the gather delivered, by area * 65536 + slot, once the fabric served it. -/
  gathered : Option (Tab Slot) := none
  /-- The scatter set, with the fabric's answers. -/
  offered : List Offer := []
  before : Option Before := none
  /-- The task exchanged at the release of this cycle (07 Table 7.7). -/
  exMark : Bool := false
  /-- A run came while the cycle of an earlier run was under way: the next release starts afresh (R194, R185). -/
  renew : Bool := false
  /-- On a standby: what the active shipped of a cycle of this task (07 R231, R232). -/
  shipped : List ShipRec := []
  deriving DecidableEq, Repr

/-- An exchange under way (06 R165, 07 R221 to R229). -/
structure Exchange where
  mode : Nat
  /-- Tasks that have not exchanged, and those that have. -/
  remaining : List Nat
  tasksDone : Nat
  /-- Carried, new and dropped timers, counters and edges. -/
  counts : List Nat
  /-- It waits for the standby to hold the image since this TAI instant (07 R233). -/
  waiting : Option Nat := none
  /-- The program it replaces was running (07 R229). -/
  wasRun : Bool := true
  deriving DecidableEq, Repr

/-- The Thyme island. -/
structure Thyme where
  loaded : Option Loaded := none
  /-- The new program of an exchange under way. -/
  next : Option Loaded := none
  staged : Option Program := none
  /-- A complete image and its IMAGE_CHECK, while its checks run (06 R184). -/
  checking : Option (List Byte × Nat) := none
  tasks : Tab Task := []
  /-- The step correction C, ns modulo 2^64 (07 R200). -/
  corr : Nat := 0
  exchange : Option Exchange := none
  /-- PROGRAM_UNLOAD waits for its stop (R575). -/
  unloading : Bool := false
  /-- Every instance is new and no cycle has run since (07 R201). -/
  fresh : Bool := false
  /-- The program was stopped, or a stop is under way; a stop by FAULT_STOPS_ALL does not count (R194, R198). -/
  halted : Bool := false
  /-- Program last exchanged, kept by Steward for the restart of R198, and whether it was stopped. -/
  lastProg : Option Program := none
  lastStopped : Bool := false
  deriving DecidableEq, Repr

/-! ## Loop engine (08) -/

/-- Loop table entry (Table 8.5). Floats are binary32 words. -/
structure LoopCfg where
  /-- 1 two-state, 2 three-state. -/
  kind : Nat
  group : Nat
  direction : Bool
  spFromPt : Bool
  useEnable : Bool
  initAdopt : Bool
  tenant : Nat
  outMode : Nat
  lossSafe : Bool
  inPt : Nat
  outPt : Nat
  spPt : Nat
  enPt : Nat
  sp : Word
  bandA : Word
  bandB : Word
  dwell1 : Nat
  dwell2 : Nat
  lossPeriods : Nat
  safe : Nat
  deriving DecidableEq, Repr

/-- A sample of a loop: read status, quality and value as binary32 (R239, R240). -/
structure LoopSample where
  status : Nat := 0
  quality : Nat := 0
  value : Word := 0
  /-- The value per Table 3.3 and its type, as shipped (16 Table 16.12). -/
  raw : Word64 := 0
  type : Nat := 5
  deriving DecidableEq, Repr

/-- A loop (R240 to R249). -/
structure Loop where
  cfg : LoopCfg
  enabled : Bool := false
  /-- It takes part in its group's releases (R248), and its applied state changed at the present one (R251). -/
  joined : Bool := false
  appliedNow : Bool := false
  state : Nat := 0
  /-- State last written (LP_LSTATE.APPLIED); `none` when the last written value is unknown. -/
  applied : Nat := 0
  written : Option Nat := none
  /-- In OUT_MODE 2: the bits last written, raise and lower. -/
  bitRaise : Option Bool := none
  bitLower : Option Bool := none
  held : Nat := 0
  lost : Nat := 0
  /-- The safe state has been taken on the present loss (R241). -/
  lossTaken : Bool := false
  pending : Option Nat := none
  /-- The last computed error, if any since the enable (R577). -/
  err : Word := 0
  errValid : Bool := false
  loss : Bool := false
  inhibit : Bool := false
  reloaded : Bool := false
  /-- A disable waits for the next release (R249). -/
  disableDue : Bool := false
  /-- An accepted table entry waits for the next release (R247); `some none` undefines. -/
  newCfg : Option (Option LoopCfg) := none
  /-- Samples of the present release. -/
  x : LoopSample := {}
  spS : LoopSample := {}
  en : LoopSample := {}
  /-- A loop state point write waits to be offered again (22 R571). -/
  pointDue : Bool := false
  /-- The second bit of a mode 2 change waits for the first write's answer (R243). -/
  secondBit : Option (Bool × Bool) := none
  deriving DecidableEq, Repr

/-- Steps of a group release (Table 8.2). -/
inductive GroupPhase where
  | idle | applied | sampled
  deriving DecidableEq, Repr

/-- A rate group. -/
structure Group where
  phase : GroupPhase := .idle
  release : Nat := 0
  nextRelease : Nat := 0
  lastRelease : Nat := 0
  /-- Module time of the release, which a step of the time unit leaves alone (LP_GLAST). -/
  releasedAt : Nat := 0
  /-- On a standby: what the active shipped of a release (R253). -/
  shipped : List ShipRec := []
  deriving DecidableEq, Repr

/-- States of a trace channel (Table 8.18). -/
inductive TraceState where
  | stopped | recording | triggered | frozen
  deriving DecidableEq, Repr

/-- A trace channel (R250 to R252). -/
structure Trace where
  node : Nat := 0
  mode : Nat := 0
  pre : Nat := 0
  state : TraceState := .stopped
  /-- Samples recorded, newest first, at most 4,096. -/
  samples : List Word := []
  /-- Samples still to record before the freeze. -/
  left : Nat := 0
  trigIndex : Nat := 0
  trigTime : Nat := 0
  deriving DecidableEq, Repr

/-- The loop engine island. -/
structure LoopIsl where
  loops : Tab Loop := []
  groups : Tab Group := []
  traces : Tab Trace := []
  /-- Undefined loops whose LP_LSTATE.RELOADED stays set (R247). -/
  reloaded : List Nat := []
  /-- Last accepted table and enables, kept by Steward for R254. -/
  saved : Tab LoopCfg := []
  savedOn : List Nat := []
  deriving DecidableEq, Repr

/-! ## Metering and energy (09, 10) -/

/-- Constants of one channel (09 Table 9.4). -/
structure ChanCal where
  gain : Word := 0x3F000000
  offset : Int := 0
  phase : Int := 0
  hpf : Bool := true
  deriving DecidableEq, Repr

/-- A calibration set: CAL_ID and the channels that differ from the default constants (09 R266, R267). -/
structure CalSet where
  calId : Nat := 0
  chans : Tab ChanCal := []
  deriving DecidableEq, Repr

/-- Circuit entry (09 Table 9.2). -/
structure CircuitCfg where
  kind : Nat
  volt : Nat
  curr : Nat
  nominal60 : Bool
  invA : Bool
  invB : Bool
  invC : Bool
  deriving DecidableEq, Repr

/-- The last published quantities of a circuit (09 Table 9.6), binary32 by offset. -/
structure CircuitOut where
  values : List Word := []
  valid : Bool := false
  deriving DecidableEq, Repr

/-- A circuit and its block in progress (09 R270 to R281). -/
structure Circuit where
  cfg : CircuitCfg
  /-- Constants of the block in progress (R269). -/
  cal : CalSet := {}
  /-- Samples of the block, newest first: calibrated voltage and current of each phase in turn, binary64. -/
  samples : List (List (BitVec 64)) := []
  /-- Reference samples, newest first, at most 1,600, for free mode (R271). -/
  refs : List (BitVec 64) := []
  /-- The last value of the band-passed reference, binary64, and whether it has been below the hysteresis since the last
  crossing (R270). -/
  filt : Option (BitVec 64) := none
  armed : Bool := false
  /-- Positive crossings of this block, those of its sharers before it began, and recent crossing instants in 2^-32 sample
  periods, newest first. -/
  crossings : Nat := 0
  base : Nat := 0
  crossTimes : List Nat := []
  /-- Crossing that ended the previous block. -/
  t0 : Option Nat := none
  free : Bool := true
  overA : Bool := false
  overB : Bool := false
  overC : Bool := false
  replaced : Bool := false
  /-- Rounding remainders of R277, exact, in 1 ÷ (28,125 × 2^1074) of a unit, for active, reactive and apparent energy. -/
  remP : Int := 0
  remQ : Int := 0
  remS : Int := 0
  /-- An accepted entry waits for the next sample instant (R265); `some none` unmaps. -/
  newCfg : Option (Option CircuitCfg) := none
  out : CircuitOut := {}
  lastEnd : Nat := 0
  deriving DecidableEq, Repr

/-- An accumulator (10 R287 to R289). -/
structure Acc where
  master : Nat := 0
  wraps : Nat := 0
  wrapPending : Bool := false
  absolute : Bool := false
  failed : Bool := false
  /-- End of the block last accumulated. -/
  time : Nat := 0
  /-- An accepted mode waits for the next block (R288). -/
  newAbsolute : Option Bool := none
  /-- The twin offset D (R306). -/
  offset : Nat := 0
  deriving DecidableEq, Repr

/-- An apportioning entry (10 R295). -/
structure AppEntry where
  circuit : Nat
  /-- 0 a fixed share, 1 a weight point. -/
  source : Nat
  value : Nat
  residueImp : Nat := 0
  residueExp : Nat := 0
  /-- The last usable weight (R296), binary64. -/
  weight : BitVec 64 := 0
  deriving DecidableEq, Repr

/-- A tenant slot (10 R294). -/
structure TenantSlot where
  tenant : Nat
  entries : List AppEntry
  /-- An accepted list waits for each circuit's next block. -/
  newEntries : Option (List AppEntry) := none
  /-- Circuits that have still to start a block under it. -/
  newLeft : List Nat := []
  deriving DecidableEq, Repr

/-- A demand interval completed (10 R292). -/
structure DemandDone where
  start : Nat
  imp : Nat
  exp : Nat
  deriving DecidableEq, Repr

/-- Demand of one accumulator (10 R291 to R293): sums in 2^-16 units in progress, the rests the last interval left, below
2^-8 Wh, and history, newest first. -/
structure Demand where
  imp : Nat := 0
  exp : Nat := 0
  impRest : Nat := 0
  expRest : Nat := 0
  history : List DemandDone := []
  deriving DecidableEq, Repr

/-- A spill output (10 R297 to R299). -/
structure Spill where
  bound : Bool := false
  acc : Nat := 0
  threshold : Nat := 0
  width : Nat := 0
  residue : Int := 0
  backlog : Nat := 0
  /-- Configured since the last save: the totals area holds no residue of this binding. -/
  fresh : Bool := false
  driving : Bool := false
  /-- The pulse under way is computed and not driven: a standby keeps its outputs released (R299). -/
  quiet : Bool := false
  /-- The pulse under way: when it started, TAI ns, and its width in ms. -/
  start : Nat := 0
  pulseWidth : Nat := 0
  deriving DecidableEq, Repr

/-- A pulse input (10 R300). -/
structure PulseIn where
  level : Bool := false
  since : Nat := 0
  changed : Bool := false
  deriving DecidableEq, Repr

/-- A record of MRAM: its two copies, each ending in a CRC-32/ISCSI over the bytes before it (03 R106; 10 R301). -/
structure MramPair where
  copy0 : List Byte
  copy1 : List Byte
  deriving DecidableEq, Repr

/-- The totals area of MRAM (10 Table 10.6): the header, none before the first save, and the records by number. -/
structure Totals where
  head : Option MramPair := none
  accs : Tab MramPair := []
  spills : Tab MramPair := []
  demands : Tab MramPair := []
  pulses : Tab MramPair := []
  deriving DecidableEq, Repr

/-- The metering island. -/
structure Meter where
  /-- The isolated link (09 R260, R261). -/
  linkUp : Bool := false
  linkLost : Bool := false
  /-- Sequence number of the last accepted frame, and of the previous frame whether accepted or not. -/
  afeSeq : Option Nat := none
  afePrev : Option Nat := none
  afeStatus : Nat := 0
  rejected : Nat := 0
  lastFrame : Nat := 0
  /-- Instants of the newest sample and of the newest one from an accepted frame, TAI ns. -/
  lastSample : Nat := 0
  lastGood : Nat := 0
  prev : List Int := List.replicate 60 0
  /-- The last 17 codes received of each channel, newest first, for the alignment delay (09 R258). -/
  history : Tab (List Int) := []
  /-- The last accepted calibration set, which the circuits' next blocks take (09 R269), and its record in MRAM (R266). -/
  cal : CalSet := {}
  calSaved : Option MramPair := none
  /-- A whole set whose request pends while it is checked (09 R268). -/
  calDue : Option (List Byte) := none
  circuits : Tab Circuit := []
  accs : Tab Acc := []
  slots : Tab TenantSlot := []
  demands : Tab Demand := []
  demandStart : Nat := 0
  /-- The boundary that closes the interval in progress (R291, R292), TAI ns. -/
  demandNext : Nat := 0
  spills : Tab Spill := []
  pulses : Tab PulseIn := []
  totals : Totals := {}
  saving : Bool := false
  /-- The supply-loss warning: blocks end at the next sample instant, then the totals are saved (10 Table 10.7). -/
  warnDue : Bool := false
  lastSave : Nat := 0
  restoreFail : Bool := false
  reconValid : Bool := false
  /-- The totals have been restored since MTR last started (R303). -/
  restored : Bool := false
  deriving DecidableEq, Repr

/-! ## Harvest (11) -/

/-- A record of a series (11 R318, Table 11.1): floats are binary64. -/
structure HvRecord where
  count : Nat := 0
  sum : BitVec 64 := 0
  min : BitVec 64 := 0x7FF0000000000000
  minTime : Nat := 0
  max : BitVec 64 := 0xFFF0000000000000
  maxTime : Nat := 0
  start : Nat := 0
  stop : Nat := 0
  bins : List Nat := []
  /-- FLAGS[0] stuck and FLAGS[3] torn, of this record. -/
  stuck : Bool := false
  torn : Bool := false
  /-- Sequence of a closed record (R328). -/
  seq : Nat := 0
  deriving DecidableEq, Repr

/-- A series (11 R311 to R314). -/
structure HvSeries where
  tenant : Nat
  pt : Nat
  bins : Nat
  low : BitVec 64
  width : BitVec 64
  linked : Bool
  /-- The next series of the point's chain (R313). -/
  next : Option Nat
  current : HvRecord
  /-- Closed records, oldest first. -/
  closed : List HvRecord
  seq : Nat
  deriving DecidableEq, Repr

/-- A sample waiting in the queue (R315, R320). -/
structure HvSample where
  series : Nat
  pt : Nat
  type : Nat
  quality : Nat
  value : Word64
  time : Nat
  deriving DecidableEq, Repr

/-- The statistics recorder. -/
structure Harvest where
  series : Tab HvSeries := []
  /-- The configured series, kept by Steward: their fields as last accepted (R333). -/
  saved : Tab HvSeries := []
  queue : List HvSample := []
  /-- END of the last close (R322). -/
  lastClose : Nat := 0
  /-- Boundaries up to here make no close: the instant of the last change of CLOSE_MINUTES or EN, of the end of FULL or
  of PF's last entry into RUN, TAI ns. -/
  closeFrom : Nat := 0
  deriving DecidableEq, Repr

/-! ## Ports and switch (12) -/

/-- Port settings (Table 12.2); the enable and mode bits as written. -/
structure PortCfg where
  /-- ENABLE byte: [0] enabled, [1] RX_PAUSE, [2] FWD_EN, [3] LEARN, [4] FLOOD, [5] FILTER_EN, [6] SLEEP, [7] GATE_EN. -/
  enable : Nat
  mode : Nat
  maxFrame : Nat
  defaultPcp : Nat
  jioshClass : Nat
  wakeMask : Nat
  pcpMap : List Nat
  classLimit : List Nat
  deriving DecidableEq, Repr

/-- Link states (Table 12.3). -/
inductive LinkState where
  | disabled | down | up | sleeping
  deriving DecidableEq, Repr

/-- A gate control list (Table 12.6): states and interval of each entry. -/
structure GateList where
  cycle : Nat
  base : Nat
  entries : List (Nat × Nat)
  deriving DecidableEq, Repr

/-- A secure association: packet number and SAK handle; the secret stands in the vault. -/
structure SecAssoc where
  key : Nat
  pn : Nat
  deriving DecidableEq, Repr

/-- MACsec of a port (R356, R357). -/
structure Macsec where
  sci : Nat
  keyHandle : Nat
  /-- Associations of the transmit and the receive channel in use, and the next one installed. -/
  txNow : Option SecAssoc
  txNext : Option SecAssoc
  rxNow : Option SecAssoc
  rxNext : Option SecAssoc
  deriving DecidableEq, Repr

/-- What the hardware does with a PTP frame's egress stamp (13 R367, R371). -/
inductive Stamp where
  | none
  /-- A one-step Sync of the module: the stamp is its origin timestamp. -/
  | origin
  /-- A two-step Sync: a Follow_Up carries the stamp. -/
  | followUp (seq : Nat)
  /-- A Pdelay_Req: the stamp is t1. -/
  | request
  /-- A Pdelay_Resp: its Follow_Up carries the stamp to a requester. -/
  | response (seq requester : Nat)
  /-- A Sync forwarded on the ring: ingress stamp less the peer delay of the ingress link. -/
  | residence (start : Int)
  deriving DecidableEq, Repr

/-- A frame waiting at an egress port: its class queue holds it. -/
structure QFrame where
  cls : Nat
  bytes : List Byte
  stamp : Stamp := .none
  deriving DecidableEq, Repr

/-- A port (R336 to R359). -/
structure Port where
  cfg : PortCfg
  link : LinkState := .down
  /-- When the link state last changed, ns since reset. -/
  since : Nat := 0
  linkUps : Nat := 0
  rate : Nat
  autoneg : Bool := false
  /-- Eight class queues in one list, oldest first (R351). -/
  queue : List QFrame := []
  /-- Until when a PAUSE stops the transmitter, ns since reset (R354). -/
  pauseUntil : Nat := 0
  running : Option GateList := none
  runBase : Nat := 0
  /-- Accepted list and its change instant (R352). -/
  pendingList : Option (GateList × Nat) := none
  /-- Entry of the running list in force. -/
  gateIndex : Nat := 0
  macsec : Option Macsec := none
  /-- When a duplicate was last missed, ns since reset (Table 12.3). -/
  missingAt : Option Nat := none
  deriving DecidableEq, Repr

/-- A unicast entry (R346). -/
structure UcEntry where
  mac : Nat
  ports : Nat
  static : Bool
  taught : Nat
  deriving DecidableEq, Repr

/-- An entry of the HSR duplicate table (R355). -/
structure HsrDup where
  mac : Nat
  seq : Nat
  port : Nat
  seen : Nat
  matched : Bool
  deriving DecidableEq, Repr

/-- The factory settings of a port (R342). -/
def PortCfg.factory (p : Nat) : PortCfg :=
  { enable := if p = 3 then 0x1F else if p < 3 then 0x01 else 0x19
    mode := 0
    maxFrame := if p < 4 then 2048 else 1600
    defaultPcp := 0
    jioshClass := 6
    wakeMask := 0
    pcpMap := [0, 1, 2, 3, 4, 5, 6, 7]
    classLimit := [0, 0, 0, 0, 0, 0, 0, 0] }

/-- A port in the delivered state: rate of Table 12.1. -/
def Port.factory (p : Nat) : Port :=
  { cfg := PortCfg.factory p, rate := if p < 3 then 3 else if p = 3 then 2 else 0 }

/-- The switch island and its MACs. -/
structure Switch where
  ports : Tab Port := []
  /-- Unicast entries by index: bucket * 4 + place (R346). -/
  uc : Tab UcEntry := []
  dups : List HsrDup := []
  /-- HSR nodes: address and when last heard, ns since reset. -/
  nodes : Tab Nat := []
  hsrSeq : Nat := 0
  /-- When the next supervision frame is due, ns since reset. -/
  supervision : Nat := 0
  /-- The internal ring bypass is closed (01 R32). -/
  bypassClosed : Bool := true
  ucFound : Bool := false
  ucFull : Bool := false
  deriving DecidableEq, Repr

/-! ## Network time (13) -/

/-- Time states (Table 13.4). -/
inductive TimeState where
  | free | acquiring | locked | holdover | grandmaster
  deriving DecidableEq, Repr

/-- Roles of a PTP port (TU_PSTATE). -/
inductive PtpRole where
  | disabled | master | slave | passive | listening
  deriving DecidableEq, Repr

/-- PTP at one port (R366 to R372). -/
structure PtpPort where
  role : PtpRole := .disabled
  /-- When the peer delay was last measured, ns since reset. -/
  pdelayAt : Option Nat := none
  /-- 802.1AS asCapable. -/
  asCapable : Bool := false
  /-- When the last Sync came, ns since reset, and its correctionField, ns. -/
  syncAt : Option Nat := none
  lastCorr : Int := 0
  /-- A two-step Sync waiting for its Follow_Up: sequence, ingress stamp, correctionField. -/
  waiting : Option (Nat × Int × Int) := none
  /-- Pdelay exchange: sequence sent, stamps, and how far it has come: 0 none, 1 sent, 2 answered. -/
  pdSeq : Nat := 0
  t1 : Int := 0
  t2 : Int := 0
  t4 : Int := 0
  pdStep : Nat := 0
  /-- Log intervals of Sync, Announce and Pdelay_Req (Table 13.2). -/
  logSync : Int := -3
  logAnnounce : Int := 0
  logPdelay : Int := 0
  seqSync : Nat := 0
  seqAnnounce : Nat := 0
  /-- When the next of each is due, ns since reset. -/
  nextSync : Nat := 0
  nextAnnounce : Nat := 0
  nextPdelay : Nat := 0
  deriving DecidableEq, Repr

/-- A foreign master heard on a port (R368). -/
structure Foreign where
  port : Nat
  gmId : Nat
  source : Nat
  priority1 : Nat
  clockClass : Nat
  clockAccuracy : Nat
  variance : Nat
  priority2 : Nat
  steps : Nat
  utcOffset : Int
  flags : Nat
  timeSource : Nat
  /-- When its last Announce came, ns since reset. -/
  heard : Nat
  deriving DecidableEq, Repr

/-- The time unit. -/
structure Clock where
  /-- TAI in units of 2^-16 ns (R361): 2000-01-01 00:00:00, as the calendar of 14 R385 converts. -/
  time16 : Nat := 946684800 * 1000000000 * 65536
  /-- What the rate correction leaves below 2^-16 ns, in units of 2^-16 × 10^-12 ns (R362; log 2). -/
  rem : Int := 0
  /-- Real nanoseconds since the last module reset (UPTIME, 05 Table 5.2). -/
  up : Nat := 0
  state : TimeState := .free
  /-- TU_RATE at each accepted Sync of the last 16 s in LOCKED, newest first, with its instant (R375; log 3). -/
  rates : List (Nat × Int) := []
  lockedSince : Nat := 0
  /-- An offset against a master has been measured since start-up (R363). -/
  firstDone : Bool := false
  /-- Consecutive Syncs within ±100 ns (Table 13.4). -/
  okSyncs : Nat := 0
  /-- TIME left RUN or IDLE while LOCKED or in HOLDOVER (R364). -/
  wasHeld : Bool := false
  /-- Compares 0 and 1 are armed (R380). -/
  cmp0 : Bool := false
  cmp1 : Bool := false
  latchLo : Nat := 0
  latchNs : Nat := 0
  latchFrac : Nat := 0
  ports : Tab PtpPort := []
  foreign : List Foreign := []
  /-- The master chosen (R376). -/
  master : Option Foreign := none
  /-- The grandmaster last chosen and how it is reached: 0 the ring, 3 the host port, 20 the module itself (R376). -/
  gm : Option (Nat × Nat) := none
  /-- Since when the ports listen for a master, ns since reset (log 3). -/
  listenFrom : Nat := 0
  utcOffset : Int := 0
  utcFlags : Nat := 0
  /-- Ring port whose Syncs are taken (R372), or 3. -/
  slavePort : Option Nat := none
  /-- When the last Sync was accepted and up to when missed intervals are counted, ns since reset. -/
  acceptedAt : Option Nat := none
  missFrom : Nat := 0
  /-- PPS_IN: last accepted edge, TAI ns, a candidate after a jump and how many agree (R377). -/
  ppsLast : Option Nat := none
  ppsCand : Option Nat := none
  ppsAgree : Nat := 0
  /-- When the last accepted edge came, and the last edge at all, ns since reset; none once PPS_IN_LOST. -/
  ppsSeen : Option Nat := none
  ppsEdge : Option Nat := none
  /-- An edge has disciplined the counter since start-up, and the module has run on PPS_IN as grandmaster (R363, R368). -/
  ppsFirst : Bool := false
  ppsDisciplined : Bool := false
  /-- PPS_OUT pin, and when it last rose, ns since reset (R378). -/
  ppsOut : Bool := false
  ppsRise : Nat := 0
  /-- The next instant at which PPS_OUT rises, TAI ns. -/
  ppsNext : Nat := 0
  deriving DecidableEq, Repr


/-! ## Almanac (14): the backup core -/

/-- Calendar fields, the year counted from 2000 (R386). -/
structure Cal where
  year : Nat := 0
  month : Nat := 1
  day : Nat := 1
  hour : Nat := 0
  min : Nat := 0
  sec : Nat := 0
  wday : Nat := 6
  deriving DecidableEq, Repr

/-- An alarm beside its registers: match fields, mask and the fired-through mark F (R397). -/
structure Alarm where
  time : Cal := { month := 0, day := 0, wday := 0 }
  /-- MATCH: [0] SEC, [1] MIN, [2] HOUR, [3] WDAY, [4] DAY, [5] MONTH, [6] YEAR. -/
  mask : Nat := 0
  rearm : Bool := false
  skipped : Bool := false
  fired : Option Cal := none
  deriving DecidableEq, Repr

/-- A backup record: two copies of 8 bytes with their CRC-8 (R401). -/
structure BkpRec where
  copy0 : List Byte := List.replicate 8 0
  check0 : Byte := 0
  copy1 : List Byte := List.replicate 8 0
  check1 : Byte := 0
  deriving DecidableEq, Repr

/-- The Almanac. Everything here belongs to the backup core and survives every reset of the module (R384). -/
structure Almanac where
  cal : Cal := {}
  /-- The prescaler: frozen under HALT, otherwise the least it can hold by now (log 51). -/
  prescale : Nat := 0
  /-- Corrections made in the present trim window (R395). -/
  corrections : Nat := 0
  /-- The trim in force, and the trim written, which the next window takes (R396). -/
  trim : Int := 0
  trimNext : Int := 0
  halt : Bool := false
  /-- The calendar frozen by HALT (R398). -/
  t0 : Cal := {}
  alarm0 : Alarm := {}
  alarm1 : Alarm := {}
  backup : Tab BkpRec := []
  latchDate : Cal := {}
  latchSub : Nat := 0
  onVbat : Bool := false
  /-- VAON is below 1.65 V, or has not been back long enough (Table 14.1). -/
  vaonLow : Bool := false
  /-- When Steward last compared the calendar with the time unit, ns since reset (R394). -/
  syncAt : Option Nat := none
  deriving DecidableEq, Repr

/-! ## Bus channels (15) -/

/-- Channel settings (Table 15.2). -/
structure BusCfg where
  mode : Nat := 0
  nbrp : Nat := 0
  ntseg1 : Nat := 0
  ntseg2 : Nat := 0
  nsjw : Nat := 0
  dbrp : Nat := 0
  dtseg1 : Nat := 0
  dtseg2 : Nat := 0
  dsjw : Nat := 0
  dtdc : Nat := 0
  xbrp : Nat := 0
  xtseg1 : Nat := 0
  xtseg2 : Nat := 0
  xsjw : Nat := 0
  xtdc : Nat := 0
  wakeFilter : Nat := 0
  deriving DecidableEq, Repr

/-- Object settings (Table 15.3). -/
structure ObjCfg where
  kind : Nat
  flags : Nat
  queue : Nat
  retry : Nat
  id : Nat
  mask : Nat
  pt : Nat
  offset : Nat
  type : Nat
  count : Nat
  length : Nat
  period : Nat
  xlLength : Nat
  deriving DecidableEq, Repr

/-- States of an object (Table 15.8). -/
inductive ObjState where
  | unused | empty | full | ready | pending | onBus
  deriving DecidableEq, Repr

/-- A message object (R408 to R416). -/
structure BusObj where
  cfg : ObjCfg
  tenant : Nat
  state : ObjState
  data : List Byte := []
  /-- Frame fields stored with a received frame. -/
  fid : Nat := 0
  fide : Bool := false
  ffd : Bool := false
  frtr : Bool := false
  stamp : Nat := 0
  seq : Nat := 0
  retries : Nat := 0
  sent : Bool := false
  aborted : Bool := false
  cause : Nat := 0
  retryStuck : Bool := false
  xlHdr : Nat := 0
  xlAf : Nat := 0
  /-- An abort waits for the end of the attempt on the bus (R416). -/
  abortDue : Bool := false
  /-- First object of the queue it belongs to (R408). -/
  head : Option Nat := none
  /-- Next pointer and sequence number of the queue it heads (R412). -/
  next : Nat := 0
  qseq : Nat := 0
  /-- The next multiple of PERIOD to serve, TAI ns (R414). -/
  dueAt : Nat := 0
  deriving DecidableEq, Repr

/-- States of a channel (Table 15.5). -/
inductive ChanState where
  | disabled | integrating | normal | restricted | monitoring | asleep | busOff
  deriving DecidableEq, Repr

/-- A bus channel. -/
structure Chan where
  cfg : BusCfg := {}
  /-- Settings accepted and waiting for the end of the frame on the bus (R407). -/
  newCfg : Option BusCfg := none
  state : ChanState := .disabled
  txErr : Nat := 0
  rxErr : Nat := 0
  lastError : Nat := 0
  wakeCause : Nat := 0
  /-- Sleep asked for, and the mode asleep in: 1 edge, 2 wake frame (R420). -/
  sleepDue : Nat := 0
  sleepMode : Nat := 0
  wakeErr : Nat := 0
  recovering : Bool := false
  objects : Tab BusObj := []
  deriving DecidableEq, Repr

/-- The bus island. -/
structure Bus where
  chans : Tab Chan := []
  /-- XL buffers of channels 0 and 1, by channel * 16384 + buffer * 2048 + byte (log 5). -/
  xl : Mem := []
  /-- Last accepted settings and objects, kept by Steward (R424). -/
  savedCfg : Tab BusCfg := []
  savedObj : Tab (Nat × ObjCfg) := []
  deriving DecidableEq, Repr

/-! ## Twins (16) -/

/-- Roles (Table 16.1). -/
inductive TwinRole where
  | single | active | standby | holding | pairing
  deriving DecidableEq, Repr

/-- A witness heard on the ring (R441). -/
structure Witness where
  serial : List Byte
  addr : Nat
  heard : Nat
  deriving DecidableEq, Repr

/-- A PROBE a witness has sent and not had answered (R443). -/
structure Probe where
  number : Nat
  /-- Ring address and serial of the asker, and its query number. -/
  addr : Nat
  asker : List Byte
  query : Nat
  target : List Byte
  sent : Nat
  deriving DecidableEq, Repr

/-- An answer of the present query round (R444): the witness's address, ALIVE, role, FORMER_ACTIVE. -/
structure WAnswer where
  addr : Nat
  alive : Bool
  role : Nat
  former : Bool
  deriving DecidableEq, Repr

/-- A served module's address as its PROBE_REPLY gave it (R441). -/
structure ServedAt where
  serial : List Byte
  addr : Nat
  deriving DecidableEq, Repr

/-- Counters of the health report since pairing (Table 16.13). -/
structure Health where
  mismatchThy : Nat := 0
  mismatchLoop : Nat := 0
  xcheck : Nat := 0
  shipLost : Nat := 0
  resyncs : Nat := 0
  testsPassed : Nat := 0
  testsFailed : Nat := 0
  renewMissed : Nat := 0
  relayed : Nat := 0
  /-- Known-answer test of each island: 0 not run, 1 passed, 2 failed. -/
  islandTest : Tab Nat := []
  taskMismatch : Tab Nat := []
  groupMismatch : Tab Nat := []
  lastMismatch : Nat := 0
  shipLatency : Nat := 0
  deriving DecidableEq, Repr

/-- The twin block (16). -/
structure Twin where
  role : TwinRole := .single
  /-- Serial of the partner, 12 digits; zeros when unpaired. -/
  partnerSerial : List Byte := List.replicate 12 0
  /-- Code of TWIN_STATUS PARTNER (Table 5.10). -/
  partner : Nat := 0
  ready : Bool := false
  notReady : Nat := 0
  alone : Bool := false
  formerActive : Bool := false
  silent : Bool := false
  /-- LINKS of Table 5.10: bits 0 to 4. -/
  links : Nat := 0
  /-- Next SEQ by kind, and the last STATE frame's SEQ and fragment received. -/
  seqTx : Tab Nat := []
  stateRx : Option Nat := none
  /-- Fragments of the STATE body being received. -/
  stateFrag : List Byte := []
  fragNext : Nat := 0
  /-- The latest renewal: its number, its instant (ns since reset), whether answered. -/
  renewNo : Nat := 0
  renewAt : Nat := 0
  answered : Bool := true
  /-- End of the holder's grant and of the grantor's latest grant, ns since reset (R433, R434). -/
  grantEnd : Option Nat := none
  grantorEnd : Option Nat := none
  /-- A RELEASE was received, or a burst recognised, and when. -/
  released : Option Nat := none
  /-- The module has withdrawn and grants nothing (R440). -/
  mute : Bool := false
  /-- A WITHDRAW was received (R440). -/
  withdrawn : Bool := false
  leaseOut : Bool := true
  leaseIn : Bool := true
  /-- Instants of the last edges on LEASE_IN, newest first. -/
  edges : List Nat := []
  /-- Release and withdrawal bursts sent (R435). -/
  bursts : Nat := 0
  /-- When the partner's HELLO was last heard, and the next HELLO is due, ns since reset. -/
  helloHeard : Nat := 0
  helloAt : Nat := 0
  /-- Served modules of WITNESS_CONFIG, and their addresses (R441). -/
  served : List (List Byte) := []
  servedAt : List ServedAt := []
  offersAt : Nat := 0
  witnesses : List Witness := []
  probes : List Probe := []
  probeNo : Nat := 0
  queryNo : Nat := 0
  queryAt : Nat := 0
  answers : List WAnswer := []
  /-- Boundary of a handover, TAI ns, and whether the partner accepted it (R454). -/
  handover : Option Nat := none
  handoverAgreed : Bool := false
  /-- A full transfer is under way; its items still to send are counted by the active (R452). -/
  transfer : Bool := false
  /-- Tasks (0 to 15) and groups (16 to 19) whose verdict has agreed since the transfer (R452). -/
  agreed : List Nat := []
  /-- Verdicts mismatching in a row, by task, and by group + 16 (R439). -/
  consec : Tab Nat := []
  /-- Points written since the last journal, by writer kind of R451. -/
  journal : List Nat := []
  journalAt : Nat := 0
  /-- STATE bodies waiting for room, oldest first (R451; log 66). -/
  ship : List (List Byte) := []
  health : Health := {}
  /-- The standby's latest report, as the active received it. -/
  partnerHealth : List Byte := List.replicate 256 0
  healthAt : Nat := 0
  testAt : Nat := 0
  /-- Causes of Table 16.5 present and logged while ALONE (R438): cause and island. -/
  causes : List (Nat × Nat) := []
  /-- When a bound device's REPORT last reached this module directly, ns since reset (R449), by port * 1024 + address. -/
  direct : Tab Nat := []
  /-- The active renews: its partner has had a full transfer (R432, R452). -/
  renewing : Bool := false
  /-- Cause and island of the RELEASE received (R437). -/
  relCause : Nat := 0
  relIsland : Nat := 0
  /-- On a standby: the program image being shipped (07 R233), and the module's own configuration still to be discarded
  (R429). -/
  imageRx : List Byte := []
  discardDue : Bool := false
  /-- Mismatching verdicts that wait for the known-answer tests: kind, unit, release (R439). -/
  testDue : List (Nat × Nat × Nat) := []
  deriving DecidableEq, Repr

/-! ## Power, start-up and management (17) -/

/-- A fault log entry (Table 17.8). -/
structure LogEntry where
  time : Nat
  seq : Nat
  level : Nat
  subMs : Nat
  code : Nat
  detail : Nat
  deriving DecidableEq, Repr

/-- States of a field fuse (Table 17.12). -/
structure Fuse where
  /-- 0 off, 1 detecting, 2 classifying, 3 powered, 4 waiting to retry, 5 class mismatch. -/
  state : Nat := 0
  latched : Bool := false
  pdClass : Nat := 0
  ma : Nat := 0
  /-- Instants of the trips of the last 60 s, newest first, ns since reset (R474). -/
  trips : List Nat := []
  /-- When the port may be powered, ns since reset (R474, R476). -/
  due : Nat := 0
  deriving DecidableEq, Repr

/-- Why the module resets once its save is done (R481). -/
structure ResetDue where
  cause : Nat
  /-- Instant of the reset, ns since reset. -/
  at_ : Nat
  /-- SAGE alone restarts (SYSTEM_RESET kind 1). -/
  sage : Bool
  deriving DecidableEq, Repr

/-- Power, start-up and Chervil (17). -/
structure Power where
  /-- PWR_WARN_N asserted; low at start-up (Table 17.5 step 1). -/
  warn : Bool := true
  warnAt : Nat := 0
  shed : Bool := false
  saving : Bool := false
  storeReady : Bool := false
  fieldOk : Bool := false
  refExt : Bool := false
  /-- REFCLK_IN shows edges (17 R479). -/
  refIn : Bool := false
  /-- The reset cause still to be recorded at step 4 of Table 17.5 (17 R481). -/
  causeDue : Option Nat := some 0
  chervilReady : Bool := false
  startDone : Bool := false
  /-- MG_STATUS.START_DONE, which an island reset of MGT clears (00 R12). -/
  startShown : Bool := false
  /-- VIN has reached the start threshold, and the latest step of Table 17.5 passed. -/
  started : Bool := false
  resetPin : Bool := false
  /-- Thermal hold at step 2 of Table 17.5 (R483). -/
  hot : Bool := false
  /-- Step 14 of Table 17.5 has been taken since the module reset. -/
  floor : Bool := false
  reset : Option ResetDue := none
  /-- Areas restored in the present start-up (R469): totals, retentive records, forces. -/
  totalsBack : Bool := false
  retainBack : Bool := false
  forcesBack : Bool := false
  fuses : Tab Fuse := []
  /-- When the next field port may be powered, ns since reset (R476). -/
  nextPort : Nat := 0
  measuredAt : Nat := 0
  vinMv : Nat := 0
  vstoreMv : Nat := 0
  /-- The fault log in flash, newest first, at most 16,384 entries, and entries in MRAM staging (R484). -/
  log : List LogEntry := []
  staged : List LogEntry := []
  deriving DecidableEq, Repr

/-! ## Key vault (18) -/

/-- A stored key or tenant credential (R491, R492, R501). -/
structure StoredKey where
  handle : Nat
  tenant : Nat
  /-- Table 18.2. -/
  purpose : Nat
  expire : Bool
  /-- Uses left; `none` when no counter is set. -/
  uses : Option Nat
  void : Bool
  material : Nat
  /-- A tenant credential, and the seed of its operational key. -/
  credential : Bool
  operational : Option Nat
  /-- Stored under the test root (R490). -/
  test : Bool
  deriving DecidableEq, Repr

/-- One copy of a stored key's record in the key area of MRAM, and whether its check value is right for its other bytes;
R494 gives the record's fields and no layout (log 122). -/
structure KeyCopy where
  key : StoredKey
  sound : Bool := true
  deriving DecidableEq, Repr

/-- An attestation statement held for a route (R506). -/
structure Statement where
  route : Route
  bytes : List Byte
  next : Nat
  made : Nat
  deriving DecidableEq, Repr

/-- The key vault. -/
structure Vault where
  /-- Keys by slot, and the generation last used of each slot (R491). -/
  keys : Tab StoredKey := []
  gens : Tab Nat := []
  /-- The two copies in the key area of MRAM (R494). -/
  copy0 : Tab KeyCopy := []
  copy1 : Tab KeyCopy := []
  working : Nat := 0
  /-- Session keys by handle (R500). -/
  sessKeys : Tab (List Byte) := []
  sessNext : Nat := 1
  /-- The seed in the backup core (R494; log 16). -/
  seed : Nat := 0
  ready : Bool := false
  reseeded : Bool := false
  seedLost : Bool := false
  testRoot : Bool := false
  debugOpen : Bool := false
  /-- The seed was lost with the backup core (R513). -/
  coreLost : Bool := false
  /-- Level 3 erased the seed and the vault has not reseeded (R510). -/
  reseedDue : Bool := false
  statements : List Statement := []
  deriving DecidableEq, Repr

/-! ## Field update (19) -/

/-- An update slot (Tables 19.1 and 19.6). -/
structure UpSlot where
  /-- 0 EMPTY, 1 RECEIVING, 2 VERIFIED, 3 ACTIVE, 4 TRIAL, 5 RETIRED. -/
  state : Nat := 0
  header : List Byte := []
  data : List Byte := []
  /-- Digest of each part, in manifest order, CARRY parts by the digest recorded (R516). -/
  digests : List (List Byte) := []
  /-- Parts of CARRY entries copied from the other slot: part type and bytes. -/
  carried : List (Nat × List Byte) := []
  /-- The slot has started once (R522). -/
  ran : Bool := false
  deriving DecidableEq, Repr

/-- Firmware settings of one DATA_FORMAT, frozen at an activation (R525): the parts of State they stand in (log 60). -/
structure Settings where
  regs : Tab Word
  netHost : List Byte
  netRing : List Byte
  partition : Nat
  bacObjects : Tab BacObject
  bacHubs : Tab BacHubs
  slices : Tab Slice
  shares : Tab Share
  defs : Tab PointDef
  devices : List Device
  enrol : Tab Enrol
  imports : Tab ImportEntry
  exports : Tab ExportEntry
  series : Tab HvSeries
  loops : Tab LoopCfg
  loopsOn : List Nat
  program : Option Program
  stopped : Bool
  cal : CalSet
  circuits : Tab Circuit
  slots : Tab TenantSlot
  spills : Tab Spill
  ports : Tab Port
  busCfg : Tab BusCfg
  busObj : Tab (Nat × ObjCfg)
  partner : List Byte
  served : List (List Byte)
  deriving DecidableEq, Repr

/-- The update record: slot states, active slot and trial counter (R520). -/
structure UpRecord where
  stateA : Nat := 3
  stateB : Nat := 2
  active : Bool := false
  trials : Nat := 0
  deriving DecidableEq, Repr

/-- One copy of the update record, and whether its check value is right for its other bytes; R520 gives no layout
(log 122). -/
structure UpCopy where
  body : UpRecord := {}
  sound : Bool := true
  deriving DecidableEq, Repr

/-- The update path. -/
structure Update where
  slotA : UpSlot := { state := 3, ran := true }
  slotB : UpSlot := { state := 2 }
  /-- The active slot: false A, true B. -/
  active : Bool := false
  trials : Nat := 0
  diverged : Bool := false
  /-- 0 idle, 1 receiving, 2 checking, 3 preparing; trial shows by the slot. -/
  stage : Nat := 0
  /-- Reset of step 5 of Table 19.7 or of a fall-back, ns since reset. -/
  resetAt : Option Nat := none
  /-- Nanoseconds spent in TRIAL before the last module reset, and since when it counts now (R523; log 61). -/
  trialBefore : Nat := 0
  trialFrom : Nat := 0
  /-- The start under way has been counted (R523). -/
  counted : Bool := false
  frozen : Option Settings := none
  /-- The update record in MRAM, two copies (R520). -/
  copy0 : UpCopy := {}
  copy1 : UpCopy := {}
  deriving DecidableEq, Repr

/-! ## Interrupts and check units (20) -/

/-- A target of the interrupt controller (R533 to R536). -/
structure Target where
  /-- Claims stacked above the base, newest first: source and priority. -/
  stack : List (Nat × Nat) := []
  frozen : Bool := false
  /-- A moderation hold ends then, ns since reset (R536). -/
  holdUntil : Option Nat := none
  deriving DecidableEq, Repr

/-- The interrupt controller. -/
structure Irq where
  targets : Tab Target := []
  /-- Active sources (R531). -/
  active : List Nat := []
  /-- Software bits set, by source (Table 20.1). -/
  soft : List Nat := []
  /-- PRIO and TARGET writes held for active sources: the word as it will be (R529). -/
  held : Tab Nat := []
  deriving DecidableEq, Repr

/-- A check channel (R538 to R543). -/
structure ChkChan where
  poly : Nat
  dir : Bool
  /-- Running register before Xorout. -/
  value : Word
  /-- Bytes held back as the check value (R543). -/
  held : List Byte := []
  running : Bool := false
  done : Bool := false
  matched : Bool := false
  bytes : Nat := 0
  /-- Counters of Table 20.7. -/
  units : Nat := 0
  fails : Nat := 0
  aborts : Nat := 0
  deriving DecidableEq, Repr

/-- The check units: channels that differ from their reset state, and CHK_EVENT. -/
structure Checks where
  chans : Tab ChkChan := []
  event : Nat := 0
  deriving DecidableEq, Repr


/-! ## The whole block -/

/-- What the last accesses answered to their agents, and what left the module at its wires (the model's own; log 6). -/
structure Outs where
  /-- Value and status of the last register access (02 R46). -/
  readOut : Nat := 0
  readStatus : Nat := 0
  /-- Value, quality, time and type of the last fabric access (03 R85). -/
  fabOut : Nat := 0
  fabQuality : Nat := 0
  fabTime : Nat := 0
  fabType : Nat := 0
  fabStatus : Nat := 0
  /-- Bytes the SPI target returned in the last transaction (04 R128). -/
  spiOut : List Byte := []
  /-- Access faults raised at the Sage cores (00 R7, 02 R46). -/
  fault0 : Bool := false
  fault1 : Bool := false
  /-- Replies ports have sent and that have not arrived (02 R66). -/
  replies : List XReply := []
  /-- Epoch notices that wait behind such replies (02 R55, R64, R75). -/
  notices : List EpochNotice := []
  /-- Frames that left each port, newest first: port and bytes (12). -/
  frames : List (Nat × List Byte) := []
  /-- Frames that left each bus channel, newest first (15). -/
  busFrames : List (Nat × BusFrame) := []
  deriving DecidableEq, Repr

/-- The state of the block. -/
structure State where
  /-- Commands waiting, first in first out. -/
  pending : List Instr := []
  /-- Counter of free values drawn (log 1). -/
  freeCtr : Nat := 0
  /-- Register words by address; an unlisted register holds its reset value (Machine/RegMap.lean). -/
  regs : Tab Word := []
  outs : Outs := {}
  clock : Clock := {}
  islands : Tab Island := []
  fabric : Fabric := {}
  harvest : Harvest := {}
  mail : Mail := {}
  thyme : Thyme := {}
  loops : LoopIsl := {}
  meter : Meter := {}
  switch : Switch := {}
  almanac : Almanac := {}
  bus : Bus := {}
  twin : Twin := {}
  power : Power := {}
  vault : Vault := {}
  update : Update := {}
  irq : Irq := {}
  chk : Checks := {}
  deriving DecidableEq, Repr

/-- The machine right after a module reset in the delivered state, with nothing commanded. -/
def State.reset : State := {}

end Sys2Proof.Machine
end

