-- ==== Sys2Proof/Machine/Ops.lean ====
section
/-! DEFINITION. Shared operations of every chapter: registers, counters and event bits, time, free values, islands, the
fault log, and the settling of a system check channel. -/

namespace Sys2Proof.Machine

/-! ## Numbers of islands (02 Table 2.1) -/

abbrev iALM : Nat := 0
abbrev iMGT : Nat := 1
abbrev iVLT : Nat := 2
abbrev iSAGE : Nat := 3
abbrev iPF : Nat := 4
abbrev iTHY : Nat := 5
abbrev iLOOP : Nat := 6
abbrev iMTR : Nat := 7
abbrev iSW : Nat := 8
abbrev iTIME : Nat := 9
abbrev iBUS : Nat := 10
abbrev iFLD : Nat := 11

/-! ## Status codes (22 Table 22.4) -/

abbrev stOk : Nat := 0x0000
abbrev stPending : Nat := 0x0001
abbrev stBadCommand : Nat := 0x0101
abbrev stBadLength : Nat := 0x0102
abbrev stBadArgument : Nat := 0x0103
abbrev stBadCheck : Nat := 0x0104
abbrev stNotPermitted : Nat := 0x0201
abbrev stTenantMismatch : Nat := 0x0202
abbrev stWriterLocked : Nat := 0x0203
abbrev stIslandAbsent : Nat := 0x0301
abbrev stStaleEpoch : Nat := 0x0302
abbrev stBusy : Nat := 0x0303
abbrev stNotActive : Nat := 0x0401
abbrev stLeaseLost : Nat := 0x0402
abbrev stCheckFailed : Nat := 0x0501
abbrev stStoreFull : Nat := 0x0601
abbrev stRecorderFull : Nat := 0x0602
abbrev stKeyVoid : Nat := 0x0701
abbrev stKeyPurpose : Nat := 0x0702
abbrev stImageRejected : Nat := 0x0801
abbrev stManifestIncomplete : Nat := 0x0802
abbrev stNotConfirmed : Nat := 0x0803

/-! ## Registers -/

/-- The stored word of a register. -/
def State.reg (s : State) (a : Nat) : Nat :=
  match tabGet s.regs a with
  | some w => w.toNat
  | none => regReset a

/-- Stores the word of a register; a register at its reset value is not listed. -/
def State.setReg (s : State) (a v : Nat) : State :=
  { s with regs := if v % 2 ^ 32 = regReset a then tabDel s.regs a else tabSet s.regs a (BitVec.ofNat 32 v) }

/-- A field of a register. -/
def State.rfield (s : State) (a lo w : Nat) : Nat := bitsOf (s.reg a) lo w

/-- One bit of a register. -/
def State.rbit (s : State) (a i : Nat) : Bool := bitOf (s.reg a) i

/-- Sets a field of a register. -/
def State.setField (s : State) (a lo w v : Nat) : State := s.setReg a (putBits (s.reg a) lo w v)

/-- Sets one bit of a register: an event is recorded. -/
def State.raise (s : State) (a i : Nat) : State := s.setField a i 1 1

/-- Clears one bit of a register. -/
def State.lower (s : State) (a i : Nat) : State := s.setField a i 1 0

/-- Adds n increments to a 32-bit counter of class STICK with a sticky flag: the flag bit is set by the first increment
that finds the counter at its largest value (22 R563). -/
def State.stick (s : State) (a ev bit : Nat) (n : Nat := 1) : State :=
  let v := s.reg a + n
  if v ≤ all32 then s.setReg a v else (s.setReg a all32).raise ev bit

/-- Adds to a 32-bit counter of class WRAP. -/
def State.wrapAdd (s : State) (a : Nat) (n : Nat := 1) : State := s.setReg a ((s.reg a + n) % 2 ^ 32)

/-- A count of a structure, class STICK with a sticky flag: the new count and whether the flag is set. -/
def stickNat (v n : Nat) : Nat × Bool := if v + n ≤ all32 then (v + n, false) else (all32, true)

/-! ## Time -/

/-- TAI in nanoseconds (13 R361). -/
def State.tai (s : State) : Nat := s.clock.time16 / 65536

/-- Nanoseconds since the last module reset. -/
def State.now (s : State) : Nat := s.clock.up

abbrev nsUs : Nat := 1000
abbrev nsMs : Nat := 1000000
abbrev nsSec : Nat := 1000000000

/-! ## Free values (log 1) -/

/-- Draws a free number. -/
def State.draw (s : State) : Nat × State := (Config.freeNat s.freeCtr, { s with freeCtr := s.freeCtr + 1 })

/-- Draws n free bytes. -/
def State.drawBytes (s : State) (n : Nat) : List Byte × State :=
  (padTo n (Config.randomBytes s.freeCtr n), { s with freeCtr := s.freeCtr + 1 })

/-! ## Islands -/

/-- An island. -/
def State.isl (s : State) (i : Nat) : Island := tabGetD s.islands i {}

/-- Replaces an island. -/
def State.setIsl (s : State) (i : Nat) (x : Island) : State := { s with islands := tabSet s.islands i x }

/-- Whether an island is in RUN or IDLE. -/
def State.running (s : State) (i : Nat) : Bool := (s.isl i).state == .run || (s.isl i).state == .idle

/-- The code of an island state (02 Table 2.6). -/
def IslState.code : IslState → Nat
  | .off => 0 | .reset => 1 | .boot => 2 | .run => 3 | .idle => 4 | .retain => 5 | .update => 6 | .fault => 7

/-- Other islands change state only while MGT runs; MGT itself moves between RUN and IDLE (02 R62). -/
def State.mayMove (s : State) (i : Nat) : Bool := i == iMGT || s.running iMGT

/-- An island that takes work leaves IDLE in the same cycle (02 R53); it stays in IDLE, and accepts, while MGT does not
run (02 R62). -/
def State.wakeIsl (s : State) (i : Nat) : State :=
  if (s.isl i).state == .idle && s.mayMove i then s.setIsl i { s.isl i with state := .run, target := .run, since := s.now } else s

/-! ## The fault log (17 R484) -/

/-- Levels of Table 17.8. -/
abbrev lvInfo : Nat := 0
abbrev lvWarn : Nat := 1
abbrev lvFault : Nat := 2
abbrev lvReset : Nat := 3

/-- Writes a fault log entry into MRAM staging; SEQ is the total before it counts (17 Table 17.8; log 22). Past 64
staged entries the oldest goes to flash, which keeps the newest 16,384. -/
def State.logEvent (s : State) (level island block bit detail : Nat) : State :=
  let e : LogEntry :=
    { time := s.tai / 1000000 % 2 ^ 48
      seq := s.reg rMgLogTotal % 65536
      level := level
      subMs := s.tai % 1000000 / 1000 / 4
      code := island * 4096 + block * 256 + bit
      detail := detail % 2 ^ 32 }
  let st := e :: s.power.staged
  let s := s.wrapAdd rMgLogTotal
  { s with power := { s.power with
      staged := st.take 64
      log := (st.drop 64 ++ s.power.log).take 16384 } }

/-! ## Roles -/

/-- The module controls the floor: it sends commands, bus frames and spill pulses (16 Table 16.1, R455). -/
def State.controls (s : State) : Bool :=
  match s.twin.role with
  | .single => !s.twin.silent
  | .active => true
  | _ => false

/-- The module acts on the floor: it controls it and, as the holder of a lease, GRANT_LEFT exceeds 2 ms (16 R433). -/
def State.acts (s : State) : Bool :=
  s.controls && (s.twin.role != .active || s.twin.grantEnd.all fun e => decide (s.now + 2 * nsMs < e))

/-- The module computes in shadow (16 Table 16.1). -/
def State.shadow (s : State) : Bool := s.twin.role == .standby || s.twin.role == .pairing

/-- The role code of Table 16.1. -/
def TwinRole.code : TwinRole → Nat
  | .single => 0 | .active => 1 | .standby => 2 | .holding => 3 | .pairing => 4

/-! ## System check channels (20 R540, R541) -/

/-- A channel as its reset state gives it (20 Table 20.4). -/
def ChkChan.init (c : Nat) : ChkChan :=
  { poly := 1, dir := decide (c < 10) && [0, 3, 5, 7, 9].contains c, value := 0xFFFFFFFF }

/-- A channel. -/
def State.chkChan (s : State) (c : Nat) : ChkChan := tabGetD s.chk.chans c (ChkChan.init c)

/-- Replaces a channel. -/
def State.setChkChan (s : State) (c : Nat) (x : ChkChan) : State :=
  { s with chk := { s.chk with chans := tabSet s.chk.chans c x } }

/-- Adds to a counter of the check units, class STICK with a sticky flag. -/
def State.chkStuck (s : State) (full : Bool) : State :=
  { s with chk := { s.chk with event := s.chk.event ||| b2n full * 0x10000 } }

/-- Counts a failed unit of a channel and sets its event bit (20 R541). -/
def State.chkFailed (s : State) (c : Nat) : State :=
  let x := s.chkChan c
  let n := stickNat x.fails 1
  let s := (s.setChkChan c { x with fails := n.1 }).chkStuck n.2
  { s with chk := { s.chk with event := s.chk.event ||| 2 ^ c } }

/-- Counts an aborted unit (20 R542). -/
def State.chkAborted (s : State) (c : Nat) : State :=
  let x := s.chkChan c
  let n := stickNat x.aborts 1
  (s.setChkChan c { x with aborts := n.1 }).chkStuck n.2

/-- Counts a completed unit. -/
def State.chkCounted (s : State) (c : Nat) : State :=
  let x := s.chkChan c
  let n := stickNat x.units 1
  (s.setChkChan c { x with units := n.1 }).chkStuck n.2

/-- One completed unit of system channel c over n covered bytes with check value `value`; `ok` is the comparison of a
checking channel. The units lie in PF and count only while it runs. -/
def State.chkUnit (s : State) (c n : Nat) (value : Word) (ok : Bool) : State :=
  if s.running iPF then
    let x := s.chkChan c
    let s := s.setChkChan c { x with value := ~~~ value, done := true, matched := x.dir && ok, bytes := n % 2 ^ 24 }
    let s := s.chkCounted c
    if x.dir && !ok then s.chkFailed c else s
  else s

/-- A unit of a checking channel that matched, if it was made at all: for loads that depend on the cache (log 15). -/
def State.chkLoaded (s : State) (c n : Nat) (value : Word) (made : Bool) : State :=
  let x := s.chkChan c
  let made := made && s.running iPF
  let k := stickNat x.units (b2n made)
  let s := s.setChkChan c
    { x with
      value := if made then ~~~ value else x.value
      done := x.done || made
      matched := x.matched || made
      bytes := if made then n else x.bytes
      units := k.1 }
  s.chkStuck k.2

/-! ## Outputs -/

/-- Records a frame that left a port. -/
def State.sendFrame (s : State) (port : Nat) (b : List Byte) : State :=
  { s with outs := { s.outs with frames := (port, b) :: s.outs.frames } }

end Sys2Proof.Machine
end

