-- ==== Sys2Proof/Machine/Cross.lean ====
section
/-! DEFINITION. Crossings inside one step (02, "Crossings"): the target's judgement (R65), the records of epochs (R66),
the counting of refusals and the last error of the requester. The port-by-port rows stand in Machine/Islands.lean. -/

namespace Sys2Proof.Machine

/-- The epoch an island has recorded of another; 0 when it has none. -/
def State.epochOf (s : State) (src dst : Nat) : Nat := tabGetD (s.isl src).records dst 0

/-- Records an island's epoch at a requester. -/
def State.noteEpoch (s : State) (src dst epoch : Nat) : State :=
  s.setIsl src { s.isl src with records := tabSet (s.isl src).records dst epoch }

/-- The status with which a target's port answers an ordinary request, and 0 where it performs it (02 R65). -/
def portStatus (x : Island) (targetEpoch : Nat) : Nat :=
  if x.state != .run && x.state != .idle then stIslandAbsent
  else if x.draining then stBusy
  else if targetEpoch != 0 && targetEpoch != x.epoch then stStaleEpoch
  else stOk

/-- The target's shell counts a refusal (02 Table 2.21). -/
def State.countRefused (s : State) (dst : Nat) : State := s.stick (rIslRefused dst) (rIslFault dst) 7

/-- The requester records its last failed request (02 Table 2.22). -/
def State.lastError (s : State) (src dst source status : Nat) : State :=
  if status = stOk ∨ status = stPending then s
  else s.setReg (rIslLastErr src) (status + dst * 65536 + source * 2 ^ 20)

/-- The request reaches the target's port: the status of a refusal or 0, and the state with the refusal counted, the
target woken, whatever it answers, and the requester's record of the epoch taken from the reply (02 R53, R65, R66). -/
def reach (s : State) (src dst : Nat) : Nat × State :=
  let st := portStatus (s.isl dst) (s.epochOf src dst)
  let s := s.wakeIsl dst
  let s := if st = stOk then s else s.countRefused dst
  (st, if st = stIslandAbsent then s else s.noteEpoch src dst (s.isl dst).epoch)

/-- One crossing: an island's logic or core asks another island to perform f. Inside one island nothing is crossed. -/
def crossing {α : Type} (s : State) (src dst source : Nat) (refused : Nat → α) (statusOf : α → Nat)
    (f : State → α × State) : α × State :=
  if src = dst then f s
  else
    let (st, s) := reach s src dst
    if st = stOk then
      let (a, s) := f s
      (a, s.lastError src dst source (statusOf a))
    else (refused st, s.lastError src dst source st)

/-- A crossing that answers with a status alone. -/
def crossStatus (s : State) (src dst source : Nat) (f : State → Nat × State) : Nat × State :=
  crossing s src dst source id id f

end Sys2Proof.Machine
end

