-- ==== Sys2Proof/Machine/Ports.lean ====
section
/-! DEFINITION. The egress side of the ports (12 R336 to R340, R344, R355): queues, cells, counters, the module's own
addresses, and the twin frames the module sends (16 R457, R458). A frame is its bytes from the destination address up
to, not including, the FCS. -/

namespace Sys2Proof.Machine

/-- A port. -/
def State.port (s : State) (p : Nat) : Port := tabGetD s.switch.ports p (Port.factory p)

/-- Replaces a port. -/
def State.setPort (s : State) (p : Nat) (x : Port) : State :=
  { s with switch := { s.switch with ports := tabSet s.switch.ports p x } }

/-- Counter i of a port (12 Table 12.7, R358). -/
def State.portCount (s : State) (p i : Nat) (n : Nat := 1) : State := s.stick (rMacCnt p i) (rMacEvent p) 4 n

/-- Cells a frame of n bytes before its FCS takes (12 R340). -/
def cellsOf (n : Nat) : Nat := (n + 4 + 255) / 256

/-- Cells taken by the queued frames a test selects. -/
def cellsUsed (s : State) (f : Nat → QFrame → Bool) : Nat :=
  (s.switch.ports.map fun p => ((p.2.queue.filter (f p.1)).map fun q => cellsOf q.bytes.length).sum).sum

/-- Cells of the shared buffer, and those reserved for class 7. -/
abbrev bufferCells : Nat := 16384
abbrev class7Cells : Nat := 1024

/-- The cell limit of a class at egress (12 Table 12.2). -/
def classLimit (c : PortCfg) (cls : Nat) : Nat :=
  let l := c.classLimit.getD cls 0
  if l = 0 then 1024 else l

/-- Whether the cells a frame needs are free (12 R340). -/
def hasRoom (s : State) (p cls n : Nat) : Bool :=
  let need := cellsOf n
  let total := cellsUsed s fun _ _ => true
  let low := cellsUsed s fun _ q => q.cls != 7
  let mine := cellsUsed s fun k q => k == p && q.cls == cls
  decide (total + need ≤ bufferCells) && decide (mine + need ≤ classLimit (s.port p).cfg cls) &&
    (cls == 7 || decide (low + need ≤ bufferCells - class7Cells))

/-- Queues a frame at an egress port, or drops it there as CONGESTION (12 R340). A port whose link is down or that
sleeps takes none. -/
def enqueue (s : State) (p cls : Nat) (b : List Byte) (stamp : Stamp := .none) : State :=
  let x := s.port p
  if !s.running iSW || x.link != .up then s
  else if hasRoom s p cls b.length then s.setPort p { x with queue := x.queue ++ [{ cls := cls, bytes := b, stamp := stamp }] }
  else (s.portCount p 17).raise rSwEvent 1

/-- The base address of R337. -/
def macBase (s : State) : Nat := s.reg rSwMacBaseLo + (s.reg rSwMacBaseHi % 65536) * 2 ^ 32

/-- The module's address on a port, by its kind: ring 0, host 1, twin 2, field 3. -/
def ownMac (s : State) (p : Nat) : Nat :=
  (macBase s + if p < 2 then 0 else if p = 3 then 1 else if p = 2 then 2 else 3) % 2 ^ 48

/-- An Ethernet frame of an Ethertype. -/
def ethFrame (dst src etype : Nat) (payload : List Byte) : List Byte :=
  beBytes 6 dst ++ beBytes 6 src ++ beBytes 2 etype ++ payload

/-- The broadcast address. -/
abbrev macBroadcast : Nat := 0xFFFFFFFFFFFF

/-- An individual address, not a group one. -/
def isUnicast (mac : Nat) : Bool := !bitOf mac 40

abbrev macPause : Nat := 0x0180C2000001
abbrev macPdelay : Nat := 0x0180C200000E
abbrev macPtp : Nat := 0x011B19000000

/-- Destinations of the time unit, of HSR supervision, and those not consumed (R348, Table 12.4). -/
def isPtpDst (d : Nat) : Bool := d == macPdelay || d == macPtp
def isSupervisionDst (d : Nat) : Bool := d / 256 == 0x01154E0001
def isReservedDst (d : Nat) : Bool := d / 16 == 0x0180C200000 && d != macPdelay

/-- The group hash of R348. -/
def groupAccepted (s : State) (mac : Nat) : Bool :=
  let n := (crcHdlc (beBytes 6 mac)).toNat % 512
  s.rbit (rSwGHash (n / 32)) (n % 32)

/-- The HSR tag of R355: Ethertype 0x892F, path and size, sequence number (IEC 62439-3; log 25). -/
def hsrTag (path : Nat) (seq : Nat) (b : List Byte) : List Byte :=
  b.take 12 ++ beBytes 2 0x892F ++ beBytes 2 (path * 4096 + (b.length - 8) % 4096) ++ beBytes 2 seq ++ b.drop 12

/-- Sends a frame onto the ring: tagged under one sequence number, by both ring ports (12 R355). -/
def ringSend (s : State) (cls : Nat) (b : List Byte) : State :=
  if s.rbit rSwCtrl 1 then
    let q := s.switch.hsrSeq
    let s := { s with switch := { s.switch with hsrSeq := (q + 1) % 65536 } }
    enqueue (enqueue s 0 cls (hsrTag 0 q b)) 1 cls (hsrTag 1 q b)
  else enqueue (enqueue s 0 cls b) 1 cls b

/-! ## Twin frames sent -/

/-- The header of Table 16.10. -/
def twinHeader (kind seq len frag time : Nat) (last : Bool) : List Byte :=
  leBytes 1 1 ++ leBytes 1 kind ++ leBytes 2 seq ++ leBytes 2 len ++ leBytes 1 (b2n last) ++ leBytes 1 frag ++
    leBytes 8 time

/-- Header, body and check value of a twin frame (16 R457). -/
def twinBody (s : State) (kind seq frag : Nat) (last : Bool) (body : List Byte) : List Byte :=
  let p := twinHeader kind seq body.length frag s.tai last ++ body
  p ++ leBytes 4 (crcIscsi p).toNat

/-- Takes the next SEQ of a kind (16 Table 16.10). -/
def twinSeq (s : State) (kind : Nat) : Nat × State :=
  let q := tabGetD s.twin.seqTx kind 0
  (q, { s with twin := { s.twin with seqTx := tabSet s.twin.seqTx kind ((q + 1) % 65536) } })

/-- Counts the unit of channel 4 (20 Table 20.4). -/
def twinUnit (s : State) (p : List Byte) : State := s.chkUnit 4 (p.length - 4) (BitVec.ofNat 32 (fld p (p.length - 4) 4)) true

/-- Queues one twin frame on the twin port; the destination address is not given by the manual (log 26). -/
def twinFrame (s : State) (kind seq frag : Nat) (last : Bool) (body : List Byte) : State :=
  let p := twinBody s kind seq frag last body
  let s := twinUnit s p
  enqueue s 2 7 (ethFrame (Config.freeNat 0 % 2 ^ 48) (ownMac s 2) (s.rfield rTwEther 0 16) p)

/-- Sends a twin frame on the twin link. -/
def twinSend (s : State) (kind : Nat) (body : List Byte) : State :=
  let (q, s) := twinSeq s kind
  twinFrame s kind q 0 true body

/-- Sends a twin frame on the ring, kinds 0x30 to 0x34. -/
def twinRing (s : State) (kind dst : Nat) (body : List Byte) : State :=
  let (q, s) := twinSeq s kind
  let p := twinBody s kind q 0 true body
  ringSend (twinUnit s p) 7 (ethFrame dst (ownMac s 0) (s.rfield rTwEther 0 16) p)

/-- Fragments of a STATE body, at most 2,000 bytes each (16 Table 16.10, R458). -/
def twinFragments (s : State) (seq : Nat) : Nat → List (List Byte) → State
  | _, [] => s
  | k, [b] => twinFrame s 0x10 seq k true b
  | k, b :: rest => twinFragments (twinFrame s 0x10 seq k false b) seq (k + 1) rest

/-- Sends one STATE body. -/
def shipNow (s : State) (body : List Byte) : State :=
  let (q, s) := twinSeq s 0x10
  twinFragments s q 0 (chunks 2000 256 body)

/-- A STATE body may go now: its frames find room, or no frame of the class waits. -/
def shipRoom (s : State) (body : List Byte) : Bool :=
  !s.running iSW || (s.port 2).link != .up || !((s.port 2).queue.any (·.cls == 7)) ||
    hasRoom s 2 7 (2048 * (chunks 2000 256 body).length)

/-- The active partner ships records in one STATE body (16 R451), while its partner is in STANDBY. Bodies that find no
room wait, in order (log 66). -/
def ship (s : State) (records : List (List Byte)) : State :=
  if s.twin.role == .active && s.twin.partner == 2 && !records.isEmpty then
    let body := records.flatten
    if s.twin.ship.isEmpty && shipRoom s body then shipNow s body
    else { s with twin := { s.twin with ship := s.twin.ship ++ [body] } }
  else s

/-- Bodies that wait go while they find room (fuel: their number). -/
def shipPump : Nat → State → State
  | 0, s => s
  | n + 1, s =>
    match s.twin.ship with
    | [] => s
    | b :: rest =>
      if shipRoom s b then shipPump n (shipNow { s with twin := { s.twin with ship := rest } } b) else s

/-- One 16-byte item of a STATE record (16 R459). -/
def shipItem (key status qual flags value : Nat) : List Byte :=
  leBytes 4 key ++ leBytes 2 status ++ leBytes 1 qual ++ leBytes 1 flags ++ leBytes 8 value

/-- A STATE record (16 R459). -/
def shipRecord (type unit : Nat) (items : List (List Byte)) : List Byte :=
  leBytes 1 type ++ leBytes 1 unit ++ leBytes 2 items.length ++ items.flatten

/-- A CONFIG record: command code and the accepted payload (16 R459). -/
def shipConfig (s : State) (code : Nat) (payload : List Byte) : State :=
  ship s [leBytes 1 0x40 ++ leBytes 1 0 ++ leBytes 2 (payload.length + 4) ++ leBytes 2 code ++ leBytes 2 0 ++ payload]

end Sys2Proof.Machine
end

