-- ==== Sys2Proof/Machine/Fabric.lean ====
section
/-! DEFINITION. The point fabric (03): records, judgement, reads, writes, forces, definitions, claims, shares and slices. -/

namespace Sys2Proof.Machine

/-! ## Records (03 R77 to R82) -/

/-- Flag bits of Table 3.2. -/
abbrev fRetentive : Nat := 0
abbrev fForced : Nat := 1
abbrev fShared : Nat := 2
abbrev fRecorder : Nat := 3
abbrev fLocked : Nat := 4

/-- Qualities of Table 3.4. -/
abbrev qGood : Nat := 0
abbrev qForced : Nat := 1
abbrev qStale : Nat := 2
abbrev qAbsent : Nat := 3
abbrev qSubstituted : Nat := 4
abbrev qOutOfRange : Nat := 5
abbrev qCheckFailed : Nat := 6
abbrev qUninit : Nat := 7

/-- Tenants of note. -/
abbrev house : Nat := 0
abbrev nobody : Nat := 0xFFF

/-- Bytes 0 to 27 of a record (Table 3.1). -/
def PointRec.bytes (r : PointRec) : List Byte :=
  leBytes 8 r.value.toNat ++ leBytes 8 r.time ++ leBytes 2 (r.owner + r.type * 4096) ++ leBytes 1 r.quality ++
    leBytes 1 r.flags ++ leBytes 4 r.writer ++ leBytes 2 r.share ++ leBytes 2 r.series

/-- The check value of a record's other bytes. -/
def PointRec.right (r : PointRec) : Word := crcIscsi r.bytes

/-- A record with its check value computed (R105). -/
def PointRec.sealed (r : PointRec) : PointRec := { r with check := r.right }

/-- The undefined record (R81). -/
def PointRec.undefined : PointRec :=
  PointRec.sealed { value := 0, time := 0, owner := nobody, type := 0, quality := qAbsent, flags := 0, writer := 0
                    share := 0, series := 0, check := 0 }

/-- A flag of a record. -/
def PointRec.flag (r : PointRec) (i : Nat) : Bool := bitOf r.flags i

/-- Sets or clears a flag. -/
def PointRec.setFlag (r : PointRec) (i : Nat) (b : Bool) : PointRec := { r with flags := putBits r.flags i 1 (b2n b) }

/-- Bits of a value that a type uses (Table 3.3). -/
def typeWidth (t : Nat) : Nat :=
  if t = 0 then 1 else if t = 1 ∨ t = 2 ∨ t = 5 then 32 else if t = 7 then 16 else 64

/-- A value with the bytes beyond its type stored as 0 (R80). -/
def typed (t : Nat) (v : Word64) : Word64 := BitVec.ofNat 64 (bitsOf v.toNat 0 (typeWidth t))

/-- Number of point identifiers (R77). -/
abbrev pointCount : Nat := 0x2000000

/-- The first assignable identifier (R77). -/
abbrev firstAssignable : Nat := 0x0100000

/-- The record of an identifier. -/
def State.point (s : State) (pt : Nat) : PointRec := (tabGet s.fabric.store pt).getD PointRec.undefined

/-- Whether an identifier is defined. -/
def State.defined (s : State) (pt : Nat) : Bool := (tabGet s.fabric.store pt).isSome

/-- Whether a record is marked failed (R105). -/
def State.failedPt (s : State) (pt : Nat) : Bool := s.fabric.failed.contains pt

/-- Stores a record with its check value, a unit of check channel 8. -/
def State.storePoint (s : State) (pt : Nat) (r : PointRec) : State :=
  let r := r.sealed
  let s := { s with fabric := { s.fabric with store := tabSet s.fabric.store pt r } }
  s.chkUnit 8 28 r.check true

/-- A retentive save of an identifier is pending (07 R217). -/
def State.dueSave (s : State) (pt : Nat) : State :=
  if (s.point pt).flag fRetentive && !s.fabric.saveDue.contains pt then
    { s with fabric := { s.fabric with saveDue := pt :: s.fabric.saveDue } }
  else s

/-- Alters a record: it is stored, and a RETENTIVE one is to be saved (07 R217). -/
def State.putPoint (s : State) (pt : Nat) (r : PointRec) : State := (s.storePoint pt r).dueSave pt

/-- A record leaves the store: it is undefined again (R81, R83). -/
def State.dropPoint (s : State) (pt : Nat) : State :=
  let s := { s with fabric := { s.fabric with
    store := tabDel s.fabric.store pt, failed := s.fabric.failed.filter (· != pt) } }
  s.chkUnit 8 28 PointRec.undefined.right true

/-- A save of a force place is pending. -/
def State.dueForce (s : State) (i : Nat) : State :=
  if s.fabric.forceDue.contains i then s else { s with fabric := { s.fabric with forceDue := i :: s.fabric.forceDue } }

/-! ## Slices and judgement (R86 to R93) -/

/-- The slice of an assignable identifier: its tenant. -/
def sliceTenant (s : State) (pt : Nat) : Option Nat :=
  (s.fabric.slices.find? fun p => decide (p.2.base ≤ pt) && decide (pt < p.2.base + p.2.count)).map (·.2.tenant)

/-- The tenant that a system point belongs to (R93, 22 R570, 10 Table 10.1). -/
def systemTenant (s : State) (pt : Nat) : Nat :=
  if 0x0020000 ≤ pt ∧ pt < 0x0020400 then ((tabGet s.loops.loops (pt - 0x0020000)).map (·.cfg.tenant)).getD house
  else if 0x0011400 ≤ pt ∧ pt < 0x0011800 then ((tabGet s.meter.slots ((pt - 0x0011400) / 4)).map (·.tenant)).getD house
  else house

/-- The tenant that judges a failed record, and that a rebuild gives it (R93, R105). -/
def placeTenant (s : State) (pt : Nat) : Nat :=
  if pt < firstAssignable then systemTenant s pt else (sliceTenant s pt).getD nobody

/-- What an access asks (R90). -/
inductive FabOp where
  | read | write | force | linkSeries
  deriving DecidableEq, Repr

/-- Rights of a tenant on a record (R88 to R90). -/
def rightsOf (s : State) (r : PointRec) (tenant : Nat) : Nat :=
  if r.owner = tenant then 0xF
  else if r.flag fShared then
    match tabGet s.fabric.shares r.share with
    | some e => if e.owner = r.owner then (e.grants.filter (·.1 == tenant)).foldl (fun a g => a ||| g.2) 0 else 0
    | none => 0
  else 0

/-- The judgement of R90. -/
def judge (s : State) (pt tenant writer : Nat) (op : FabOp) : Nat :=
  let r := s.point pt
  if s.failedPt pt then
    if placeTenant s pt ≠ tenant then stTenantMismatch
    else if op == .read || op == .write then stOk
    else stCheckFailed
  else if r.owner = nobody then stTenantMismatch
  else
    let rights := rightsOf s r tenant
    if rights = 0 then stTenantMismatch
    else if op == .read && !bitOf rights 0 then stTenantMismatch
    else if op == .write && !bitOf rights 1 then stNotPermitted
    else if op == .force && !bitOf rights 2 then stNotPermitted
    else if op == .linkSeries && !bitOf rights 3 then stNotPermitted
    else if op == .write && r.flag fLocked && r.writer != writer then stWriterLocked
    else stOk

/-- A record is marked failed (R105). -/
def markFailed (s : State) (pt : Nat) : State :=
  if s.failedPt pt then s
  else
    let s := { s with fabric := { s.fabric with failed := pt :: s.fabric.failed } }
    let s := (s.stick rPfChkFail rPfEvent 4).raise rPfEvent 0
    s.setReg rPfLastChk (pt + 2 ^ 31)

/-- Sets and ways of the record cache: 131,072 records, 16 ways (R104). -/
abbrev cacheSets : Nat := 8192
abbrev cacheWays : Nat := 16

/-- A set of the cache takes a record in front; a full one gives up a record, never the one used last (R104; log 15). -/
def cacheTake (ways : List Nat) (pt victim : Nat) : List Nat :=
  if ways.contains pt then pt :: ways.filter (· != pt)
  else if ways.length < cacheWays then pt :: ways
  else pt :: ways.eraseIdx (1 + victim % (cacheWays - 1))

/-- A record is loaded for an access: from the cache, or from DRAM with its check value verified (R104, R105; log 15). -/
def loadPoint (s : State) (pt : Nat) : State :=
  let r := s.point pt
  let bad := s.defined pt && r.check != r.right && !s.failedPt pt
  let set := Config.cacheSet pt % cacheSets
  let ways := tabGetD s.fabric.cache set []
  let made := bad || !ways.contains pt
  let n := stickNat s.fabric.misses (b2n made)
  let s := { s with fabric := { s.fabric with
    misses := n.1, missStuck := s.fabric.missStuck || n.2, cacheTurn := s.fabric.cacheTurn + 1
    cache := tabSet s.fabric.cache set (cacheTake ways pt (Config.cacheVictim s.fabric.cacheTurn)) } }
  if bad then markFailed (s.chkUnit 9 28 r.check false) pt else s.chkLoaded 9 28 r.check made

/-- A record is loaded to be altered: its check value is verified first, and a failed one stays as it is (R105). -/
def editPoint (s : State) (pt : Nat) (f : State → Nat → State) : State :=
  let s := loadPoint s pt
  if s.failedPt pt then s else f s pt

/-- Loads and judges; a refusal is counted in PF_DENIED (Table 3.22). -/
def judged (s : State) (pt tenant writer : Nat) (op : FabOp) : Nat × State :=
  if pointCount ≤ pt then (stBadArgument, s)
  else
    let s := loadPoint s pt
    let st := judge s pt tenant writer op
    (st, if st = stOk then s else s.stick rPfDenied rPfEvent 4)

/-! ## Forces in the table (R96, R97) -/

/-- The index of the force on an identifier. -/
def forceIndex (s : State) (pt : Nat) : Option Nat := (s.fabric.forces.find? fun p => p.2.pt == pt).map (·.1)

/-- The force on an identifier. -/
def forceOf (s : State) (pt : Nat) : Option Force := (s.fabric.forces.find? fun p => p.2.pt == pt).map (·.2)

/-- Ships a force change (16 Table 16.12 FORCE). -/
def shipForce (s : State) (i : Nat) (f : Force) (flag : Nat) (value : Word64) : State :=
  ship s [shipRecord 0x30 0 [shipItem f.pt i (s.point f.pt).quality (flag + f.entryQuality * 16) value.toNat]]

/-- Changes a force entry, whose save is then pending; on a retentive point it changes the retentive place (07 R217). -/
def setForce (s : State) (i : Nat) (f : Force) : State :=
  let s := { s with fabric := { s.fabric with forces := tabSet s.fabric.forces i f } }
  (s.dueForce i).dueSave f.pt

/-- Frees a force entry. -/
def dropForce (s : State) (i : Nat) : State :=
  ({ s with fabric := { s.fabric with forces := tabDel s.fabric.forces i } } : State).dueForce i

/-! ## Series chains and samples (11 R313, R315, R320) -/

/-- The series of a chain (fuel: the number of series). -/
def chainFrom (h : Harvest) : Nat → Option Nat → List Nat
  | 0, _ => []
  | _, none => []
  | n + 1, some k =>
    match tabGet h.series k with
    | some x => k :: chainFrom h n x.next
    | none => []

/-- The series that watch a record. -/
def chainOf (s : State) (r : PointRec) : List Nat :=
  if r.flag fRecorder then chainFrom s.harvest (s.harvest.series.length) (some r.series) else []

/-- Puts one sample a linked series into the queue of 4,096 (11 R315, R320). -/
def queueSample (s : State) (x : HvSample) : State :=
  if s.harvest.queue.length < 4096 then { s with harvest := { s.harvest with queue := s.harvest.queue ++ [x] } }
  else (s.stick rHvDropped rHvEvent 6).raise rHvEvent 2

/-- A performed write is one sample for each linked series (11 R315); none while HV_CTRL.EN is 0. -/
def sampleWrite (s : State) (pt type quality : Nat) (value : Word64) (time : Nat) : State :=
  if s.rbit rHvCtrl 0 then
    (chainOf s (s.point pt)).foldl
      (fun s k => queueSample s { series := k, pt := pt, type := type, quality := quality, value := value, time := time }) s
  else s

/-- Samples waiting for a series are forgotten: they belong to it no more (log 27). -/
def dropSamples (s : State) (k : Nat) : State :=
  { s with harvest := { s.harvest with queue := s.harvest.queue.filter (·.series != k) } }

/-- A record loses its recorder link: every series of its chain becomes unlinked (11 R313). -/
def unlinkChain (s : State) (pt : Nat) : State :=
  let ks := chainOf s (s.point pt)
  let s := ks.foldl (fun s k =>
    match tabGet s.harvest.series k with
    | some x =>
      let s := dropSamples s k
      { s with harvest := { s.harvest with series := tabSet s.harvest.series k { x with linked := false, next := none } } }
    | none => s) s
  if ks.isEmpty then s else s.raise rHvEvent 5

/-! ## Reads and writes (R84, R85, R96, R105) -/

/-- What a read answers. -/
structure FabRes where
  status : Nat
  type : Nat := 0
  quality : Nat := qAbsent
  value : Word64 := 0
  time : Nat := 0
  deriving DecidableEq, Repr

/-- A refused access (05 R161). -/
def FabRes.refused (st : Nat) : FabRes := { status := st }

/-- What a permitted read returns (R85, R96, R105). -/
def readValue (s : State) (pt : Nat) : FabRes :=
  let r := s.point pt
  if s.failedPt pt then { status := stOk, type := r.type, quality := qCheckFailed, value := r.value, time := r.time }
  else
    match forceOf s pt with
    | some f => { status := stOk, type := r.type, quality := qForced, value := f.value, time := f.time }
    | none => { status := stOk, type := r.type, quality := r.quality, value := r.value, time := r.time }

/-- A read at the fabric. -/
def fabRead (s : State) (tenant pt : Nat) : FabRes × State :=
  let (st, s) := judged s pt tenant 0 .read
  (if st = stOk then readValue s pt else FabRes.refused st, s)

/-- The active's journal takes point writes of writer kinds 4 and 6 to 9 (16 R451). -/
def journalWrite (s : State) (pt writer : Nat) : State :=
  let kind := writer / 2 ^ 28
  if s.twin.role == .active && [4, 6, 7, 8, 9].contains kind && !s.twin.journal.contains pt then
    { s with twin := { s.twin with journal := s.twin.journal ++ [pt] } }
  else s

/-- A permitted write of the right type is performed: on the force entry while forced (R96), else on the record, which
takes the writer id of the write (log 28). -/
def performWrite (s : State) (pt writer quality : Nat) (value : Word64) (time : Nat) : State :=
  let r := s.point pt
  let v := typed r.type value
  let s := sampleWrite s pt r.type quality v time
  match forceIndex s pt, forceOf s pt with
  | some i, some f =>
    let f := { f with entryValue := v, entryTime := time, entryQuality := quality }
    shipForce (setForce s i f) i f 4 v
  | _, _ => s.putPoint pt { r with value := v, time := time, quality := quality, writer := writer }

/-- The two-copy rule (R106, 07 R218): what is taken, whether a bad check value is to be rewritten. -/
inductive TwoCopy (α : Type) where
  | lost
  | taken (x : α) (repaired : Bool)
  deriving DecidableEq, Repr

/-- Judges two copies without their check values, and whether each check passes (R106, 07 R218). -/
def twoCopies {α : Type} [DecidableEq α] (x y : α) (okX okY : Bool) : TwoCopy α :=
  if x = y then (if okX && okY then .taken x false else if okX || okY then .taken x true else .lost)
  else if okX then .taken x false
  else if okY then .taken y false
  else .lost

/-- The identifier of a retentive place, from the two copies of its directory entry (R106). -/
def placeId (x : RetPlace) : TwoCopy Nat :=
  twoCopies x.dir0 x.dir1 (x.dirCheck0 == crcIscsi (leBytes 4 x.dir0)) (x.dirCheck1 == crcIscsi (leBytes 4 x.dir1))

/-- A retentive place is tied to an identifier. -/
def RetPlace.holds (x : RetPlace) (pt : Nat) : Bool :=
  match placeId x with
  | .taken k _ => k == pt
  | .lost => false

/-- An identifier holds a retentive place. -/
def hasPlace (s : State) (pt : Nat) : Bool := s.fabric.places.any fun p => p.2.holds pt

/-- A write rebuilds a failed record (R105). -/
def rebuild (s : State) (pt writer type quality : Nat) (value : Word64) (time : Nat) : State :=
  let s := unlinkChain s pt
  let s := match forceIndex s pt, forceOf s pt with
    | some i, some f => shipForce (dropForce s i) i f 2 f.entryValue
    | _, _ => s
  let held := hasPlace s pt
  let s := { s with fabric := { s.fabric with failed := s.fabric.failed.filter (· != pt) } }
  s.putPoint pt
    { value := typed type value, time := time, owner := placeTenant s pt, type := type, quality := quality
      flags := b2n held, writer := writer, share := 0, series := 0, check := 0 }

/-- A write at the fabric; TIME 0 stamps the instant it is performed (05 Table 5.4). -/
def fabWrite (s : State) (tenant writer pt type quality : Nat) (value : Word64) (time : Nat) : Nat × State :=
  let (st, s) := judged s pt tenant writer .write
  if st ≠ stOk then (st, s)
  else if quality ≠ qGood ∧ quality ≠ qSubstituted ∧ quality ≠ qOutOfRange then (stBadArgument, s)
  else
    let t := if time = 0 then s.tai else time % 2 ^ 64
    if s.failedPt pt then
      if 8 ≤ type then (stBadArgument, s) else (stOk, journalWrite (rebuild s pt writer type quality value t) pt writer)
    else if type ≠ (s.point pt).type then (stBadArgument, s)
    else (stOk, journalWrite (performWrite s pt writer quality value t) pt writer)

/-- The fabric sets a quality itself: on the force entry while forced (R96, R114). -/
def fabQuality (s : State) (pt quality : Nat) : State :=
  if !s.defined pt then s
  else
    editPoint s pt fun s pt =>
      match forceIndex s pt, forceOf s pt with
      | some i, some f => setForce s i { f with entryQuality := quality }
      | _, _ => s.putPoint pt { s.point pt with quality := quality }

/-- A read from another island: one crossing into PF. -/
def readFrom (s : State) (src source tenant pt : Nat) : FabRes × State :=
  crossing s src iPF source FabRes.refused (·.status) fun s => fabRead s tenant pt

/-- A write from another island: one crossing into PF. -/
def writeFrom (s : State) (src source tenant writer pt type quality : Nat) (value : Word64) (time : Nat) : Nat × State :=
  crossStatus s src iPF source fun s => fabWrite s tenant writer pt type quality value time

/-! ## Definition and claims (R82, R83, R94, R572, R573) -/

/-- A request found the store full (R109). -/
def storeFull (s : State) : State := s.raise rPfEvent 2

/-- A writer claims a point: WRITER_LOCKED and WRITER in one step (R94). -/
def claimPoint (s : State) (pt writer : Nat) : State :=
  s.putPoint pt ({ s.point pt with writer := writer }.setFlag fLocked true)

/-- A claim is released; WRITER stays as it is (log 109). -/
def releasePoint (s : State) (pt : Nat) : State := s.putPoint pt ((s.point pt).setFlag fLocked false)

/-- Whether a writer holds the claim on a point. -/
def holdsClaim (s : State) (pt writer : Nat) : Bool :=
  s.defined pt && (s.point pt).flag fLocked && (s.point pt).writer == writer

/-- Releases the claim of a writer on a point, where it holds it (R94). -/
def releaseHeld (s : State) (pt writer : Nat) : State :=
  if holdsClaim s pt writer then editPoint s pt releasePoint else s

/-- Releases every claim of a writer: it goes away (R94). -/
def releaseAll (s : State) (writer : Nat) : State :=
  (tabKeys s.fabric.store).foldl (fun s pt => releaseHeld s pt writer) s

/-- A writer of the module's own tables claims a point that no other writer holds (R94). -/
def claimFree (s : State) (pt writer : Nat) : State :=
  editPoint s pt fun s pt => if (s.point pt).flag fLocked && (s.point pt).writer != writer then s else claimPoint s pt writer

/-- A claim on behalf of a tenant with rights as for a WRITE: the status, and the claim made (R94, R573). -/
def tryClaim (s : State) (tenant writer pt : Nat) : Nat × State :=
  let (st, s) := judged s pt tenant writer .write
  if st ≠ stOk then (st, s)
  else if s.failedPt pt then (stCheckFailed, s)
  else if holdsClaim s pt writer then (stOk, s)
  else (stOk, claimPoint s pt writer)

/-- The writer id of a bound device (Table 3.7); its address is 0 until it has one (log 111). -/
def deviceWriter (port address : Nat) : Nat := 4 * 2 ^ 28 + port * 2 ^ 20 + address

/-- A point defined among a bound device's identifiers is claimed as it is defined (R117). -/
def claimForDevice (s : State) (pt : Nat) : State :=
  match s.fabric.devices.find? fun d => decide (d.base ≤ pt) && decide (pt < d.base + d.count) with
  | some d => claimFree s pt (deviceWriter d.port d.address)
  | none => s

/-- Retentive points defined. -/
def retentiveCount (s : State) : Nat := (s.fabric.store.filter fun p => p.2.flag fRetentive).length

/-- The record of a fresh definition (R82). -/
def PointRec.fresh (owner type : Nat) (retentive : Bool) : PointRec :=
  { value := 0, time := 0, owner := owner, type := type, quality := qUninit, flags := b2n retentive, writer := 0
    share := 0, series := 0, check := 0 }

/-- An empty retentive place for an identifier: the directory entry, both copies the record of the definition (R106). -/
def RetPlace.new (pt : Nat) (r : PointRec) : RetPlace :=
  { dir0 := pt, dirCheck0 := crcIscsi (leBytes 4 pt), dir1 := pt, dirCheck1 := crcIscsi (leBytes 4 pt)
    copy0 := r.sealed, copy1 := r.sealed }

/-- No retentive place is free for one more definition (R106, R109). -/
def placesFull (s : State) (pt : Nat) : Bool :=
  decide (4096 ≤ retentiveCount s) || (!hasPlace s pt && (tabFree s.fabric.places 0 4096).isNone)

/-- A point is defined (R82); a retentive one takes a place in MRAM, unless the identifier is tied to one (R106). -/
def definePoint (s : State) (pt owner type : Nat) (retentive : Bool) : State :=
  let r := PointRec.fresh owner type retentive
  let s := s.putPoint pt r
  let s :=
    if retentive && !hasPlace s pt then
      match tabFree s.fabric.places 0 4096 with
      | some k => { s with fabric := { s.fabric with places := tabSet s.fabric.places k (RetPlace.new pt r) } }
      | none => s
    else s
  claimForDevice s pt

/-- A point is undefined: force, claim, share link and recorder link go with it (R83). -/
def undefinePoint (s : State) (pt : Nat) : State :=
  let s := unlinkChain s pt
  let s := match forceIndex s pt, forceOf s pt with
    | some i, some f => shipForce (dropForce s i) i f 2 f.entryValue
    | _, _ => s
  let s := { s with fabric := { s.fabric with
    places := tabFilter (fun _ x => !x.holds pt) s.fabric.places
    saveDue := s.fabric.saveDue.filter (· != pt) } }
  s.dropPoint pt

/-- One entry of POINT_DEFINE (R572). -/
def defineEntry (s : State) (tenant pt type flags pad : Nat) : Nat × State :=
  if pointCount ≤ pt ∨ 8 ≤ type ∨ 2 ≤ flags ∨ pad ≠ 0 then (stBadArgument, s)
  else if pt < firstAssignable then (stNotPermitted, s)
  else if sliceTenant s pt ≠ some tenant then (stTenantMismatch, s)
  else
    let s := loadPoint s pt
    if s.failedPt pt then (stCheckFailed, s)
    else if s.defined pt then (stBadArgument, s)
    else if flags = 1 ∧ placesFull s pt then (stStoreFull, storeFull s)
    else
      let s := definePoint s pt tenant type (flags == 1)
      (stOk, { s with fabric := { s.fabric with
        defs := tabSet s.fabric.defs pt { type := type, retentive := flags == 1, owner := tenant, share := none } } })

/-- One entry of POINT_UNDEFINE (R572). -/
def undefineEntry (s : State) (tenant pt : Nat) : Nat × State :=
  if pointCount ≤ pt then (stBadArgument, s)
  else if pt < firstAssignable then (stNotPermitted, s)
  else if sliceTenant s pt ≠ some tenant ∨ !s.defined pt then (stTenantMismatch, s)
  else
    let s := undefinePoint s pt
    (stOk, { s with fabric := { s.fabric with defs := tabDel s.fabric.defs pt } })

/-- Common statuses of POINT_CLAIM and POINT_RELEASE before their own (R573). A grantee with WRITE and without READ is not
refused: R90 gives its WRITE no TENANT_MISMATCH (log 109). -/
def claimJudge (s : State) (tenant pt : Nat) : Nat × State :=
  if pointCount ≤ pt then (stBadArgument, s)
  else if pt < firstAssignable then (stNotPermitted, s)
  else
    let s := loadPoint s pt
    let st := judge s pt tenant (s.point pt).writer .write
    let rd := judge s pt tenant 0 .read
    let st :=
      if s.failedPt pt then (if st = stOk then stCheckFailed else st)
      else if rd ≠ stOk ∧ rightsOf s (s.point pt) tenant &&& 2 = 0 then rd
      else st
    (st, if st = stTenantMismatch ∨ st = stNotPermitted then s.stick rPfDenied rPfEvent 4 else s)

/-- One entry of POINT_CLAIM (R573). -/
def claimEntry (s : State) (tenant writer pt : Nat) : Nat × State :=
  let (st, s) := claimJudge s tenant pt
  if st ≠ stOk then (st, s)
  else if holdsClaim s pt writer then (stOk, s)
  else if (s.point pt).flag fLocked then (stWriterLocked, s.stick rPfDenied rPfEvent 4)
  else (stOk, claimPoint s pt writer)

/-- One entry of POINT_RELEASE (R573). -/
def releaseEntry (s : State) (tenant writer pt : Nat) : Nat × State :=
  let (st, s) := claimJudge s tenant pt
  if st ≠ stOk then (st, s)
  else if !(s.point pt).flag fLocked then (stOk, s)
  else if holdsClaim s pt writer || (s.point pt).owner == tenant then (stOk, releasePoint s pt)
  else (stWriterLocked, s.stick rPfDenied rPfEvent 4)

/-! ## Forces (R96, R97, 05 R163) -/

/-- A force is placed, or its value replaced: status and index. The lowest free index is taken (log 29). -/
def forceSet (s : State) (tenant pt type : Nat) (value : Word64) : (Nat × Nat) × State :=
  let (st, s) := judged s pt tenant 0 .force
  if st ≠ stOk then ((st, 0), s)
  else if type ≠ (s.point pt).type then ((stBadArgument, 0), s)
  else
    let v := typed type value
    match forceIndex s pt, forceOf s pt with
    | some i, some f =>
      let f := { f with value := v, time := s.tai }
      ((stOk, i), shipForce (setForce s i f) i f 1 v)
    | _, _ =>
      match tabFree s.fabric.forces 0 1024 with
      | none => ((stStoreFull, 0), storeFull s)
      | some i =>
        let r := s.point pt
        let f : Force :=
          { pt := pt, type := type, value := v, time := s.tai, entryValue := r.value, entryTime := r.time
            entryQuality := r.quality }
        let s := s.putPoint pt (r.setFlag fForced true)
        ((stOk, i), shipForce (setForce s i f) i f 1 v)

/-- A force is removed: the record takes the entry's value, time and quality in one step (R97). -/
def removeForce (s : State) (i : Nat) : State :=
  match tabGet s.fabric.forces i with
  | some f =>
    let s := dropForce s i
    let s := editPoint s f.pt fun s pt => s.putPoint pt
      ({ s.point pt with value := f.entryValue, time := f.entryTime, quality := f.entryQuality }.setFlag fForced false)
    shipForce s i f 2 f.entryValue
  | none => s

/-- FORCE_CLEAR of one point: status and forces removed (05 R163). -/
def forceClear (s : State) (tenant pt : Nat) : (Nat × Nat) × State :=
  let (st, s) := judged s pt tenant 0 .force
  if st ≠ stOk then ((st, 0), s)
  else
    match forceIndex s pt with
    | some i => ((stOk, 1), removeForce s i)
    | none => ((stOk, 0), s)

/-- FORCE_CLEAR of all: every force the route holds FORCE rights on (05 R163). -/
def forceClearAll (s : State) (tenant : Nat) : Nat × State :=
  (tabKeys s.fabric.forces).foldl (fun (a : Nat × State) i =>
    match tabGet a.2.fabric.forces i with
    | some f =>
      let s := loadPoint a.2 f.pt
      if judge s f.pt tenant 0 .force = stOk then (a.1 + 1, removeForce s i) else (a.1, s)
    | none => a) (0, s)

/-! ## Shares and slices (R87 to R89) -/

/-- SHARE_SET: status and index (R89). -/
def shareSet (s : State) (tenant entry : Nat) (e : Share) : (Nat × Nat) × State :=
  let put (i : Nat) : (Nat × Nat) × State :=
    ((stOk, i), { s with fabric := { s.fabric with shares := tabSet s.fabric.shares i e } })
  if e.owner ≠ tenant then ((stTenantMismatch, 0), s)
  else if entry = 0xFFFF then
    match tabFree s.fabric.shares 0 4096 with
    | some i => put i
    | none => ((stStoreFull, 0), storeFull s)
  else if 4096 ≤ entry then ((stBadArgument, 0), s)
  else
    match tabGet s.fabric.shares entry with
    | some old => if old.owner = tenant then put entry else ((stTenantMismatch, 0), s)
    | none => put entry

/-- Removes the share link of a record. -/
def unshare (s : State) (pt : Nat) : State :=
  s.putPoint pt ({ s.point pt with share := 0 }.setFlag fShared false)

/-- Steward's definition of a point takes its share link, or loses it (R108). -/
def defShare (s : State) (pt : Nat) (e : Option Nat) : State :=
  match tabGet s.fabric.defs pt with
  | some d => { s with fabric := { s.fabric with defs := tabSet s.fabric.defs pt { d with share := e } } }
  | none => s

/-- SHARE_DELETE: every record linking the entry loses the link at the same instant (R89). -/
def shareDelete (s : State) (tenant entry : Nat) : Nat × State :=
  match tabGet s.fabric.shares entry with
  | some e =>
    if e.owner ≠ tenant then (stTenantMismatch, s)
    else
      let s := (s.fabric.store.filter fun p => p.2.flag fShared && p.2.share == entry).foldl (fun s p => editPoint s p.1 unshare) s
      (stOk, { s with fabric := { s.fabric with
        shares := tabDel s.fabric.shares entry
        defs := tabMap (fun _ d => if d.share = some entry then { d with share := none } else d) s.fabric.defs } })
  | none => (stTenantMismatch, s)

/-- One entry of SHARE_LINK: only the owner links an entry of its own to its points; an entry not in use or of another
tenant is TENANT_MISMATCH for every point (R88, R89). -/
def shareLink (s : State) (tenant entry pt : Nat) : Nat × State :=
  if entry ≠ 0xFFFF ∧ !(tabGet s.fabric.shares entry).any (·.owner == tenant) then (stTenantMismatch, s)
  else if pointCount ≤ pt then (stBadArgument, s)
  else
    let s := loadPoint s pt
    let r := s.point pt
    if s.failedPt pt then (if placeTenant s pt = tenant then stCheckFailed else stTenantMismatch, s)
    else if r.owner ≠ tenant ∨ !s.defined pt then (stTenantMismatch, s)
    else if entry = 0xFFFF then (stOk, defShare (unshare s pt) pt none)
    else (stOk, defShare (s.putPoint pt ({ r with share := entry }.setFlag fShared true)) pt (some entry))

/-- Whether two ranges of identifiers meet. -/
def rangesMeet (a n b m : Nat) : Bool := decide (a < b + m) && decide (b < a + n)

/-- Defined points of a range. -/
def definedIn (s : State) (base count : Nat) : Bool :=
  s.fabric.store.any fun p => decide (base ≤ p.1) && decide (p.1 < base + count)

/-- SLICE_SET (R87). The tenant field is judged before the slice is looked at, that of a removal too (log 109). -/
def sliceSet (s : State) (k base count tenant : Nat) : Nat × State :=
  let put : State := { s with fabric := { s.fabric with
    slices := tabSet s.fabric.slices k { base := base, count := count, tenant := tenant } } }
  if 1024 ≤ k ∨ nobody ≤ tenant then (stBadArgument, s)
  else if count = 0 then
    match tabGet s.fabric.slices k with
    | some x =>
      if definedIn s x.base x.count then (stNotPermitted, s)
      else (stOk, { s with fabric := { s.fabric with slices := tabDel s.fabric.slices k } })
    | none => (stOk, s)
  else if base < firstAssignable ∨ pointCount < base + count ∨
      s.fabric.slices.any (fun p => p.1 != k && rangesMeet base count p.2.base p.2.count) then (stBadArgument, s)
  else
    match tabGet s.fabric.slices k with
    | some x =>
      if x.tenant ≠ tenant ∧ definedIn s x.base x.count then (stNotPermitted, s)
      else if s.fabric.store.any (fun p => decide (x.base ≤ p.1) && decide (p.1 < x.base + x.count) &&
          !(decide (base ≤ p.1) && decide (p.1 < base + count))) then (stNotPermitted, s)
      else (stOk, put)
    | none => (stOk, put)

end Sys2Proof.Machine
end

