-- ==== Sys2Proof/Machine/Float.lean ====
section
/-! DEFINITION. IEEE 754 binary32 and binary64 with rounding to nearest even and subnormals kept (06 R178): a format
is its exponent and fraction widths; a value is unpacked to a signed integer times a power of two, computed exactly
and rounded once. The quiet NaN delivered is the standard's default pattern (log 21). -/

namespace Sys2Proof.Machine

/-- A binary format: exponent width and fraction width. -/
structure FFmt where
  e : Nat
  m : Nat
  deriving DecidableEq, Repr

/-- binary32. -/
def fmt32 : FFmt := { e := 8, m := 23 }
/-- binary64. -/
def fmt64 : FFmt := { e := 11, m := 52 }

/-- A number unpacked: NaN, an infinity, or (−1)^sign × mant × 2^exp. -/
inductive FVal where
  | nan
  | inf (neg : Bool)
  | fin (neg : Bool) (mant : Nat) (exp : Int)
  deriving DecidableEq, Repr

/-- Width of a format in bits. -/
def FFmt.width (f : FFmt) : Nat := 1 + f.e + f.m

/-- The largest exponent field. -/
def FFmt.emax (f : FFmt) : Nat := 2 ^ f.e - 1

/-- The exponent of the last place of a number with exponent field 1. -/
def FFmt.emin (f : FFmt) : Int := 2 - (2 : Int) ^ (f.e - 1) - f.m

/-- Unpacks the bits of a number. -/
def funpack (f : FFmt) (x : Nat) : FVal :=
  let neg := bitOf x (f.e + f.m)
  let ex := bitsOf x f.m f.e
  let fr := bitsOf x 0 f.m
  if ex = f.emax then (if fr = 0 then .inf neg else .nan)
  else if ex = 0 then .fin neg fr f.emin
  else .fin neg (2 ^ f.m + fr) (f.emin + (ex : Int) - 1)

/-- The default quiet NaN. -/
def fnanBits (f : FFmt) : Nat := f.emax * 2 ^ f.m + 2 ^ (f.m - 1)

/-- The bits of an infinity. -/
def finfBits (f : FFmt) (neg : Bool) : Nat := b2n neg * 2 ^ (f.e + f.m) + f.emax * 2 ^ f.m

/-- A quotient rounded to nearest, ties to even. -/
def roundDiv (a b : Nat) : Nat :=
  let q := a / b
  let r := a % b
  if 2 * r > b then q + 1 else if 2 * r = b then q + q % 2 else q

/-- Packs (−1)^neg × mant × 2^exp, rounded to nearest even; `sticky` tells that a part below mant was cut off. -/
def fpack (f : FFmt) (neg : Bool) (mant : Nat) (exp : Int) (sticky : Bool := false) : Nat :=
  let s := b2n neg * 2 ^ (f.e + f.m)
  if mant = 0 then s
  else
    -- two more bits below keep a cut-off part from being lost in the rounding
    let mant' := mant * 4 + b2n sticky
    let exp' := exp - 2
    let len := Nat.log2 mant' + 1
    let want : Int := exp' + len - (f.m + 1)
    let e0 := if want < f.emin then f.emin else want
    let q := if e0 ≥ exp' then roundDiv mant' (2 ^ (e0 - exp').toNat) else mant' * 2 ^ (exp' - e0).toNat
    let (q, e0) := if q = 2 ^ (f.m + 1) then (2 ^ f.m, e0 + 1) else (q, e0)
    if q < 2 ^ f.m then s + q
    else
      let field := (e0 - f.emin + 1).toNat
      if field ≥ f.emax then finfBits f neg else s + field * 2 ^ f.m + (q - 2 ^ f.m)

/-- Packs a value. -/
def fbits (f : FFmt) : FVal → Nat
  | .nan => fnanBits f
  | .inf n => finfBits f n
  | .fin n m e => fpack f n m e

/-- The signed mantissa of two finite values at their common exponent. -/
def falign (m1 : Nat) (e1 : Int) (m2 : Nat) (e2 : Int) : Nat × Nat × Int :=
  if e1 ≤ e2 then (m1, m2 * 2 ^ (e2 - e1).toNat, e1) else (m1 * 2 ^ (e1 - e2).toNat, m2, e2)

/-- The sum of two numbers. -/
def fadd (f : FFmt) (x y : Nat) : Nat :=
  match funpack f x, funpack f y with
  | .nan, _ => fnanBits f
  | _, .nan => fnanBits f
  | .inf a, .inf b => if a = b then finfBits f a else fnanBits f
  | .inf a, _ => finfBits f a
  | _, .inf b => finfBits f b
  | .fin n1 m1 e1, .fin n2 m2 e2 =>
    let (a, b, e) := falign m1 e1 m2 e2
    if n1 = n2 then fpack f n1 (a + b) e
    else if a = b then 0
    else if a > b then fpack f n1 (a - b) e
    else fpack f n2 (b - a) e

/-- The sign bit inverted. -/
def fneg (f : FFmt) (x : Nat) : Nat :=
  if bitOf x (f.e + f.m) then x - 2 ^ (f.e + f.m) else x + 2 ^ (f.e + f.m)

/-- The sign bit cleared. -/
def fabs (f : FFmt) (x : Nat) : Nat := bitsOf x 0 (f.e + f.m)

/-- The difference of two numbers: the sum with the second negated. -/
def fsub (f : FFmt) (x y : Nat) : Nat := fadd f x (fneg f y)

/-- The product of two numbers. -/
def fmul (f : FFmt) (x y : Nat) : Nat :=
  match funpack f x, funpack f y with
  | .nan, _ => fnanBits f
  | _, .nan => fnanBits f
  | .inf a, .inf b => finfBits f (a != b)
  | .inf a, .fin b m _ => if m = 0 then fnanBits f else finfBits f (a != b)
  | .fin a m _, .inf b => if m = 0 then fnanBits f else finfBits f (a != b)
  | .fin n1 m1 e1, .fin n2 m2 e2 => fpack f (n1 != n2) (m1 * m2) (e1 + e2)

/-- The quotient of two numbers. -/
def fdiv (f : FFmt) (x y : Nat) : Nat :=
  match funpack f x, funpack f y with
  | .nan, _ => fnanBits f
  | _, .nan => fnanBits f
  | .inf _, .inf _ => fnanBits f
  | .inf a, .fin b _ _ => finfBits f (a != b)
  | .fin a _ _, .inf b => b2n (a != b) * 2 ^ (f.e + f.m)
  | .fin n1 m1 e1, .fin n2 m2 e2 =>
    if m2 = 0 then (if m1 = 0 then fnanBits f else finfBits f (n1 != n2))
    else
      let k := 2 * f.m + 6
      let a := m1 * 2 ^ k
      fpack f (n1 != n2) (a / m2) (e1 - e2 - k) (decide (a % m2 ≠ 0))

/-- The integer square root by bits: the largest r, built from bit k down, with r² ≤ n. -/
def isqrtFrom (n : Nat) : Nat → Nat → Nat
  | 0, r => r
  | k + 1, r => if (r + 2 ^ k) * (r + 2 ^ k) ≤ n then isqrtFrom n k (r + 2 ^ k) else isqrtFrom n k r

/-- The square root of a number; of a negative number NaN, and of −0 itself. -/
def fsqrt (f : FFmt) (x : Nat) : Nat :=
  match funpack f x with
  | .nan => fnanBits f
  | .inf n => if n then fnanBits f else finfBits f false
  | .fin n m e =>
    if m = 0 then x
    else if n then fnanBits f
    else
      let k : Int := 2 * f.m + 8
      let (m', e') := if (e - k) % 2 = 0 then (m * 2 ^ k.toNat, e - k) else (m * 2 ^ (k.toNat + 1), e - k - 1)
      let r := isqrtFrom m' (2 * f.m + 8) 0
      fpack f false r (e' / 2) (decide (r * r ≠ m'))

/-- Whether the bits are a NaN. -/
def fisNan (f : FFmt) (x : Nat) : Bool := funpack f x == .nan

/-- Whether the bits are a finite number. -/
def fisFin (f : FFmt) (x : Nat) : Bool :=
  match funpack f x with
  | .fin _ _ _ => true
  | _ => false

/-- The order of two numbers: `none` when either is NaN. -/
def fcmp (f : FFmt) (x y : Nat) : Option Ordering :=
  match funpack f x, funpack f y with
  | .nan, _ => none
  | _, .nan => none
  | .inf a, .inf b => some (if a = b then .eq else if a then .lt else .gt)
  | .inf a, _ => some (if a then .lt else .gt)
  | _, .inf b => some (if b then .gt else .lt)
  | .fin n1 m1 e1, .fin n2 m2 e2 =>
    let (a, b, _) := falign m1 e1 m2 e2
    let i : Int := if n1 then -(a : Int) else a
    let j : Int := if n2 then -(b : Int) else b
    some (if i < j then .lt else if i = j then .eq else .gt)

/-- x < y. -/
def flt (f : FFmt) (x y : Nat) : Bool := fcmp f x y == some .lt
/-- x ≤ y. -/
def fle (f : FFmt) (x y : Nat) : Bool := fcmp f x y == some .lt || fcmp f x y == some .eq

/-- An integer as a number, rounded to nearest even. -/
def fofInt (f : FFmt) (i : Int) : Nat := fpack f (decide (i < 0)) i.natAbs 0

/-- A number in another format. -/
def fconv (a b : FFmt) (x : Nat) : Nat := fbits b (funpack a x)

/-- A number rounded to the nearest integer, ties to even: `none` for NaN, and for an infinity its sign. -/
def froundInt (f : FFmt) (x : Nat) : Option (Except Bool Int) :=
  match funpack f x with
  | .nan => none
  | .inf n => some (.error n)
  | .fin n m e =>
    let q : Nat := if e ≥ 0 then m * 2 ^ e.toNat else roundDiv m (2 ^ (-e).toNat)
    some (.ok (if n then -(q : Int) else q))

/-- The floor of a number: `none` for NaN, and for an infinity its sign. -/
def ffloorInt (f : FFmt) (x : Nat) : Option (Except Bool Int) :=
  match funpack f x with
  | .nan => none
  | .inf n => some (.error n)
  | .fin n m e =>
    let i : Int := if n then -(m : Int) else m
    some (.ok (if e ≥ 0 then i * (2 : Int) ^ e.toNat else i.fdiv ((2 : Int) ^ (-e).toNat)))

/-- A number rounded to the nearest integer, ties away from zero; NaN and infinities give 0. -/
def froundAway (f : FFmt) (x : Nat) : Int :=
  match funpack f x with
  | .fin n m e =>
    let q : Nat := if e ≥ 0 then m * 2 ^ e.toNat else (2 * m + 2 ^ (-e).toNat) / (2 * 2 ^ (-e).toNat)
    if n then -(q : Int) else q
  | _ => 0

/-- A number converted to a two's complement integer of w bits: nearest even, saturating; whether V is set (R178,
Table 6.10 FTOI and DTOL). -/
def ftoInt (f : FFmt) (w x : Nat) : Int × Bool :=
  let hi : Int := (2 : Int) ^ (w - 1) - 1
  let lo : Int := -(2 : Int) ^ (w - 1)
  match froundInt f x with
  | none => (0, true)
  | some (.error n) => (if n then lo else hi, true)
  | some (.ok i) => if i > hi then (hi, true) else if i < lo then (lo, true) else (i, false)

/-- A binary64 number as a fixed-point integer: x × 2^k, rounded to nearest even; NaN and infinities give 0. -/
def ffix (x k : Nat) : Int :=
  match funpack fmt64 x with
  | .fin n m e =>
    let e' := e + k
    let q : Nat := if e' ≥ 0 then m * 2 ^ e'.toNat else roundDiv m (2 ^ (-e').toNat)
    if n then -(q : Int) else q
  | _ => 0

end Sys2Proof.Machine
end

