-- ==== Sys2Proof/Machine/Harvest.lean ====
section
/-! DEFINITION. Harvest, the statistics recorder (11): series, samples, closes, windows. -/

namespace Sys2Proof.Machine

/-- Bytes of the region (R314). -/
abbrev regionBytes : Nat := 67108864

/-- Bytes of one record of a series (R314). -/
def recordBytes (bins : Nat) : Nat := (64 + 4 * bins + 15) / 16 * 16

/-- Bytes in use: descriptors, current and closed records (R314). -/
def hvUsed (s : State) : Nat :=
  (s.harvest.series.map fun p => 32 + recordBytes p.2.bins * (1 + p.2.closed.length)).sum

/-- Room one close needs (R323). -/
def closeNeed (s : State) : Nat := (s.harvest.series.map fun p => recordBytes p.2.bins).sum

/-- HV_STATUS.FULL. -/
def hvFull (s : State) : Bool := s.rbit rHvStatus 0

/-- An empty record whose START is an instant (R318). -/
def HvRecord.empty (bins start : Nat) : HvRecord := { bins := List.replicate bins 0, start := start }

/-- FULL clears as soon as the free space holds one close (R324). -/
def unfull (s : State) : State :=
  if hvFull s && decide (closeNeed s ≤ regionBytes - hvUsed s) && !s.harvest.series.any (fun p => decide (65535 ≤ p.2.closed.length)) then
    let s := s.lower rHvStatus 0
    { s with harvest := { s.harvest with closeFrom := s.tai } }
  else s

/-- A written value as f64 (R317). -/
def toF64 (type : Nat) (v : Word64) : Nat :=
  let n := v.toNat
  if type = 0 then fofInt fmt64 (n % 2)
  else if type = 1 then fofInt fmt64 (sInt 32 n)
  else if type = 2 then fofInt fmt64 (n % 2 ^ 32)
  else if type = 3 then fofInt fmt64 (sInt 64 n)
  else if type = 4 then fofInt fmt64 n
  else if type = 5 then fconv fmt32 fmt64 (n % 2 ^ 32)
  else if type = 6 then n
  else fofInt fmt64 (n % 65536)

/-- The bin of a value (R318). -/
def binOf (x : HvSeries) (v : Nat) : Nat :=
  match ffloorInt fmt64 (fdiv fmt64 (fsub fmt64 v x.low.toNat) x.width.toNat) with
  | none => 0
  | some (.error neg) => if neg then 0 else x.bins - 1
  | some (.ok k) => if k < 0 then 0 else if (x.bins : Int) - 1 < k then x.bins - 1 else k.toNat

/-- A counter of a series: at its largest value it stays and the record sticks (R319). -/
def hvBump (v : Nat) : Nat × Bool := stickNat v 1

/-- A sample updates the current record (R318); whether a counter stuck. -/
def recordSample (x : HvSeries) (v t : Nat) : HvSeries × Bool :=
  let r := x.current
  let b := binOf x v
  let nb := hvBump (r.bins.getD b 0)
  let nc := hvBump r.count
  let stuck := nb.2 || nc.2
  let r := { r with
    bins := r.bins.set b nb.1
    count := nc.1
    stuck := r.stuck || stuck
    sum := BitVec.ofNat 64 (fadd fmt64 r.sum.toNat v) }
  let r := if flt fmt64 v r.min.toNat then { r with min := BitVec.ofNat 64 v, minTime := t } else r
  let r := if flt fmt64 r.max.toNat v then { r with max := BitVec.ofNat 64 v, maxTime := t } else r
  ({ x with current := r, seq := (x.seq + 2) % 2 ^ 32 }, stuck)

/-- Replaces a series. -/
def setSeries (s : State) (k : Nat) (x : HvSeries) : State :=
  { s with harvest := { s.harvest with series := tabSet s.harvest.series k x } }

/-- One sample of a linked series at the instant it is recorded (R315 to R319, R323). -/
def settleSample (s : State) (q : HvSample) : State :=
  match tabGet s.harvest.series q.series with
  | none => s
  | some x =>
    if hvFull s then s.stick rHvStopped rHvEvent 6
    else
      let (st, s) := judged s q.pt x.tenant 0 .linkSeries
      if st ≠ stOk then s.stick rHvSkipped rHvEvent 6
      else
        let v := toF64 q.type q.value
        if (q.quality ≠ qGood ∧ q.quality ≠ qSubstituted) ∨ !fisFin fmt64 v then s.stick rHvRejected rHvEvent 6
        else
          let (y, stuck) := recordSample x v q.time
          let s := setSeries s q.series y
          if stuck then s.raise rHvEvent 3 else s

/-- The sample at the front of the queue is recorded; with EN at 0 it is neither recorded nor counted (R320). -/
def takeSample (s : State) : State :=
  match s.harvest.queue with
  | [] => s
  | q :: rest =>
    let s := { s with harvest := { s.harvest with queue := rest } }
    if s.rbit rHvCtrl 0 then settleSample s q else s

/-- Records every queued sample: what a drain does (R332). -/
def drainSamples (s : State) : Nat → State
  | 0 => s
  | n + 1 => drainSamples (takeSample s) n

/-- PF leaves RUN or IDLE abruptly while samples wait: whether the first was being recorded is free; if so its series is left
with an odd sequence, its bin counted and its COUNT not (R332). -/
def tearSample (s : State) : State :=
  match s.harvest.queue with
  | [] => s
  | q :: _ =>
    let (v, s) := s.draw
    match tabGet s.harvest.series q.series with
    | some x =>
      if v % 2 = 0 ∨ !s.rbit rHvCtrl 0 ∨ hvFull s then s
      else
        let b := binOf x (toF64 q.type q.value)
        let bins := x.current.bins.set b (hvBump (x.current.bins.getD b 0)).1
        setSeries s q.series { x with seq := (x.seq + 1) % 2 ^ 32, current := { x.current with bins := bins } }
    | none => s

/-- In BOOT a series found with an odd sequence is marked torn (R332). -/
def tornSeries (s : State) : State :=
  if s.harvest.series.any fun p => p.2.seq % 2 == 1 then
    let s := { s with harvest := { s.harvest with
      series := tabMap (fun _ x =>
        if x.seq % 2 = 1 then { x with seq := (x.seq + 1) % 2 ^ 32, current := { x.current with torn := true } } else x)
        s.harvest.series } }
    s.raise rHvEvent 4
  else s

/-- CLOSE_MINUTES in nanoseconds; values above 1,440 act as 1,440 (Table 11.5). -/
def closeLength (s : State) : Nat := min (s.rfield rHvCtrl 8 11) 1440 * 60 * nsSec

/-- One series closes its current record at a boundary (R321, R328). -/
def closeSeries (x : HvSeries) (boundary : Nat) : HvSeries :=
  { x with
    closed := x.closed ++ [{ x.current with stop := boundary, seq := x.seq }]
    current := HvRecord.empty x.bins boundary
    seq := (x.seq + 2) % 2 ^ 32 }

/-- A close at a boundary, or the region found full (R321, R323). -/
def closeAll (s : State) (boundary : Nat) : State :=
  if regionBytes - hvUsed s < closeNeed s ∨ s.harvest.series.any (fun p => decide (65535 ≤ p.2.closed.length)) then
    ((s.raise rHvStatus 0).raise rHvEvent 0).logEvent lvWarn iPF 2 0 0
  else
    let s := { s with harvest := { s.harvest with
      series := tabMap (fun _ x => closeSeries x boundary) s.harvest.series, lastClose := boundary } }
    let s := s.setReg rHvCloseLo (boundary % 2 ^ 32)
    let s := s.setReg rHvCloseHi (boundary / 2 ^ 32)
    ship (s.raise rHvEvent 1) [shipRecord 0x41 0 [shipItem 0 0 0 0 boundary]]

/-- The close that is due, if the time has reached a boundary later than the previous END (R321, R322). -/
def closeDue (s : State) : Option Nat :=
  let l := closeLength s
  if l = 0 ∨ !s.rbit rHvCtrl 0 ∨ hvFull s then none
  else
    let b := s.tai / l * l
    if max s.harvest.lastClose s.harvest.closeFrom < b then some b else none

/-- DROP_HISTORY: every closed record is discarded (Table 11.2). -/
def dropHistory (s : State) : State :=
  let s := { s with harvest := { s.harvest with series := tabMap (fun _ x => { x with closed := [] }) s.harvest.series } }
  ship (unfull s) [shipRecord 0x41 0 [shipItem 0 1 0 0 0]]

/-- A series leaves the chain of its point (R313). -/
def leaveChain (s : State) (k : Nat) : State :=
  match tabGet s.harvest.series k with
  | none => s
  | some x =>
    if !x.linked then s
    else
      let r := s.point x.pt
      if r.series = k then
        editPoint s x.pt fun s pt =>
          match x.next with
          | some n => s.putPoint pt { s.point pt with series := n }
          | none => s.putPoint pt ({ s.point pt with series := 0 }.setFlag fRecorder false)
      else
        { s with harvest := { s.harvest with
            series := tabMap (fun _ y => if y.linked && y.pt == x.pt && y.next == some k then { y with next := x.next } else y)
              s.harvest.series } }

/-- A series joins the chain of its point at its head (R313). -/
def joinChain (s : State) (k pt : Nat) : State :=
  let r := s.point pt
  let next := if r.flag fRecorder then some r.series else none
  let s := match tabGet s.harvest.series k with
    | some x => setSeries s k { x with linked := true, next := next }
    | none => s
  s.putPoint pt ({ r with series := k }.setFlag fRecorder true)

/-- A series is deleted: unlinked, number and space freed (Table 11.2). -/
def deleteSeries (s : State) (k : Nat) : State :=
  let s := dropSamples (leaveChain s k) k
  unfull { s with harvest := { s.harvest with series := tabDel s.harvest.series k } }

/-- SERIES_DEFINE: status and number (R311, R312). -/
def defineSeries (s : State) (tenant k bins pt low width : Nat) : (Nat × Nat) × State :=
  let free := tabFree s.harvest.series 0 65536
  let number := if k = 0xFFFF then free else some k
  let old := if k = 0xFFFF then none else tabGet s.harvest.series k
  if bins < 1 ∨ 64 < bins ∨ !fisFin fmt64 low ∨ !fisFin fmt64 width ∨ !flt fmt64 0 width then ((stBadArgument, 0), s)
  else if old.any (·.tenant != tenant) then ((stTenantMismatch, 0), s)
  else
    let (st, s) := judged s pt tenant 0 .linkSeries
    if st ≠ stOk then ((st, 0), s)
    else
      let freed := (old.map fun x => 32 + recordBytes x.bins * (1 + x.closed.length)).getD 0
      if regionBytes + freed < hvUsed s + 32 + recordBytes bins then ((stRecorderFull, 0), s)
      else
        match number with
        | none => ((stRecorderFull, 0), s)
        | some n =>
          let s := dropSamples (leaveChain s n) n
          let s := setSeries s n
            { tenant := tenant, pt := pt, bins := bins, low := BitVec.ofNat 64 low, width := BitVec.ofNat 64 width
              linked := false, next := none, current := HvRecord.empty bins s.tai, closed := []
              seq := (old.map fun x => (x.seq + 2) % 2 ^ 32).getD 0 }
          ((stOk, n), unfull (joinChain s n pt))

/-- A series of a tenant, for the actions of Table 11.2. -/
def ownSeries (s : State) (tenant k : Nat) : Option HvSeries :=
  (tabGet s.harvest.series k).filter (·.tenant == tenant)

/-- SERIES_CLEAR (Table 11.2). -/
def clearSeries (s : State) (k : Nat) : State :=
  match tabGet s.harvest.series k with
  | some x =>
    unfull (setSeries s k { x with current := HvRecord.empty x.bins s.tai, closed := [], seq := (x.seq + 2) % 2 ^ 32 })
  | none => s

/-! ## Windows (R326 to R329) -/

/-- The tenant of a window; window 1 serves the partition of Sage core 1. -/
def windowTenant (s : State) (w : Nat) : Nat := if w = 1 then s.mail.partition else s.rfield (rHvWTenant 0) 0 12

/-- The record a window selects: series and record, when the selection is valid (R327). -/
def windowRecord (s : State) (w : Nat) : Option (HvSeries × HvRecord × Nat) :=
  let sel := s.reg (rHvWSel w)
  match ownSeries s (windowTenant s w) (sel % 65536) with
  | some x =>
    let n := sel / 65536
    if n = 0 then some (x, { x.current with seq := x.seq }, 0) else (x.closed[n - 1]?).map fun r => (x, r, n)
  | none => none

/-- Word c of a record (Table 11.1). -/
def windowWord (s : State) (w c : Nat) : Nat :=
  match windowRecord s w with
  | none => 0
  | some (x, r, _) =>
    let half (v : Nat) (i : Nat) : Nat := if i = 0 then v % 2 ^ 32 else v / 2 ^ 32
    if c = 0 then s.reg (rHvWSel w)
    else if c = 1 then
      x.bins + (b2n r.stuck + b2n (hvFull s) * 2 + b2n (!x.linked) * 4 + b2n r.torn * 8) * 256
    else if c = 2 then r.seq
    else if c = 3 then r.count
    else if c < 6 then half r.sum.toNat (c - 4)
    else if c < 8 then half r.min.toNat (c - 6)
    else if c < 10 then half r.minTime (c - 8)
    else if c < 12 then half r.max.toNat (c - 10)
    else if c < 14 then half r.maxTime (c - 12)
    else if c < 16 then half r.start (c - 14)
    else if c < 18 then half r.stop (c - 16)
    else r.bins.getD (c - 18) 0

/-- HV_WSTAT. -/
def windowStat (s : State) (w : Nat) : Nat :=
  match windowRecord s w with
  | some (x, _, _) => 1 + x.closed.length * 65536
  | none => 2

/-- HV_WSEQ. -/
def windowSeq (s : State) (w : Nat) : Nat :=
  match windowRecord s w with
  | some (_, r, _) => r.seq
  | none => 0

/-- A read of HV_WDATA: the word at the cursor, which advances within the record (R329). -/
def windowData (s : State) (w : Nat) : Nat × State :=
  let c := s.rfield (rHvWCur w) 0 7
  let last := match windowRecord s w with
    | some (x, _, _) => 17 + x.bins
    | none => 17
  if last < c then (0, s) else (windowWord s w c, s.setReg (rHvWCur w) (c + 1))

/-- A write of HV_WSEL sets the cursor to word 0 (R327). -/
def windowSelect (s : State) (w v : Nat) : State := (s.setReg (rHvWSel w) v).setReg (rHvWCur w) 0

/-- A write of HV_CTRL; a change of EN or CLOSE_MINUTES leaves boundaries already passed without a close (R321). -/
def hvCtrlWrite (s : State) (v : Nat) : State :=
  let old := s.reg rHvCtrl
  let new := v &&& 0x7FF01
  let s := s.setReg rHvCtrl new
  let s := if old = new then s else { s with harvest := { s.harvest with closeFrom := s.tai } }
  if bitOf v 31 then dropHistory s else s

/-- Each of the four attempts of R329 sees recording change the series: as many of its samples wait to be recorded, one
for each attempt (log 116). -/
def recordingChanges (s : State) (k : Nat) : Bool :=
  s.rbit rHvCtrl 0 && !hvFull s && decide (4 ≤ (s.harvest.queue.filter (·.series == k)).length)

/-- One entry of RECORDER_READ (05 Table 5.8), through window 0 with record 0 (R330). -/
def recorderEntry (s : State) (tenant k : Nat) : List Byte :=
  match ownSeries s tenant k with
  | some x =>
    if recordingChanges s k then leBytes 2 k ++ leBytes 2 stBusy ++ List.replicate 60 0 else
    let r := x.current
    leBytes 2 k ++ leBytes 2 stOk ++ leBytes 1 x.bins ++ leBytes 1 (b2n r.stuck + b2n (hvFull s) * 2) ++ leBytes 2 0 ++
      leBytes 4 x.seq ++ leBytes 4 r.count ++ leBytes 8 r.sum.toNat ++ leBytes 8 r.min.toNat ++ leBytes 8 r.minTime ++
      leBytes 8 r.max.toNat ++ leBytes 8 r.maxTime ++ leBytes 8 0 ++ (r.bins.map (leBytes 4)).flatten
  | none => leBytes 2 k ++ leBytes 2 stTenantMismatch ++ List.replicate 60 0

/-- Whole entries from FIRST to LAST that fit in the bytes left: the entries, their number, and the next series to ask
for (R166; fuel: the series left). -/
def recorderEntries (s : State) (tenant last : Nat) : Nat → Nat → Nat → List (List Byte) × Nat × Nat
  | 0, _, _ => ([], 0, 0xFFFF)
  | f + 1, k, room =>
    let e := recorderEntry s tenant k
    if room < e.length then ([], 0, k)
    else if k = last then ([e], 1, 0xFFFF)
    else
      let (es, n, nx) := recorderEntries s tenant last f (k + 1) (room - e.length)
      (e :: es, n + 1, nx)

end Sys2Proof.Machine
end

