-- ==== Sys2Proof/Machine/Steward.lean ====
section
/-! DEFINITION. Steward's message engine (04; 05 R152 to R159): routes, the checks of Table 4.3, responses, kept
responses, abandoned transfers, and the wrapper through which every Steward command runs. -/

namespace Sys2Proof.Machine

/-! ## Routes -/

/-- A mailbox. -/
def State.box (s : State) (m : Nat) : Mailbox := tabGetD s.mail.boxes m {}

/-- Replaces a mailbox. -/
def State.setBox (s : State) (m : Nat) (x : Mailbox) : State :=
  { s with mail := { s.mail with boxes := tabSet s.mail.boxes m x } }

/-- Replaces a session. -/
def State.setSession (s : State) (n : Nat) (x : Session) : State :=
  { s with mail := { s.mail with sessions := tabSet s.mail.sessions n x } }

/-- Tenant and role of a route (R123, R136, R142). -/
def routeBind (s : State) : Route → Option Bind
  | .mailbox m => (s.box m).bind
  | .session n => (tabGet s.mail.sessions n).map fun x => { tenant := x.tenant, role := x.role }

/-- The tenant of a route; 0xFFF when it is unbound. -/
def routeTenant (s : State) (r : Route) : Nat := ((routeBind s r).map Bind.tenant).getD nobody

/-- The writer id of a route (03 Table 3.7). -/
def routeWriter : Route → Nat
  | .mailbox m => 6 * 2 ^ 28 + m
  | .session n => 6 * 2 ^ 28 + 64 + n

/-- The SESSION field of a route's messages. -/
def routeSession (s : State) : Route → Nat
  | .mailbox _ => 0
  | .session n => ((tabGet s.mail.sessions n).map Session.id).getD 0

/-! ## Commands (Table 5.1) -/

/-- A row of Table 5.1: code, minimum role, marks. -/
structure Cmd where
  code : Nat
  role : Nat
  h : Bool := false
  p : Bool := false
  m : Bool := false
  s : Bool := false
  deriving DecidableEq, Repr

/-- Table 5.1, groups 0x01 to 0x06. -/
def cmdsLow : List Cmd := [
  { code := 0x0101, role := 0 }, { code := 0x0102, role := 3, h := true }, { code := 0x0103, role := 3, h := true, s := true },
  { code := 0x0104, role := 3, h := true },
  { code := 0x0201, role := 0 }, { code := 0x0202, role := 1, s := true }, { code := 0x0203, role := 2, s := true },
  { code := 0x0204, role := 2, s := true }, { code := 0x0205, role := 1, s := true }, { code := 0x0206, role := 1, s := true },
  { code := 0x0207, role := 1, s := true }, { code := 0x0208, role := 1, s := true }, { code := 0x0209, role := 0 },
  { code := 0x020A, role := 2, s := true }, { code := 0x020B, role := 2, s := true }, { code := 0x020C, role := 2, s := true },
  { code := 0x020D, role := 3, h := true, s := true }, { code := 0x020E, role := 0 },
  { code := 0x0301, role := 2, h := true, p := true, m := true, s := true }, { code := 0x0302, role := 0 },
  { code := 0x0303, role := 2, h := true, p := true, s := true }, { code := 0x0304, role := 2, h := true, s := true },
  { code := 0x0305, role := 2, h := true, p := true, s := true },
  { code := 0x0401, role := 2, p := true, m := true, s := true }, { code := 0x0402, role := 1, s := true },
  { code := 0x0403, role := 0 }, { code := 0x0404, role := 2, s := true }, { code := 0x0405, role := 0, m := true },
  { code := 0x0501, role := 0 }, { code := 0x0502, role := 2, h := true, p := true, s := true },
  { code := 0x0503, role := 2, h := true, p := true, m := true, s := true }, { code := 0x0504, role := 2, h := true, s := true },
  { code := 0x0505, role := 2, h := true, s := true }, { code := 0x0506, role := 2, h := true, s := true },
  { code := 0x0507, role := 0 }, { code := 0x0508, role := 0 },
  { code := 0x0601, role := 2, s := true }, { code := 0x0602, role := 2, s := true }, { code := 0x0603, role := 0 },
  { code := 0x0604, role := 1, s := true }, { code := 0x0605, role := 0 } ]

/-- Table 5.1, groups 0x07 to 0x0F. -/
def cmdsHigh : List Cmd := [
  { code := 0x0701, role := 0 }, { code := 0x0702, role := 3, h := true, s := true },
  { code := 0x0703, role := 3, h := true, s := true },
  { code := 0x0801, role := 0 }, { code := 0x0802, role := 3, h := true }, { code := 0x0803, role := 3, h := true },
  { code := 0x0804, role := 3, h := true }, { code := 0x0805, role := 0, h := true }, { code := 0x0806, role := 3, h := true },
  { code := 0x0901, role := 0 }, { code := 0x0902, role := 3, h := true, s := true }, { code := 0x0903, role := 0 },
  { code := 0x0904, role := 3, h := true, m := true, s := true }, { code := 0x0905, role := 2, h := true, s := true },
  { code := 0x0906, role := 2, s := true }, { code := 0x0907, role := 3, h := true, s := true },
  { code := 0x0A01, role := 3, h := true, s := true }, { code := 0x0A02, role := 2, s := true }, { code := 0x0A03, role := 0 },
  { code := 0x0A04, role := 3, h := true, s := true },
  { code := 0x0B01, role := 0 }, { code := 0x0B02, role := 0 }, { code := 0x0B03, role := 3, h := true, p := true },
  { code := 0x0B04, role := 3, h := true, p := true, s := true }, { code := 0x0B05, role := 3, h := true },
  { code := 0x0C01, role := 3, h := true, p := true }, { code := 0x0C02, role := 3, h := true, p := true },
  { code := 0x0C03, role := 3, h := true }, { code := 0x0C04, role := 3, h := true }, { code := 0x0C05, role := 0 },
  { code := 0x0C06, role := 0, p := true }, { code := 0x0C07, role := 3, h := true, p := true }, { code := 0x0C08, role := 1 },
  { code := 0x0C09, role := 1 }, { code := 0x0C0A, role := 2 }, { code := 0x0C0B, role := 2 }, { code := 0x0C0C, role := 2 },
  { code := 0x0D01, role := 3, h := true, p := true }, { code := 0x0D02, role := 3, h := true, p := true, m := true },
  { code := 0x0D03, role := 3, h := true, p := true }, { code := 0x0D04, role := 3, h := true },
  { code := 0x0D05, role := 3, h := true, p := true }, { code := 0x0D06, role := 0 },
  { code := 0x0E01, role := 0 }, { code := 0x0E02, role := 0, h := true }, { code := 0x0E03, role := 3, h := true },
  { code := 0x0E04, role := 3, h := true, s := true }, { code := 0x0E05, role := 3, h := true, p := true },
  { code := 0x0E06, role := 3, h := true, p := true },
  { code := 0x0F01, role := 3, h := true }, { code := 0x0F02, role := 3, h := true } ]

/-- The row of an assigned code (R153). -/
def cmdOf (code : Nat) : Option Cmd := (cmdsLow ++ cmdsHigh).find? (·.code == code)

/-! ## Messages (Table 4.1) -/

/-- A response: header with CHECK over bytes 0 to 23 and the payload, and the payload. -/
def message (command seq status flags session tenant tag : Nat) (payload : List Byte) : List Byte :=
  let h := leBytes 2 command ++ leBytes 2 seq ++ leBytes 2 status ++ leBytes 2 flags ++ leBytes 4 session ++
    leBytes 2 tenant ++ leBytes 2 0 ++ leBytes 4 payload.length ++ leBytes 4 tag
  h ++ leBytes 4 (crcIscsi (h ++ payload)).toNat ++ leBytes 4 0 ++ payload

/-- The SPI addresses of a mailbox's buffers (Table 4.6). -/
def reqBuf (m : Nat) : Nat := m * 0x2000
def respBuf (m : Nat) : Nat := m * 0x2000 + 0x1000

/-- The flag word of a response, REPLAY or not. -/
def respFlags (replay : Bool) : Nat := 1 + b2n replay * 4

/-- A kept response returned again: REPLAY set, CHECK as written (R125). -/
def replayed (p : List Byte) : List Byte :=
  message (fld p 0 2) (fld p 2 2) (fld p 4 2) (respFlags true) (fld p 8 4) (fld p 12 2) (fld p 20 4) (p.drop 32)

/-- A record sent on a session (R141), and the counter's limit. -/
def sealRecord (s : State) (x : Session) (plain : List Byte) : List Byte :=
  let k := tabGetD s.vault.sessKeys x.keys []
  let ctr := leBytes 8 x.txNext
  let nonce := sub k 68 4 ++ ctr
  let aad := leBytes 4 (8 + plain.length + 16) ++ ctr
  let key := leNat (sub k 32 32)
  let c := Config.gcmSeal key nonce aad plain
  ctr ++ padTo plain.length c ++ padTo 16 (Config.gcmTag key nonce aad c)

/-- Releases the claims of a writer that goes away (03 R94). While PF does not run nothing can ask for them (log 112). -/
def dropClaims (s : State) (writer : Nat) : State := releaseAll s writer

/-- Sets an event bit of the mailbox block. -/
def State.mbEvent (s : State) (bit : Nat) : State := s.raise rMbEvent bit

/-! ## Transfers (R127, R158) -/

/-- A change of the update record: copy 0 is written, then copy 1 (19 R520). -/
def Update.commit (u : Update) : Update :=
  let c : UpCopy := { body := { stateA := u.slotA.state, stateB := u.slotB.state, active := u.active, trials := u.trials } }
  { u with copy0 := c, copy1 := c }

/-- The update transfer's inactive slot is marked empty (R168). -/
def abandonUpdate (s : State) : State :=
  let u := s.update
  let u := if u.active then { u with slotA := {} } else { u with slotB := {} }
  { s with update := Update.commit { u with stage := 0 } }.raise rUpEvent 3

/-- An abandoned transfer leaves its staging area empty and has no other effect (R158). -/
def abandonTransfer (s : State) (t : Transfer) : State :=
  let s := { s with mail := { s.mail with transfers := s.mail.transfers.filter (· != t) } }
  if t.command = 0x0D02 then abandonUpdate s else s

/-- Abandons the transfers of a route that a test selects. -/
def abandonWhere (s : State) (r : Route) (f : Transfer → Bool) : State :=
  (s.mail.transfers.filter fun t => t.route == r && f t).foldl abandonTransfer s

/-- The open transfer of a command. -/
def transferOf (s : State) (code : Nat) : Option Transfer := s.mail.transfers.find? (·.command == code)

/-! ## Closing sessions (R144) -/

/-- A session closes: its requests go unanswered, its transfers are abandoned, its claims released, its keys erased. -/
def closeSession (s : State) (n : Nat) : State :=
  match tabGet s.mail.sessions n with
  | none => s
  | some x =>
    let s := abandonWhere s (.session n) fun _ => true
    let s := dropClaims s (routeWriter (.session n))
    let s := { s with
      mail := { s.mail with
        sessions := tabDel s.mail.sessions n
        inProgress := s.mail.inProgress.filter fun q => q.route != Route.session n
        cov := s.mail.cov.filter fun p => p.session != n }
      vault := { s.vault with
        sessKeys := tabDel s.vault.sessKeys x.keys
        statements := s.vault.statements.filter fun a => a.route != Route.session n } }
    s.mbEvent 4

/-- A failed establishment or a dropped record is counted (R139, R141). -/
def sessionFail (s : State) : State := s.stick rMbSessionFail rMbEvent 5

/-! ## Responses (R122, R125, R126, R134) -/

/-- Sends one message on a session and closes it when its counter reaches 2^32 (R141). -/
def sessionSend (s : State) (n : Nat) (p : List Byte) : State :=
  match tabGet s.mail.sessions n with
  | none => s
  | some x =>
    let s := { s with mail := { s.mail with sent := { session := n, body := sealRecord s x p } :: s.mail.sent } }
    let s := s.setSession n { x with txNext := x.txNext + 1 }
    if 2 ^ 32 ≤ x.txNext + 1 then closeSession s n else s

/-- Writes a message to a route: the response buffer with its READY bit, or a record. -/
def putMessage (s : State) (r : Route) (final : Bool) (p : List Byte) : State :=
  let s := s.chkUnit 1 (p.length - 8) (BitVec.ofNat 32 (fld p 24 4)) true
  match r with
  | .mailbox m =>
    let s := { s with mail := { s.mail with buf := memWriteList s.mail.buf (respBuf m) p } }
    (s.setBox m { s.box m with state := if final then .done else .pending }).raise rMbRespReady m
  | .session n => sessionSend s n p

/-- Keeps a request's response: the last of a mailbox, the last eight of a session. -/
def keep (s : State) (r : Route) (k : Kept) : State :=
  match r with
  | .mailbox m => s.setBox m { s.box m with kept := some k }
  | .session n =>
    match tabGet s.mail.sessions n with
    | some x => s.setSession n { x with kept := (k :: x.kept.filter (·.seq != k.seq)).take 8 }
    | none => s

/-- The response message of a request. -/
def responseOf (s : State) (q : Req) (status : Nat) (payload : List Byte) : List Byte :=
  message q.command q.seq status (respFlags false) q.session (routeTenant s q.route) q.tag payload

/-- Answers a request; a status of PENDING leaves it in progress (R122), any other ends it. A request answered BAD_LENGTH
or BAD_CHECK is not kept (R125). A request no longer in progress (its session closed, SAGE out of RUN) goes unanswered. -/
def respond (s : State) (q : Req) (status : Nat) (payload : List Byte) : State :=
  if !s.mail.inProgress.contains q then s else
  let p := responseOf s q status payload
  let fin := status != stPending
  let s := { s with mail := { s.mail with
    inProgress := if fin then s.mail.inProgress.filter (· != q)
      else s.mail.inProgress.map fun x => if x = q then { x with pended := true } else x } }
  let s := if status = stBadLength ∨ status = stBadCheck then s
    else keep s q.route { seq := q.seq, command := q.command, tag := q.tag, response := p }
  putMessage s q.route fin p

/-! ## Admission (Table 4.3) -/

/-- Steward accepts requests. -/
def stewardReady (s : State) : Bool := s.mail.ready && s.running iSAGE

/-- The tenant unbind of R154: MAILBOX_BIND with tenant 0xFFF and no authorisation. -/
def isUnbind (code : Nat) (payload : List Byte) : Bool :=
  code == 0x0102 && payload.length == 8 && fld payload 2 2 == 0xFFF && fld payload 4 2 == 0

/-- Steps 3 to 6 of Table 4.3. -/
def headerStatus (s : State) (r : Route) (p payload : List Byte) : Nat :=
  match cmdOf (fld p 0 2) with
  | none => stBadCommand
  | some c =>
    if fld p 8 4 ≠ routeSession s r ∨ fld p 6 2 / 8 ≠ 0 ∨ bitOf (fld p 6 2) 0 ∨ bitOf (fld p 6 2) 2 ∨
        (bitOf (fld p 6 2) 1 ∧ !c.m) ∨ fld p 4 2 ≠ 0 ∨ bitsOf (fld p 12 2) 12 4 ≠ 0 ∨ fld p 14 2 ≠ 0 ∨ fld p 28 4 ≠ 0 then
      stBadArgument
    else
      match routeBind s r with
      | none => stNotPermitted
      | some b =>
        if fld p 12 2 ≠ b.tenant then stTenantMismatch
        else if isUnbind (fld p 0 2) payload && b.tenant != house then stOk
        else if (c.h && b.tenant != house) || decide (b.role < c.role) then stNotPermitted
        else stOk

/-- The kept responses of a route. -/
def keptOf (s : State) : Route → List Kept
  | .mailbox m => (s.box m).kept.toList
  | .session n => ((tabGet s.mail.sessions n).map Session.kept).getD []

/-- A request with its header p and payload reaches Steward on a route (R121, R125 to R127, R143). `carried` is the
payload length the route carried, which a session compares with LENGTH. A request refused at steps 3 to 6 is not
performed (R121), so it is not kept and leaves what is kept as it was (R125). -/
def letIn (s : State) (r : Route) (p payload : List Byte) (carried : Option Nat) : State :=
  let len := fld p 16 4
  let code := fld p 0 2
  let tag := fld p 20 4
  let seq := fld p 2 2
  let q : Req :=
    { route := r, command := code, seq := seq, tag := tag, session := fld p 8 4, more := bitOf (fld p 6 2) 1
      payload := payload, pended := false }
  let reply (s : State) (status : Nat) : State := putMessage s r true (responseOf s q status [])
  if 4064 < len ∨ (carried.isSome ∧ carried ≠ some len) then reply s stBadLength
  else
    let c := crcIscsi (p.take 24 ++ payload)
    let good := c.toNat == fld p 24 4
    let s := s.chkUnit 0 (24 + len) c good
    if !good then reply ((s.stick rMbBadCheck rMbEvent 5).mbEvent 2) stBadCheck
    else
      match (keptOf s r).find? (·.seq == seq) with
      | some k =>
        if k.command = code ∧ k.tag = tag then
          putMessage s r (fld k.response 4 2 != stPending) (replayed k.response)
        else reply (abandonWhere s r fun t => t.command != code || t.tag != tag) stBadArgument
      | none =>
        -- a session request still in progress has no response to return again (log 32)
        if s.mail.inProgress.any fun x => x.route == r && x.seq == seq && x.command == code && x.tag == tag then s
        else
          let s := abandonWhere s r fun t => t.command != code || t.tag != tag
          let st := headerStatus s r p payload
          if st ≠ stOk then reply s st
          else if 8 ≤ (s.mail.inProgress.filter (·.route == r)).length then reply s stBusy
          else { s with mail := { s.mail with inProgress := s.mail.inProgress ++ [q] } }

/-- Steward takes the request in a mailbox's buffer (R133). -/
def takeMailbox (s : State) (m : Nat) : State :=
  let p := memReadList s.mail.buf (reqBuf m) 4096
  letIn s (.mailbox m) (p.take 32) (sub p 32 (fld p 16 4)) none

/-- Steward takes every waiting doorbell, in order of mailbox number. -/
def takeDoorbells (s : State) : State :=
  (List.range 16).foldl (fun s m =>
    if (s.box m).state == .working && !s.mail.inProgress.any fun q => q.route == .mailbox m then takeMailbox s m else s) s

/-! ## The wrapper of the Steward commands -/

/-- Status and response payload of a command, with the state after. -/
abbrev Ans := (Nat × List Byte) × State

/-- A command that ends with a status alone. -/
def done (st : Nat) (s : State) : Ans := ((st, []), s)

/-- The request of a route and tag that waits for a command. -/
def findReq (s : State) (code : Nat) (r : Route) (tag : Nat) : Option Req :=
  s.mail.inProgress.find? fun q => q.route == r && q.tag == tag && q.command == code && !q.pended

/-- Whether the module holds the standby role (R155). -/
def onStandby (s : State) : Bool := s.twin.role == .standby

/-- Steward performs a request of Table 5.1 that has passed steps 1 to 6. Without such a request nothing happens. -/
def serve (code : Nat) (s : State) (r : Route) (tag : Nat) (f : Req → State → Ans) : State :=
  if !stewardReady s then s
  else
    match findReq s code r tag, cmdOf code with
    | some q, some c =>
      let a := if c.s && onStandby s then done stNotActive s else f q s
      respond a.2 q a.1.1 a.1.2
    | _, _ => s

/-- A command's work inside an island, one crossing from Sage core 0 (R157). -/
def toIsland (s : State) (dst : Nat) (f : State → Ans) : Ans :=
  crossing s iSAGE dst 1 (fun st => (st, [])) (·.1) f

/-- The pended request of a command, to be completed. -/
def pendedReq (s : State) (code : Nat) : Option Req := s.mail.inProgress.find? fun q => q.command == code && q.pended

/-- Completes the pended request of a command (R122). -/
def complete_ (s : State) (code status : Nat) (payload : List Byte) : State :=
  match pendedReq s code with
  | some q => respond s q status payload
  | none => s

/-! ## Lists of entries (R156) -/

/-- Cuts n entries of k bytes from an offset. -/
def entriesAt (p : List Byte) (off k : Nat) : Nat → List (List Byte)
  | 0 => []
  | n + 1 => sub p off k :: entriesAt p (off + k) k n

/-- Performs entries in order; each answers a status, and bytes of its result. -/
def eachEntry (s : State) (es : List (List Byte)) (f : List Byte → State → (Nat × List Byte) × State) :
    List (Nat × List Byte) × State :=
  es.foldl (fun (a : List (Nat × List Byte) × State) e =>
    let r := f e a.2
    (a.1 ++ [r.1], r.2)) ([], s)

/-- Entries whose status is not OK. -/
def failedCount (rs : List (Nat × List Byte)) : Nat := (rs.filter (·.1 != stOk)).length

/-- The response of a list: N, FAILED, 0, and the entries. -/
def listResponse (rs : List (Nat × List Byte)) : List Byte :=
  leBytes 2 rs.length ++ leBytes 2 (failedCount rs) ++ leBytes 4 0 ++ (rs.map Prod.snd).flatten

/-- The entries of a list that were performed. -/
def performedEntries (es : List (List Byte)) (rs : List (Nat × List Byte)) : List (List Byte) :=
  ((es.zip rs).filter fun x => x.2.1 == stOk).map Prod.fst

/-- A list command ships the entries performed, in the layout of its payload, whose bytes before them a count gives; none
performed, none shipped (16 R459: the accepted payload). -/
def shipList (s : State) (code : Nat) (head : Nat → List Byte) (es : List (List Byte)) : State :=
  if es.isEmpty then s else shipConfig s code (head es.length ++ es.flatten)

/-- An entry of the shape of POINT_DEFINE's response. -/
def keyEntry (key status : Nat) : List Byte := leBytes 4 key ++ leBytes 2 status ++ leBytes 2 0

/-! ## MORE transfers (R158) -/

/-- The verdict of R158 on one request: its offset, total and data are those of the layout. -/
inductive Part where
  | refused (status : Nat)
  | more (t : Transfer)
  | whole (t : Transfer)
  deriving DecidableEq, Repr

/-- Judges a request of a command that carries data to the module. -/
def transferPart (s : State) (q : Req) (offset total check : Nat) (data : List Byte) : Part :=
  let bad : Part := .refused stBadArgument
  let finish (t : Transfer) : Part :=
    if total < t.received then bad
    else if t.received = total then (if q.more then bad else .whole t)
    else if q.more then .more t else bad
  match transferOf s q.command with
  | some t =>
    if t.route ≠ q.route then (if offset = 0 then .refused stBusy else bad)
    else if t.tag ≠ q.tag then bad
    else if offset ≠ t.received ∨ total ≠ t.total ∨ check ≠ t.check then bad
    else finish { t with data := t.data ++ data, received := t.received + data.length, last := s.now }
  | none =>
    if offset ≠ 0 then bad
    else finish
      { command := q.command, route := q.route, tag := q.tag, total := total, data := data, received := data.length
        last := s.now, check := check }

/-- Keeps an open transfer, or ends it. -/
def putTransfer (s : State) (t : Transfer) : State :=
  { s with mail := { s.mail with transfers := s.mail.transfers.filter (·.command != t.command) ++ [t] } }
def endTransfer (s : State) (code : Nat) : State :=
  { s with mail := { s.mail with transfers := s.mail.transfers.filter (·.command != code) } }

/-- HOST_IRQ_N is asserted (R135, R150). -/
def hostIrq (s : State) : Bool :=
  s.running iSAGE && s.rbit rMbCtrl 0 &&
    ((s.reg rMbRespReady % 65536 &&& s.reg rMbIrqEn % 65536) != 0 || (s.reg rMbEvent != 0 && s.rbit rMbIrqEn 16))

end Sys2Proof.Machine
end

