-- ==== Sys2Proof/Machine/Jiosh.lean ====
section
/-! DEFINITION. Jiosh point frames, device tables and ring tables (03 R110 to R118; 16 R448 to R450). A frame is the
bytes from the Jiosh header on. -/

namespace Sys2Proof.Machine

/-! ## The frame (Tables 3.9 to 3.12) -/

/-- Kinds of Table 3.10. -/
abbrev jkReport : Nat := 0
abbrev jkCommand : Nat := 1
abbrev jkAnnounce : Nat := 2
abbrev jkAssign : Nat := 3
abbrev jkAck : Nat := 4
abbrev jkPeer : Nat := 6

/-- Fields of the header. -/
def jVersion (p : List Byte) : Nat := bitsOf (fld p 0 1) 0 4
def jKind (p : List Byte) : Nat := bitsOf (fld p 0 1) 4 4
def jFlags (p : List Byte) : Nat := fld p 1 1
def jDst (p : List Byte) : Nat := fld p 2 2
def jSrc (p : List Byte) : Nat := fld p 4 2
def jSeq (p : List Byte) : Nat := fld p 6 2
def jTenant (p : List Byte) : Nat := bitsOf (fld p 8 2) 0 12
def jCount (p : List Byte) : Nat := fld p 10 2
def jHops (p : List Byte) : Nat := fld p 12 1
def jBase (p : List Byte) : Nat := fld p 16 8

/-- Entry i. -/
def jEntry (p : List Byte) (i : Nat) : List Byte := sub p (24 + 16 * i) 16

/-- The entries of a frame. -/
def jEntries (p : List Byte) : List (List Byte) := (List.range (jCount p)).map (jEntry p)

/-- Header and entries with HOPS taken as 0: what the check value covers (R110). -/
def jCovered (p : List Byte) : List Byte := overlay (p.take (24 + 16 * jCount p)) 12 [0]

/-- The frame is long enough for its entries, of version 1, with at most 92 entries. -/
def jFormed (p : List Byte) : Bool :=
  jVersion p == 1 && decide (jCount p ≤ 92) && decide (28 + 16 * jCount p ≤ p.length)

/-- Counts a dropped frame or entry (Table 3.24). -/
def jDrop (s : State) : State := (s.stick rPfJioshDrop rPfEvent 4).raise rPfEvent 3

/-- A source address under which R113 keeps the last accepted sequence: a field address of a port, or a ring sender. -/
inductive JSource where
  | field (port src : Nat)
  | ring (sender : Nat)
  deriving DecidableEq, Repr

/-- Key of a source and kind. -/
def jKey (k : Nat) : JSource → Nat
  | .field p a => (p * 1024 + a % 1024) * 16 + k
  | .ring m => (2 ^ 20 + m) * 16 + k

/-- Whether a sequence is newer than the last accepted (R113). -/
def jNewer (last : Option Nat) (seq : Nat) : Bool :=
  match last with
  | none => true
  | some l =>
    let d := (seq + 65536 - l) % 65536
    decide (1 ≤ d) && decide (d ≤ 32767)

/-- The acceptance of R113: whether the frame is accepted, and whether it was a duplicate. -/
structure JVerdict where
  accepted : Bool
  duplicate : Bool
  deriving DecidableEq, Repr

/-- Judges a received frame: form and check value on check channel 7, then its sequence (R110, R113). -/
def jAccept (s : State) (src : JSource) (p : List Byte) : JVerdict × State :=
  if !jFormed p then ({ accepted := false, duplicate := false }, jDrop s)
  else
    let c := crcIscsi (jCovered p)
    let good := c.toNat == fld p (24 + 16 * jCount p) 4
    let s := s.chkUnit 7 (24 + 16 * jCount p) c good
    if !good then ({ accepted := false, duplicate := false }, jDrop s)
    else
      let key := jKey (jKind p) src
      if jNewer (tabGet s.fabric.jioshSeq key) (jSeq p) then
        ({ accepted := true, duplicate := false },
          { s with fabric := { s.fabric with jioshSeq := tabSet s.fabric.jioshSeq key (jSeq p) } })
      else ({ accepted := false, duplicate := true }, s.stick rPfJioshDup rPfEvent 4)

/-! ## Sending -/

/-- A Jiosh frame from its header on, sealed. -/
def jFrame (kind flags dst seq tenant base : Nat) (entries : List (List Byte)) : List Byte :=
  let h := leBytes 1 (1 + kind * 16) ++ leBytes 1 flags ++ leBytes 2 dst ++ leBytes 2 0 ++ leBytes 2 seq ++
    leBytes 2 tenant ++ leBytes 2 entries.length ++ leBytes 4 0 ++ leBytes 8 base
  let p := h ++ entries.flatten
  p ++ leBytes 4 (crcIscsi p).toNat

/-- One entry (Table 3.11). -/
def jMake (point type quality offset : Nat) (value : Word64) : List Byte :=
  leBytes 4 (point + type * 2 ^ 28) ++ leBytes 1 quality ++ leBytes 1 0 ++ leBytes 2 offset ++ leBytes 8 value.toNat

/-- Counts the unit of check channel 6. -/
def jSentUnit (s : State) (p : List Byte) : State :=
  s.chkUnit 6 (p.length - 4) (BitVec.ofNat 32 (fld p (p.length - 4) 4)) true

/-- Takes the next SEQ of a port and kind. -/
def jTakeSeq (s : State) (port kind : Nat) : Nat × State :=
  let k := port * 16 + kind
  let q := tabGetD s.fabric.jioshTx k 0
  (q, { s with fabric := { s.fabric with jioshTx := tabSet s.fabric.jioshTx k ((q + 1) % 65536) } })

/-- Queues a frame on a field port; its Ethernet destination is not given by the manual (log 26). -/
def jPut (s : State) (port : Nat) (p : List Byte) : State :=
  let (d, s) := s.draw
  enqueue s port (s.port port).cfg.jioshClass (ethFrame (d % 2 ^ 48) (ownMac s port) (s.rfield rPfJiosh 0 16) p)

/-- The Ethernet frame that carries a Jiosh frame in RELAY_DOWN or RELAY_UP (16 Table 16.11). -/
def jRelayBody (s : State) (port : Nat) (p : List Byte) : List Byte :=
  let e := ethFrame (Config.freeNat 1 % 2 ^ 48) (ownMac s port) (s.rfield rPfJiosh 0 16) p
  leBytes 1 port ++ leBytes 1 0 ++ leBytes 2 e.length ++ e

/-- A frame relayed, either way, is counted (16 R448, R460). -/
def State.countRelayed (s : State) : State :=
  let n := stickNat s.twin.health.relayed 1
  let s := { s with twin := { s.twin with health := { s.twin.health with relayed := n.1 } } }
  (if n.2 then s.raise rTwEvent 8 else s).stick rTwRelayed rTwEvent 8

/-- The partner stands ready to relay. -/
def relayReady (s : State) : Bool := s.twin.role == .active && s.twin.partner == 2

/-- A device's REPORTs reach the active only by relay for three refresh periods (16 R449). -/
def byRelay (s : State) (d : Device) : Bool :=
  relayReady s &&
    decide (tabGetD s.twin.direct (d.port * 1024 + d.address) 0 + 3 * d.refresh * nsMs ≤ s.now) &&
    decide (tabGetD s.twin.direct (d.port * 1024 + d.address) 0 < d.heard)

/-- The chain of a port is split (16 R449). -/
def splitChain (s : State) (port : Nat) : Bool :=
  relayReady s && ((s.port port).link != .up || s.fabric.devices.any fun d => d.port == port && byRelay s d)

/-- Sends a frame to a field address: directly, by relay, or both ways for all devices (16 R449). -/
def jSend (s : State) (port kind dst base : Nat) (entries : List (List Byte)) (flags : Nat := 0) : State :=
  let (q, s) := jTakeSeq s port kind
  let p := jFrame kind flags dst q 0 base entries
  let s := jSentUnit s p
  let far := s.fabric.devices.any fun d => d.port == port && d.address == dst && byRelay s d
  let relay := splitChain s port && (far || dst == 0x3FF || (s.port port).link != .up)
  let s := if relay then
      (twinSend s 0x20 (jRelayBody s port p)).countRelayed
    else s
  if far || (relay && dst != 0x3FF) then s else jPut s port p

/-- An ACK for a frame that asked for one: SEQ echoes the sequence (Table 3.10; log 36). A standby and a silent module
send none. -/
def jAckFor (s : State) (port : Nat) (p : List Byte) : State :=
  if bitOf (jFlags p) 0 && (s.controls || s.twin.role == .holding) then
    let a := jFrame jkAck 0 (jSrc p) (jSeq p) 0 0 []
    jPut (jSentUnit s a) port a
  else s

/-! ## Devices (R112, R114, R117) -/

/-- The device of a port that a test selects. -/
def deviceAt (s : State) (port : Nat) (f : Device → Bool) : Option Device :=
  s.fabric.devices.find? fun d => d.port == port && f d

/-- Replaces the entry of a port and serial, at the end when it is new. -/
def putDevice (s : State) (d : Device) : State :=
  let ds := s.fabric.devices
  let ds := if ds.any fun x => x.port == d.port && x.serial == d.serial then
      ds.map fun x => if x.port == d.port && x.serial == d.serial then d else x
    else ds ++ [d]
  { s with fabric := { s.fabric with devices := ds } }

/-- The defined identifiers of a range, rising. -/
def definedFrom (s : State) (base count : Nat) : List Nat :=
  (tabKeys s.fabric.store).filter fun pt => decide (base ≤ pt) && decide (pt < base + count)

/-- The fabric marks a device's points with a quality (R114). -/
def markDevice (s : State) (d : Device) (quality : Nat) : State :=
  (definedFrom s d.base d.count).foldl (fun s pt => fabQuality s pt quality) s

/-- A device's points change their writer id with its address. -/
def reclaim (s : State) (d : Device) (writer : Nat) : State :=
  (definedFrom s d.base d.count).foldl
    (fun s pt => if holdsClaim s pt (deviceWriter d.port d.address) then editPoint s pt fun s pt => claimPoint s pt writer else s) s

/-- A device entry in the layout of Table 3.26; as it is shipped, its last bytes carry the address (log 111). -/
def deviceEntry (d : Device) (op : Nat) : List Byte :=
  leBytes 8 d.serial ++ leBytes 1 op ++ leBytes 3 0 ++ leBytes 2 d.tenant ++ leBytes 2 d.count ++ leBytes 4 d.base ++
    leBytes 4 d.refresh ++ leBytes 4 0 ++ leBytes 4 d.address

/-- The bytes of a DEVICE_TABLE payload before its entries. -/
def deviceHead (port n : Nat) : List Byte := leBytes 1 port ++ leBytes 1 0 ++ leBytes 2 n

/-- The module answers with ASSIGN: the device takes an address (R112). Another bound device that holds the same address keeps
it, and REPORTs go to the first of the table (log 111). -/
def assignDevice (s : State) (d : Device) (address : Nat) : State :=
  let s := reclaim s d (deviceWriter d.port address)
  let d := { d with address := address }
  let s := shipConfig (putDevice s d) 0x0905 (deviceHead d.port 1 ++ deviceEntry d 0)
  if s.acts then
    let (t, s) := s.draw
    jSend s d.port jkAssign 0x3FE (t % 2 ^ 64) [jMake address 4 qGood 0 (BitVec.ofNat 64 d.serial)]
  else s

/-- The lowest run of identifiers in a range that no bound device uses (R117). -/
def freeRun (s : State) (base range count : Nat) : Option Nat :=
  let starts := base :: s.fabric.devices.map fun d => d.base + d.count
  let ok := starts.filter fun c =>
    decide (base ≤ c) && decide (c + count ≤ base + range) &&
      !s.fabric.devices.any fun d => rangesMeet c count d.base d.count
  match ok with
  | [] => none
  | c :: cs => some (cs.foldl min c)

/-- An ANNOUNCE enrols its serial (R112, R117); without a free run the device stays unaddressed and R109 applies. It defines
no points, and claims those defined already; the CODE of its log entry is free (log 111). -/
def enrolDevice (s : State) (port serial count : Nat) (e : Enrol) : Option Device × State :=
  if 512 ≤ (s.fabric.devices.filter (·.port == port)).length then (none, storeFull s)
  else
    match freeRun s e.base e.range count with
    | none => (none, storeFull s)
    | some b =>
      let d : Device :=
        { port := port, serial := serial, tenant := e.tenant, address := 0, base := b, count := count
          refresh := e.refresh, heard := s.now, stale := false, absent := false }
      let s := putDevice s d
      let s := (definedFrom s b count).foldl (fun s pt => claimFree s pt (deviceWriter port 0)) s
      let (c, s) := s.draw
      (some d, s.logEvent lvInfo iPF 1 (c % 256) (serial % 2 ^ 32))

/-- The address an ANNOUNCE leads to: HOPS + 1, or N − HOPS for one that arrived by relay in a split chain (R112,
16 R450). -/
def announceAddress (s : State) (port hops : Nat) (relayed : Bool) : Option Nat :=
  if relayed then
    let n := (s.fabric.devices.filter (·.port == port)).foldl (fun m d => max m d.address) 0
    if hops < n then some (n - hops) else none
  else if hops + 1 ≤ 0x200 then some (hops + 1) else none

/-- An accepted ANNOUNCE (R112, R117, 16 R450). One that leads to no address, and one of an unknown serial where enrolment is
off, are counted in PF_JIOSH_DROP (log 111). -/
def doAnnounce (s : State) (port : Nat) (p : List Byte) (relayed : Bool) : State :=
  let e := jEntry p 0
  let serial := fld e 8 8
  let count := bitsOf (fld e 0 4) 0 12
  if jCount p ≠ 1 ∨ bitsOf (fld e 0 4) 28 4 ≠ 4 ∨ serial = 0 ∨ (relayed ∧ !splitChain s port) then jDrop s
  else
    match announceAddress s port (jHops p) relayed with
    | none => jDrop s
    | some a =>
      if relayed && s.fabric.devices.any (fun d => d.port == port && d.address == a && d.serial != serial) then jDrop s
      else
        match deviceAt s port (·.serial == serial) with
        | some d => assignDevice s d a
        | none =>
          match tabGet s.fabric.enrol port with
          | none => jDrop s
          | some en =>
            if count = 0 then jDrop s
            else
              match enrolDevice s port serial count en with
              | (some d, s) => assignDevice s d a
              | (none, s) => s

/-- One entry of an accepted REPORT (R112, R113). -/
def reportEntry (s : State) (d : Device) (base : Nat) (e : List Byte) : State :=
  let w := fld e 0 4
  if bitsOf w 12 16 ≠ 0 ∨ d.count ≤ bitsOf w 0 12 ∨ fld e 5 1 ≠ 0 then jDrop s
  else
    let time := if base = 0 then 0 else base + 1000 * fld e 6 2
    let (st, s) := fabWrite s d.tenant (deviceWriter d.port d.address) (d.base + bitsOf w 0 12) (bitsOf w 28 4)
      (fld e 4 1) (BitVec.ofNat 64 (fld e 8 8)) time
    if st = stOk then s else jDrop s

/-- An accepted REPORT (R113, R114). -/
def doReport (s : State) (d : Device) (p : List Byte) : State :=
  let d := { d with heard := s.now, stale := false, absent := false }
  (jEntries p).foldl (fun s e => reportEntry s d (jBase p) e) (putDevice s d)

/-- The standby relays a frame it accepts on a field port to the active (16 R448). -/
def relayUp (s : State) (port : Nat) (p : List Byte) : State :=
  if s.twin.role == .standby then (twinSend s 0x21 (jRelayBody s port p)).countRelayed else s

/-- A REPORT that came directly is noted, first copy or second (16 R449). -/
def noteDirect (s : State) (port src : Nat) (relayed : Bool) : State :=
  if relayed then s
  else { s with twin := { s.twin with direct := tabSet s.twin.direct (port * 1024 + src) s.now } }

/-- A field address a device sends from and one the module takes (Table 3.12). -/
def fieldAddressed (p : List Byte) : Bool :=
  (jDst p == 0 || jDst p == 0x3FF) && decide (1 ≤ jSrc p) && (decide (jSrc p ≤ 0x200) || jSrc p == 0x3FE)

/-- A Jiosh frame at a field port reaches the fabric, directly or by relay (R110 to R114). A standby's port is the B end of its
chain (16 R448), where an ANNOUNCE has no answer (R112). -/
def jField (s : State) (port : Nat) (p : List Byte) (relayed : Bool) : State :=
  if !s.running iPF then s
  else if jFormed p && (!fieldAddressed p || (jKind p != jkReport && jKind p != jkAnnounce && jKind p != jkAck) ||
      (jSrc p == 0x3FE) != (jKind p == jkAnnounce)) then jDrop s
  else
    let (v, s) := jAccept s (.field port (jSrc p)) p
    if !v.accepted && !v.duplicate then s
    else
      let s := if jKind p = jkReport then noteDirect s port (jSrc p) relayed else s
      if v.duplicate then s
      else
        let s := jAckFor (if relayed then s else relayUp s port p) port p
        if jKind p = jkReport then
          match deviceAt s port (·.address == jSrc p) with
          | some d => doReport s d p
          | none => jDrop s
        else if jKind p = jkAnnounce ∧ s.twin.role ≠ .standby then doAnnounce s port p relayed
        else s

/-- A field port that hears: FLD runs, the link is up. -/
def fieldOpen (s : State) (port : Nat) : Bool :=
  decide (4 ≤ port) && decide (port < 20) && s.running iFLD && (s.port port).link == .up

/-- A frame of one kind at a field port. -/
def jArrive (s : State) (port kind : Nat) (p : List Byte) : State :=
  if fieldOpen s port && jKind p == kind then jField s port p false else s

/-- Both ends of a chain report link down: the port's own, and no partner that could report the other (log 36). -/
def bothEndsDown (s : State) (port : Nat) : Bool :=
  (s.port port).link != .up && !(relayReady s && (s.port 2).link == .up)

/-- A device has been silent for a number of refresh periods (R114). -/
def silentFor (s : State) (d : Device) (n : Nat) : Bool := decide (d.heard + n * d.refresh * nsMs ≤ s.now)

/-- A bound device becomes STALE (R114). -/
def deviceStale (s : State) (port serial : Nat) : State :=
  match deviceAt s port (·.serial == serial) with
  | some d =>
    if s.running iPF && !d.stale && !d.absent && silentFor s d 3 then
      (markDevice (putDevice s { d with stale := true }) d qStale).raise rPfEvent 5
    else s
  | none => s

/-- A bound device becomes ABSENT (R114). -/
def deviceAbsent (s : State) (port serial : Nat) : State :=
  match deviceAt s port (·.serial == serial) with
  | some d =>
    if s.running iPF && !d.absent && (silentFor s d 10 || bothEndsDown s port) then
      (markDevice (putDevice s { d with stale := true, absent := true }) d qAbsent).raise rPfEvent 6
    else s
  | none => s

/-- Frames of entries, at most 92 each, MORE set on all but the last. -/
def jSendAll (s : State) (port kind dst base : Nat) : List (List (List Byte)) → State
  | [] => s
  | [es] => jSend s port kind dst base es
  | es :: rest => jSendAll (jSend s port kind dst base es 2) port kind dst base rest

/-- Cuts a list into groups of n (fuel k). -/
def groupsOf {α : Type} (n : Nat) : Nat → List α → List (List α)
  | 0, _ => []
  | k + 1, p => if p.isEmpty then [] else p.take n :: groupsOf n k (p.drop n)

/-- A bound device is sent a COMMAND frame with all its output points, the defined ones it does not write itself
(16 Table 16.8 step 4; log 36). -/
def commandDevice (s : State) (d : Device) : State :=
  let pts := (definedFrom s d.base d.count).filter fun pt => !holdsClaim s pt (deviceWriter d.port d.address)
  let es := pts.map fun pt =>
    let r := readValue s pt
    jMake (pt - d.base) r.type r.quality 0 r.value
  let (t, s) := s.draw
  jSendAll s d.port jkCommand d.address (t % 2 ^ 64) (groupsOf 92 64 es)

/-- Every bound field device with an address is sent its COMMAND frames. The module sends them as it becomes ACTIVE, the one
instant the manual gives (16 Table 16.8 step 4); 01 Table 1.2 gives no other, and none for REQUEST (log 36). -/
def commandAll (s : State) : State :=
  (s.fabric.devices.filter (·.address != 0)).foldl (fun s d => if s.acts then commandDevice s d else s) s

/-! ## The ring (R115, R118) -/

/-- One entry of an accepted PEER frame: performed on every local point whose import names it (R115, R118). -/
def peerEntry (s : State) (sender tenant base : Nat) (e : List Byte) : State :=
  let w := fld e 0 4
  let is := s.fabric.imports.filter fun p => p.2.sender == sender && p.2.remote == bitsOf w 0 25
  if bitsOf w 25 3 ≠ 0 ∨ fld e 5 1 ≠ 0 ∨ is.isEmpty then jDrop s
  else
    let time := if base = 0 then 0 else base + 1000 * fld e 6 2
    is.foldl (fun s p =>
      if (s.point p.2.localPt).owner ≠ tenant then jDrop s
      else
        let (st, s) := fabWrite s tenant (8 * 2 ^ 28 + p.1) p.2.localPt (bitsOf w 28 4) (fld e 4 1)
          (BitVec.ofNat 64 (fld e 8 8)) time
        if st = stOk then s else jDrop s) s

/-- A PEER frame at a ring port (R115). -/
def jRing (s : State) (sender : Nat) (secured : Bool) (p : List Byte) : State :=
  if !s.running iPF then s
  else if !secured && !s.rbit rPfCtrl 1 then jDrop s
  else if jFormed p && jKind p != jkPeer then jDrop s
  else
    let (v, s) := jAccept s (.ring sender) p
    if v.accepted then (jEntries p).foldl (fun s e => peerEntry s sender (jTenant p) (jBase p) e) s else s

/-- Sends one PEER frame on the ring. -/
def peerSend (s : State) (dest tenant : Nat) (es : List (List Byte)) : State :=
  let (q, s) := jTakeSeq s 0 jkPeer
  let (t, s) := s.draw
  let p := jFrame jkPeer 0 0 q tenant (t % 2 ^ 64) es
  ringSend (jSentUnit s p) (s.port 0).cfg.jioshClass (ethFrame dest (ownMac s 0) (s.rfield rPfJiosh 0 16) p)

/-- The multiple of PERIOD reached. -/
def exportDue (s : State) (e : ExportEntry) : Nat := s.tai / (e.period * nsMs) * (e.period * nsMs)

/-- Export entries that share frames: one tenant, destination and period. -/
def exportSame (a b : ExportEntry) : Bool := a.tenant == b.tenant && a.dest == b.dest && a.period == b.period

/-- Sends the frames of one group of export entries: points their tenant may read. -/
def exportGroup (s : State) (k : ExportEntry) (g : List ExportEntry) : State :=
  let (es, s) := g.foldl (fun (a : List (List Byte) × State) e =>
    let (r, s) := fabRead a.2 e.tenant e.pt
    if r.status = stOk then (a.1 ++ [jMake e.pt r.type r.quality 0 r.value], s) else (a.1, s)) ([], s)
  (groupsOf 92 1024 es).foldl (fun s es => peerSend s k.dest k.tenant es) s

/-- Sends groups until none is left (fuel: the entries). -/
def exportGroups (s : State) : Nat → List ExportEntry → State
  | 0, _ => s
  | _, [] => s
  | n + 1, k :: rest =>
    exportGroups (exportGroup s k (k :: rest.filter (exportSame k))) n (rest.filter fun e => !exportSame k e)

/-- Every export entry whose PERIOD has come is sent (R115, R118); the standby sends none. -/
def exportSend (s : State) : State :=
  if !s.running iPF || s.shadow then s
  else
    let due := s.fabric.exports.filter fun p => exportDue s p.2 != p.2.sentAt
    let s1 : State := { s with fabric := { s.fabric with
      exports := tabMap (fun _ e => { e with sentAt := exportDue s e }) s.fabric.exports } }
    exportGroups s1 due.length (tabVals due)

/-! ## DEVICE_TABLE and RING_TABLES (R116 to R118) -/

/-- Every identifier of a range lies in a slice of a tenant, the system range being house's (R87): slices do not overlap, so
their parts add up. -/
def withinSlices (s : State) (tenant base count : Nat) : Bool :=
  let part (lo n : Nat) : Nat := min (base + count) (lo + n) - max base lo
  count == (if tenant = house then part 0 firstAssignable else 0) +
    ((s.fabric.slices.filter fun p => p.2.tenant == tenant).map fun p => part p.2.base p.2.count).sum

/-- An identifier is one of a device's. -/
def Device.has (d : Device) (pt : Nat) : Bool := decide (d.base ≤ pt) && decide (pt < d.base + d.count)

/-- Releases the claims of a device on its points (R117). -/
def unclaimDevice (s : State) (d : Device) : State :=
  (definedFrom s d.base d.count).foldl (fun s pt => releaseHeld s pt (deviceWriter d.port d.address)) s

/-- The fields of a device table entry keep their ranges (Table 3.26), whatever its OP (log 111). -/
def deviceFieldsOk (e : List Byte) : Bool :=
  let count := fld e 14 2
  let range := fld e 24 4
  allZero (sub e 9 3) && allZero (sub e 28 4) && decide (fld e 8 1 < 2) && decide (fld e 12 2 < nobody) &&
    decide (fld e 16 4 < pointCount) && decide (10 ≤ fld e 20 4) && decide (fld e 20 4 ≤ 60000) &&
    (if fld e 0 8 = 0 then count == 0 && range != 0 else decide (1 ≤ count) && decide (count ≤ 4095) && range == 0)

/-- A defined point among the identifiers of a bind is claimed by another writer than the device bound before. -/
def bindLocked (s : State) (old : Option Device) (base count : Nat) : Bool :=
  (definedFrom s base count).any fun pt =>
    (s.point pt).flag fLocked && !s.failedPt pt &&
      !old.any fun d => d.has pt && holdsClaim s pt (deviceWriter d.port d.address)

/-- A device is bound: its entry replaces that of its serial, and its defined points are claimed (R117). -/
def bindDevice (s : State) (old : Option Device) (d : Device) : State :=
  let s := match old with
    | some x => unclaimDevice s x
    | none => s
  (definedFrom s d.base d.count).foldl (fun s pt => claimFree s pt (deviceWriter d.port d.address)) (putDevice s d)

/-- One entry of DEVICE_TABLE (R116, R117). -/
def deviceTableEntry (s : State) (port : Nat) (e : List Byte) : Nat × State :=
  let serial := fld e 0 8
  let op := fld e 8 1
  let tenant := fld e 12 2
  let count := fld e 14 2
  let base := fld e 16 4
  let refresh := fld e 20 4
  let range := fld e 24 4
  let old := deviceAt s port (·.serial == serial)
  if !deviceFieldsOk e ∨ (serial ≠ 0 ∧ op = 1 ∧ old.isNone) then (stBadArgument, s)
  else if !withinSlices s tenant base (if serial = 0 then range else count) then (stTenantMismatch, s)
  else if serial = 0 then
    let enrol := if op = 1 then tabDel s.fabric.enrol port
      else tabSet s.fabric.enrol port { tenant := tenant, base := base, range := range, refresh := refresh }
    (stOk, { s with fabric := { s.fabric with enrol := enrol } })
  else if op = 1 then
    let s := match old with
      | some d => unclaimDevice s d
      | none => s
    (stOk, { s with fabric := { s.fabric with
      devices := s.fabric.devices.filter fun x => !(x.port == port && x.serial == serial) } })
  else
    let s := (definedFrom s base count).foldl loadPoint s
    if bindLocked s old base count then (stWriterLocked, s)
    else if old.isNone ∧ 512 ≤ (s.fabric.devices.filter (·.port == port)).length then (stStoreFull, storeFull s)
    else
      (stOk, bindDevice s old
        { port := port, serial := serial, tenant := tenant, address := (old.map (·.address)).getD 0, base := base, count := count
          refresh := refresh, heard := s.now, stale := false, absent := false })

/-- The writer id of an import entry (Table 3.7). -/
def importWriter (i : Nat) : Nat := 8 * 2 ^ 28 + i

/-- A defined point belongs to a tenant; that of a failed record is its slice's (R105). -/
def owns (s : State) (tenant pt : Nat) : Bool :=
  s.defined pt && (if s.failedPt pt then placeTenant s pt else (s.point pt).owner) == tenant

/-- An address PEER frames may go to: a module's, or a group address accepted under R348 (Table 3.27). -/
def peerDest (s : State) (mac : Nat) : Bool :=
  isUnicast mac || mac == macBroadcast ||
    (!isPtpDst mac && !isSupervisionDst mac && !isReservedDst mac && groupAccepted s mac)

/-- One import entry of RING_TABLES (R118). -/
def importTableEntry (s : State) (tenant : Nat) (e : List Byte) : Nat × State :=
  let i := fld e 0 2
  let remote := fld e 8 4
  let localPt := fld e 12 4
  let sender := beNat (sub e 2 6)
  let old := tabGet s.fabric.imports i
  let release (s : State) : State := match old with
    | some x => releaseHeld s x.localPt (importWriter i)
    | none => s
  if bitsOf remote 25 6 ≠ 0 ∨ bitsOf localPt 25 7 ≠ 0 ∨ !isUnicast sender then (stBadArgument, s)
  else if old.any (·.tenant != tenant) then (stTenantMismatch, s)
  else if bitOf remote 31 then
    let s := release s
    (stOk, { s with fabric := { s.fabric with imports := tabDel s.fabric.imports i } })
  else
    let s := loadPoint s localPt
    if !owns s tenant localPt then (stTenantMismatch, s)
    else if (s.point localPt).flag fLocked && !s.failedPt localPt && !holdsClaim s localPt (importWriter i) then
      (stWriterLocked, s)
    else
      let s := release s
      let s := { s with fabric := { s.fabric with
        imports := tabSet s.fabric.imports i
          { sender := sender, remote := bitsOf remote 0 25, localPt := localPt, tenant := tenant } } }
      (stOk, claimFree s localPt (importWriter i))

/-- One export entry of RING_TABLES (R118). -/
def exportTableEntry (s : State) (tenant : Nat) (e : List Byte) : Nat × State :=
  let i := fld e 0 2
  let period := fld e 2 2
  let pt := fld e 4 4
  let old := tabGet s.fabric.exports i
  let dest := beNat (sub e 10 6)
  if bitsOf pt 25 6 ≠ 0 ∨ fld e 8 2 ≠ 0 ∨ period < 10 ∨ 10000 < period ∨ !peerDest s dest then (stBadArgument, s)
  else if old.any (·.tenant != tenant) then (stTenantMismatch, s)
  else if bitOf pt 31 then (stOk, { s with fabric := { s.fabric with exports := tabDel s.fabric.exports i } })
  else
    let s := loadPoint s (bitsOf pt 0 25)
    if !owns s tenant (bitsOf pt 0 25) then (stTenantMismatch, s)
    else
      let x : ExportEntry := { period := period, pt := bitsOf pt 0 25, dest := dest, tenant := tenant, sentAt := 0 }
      (stOk, { s with fabric := { s.fabric with
        exports := tabSet s.fabric.exports i { x with sentAt := exportDue s x } } })

/-! ## The rows -/

def execJioshReport (port : Nat) (frame : List Byte) (s : State) : Host.Outcome State Fault Refusal :=
  .next (jArrive s port jkReport frame)

def execJioshAnnounce (port : Nat) (frame : List Byte) (s : State) : Host.Outcome State Fault Refusal :=
  .next (jArrive s port jkAnnounce frame)

def execJioshAck (port : Nat) (frame : List Byte) (s : State) : Host.Outcome State Fault Refusal :=
  .next (jArrive s port jkAck frame)

/-- A port holds an active MACsec association with a sender: its receive association, under an SCI whose first 48 bits are
the sender's address (R115, 12 R356; log 25). -/
def securedWith (s : State) (port sender : Nat) : Bool :=
  (s.port port).macsec.any fun m => m.rxNow.isSome && m.sci / 65536 == sender

/-- A PEER frame at ring port 0 or 1, which the closed bypass keeps from the module (01 R32). -/
def execJioshPeer (port sender : Nat) (secured : Bool) (frame : List Byte) (s : State) :
    Host.Outcome State Fault Refusal :=
  .next (if decide (port < 2) && s.running iSW && (s.port port).link == .up && !s.switch.bypassClosed then
      jRing s sender (secured && securedWith s port sender) frame
    else s)

def execDeviceStale (port serial : Nat) (s : State) : Host.Outcome State Fault Refusal := .next (deviceStale s port serial)

def execDeviceAbsent (port serial : Nat) (s : State) : Host.Outcome State Fault Refusal :=
  .next (deviceAbsent s port serial)

def execExportSend (s : State) : Host.Outcome State Fault Refusal := .next (exportSend s)

/-- DEVICE_TABLE: entries reported by the low 32 bits of SERIAL; the accepted payload is shipped. -/
def execDeviceTable (r : Route) (tag : Nat) (s : State) : Host.Outcome State Fault Refusal :=
  .next (serve 0x0905 s r tag fun q s =>
    let p := q.payload
    let n := fld p 2 2
    let port := fld p 0 1
    if p.length ≠ 4 + 32 * n then done stBadLength s
    else if fld p 1 1 ≠ 0 ∨ port < 4 ∨ 20 ≤ port then done stBadArgument s
    else
      let es := entriesAt p 4 32 n
      let (rs, s) := eachEntry s es fun e s =>
        let (st, s) := crossStatus s iSAGE iPF 1 fun s => deviceTableEntry s port e
        ((st, keyEntry (fld e 0 4) st), s)
      ((stOk, listResponse rs), shipList s 0x0905 (deviceHead port) (performedEntries es rs)))

/-- RING_TABLES: entries reported by INDEX; the accepted payload is shipped. -/
def execRingTables (r : Route) (tag : Nat) (s : State) : Host.Outcome State Fault Refusal :=
  .next (serve 0x0906 s r tag fun q s =>
    let p := q.payload
    let n := fld p 2 2
    let kind := fld p 0 1
    if p.length ≠ 4 + 16 * n then done stBadLength s
    else if fld p 1 1 ≠ 0 ∨ 2 ≤ kind then done stBadArgument s
    else
      let t := routeTenant s q.route
      let es := entriesAt p 4 16 n
      let (rs, s) := eachEntry s es fun e s =>
        let (st, s) := crossStatus s iSAGE iPF 1 fun s =>
          if kind = 0 then importTableEntry s t e else exportTableEntry s t e
        ((st, keyEntry (fld e 0 2) st), s)
      ((stOk, listResponse rs), shipList s 0x0906 (deviceHead kind) (performedEntries es rs)))

end Sys2Proof.Machine
end

