-- ==== Sys2Proof/Machine/Store.lean ====
section
/-! DEFINITION. The store over time: system points (22 R570, R571), the scrubber (03 R107), retentive saves and the
restore after a reset (03 R106, R108; 07 R217 to R220; 11 R333). -/

namespace Sys2Proof.Machine

/-! ## System points (22 Table 22.5) -/

/-- A system point that stands defined: identifier, type, owner and the writer that holds it claimed. -/
structure SysPoint where
  pt : Nat
  type : Nat
  owner : Nat
  writer : Nat
  deriving DecidableEq, Repr

/-- Writer ids of the system points. -/
abbrev wIslands : Nat := 9 * 2 ^ 28 + 1
abbrev wSensors : Nat := 9 * 2 ^ 28 + 2
def meterWriter (f : Nat) : Nat := 3 * 2 ^ 28 + f
def loopWriter (n : Nat) : Nat := 2 * 2 ^ 28 + n

/-- The points that are always defined: islands and sensors. -/
def sysAlways : List SysPoint :=
  ((List.range 12).map fun i => [
    { pt := 16 * i, type := 7, owner := house, writer := wIslands : SysPoint },
    { pt := 16 * i + 1, type := 2, owner := house, writer := wIslands },
    { pt := 16 * i + 2, type := 2, owner := house, writer := wIslands }]).flatten ++
  ((List.range 5).map (· + 0x100) ++ (List.range 12).map (· + 0x110) ++ (List.range 5).map (· + 0x120)).map
    fun pt => { pt := pt, type := 5, owner := house, writer := wSensors }

/-- Offsets of a circuit's quantity points (09 Table 9.6, R280). -/
def circuitOffsets (kind : Nat) : List Nat :=
  if kind = 2 then List.range 0x17 else [0, 1, 2, 5, 9, 0xC, 0xD, 0x10, 0x11, 0x14, 0x15, 0x16]

/-- The type of a quantity point. -/
def circuitType (off : Nat) : Nat := if off = 0 then 2 else if off = 0x16 then 7 else 5

/-- The base of a circuit's quantity points. -/
def circuitBase (c : Nat) : Nat := 0x0010000 + 0x20 * c

/-- A circuit's quantity points and accumulator points (09 R280, 10 R285). -/
def sysCircuit (c : Nat) (x : Circuit) : List SysPoint :=
  (circuitOffsets x.cfg.kind).map (fun o =>
    { pt := circuitBase c + o, type := circuitType o, owner := house, writer := meterWriter 0 : SysPoint }) ++
  (List.range 13).map fun q =>
    { pt := 0x0011000 + 16 * c + q, type := 4, owner := house, writer := meterWriter 1 }

/-- Every system point that stands defined under the present configuration. -/
def sysPoints (s : State) : List SysPoint :=
  sysAlways ++ (s.meter.circuits.map fun p => sysCircuit p.1 p.2).flatten ++
  (s.meter.slots.map fun p => (List.range 3).map fun k =>
    { pt := 0x0011400 + 4 * p.1 + k, type := 4, owner := p.2.tenant, writer := meterWriter 2 : SysPoint }).flatten ++
  (List.range 8).map (fun k => { pt := 0x0011800 + k, type := 4, owner := house, writer := meterWriter 3 }) ++
  s.loops.loops.map fun p => { pt := 0x0020000 + p.1, type := 7, owner := p.2.cfg.tenant, writer := loopWriter p.1 }

/-- What an accumulator is reported as: its own master and the twin offset (10 R306). -/
def Acc.reported (x : Acc) : Nat := (x.master + x.offset) % 2 ^ 64

/-- A system point newly defined holds its accumulator's value, where that has one (10 R285, R286; log 121). -/
def sysValue (s : State) (pt : Nat) : State :=
  match if 0x0011000 ≤ pt ∧ pt < 0x0011808 then tabGet s.meter.accs (pt - 0x0011000) else none with
  | some a => s.putPoint pt { s.point pt with
      value := BitVec.ofNat 64 a.reported, time := a.time, quality := if a.failed then qOutOfRange else qGood }
  | none => s

/-- Defines one system point under its writer's claim. -/
def sysDefine (s : State) (x : SysPoint) : State :=
  sysValue (claimPoint (definePoint s x.pt x.owner x.type false) x.pt x.writer) x.pt

/-- The store holds exactly the system points of the present configuration: others leave it, missing ones are defined. -/
def syncSystem (s : State) : State :=
  let want := sysPoints s
  let gone := (s.fabric.store.filter fun p =>
    decide (p.1 < firstAssignable) && !want.any fun x => x.pt == p.1 && x.owner == p.2.owner && x.type == p.2.type).map Prod.fst
  let s := gone.foldl undefinePoint s
  want.foldl (fun s x => if s.defined x.pt then s else sysDefine s x) s

/-- The configuration of system points changed while the store is up. -/
def resync (s : State) : State := if s.running iPF && s.rbit rPfStatus 0 then syncSystem s else s

/-- A write of a system point by its writer, from its island. -/
def sysWrite (s : State) (src writer pt type quality : Nat) (value : Word64) (time : Nat) : State :=
  (writeFrom s src 0 house writer pt type quality value time).2

/-! ## The island points (22 R571) -/

/-- Chervil writes one island's points that differ from what they hold (R571). -/
def writeIslandPoints (s : State) (i : Nat) : State :=
  if !s.running iMGT || !s.running iPF || !s.rbit rPfStatus 0 then s
  else
    let put (s : State) (k type v : Nat) : State :=
      if (s.point (16 * i + k)).value.toNat = v ∧ (s.point (16 * i + k)).quality = qGood then s
      else sysWrite (s.wakeIsl iMGT) iMGT wIslands (16 * i + k) type qGood (BitVec.ofNat 64 v) s.tai
    let s := put s 0 7 (s.isl i).state.code
    let s := put s 1 2 (s.isl i).epoch
    put s 2 2 (s.reg (rIslFault i))

/-- Chervil writes the points of every island. -/
def writeAllIslandPoints (s : State) : State := (List.range 12).foldl writeIslandPoints s

/-! ## The scrubber (R107) -/

/-- The scrubber reads and verifies the record at its position and moves on. -/
def scrubRead (s : State) : State :=
  if !s.running iPF || !s.rbit rPfCtrl 0 then s
  else
    let pt := s.rfield rPfScrubPos 0 25
    let r := s.point pt
    let good := if s.defined pt then r.check == r.right else true
    let s := s.chkUnit 9 28 r.right good
    let s := if good then s else markFailed s pt
    let s := s.setReg rPfScrubPos ((pt + 1) % pointCount)
    if pt + 1 = pointCount then
      { s with fabric := { s.fabric with scrubPasses := (stickNat s.fabric.scrubPasses 1).1 } }
    else s

/-! ## Saves (R106, 07 R217) -/

/-- Counts one copy written to MRAM on check channel 2. -/
def mramWrite (s : State) (check : Word) (n : Nat) : State := s.chkUnit 2 n check true

/-- Counts one copy read from MRAM on check channel 3. -/
def mramRead (s : State) (check : Word) (n : Nat) (ok : Bool) : State := s.chkUnit 3 n check ok

/-- What a retentive place is written with: while forced, the force entry's value, time and quality (R217). -/
def retentiveImage (s : State) (pt : Nat) : PointRec :=
  let r := s.point pt
  match forceOf s pt with
  | some f => ({ r with value := f.entryValue, time := f.entryTime, quality := f.entryQuality }.setFlag fForced false).sealed
  | none => r.sealed

/-- Saves the pending retentive record of an identifier, copy 0 before copy 1; a record that fails its check is not saved,
and its place keeps the last good one (R105; log 110). -/
def saveRetentive (s : State) (pt : Nat) : State :=
  let s := loadPoint { s with fabric := { s.fabric with saveDue := s.fabric.saveDue.filter (· != pt) } } pt
  if s.failedPt pt then s
  else
    let r := retentiveImage s pt
    let put (f : RetPlace → RetPlace) (s : State) : State := { s with fabric := { s.fabric with
      places := tabMap (fun _ x => if x.holds pt then f x else x) s.fabric.places } }
    let s := mramWrite (put (fun x => { x with copy0 := r }) s) r.check 28
    mramWrite (put (fun x => { x with copy1 := r }) s) r.check 28

/-- The 24 covered bytes of one copy of a force place (07 Table 7.4). -/
def ForceCopy.bytes (f : ForceCopy) : List Byte :=
  leBytes 4 f.pt ++ leBytes 1 f.type ++ leBytes 1 f.quality ++ leBytes 1 f.entryQuality ++ leBytes 1 0 ++
    leBytes 8 f.value.toNat ++ leBytes 8 f.time

/-- The check value that is right for a copy. -/
def ForceCopy.right (f : ForceCopy) : Word := crcIscsi f.bytes

/-- The copy of a force that a save writes. -/
def forceImage (s : State) (f : Force) : ForceCopy :=
  let c : ForceCopy :=
    { pt := f.pt, type := f.type, quality := (s.point f.pt).quality, entryQuality := f.entryQuality, value := f.value
      time := f.time, check := 0 }
  { c with check := c.right }

/-- Saves the pending place of a force index, copy 0 before copy 1. -/
def saveForce (s : State) (i : Nat) : State :=
  let due := s.fabric.forceDue.filter (· != i)
  match tabGet s.fabric.forces i with
  | some f =>
    let c := forceImage s f
    let s := mramWrite { s with fabric := { s.fabric with
      forceDue := due, forceCopy0 := tabSet s.fabric.forceCopy0 i c } } c.check 24
    mramWrite { s with fabric := { s.fabric with forceCopy1 := tabSet s.fabric.forceCopy1 i c } } c.check 24
  | none =>
    { s with fabric := { s.fabric with
        forceDue := due, forceCopy0 := tabDel s.fabric.forceCopy0 i, forceCopy1 := tabDel s.fabric.forceCopy1 i } }

/-- Every pending change is saved, in areas already restored in this start-up (07 R217, 17 R469). -/
def saveStore (s : State) : State :=
  if !s.running iPF then s
  else
    let s := if s.power.retainBack then s.fabric.saveDue.foldl saveRetentive s else s
    if s.power.forcesBack then s.fabric.forceDue.foldl saveForce s else s

/-! ## The restore (R106, R108, 07 R218 to R220) -/

/-- A record without its check value, for the comparison of copies. -/
def PointRec.bare (r : PointRec) : PointRec := { r with check := 0 }

/-- The record of a retentive place. -/
def placeRec (x : RetPlace) : TwoCopy PointRec :=
  twoCopies x.copy0.bare x.copy1.bare (x.copy0.check == x.copy0.right) (x.copy1.check == x.copy1.right)

/-- A place is freed and logged (R219). -/
def freePlace (s : State) (k detail : Nat) : State :=
  let s := { s with fabric := { s.fabric with places := tabDel s.fabric.places k } }
  s.logEvent lvWarn iPF 1 0x20 detail

/-- A bad check value was rewritten from the good copy (R106). -/
def repairPlace (s : State) (k : Nat) (x : RetPlace) (r : PointRec) (repaired : Bool) : State :=
  if repaired then
    let s := { s with fabric := { s.fabric with
      places := tabSet s.fabric.places k { x with copy0 := r.sealed, copy1 := r.sealed } } }
    s.raise rPfEvent 1
  else s

/-- A bad check value of a directory entry was rewritten from the good copy (R106). -/
def repairDir (s : State) (k : Nat) (x : RetPlace) (repaired : Bool) : RetPlace × State :=
  if repaired then
    let x := { x with dirCheck0 := crcIscsi (leBytes 4 x.dir0), dirCheck1 := crcIscsi (leBytes 4 x.dir1) }
    (x, ({ s with fabric := { s.fabric with places := tabSet s.fabric.places k x } } : State).raise rPfEvent 1)
  else (x, s)

/-- Restores one retentive place (R106, R219). -/
def restorePlace (s : State) (k : Nat) : State :=
  match tabGet s.fabric.places k with
  | none => s
  | some x =>
    match placeId x with
    | .lost => (freePlace s k 0xFFFFFFFF).raise rPfStatus 1
    | .taken pt repairedDir =>
      let (x, s) := repairDir s k x repairedDir
      let known := s.defined pt && (s.point pt).flag fRetentive
      let s := mramRead s x.copy0.check 28 (x.copy0.check == x.copy0.right)
      let s := mramRead s x.copy1.check 28 (x.copy1.check == x.copy1.right)
      match placeRec x with
      | .lost =>
        if known then
          let s := s.storePoint pt { s.point pt with quality := qCheckFailed }
          (markFailed s pt).raise rPfStatus 1
        else freePlace s k pt
      | .taken r repaired =>
        let s := repairPlace s k x r repaired
        if known && r.owner == (s.point pt).owner && r.type == (s.point pt).type then
          s.storePoint pt
            ({ s.point pt with value := r.value, time := r.time, quality := r.quality, writer := 0 }.setFlag fLocked false)
        else freePlace s k pt

/-- A point defined RETENTIVE without a place takes one. -/
def placeFor (s : State) (pt : Nat) : State :=
  if (s.point pt).flag fRetentive && !hasPlace s pt then
    match tabFree s.fabric.places 0 4096 with
    | some k => { s with fabric := { s.fabric with places := tabSet s.fabric.places k (RetPlace.new pt (s.point pt)) } }
    | none => s
  else s

/-- Steward defines one configured point again, with its share link; a retentive place already held stays (R108). -/
def redefine (s : State) (pt : Nat) (d : PointDef) : State :=
  if s.defined pt then s
  else
    let s := s.storePoint pt (PointRec.fresh d.owner d.type d.retentive)
    match d.share with
    | some e => s.storePoint pt ({ s.point pt with share := e }.setFlag fShared true)
    | none => s

/-- The claims of the device tables in MRAM are made again, after the retentive records, which come back with no claim
(R117, R219). -/
def reclaimDevices (s : State) : State :=
  (tabKeys s.fabric.store).foldl (fun s pt => if (s.point pt).flag fLocked then s else claimForDevice s pt) s

/-- The force of a place, from its two copies (R106, R218). -/
def placeForce (a b : ForceCopy) : TwoCopy ForceCopy :=
  twoCopies { a with check := 0 } { b with check := 0 } (a.check == a.right) (b.check == b.right)

/-- A saved force is discarded and logged (R220). -/
def freeForce (s : State) (i detail : Nat) : State :=
  let s := { s with fabric := { s.fabric with
    forceCopy0 := tabDel s.fabric.forceCopy0 i, forceCopy1 := tabDel s.fabric.forceCopy1 i } }
  s.logEvent lvWarn iPF 1 0x21 detail

/-- Restores one saved force (R218, R220, R97). A place neither of whose copies passes its check is discarded with the
identifier of copy 0 (log 110). -/
def restoreForce (s : State) (i : Nat) : State :=
  match tabGet s.fabric.forceCopy0 i, tabGet s.fabric.forceCopy1 i with
  | some a, some b =>
    let s := mramRead (mramRead s a.check 24 (a.check == a.right)) b.check 24 (b.check == b.right)
    match placeForce a b with
    | .lost => freeForce s i a.pt
    | .taken c repaired =>
      let c := { c with check := c.right }
      let s := if repaired then
          ({ s with fabric := { s.fabric with
            forceCopy0 := tabSet s.fabric.forceCopy0 i c, forceCopy1 := tabSet s.fabric.forceCopy1 i c } } : State).raise rPfEvent 1
        else s
      let r := s.point c.pt
      if s.defined c.pt && r.type == c.type && (forceIndex s c.pt).isNone then
        let s := s.storePoint c.pt (r.setFlag fForced true)
        let f : Force :=
          { pt := c.pt, type := c.type, value := c.value, time := c.time, entryValue := r.value, entryTime := r.time
            entryQuality := r.quality }
        { s with fabric := { s.fabric with forces := tabSet s.fabric.forces i f } }
      else freeForce s i c.pt
  | _, _ => s

/-- Steward defines one configured series again (11 R333); one that can no longer be linked stays undefined. -/
def restoreSeries (s : State) (k : Nat) (x : HvSeries) : State :=
  if judge s x.pt x.tenant 0 .linkSeries = stOk then
    joinChain (setSeries s k
      { x with current := HvRecord.empty x.bins s.tai, closed := [], linked := false, next := none, seq := 0 }) k x.pt
  else s

/-- A claim of a ring import is made again with the table that stands in MRAM (R118). -/
def reclaimImports (s : State) : State :=
  s.fabric.imports.foldl (fun s p =>
    if s.defined p.2.localPt then claimFree s p.2.localPt (importWriter p.1) else s) s

/-- The writer id of a bus object (03 Table 3.7). -/
def busWriter (c n : Nat) : Nat := 5 * 2 ^ 28 + c * 256 + n

/-- The claims of the receive point objects that Steward keeps are made again (15 R409, R424). -/
def reclaimObjects (s : State) : State :=
  s.bus.savedObj.foldl (fun s p =>
    if p.2.2.kind = 1 then
      ((List.range p.2.2.count).map (p.2.2.pt + ·)).foldl (fun s pt =>
        if s.defined pt then claimFree s pt (busWriter (p.1 / 256) (p.1 % 256)) else s) s
    else s) s

/-- After the islands of step 9 of 17 Table 17.5 run, Steward defines the configured points, system points first, and the
fabric restores retentive records, then forces, and sets STORE_READY (R108, R219, R220). -/
def storeRestore (s : State) : State :=
  if !s.running iPF || !stewardReady s || s.rbit rPfStatus 0 || !s.power.storeReady then s
  else
    let s := syncSystem s
    let s := s.fabric.defs.foldl (fun s p => redefine s p.1 p.2) s
    let s := (tabKeys s.fabric.places).foldl restorePlace s
    let s := (tabKeys s.fabric.store).foldl placeFor s
    let s := { s with power := { s.power with retainBack := true } }
    let s := (tabKeys s.fabric.forceCopy0).foldl restoreForce s
    let s := { s with power := { s.power with forcesBack := true } }
    let s := reclaimObjects (reclaimImports (reclaimDevices s))
    let s := s.raise rPfStatus 0
    let s := s.harvest.saved.foldl (fun s p => restoreSeries s p.1 p.2) s
    writeAllIslandPoints { s with harvest := { s.harvest with closeFrom := s.tai } }

/-! ## The rows -/

def execScrubRead (s : State) : Host.Outcome State Fault Refusal := .next (scrubRead s)

def execRetentiveSave (s : State) : Host.Outcome State Fault Refusal := .next (saveStore s)

end Sys2Proof.Machine
end

