-- ==== Sys2Proof/Machine/Access.lean ====
section
/-! DEFINITION. Register accesses (00 R7, R8; 02 R46): who may make one, the crossing it is, and what the agent sees.
What each register does stands with its subsystem and, address by address, in Machine/Regs.lean. -/

namespace Sys2Proof.Machine

/-- The island an agent issues from. -/
def agentIsland : Agent → Nat
  | .chervil => iMGT
  | _ => iSAGE

/-- SOURCE of an agent in ISL_LASTERR (02 Table 2.22). -/
def agentSource : Agent → Nat
  | .steward => 1 | .core1 => 2 | .block => 1 | .chervil => 0 | .spi => 0

/-- Island, block and offset of an address (00 R6). -/
def addrIsl (a : Nat) : Nat := a / 0x10000000
def addrBlk (a : Nat) : Nat := a / 0x100000 % 256
def addrOff (a : Nat) : Nat := a % 0x100000

/-- Registers of island block 0x00 that Sage core 1 may not read: reading would clear them (02 R76). -/
def clearsOnRead (a : Nat) : Bool := addrOff a == 0x020 || addrOff a == 0x024

/-- The message object an address of BUS block 0x02 belongs to: channel and number (15 R426). -/
def objChan (a : Nat) : Nat := addrOff a / 0x8000 % 8
def objNum (a : Nat) : Nat := addrOff a % 0x8000 / 0x80

/-- The tenant of a message object. -/
def objTenant (s : State) (c n : Nat) : Option Nat :=
  (tabGet s.bus.chans c).bind fun x => (tabGet x.objects n).map BusObj.tenant

/-- The object holds a data byte for Sage core 1: its tenant is the partition's. -/
def core1Object (s : State) (c n : Nat) : Bool := objTenant s c n == some s.mail.partition

/-- The XL buffer an address of BUS block 0x03 lies in serves an object of the partition's tenant. -/
def core1Buffer (s : State) (a : Nat) : Bool :=
  ((tabGetD s.bus.chans (addrOff a / 0x4000) {}).objects).any fun p =>
    p.2.tenant == s.mail.partition && bitOf p.2.cfg.flags 3 && p.2.cfg.pt % 8 == addrOff a % 0x4000 / 0x800

/-- A register of window w of Harvest (11 R335). -/
def windowOf (a : Nat) : Option Nat :=
  if 0x40200100 ≤ a ∧ a < 0x40200118 then some 0 else if 0x40200120 ≤ a ∧ a < 0x40200138 then some 1 else none

/-- The target whose claim register an address is (20 R531). -/
def claimOf (a : Nat) : Option Nat :=
  if a = rIcTClaim 0 then some 0 else if a = rIcTClaim 1 then some 1 else if a = rIcTClaim 2 then some 2 else none

/-- Sage core 1 may read a register (02 R76 and the register rules of each chapter). -/
def core1Reads (s : State) (a : Nat) : Bool :=
  let isl := addrIsl a
  let blk := addrBlk a
  if blk = 0 then !clearsOnRead a
  else if isl = iALM then
    (blk == 1 && [rAlStatus, rAlTime, rAlDate, rAlSubsec].contains a) || (blk == 2 && (a == rVgLatch || a == rVgNow))
  else if isl = iVLT then a == rKvStatus
  else if isl = iSAGE then blk == 1
  else if isl = iPF then
    (blk == 1 && (a == rPfStatus || a == rPfUsage)) ||
      (blk == 2 && ([rHvStatus, rHvUsed, rHvSeries].contains a || windowOf a == some 1)) ||
      (blk == 3 && (a == rChkEvent || (decide (rChkCtrl 14 ≤ a) && decide (a < rChkCtrl 16))))
  else if isl = iSW then blk == 1 || blk == 2
  else if isl = iBUS then blk == 1 || (blk == 2 && core1Object s (objChan a) (objNum a)) || (blk == 3 && core1Buffer s a)
  else true

/-- Sage core 1 may write a value to a register. -/
def core1Writes (s : State) (a v : Nat) : Bool :=
  let isl := addrIsl a
  let blk := addrBlk a
  if isl = iSAGE ∧ blk = 1 then
    [rIcTThresh 1, rIcTComplete 1, rIcTMod 1, rIcTCtrl 1, rIcSwSet, rIcSwClr].contains a ||
      (decide (rIcSrc 0 ≤ a) && decide (a ≤ rIcSrc 255) && s.rfield a 4 2 == 1)
  else if isl = iPF ∧ blk = 2 then a == rHvWSel 1 || a == rHvWCur 1
  else if isl = iPF ∧ blk = 3 then decide (rChkCtrl 14 ≤ a) && decide (a < rChkCtrl 16)
  else if isl = iBUS ∧ blk = 1 then
    let o := addrOff a % 0x1000
    (o == 0x020 || o == 0x024 || o == 0x028) && core1Object s (addrOff a / 0x1000 % 8) (v % 256)
  else if isl = iBUS ∧ blk = 2 then decide (0x40 ≤ addrOff a % 0x80) && core1Object s (objChan a) (objNum a)
  else if isl = iBUS ∧ blk = 3 then core1Buffer s a
  else false

/-- The mailbox registers that only the SPI host writes (04 R151). -/
def spiOnly (a : Nat) : Bool := a == rMbDoorbell || a == rMbRespReady || a == rMbIrqEn || a == rMbEvent

/-- The status of an access that is not performed at all, and OK for one that crosses (00 R7, R8; log 41). -/
def gate (s : State) (by_ : Agent) (a v : Nat) (write : Bool) : Nat :=
  if a % 4 ≠ 0 ∨ !blockExists a then stBadArgument
  else
    let ok :=
      match by_ with
      | .core1 => if write then core1Writes s a v else core1Reads s a && (claimOf a).all (· == 1)
      | .spi =>
        addrIsl a == iSAGE && addrBlk a == 2 && decide (addrOff a < 0x100) && !(write && a == rMbCtrl)
      | .block => (windowOf a).isNone && (write || (claimOf a).isNone) && !(write && spiOnly a)
      | .steward => windowOf a != some 1 && (write || (claimOf a).all (· == 0)) && !(write && spiOnly a)
      | .chervil =>
        (windowOf a).isNone && (write || (claimOf a).all (· == 2)) && !(write && spiOnly a) &&
          !(write && addrIsl a == iALM && addrBlk a == 1)
    if ok then stOk else stNotPermitted

/-- An access ends for its agent: the value and status, and an access fault at a Sage core that met a failure (02 R46). -/
def settleAccess (s : State) (by_ : Agent) (st v : Nat) : State :=
  { s with outs := { s.outs with
      readOut := v
      readStatus := st
      fault0 := s.outs.fault0 || (st != stOk && by_ == .steward)
      fault1 := s.outs.fault1 || (st != stOk && by_ == .core1) } }

/-- An access that is not performed is recorded in ISL_LASTERR of the island it was issued from (02 R46); the SPI mirror
lies in SAGE itself and asks no island. -/
def noteRefused (s : State) (by_ : Agent) (a st : Nat) : State :=
  if by_ == .spi then s else s.lastError (agentIsland by_) (addrIsl a % 16) (agentSource by_) st

/-- One register access: status and value. A performed access answers what f gives. -/
def access (s : State) (by_ : Agent) (a v : Nat) (write : Bool) (f : State → Nat × State) : (Nat × Nat) × State :=
  let st := gate s by_ a v write
  if st ≠ stOk then ((st, 0), noteRefused s by_ a st)
  else crossing s (agentIsland by_) (addrIsl a) (agentSource by_) (fun st => (st, 0)) Prod.fst fun s =>
    let r := f s
    ((stOk, r.1), r.2)

/-- A register access as a command: it needs an issuer that runs. -/
def accessRow (s : State) (by_ : Agent) (a v : Nat) (write : Bool) (f : State → Nat × State) : State :=
  if !s.running (agentIsland by_) then s
  else
    let (r, s) := access s by_ a v write f
    settleAccess s by_ r.1 r.2

/-- A write with its effect. -/
def writeRow (s : State) (by_ : Agent) (a v : Nat) (f : State → State) : State :=
  accessRow s by_ a v true fun s => (0, f s)

/-- A read with its effect. -/
def readRow (s : State) (by_ : Agent) (a : Nat) (f : State → Nat × State) : State := accessRow s by_ a 0 false f

end Sys2Proof.Machine
end

