-- ==== Sys2Proof/Machine/TwinOps.lean ====
section
/-! DEFINITION. What the standby does with a comparison (16 R439, R453) and how a partner's readiness changes
(16 Table 16.3, R452). -/

namespace Sys2Proof.Machine

/-- Sets an event bit of the twin block. -/
def State.twEvent (s : State) (bit : Nat) : State := s.raise rTwEvent bit

/-- Sets or clears a bit of LINKS and TW_EVENT.LINK_CHANGE when it changes. -/
def setTwinLink (s : State) (bit : Nat) (b : Bool) : State :=
  if bitOf s.twin.links bit == b then s
  else { s with twin := { s.twin with links := putBits s.twin.links bit 1 (b2n b) } }.twEvent 6

/-- READY and NOT_READY as they are now known; TW_EVENT.NOT_READY when READY falls. -/
def setReady (s : State) (ready : Bool) (cause : Nat) : State :=
  let was := s.twin.ready
  let s := { s with twin := { s.twin with ready := ready, notReady := cause } }
  if was && !ready then s.twEvent 4 else s

/-- The standby stops being ready, for a cause of Table 16.3. Cause 7 stays until R437 clears it. -/
def notReady (s : State) (cause : Nat) : State :=
  setReady s false (if s.twin.notReady = 7 then 7 else cause)

/-- The standby asks for a full transfer (R452). -/
def askResync (s : State) (cause : Nat) : State :=
  let n := stickNat s.twin.health.resyncs 1
  let s := { s with twin := { s.twin with transfer := true, agreed := [], health := { s.twin.health with resyncs := n.1 } } }
  let s := if n.2 then s.twEvent 8 else s
  twinSend s 0x12 (leBytes 1 cause ++ leBytes 1 0 ++ leBytes 2 0)

/-- Adds one to a count of the health report. -/
def healthCount (s : State) (n : Nat × Bool) : State := if n.2 then s.twEvent 8 else s

/-- MISMATCH_LIMIT (16 Table 16.15); 0 acts as 1. -/
def mismatchLimit (s : State) : Nat := max 1 (s.rfield rTwCtrl 4 4)

/-- A mismatching cycle is counted: kind 1 THY, 2 LOOP; unit a task or group. -/
def countMismatch (s : State) (kind unit release : Nat) : State :=
  let h := s.twin.health
  let a := stickNat (if kind = 1 then h.mismatchThy else h.mismatchLoop) 1
  let u := stickNat (tabGetD (if kind = 1 then h.taskMismatch else h.groupMismatch) unit 0) 1
  let h :=
    if kind = 1 then { h with mismatchThy := a.1, taskMismatch := tabSet h.taskMismatch unit u.1, lastMismatch := release }
    else { h with mismatchLoop := a.1, groupMismatch := tabSet h.groupMismatch unit u.1, lastMismatch := release }
  let s := { s with twin := { s.twin with health := h } }
  (healthCount (healthCount s a) u).stick rTwMismatch rTwEvent 8

/-- Key of a task or group among the verdicts. -/
def verdictKey (kind unit : Nat) : Nat := if kind = 1 then unit else 16 + unit

/-- A verdict is noted on either partner: counted, LINKS bit 2, and a mismatch asks for the known-answer tests (R439). -/
def noteVerdict (s : State) (kind unit release : Nat) (mismatch : Bool) : State :=
  let s := setTwinLink (s.stick rTwCompared rTwEvent 8) 2 (!mismatch)
  let key := verdictKey kind unit
  if mismatch then
    { s with twin := { s.twin with testDue := s.twin.testDue ++ [(kind, unit, release)] } }.twEvent 3
  else
    { s with twin := { s.twin with
      consec := tabDel s.twin.consec key
      agreed := if s.twin.agreed.contains key then s.twin.agreed else s.twin.agreed ++ [key] } }

/-- The standby has compared a cycle: it counts and sends a VERDICT (R453). -/
def makeVerdict (s : State) (kind unit release : Nat) (mismatch : Bool) : State :=
  twinSend (noteVerdict s kind unit release mismatch) 0x11
    (leBytes 1 kind ++ leBytes 1 unit ++ leBytes 1 (b2n mismatch) ++ leBytes 1 0 ++ leBytes 8 release)

/-- Both tests have passed: the mismatch is counted, and after MISMATCH_LIMIT of them in a row the standby is not ready
with cause 5 and asks for a full transfer (R439). -/
def unexplained (s : State) (m : Nat × Nat × Nat) : State :=
  let key := verdictKey m.1 m.2.1
  let n := tabGetD s.twin.consec key 0 + 1
  let s := countMismatch { s with twin := { s.twin with consec := tabSet s.twin.consec key n } } m.1 m.2.1 m.2.2
  if s.twin.role == .standby && decide (mismatchLimit s ≤ n) && s.twin.ready then askResync (notReady s 5) 5 else s

end Sys2Proof.Machine
end

