-- ==== Sys2Proof/Machine/Loops.lean ====
section
/-! DEFINITION. The hysteretic loop engine (08 R234 to R255, R577). -/

namespace Sys2Proof.Machine

/-! ## Loops and groups -/

/-- A loop, when it is defined. -/
def State.loop (s : State) (n : Nat) : Option Loop := tabGet s.loops.loops n

/-- Replaces a loop. -/
def State.setLoop (s : State) (n : Nat) (x : Loop) : State :=
  { s with loops := { s.loops with loops := tabSet s.loops.loops n x } }

/-- A rate group. -/
def State.group (s : State) (g : Nat) : Group := tabGetD s.loops.groups g {}

/-- Replaces a group. -/
def State.setGroup (s : State) (g : Nat) (x : Group) : State :=
  { s with loops := { s.loops with groups := tabSet s.loops.groups g x } }

/-- Period of a group in µs (Table 8.1). -/
def groupPeriodUs (g : Nat) : Nat := if g = 0 then 1000 else if g = 1 then 10000 else if g = 2 then 100000 else 1000000

/-- Period of a group in ns. -/
def groupPeriod (g : Nat) : Nat := groupPeriodUs g * 1000

/-- The first release of a group after an instant (R234). -/
def groupNext (g after : Nat) : Nat := (after / groupPeriod g + 1) * groupPeriod g

/-- Adds to a counter of the block. -/
def State.lpCount (s : State) (a : Nat) (n : Nat := 1) : State := s.stick a rLpEvent 6 n

/-- Loops of a group, in loop-number order. -/
def loopsOf (s : State) (g : Nat) : List Nat := (s.loops.loops.filter fun p => p.2.cfg.group == g).map Prod.fst

/-- Loops of a group that take part in the present release. -/
def joinedOf (s : State) (g : Nat) : List Nat :=
  (s.loops.loops.filter fun p => p.2.cfg.group == g && p.2.enabled && p.2.joined).map Prod.fst

/-- Changes a loop where it is defined. -/
def withLoop (s : State) (n : Nat) (f : Loop → Loop) : State :=
  match s.loop n with
  | some x => s.setLoop n (f x)
  | none => s

/-! ## Disable and reload at a release (R247, R249) -/

/-- The output points of an entry. -/
def loopOutputs (c : LoopCfg) : List Nat := if c.outMode = 2 then [c.outPt, c.outPt + 1] else [c.outPt]

/-- A loop is disabled: pending output discarded, claims released (R249). -/
def disableLoop (s : State) (n : Nat) : State :=
  match s.loop n with
  | none => s
  | some x =>
    let s := s.setLoop n
      { x with enabled := false, joined := false, pending := none, secondBit := none, disableDue := false, pointDue := false }
    let s := { s with loops := { s.loops with savedOn := s.loops.savedOn.filter (· != n) } }
    (loopOutputs x.cfg).foldl (fun s pt => releaseHeld s pt (loopWriter n)) s

/-- Whether a new entry keeps the loop running: only SP, bands, dwells, LOSS, LOSS_PERIODS and SAFE differ (R247). -/
def sameLoop (a b : LoopCfg) : Bool :=
  let f (c : LoopCfg) : LoopCfg :=
    { c with sp := 0, bandA := 0, bandB := 0, dwell1 := 0, dwell2 := 0, lossSafe := false, lossPeriods := 0, safe := 0 }
  f a == f b

/-- An accepted entry takes effect (R247). -/
def reloadLoop (s : State) (n : Nat) (c : Option LoopCfg) : State :=
  match s.loop n with
  | none => s
  | some x =>
    match c with
    | some c =>
      if !x.enabled then s.setLoop n { x with cfg := c, newCfg := none }
      else if sameLoop x.cfg c then s.setLoop n { x with cfg := c, newCfg := none }
      else
        let s := disableLoop s n
        resync (withLoop s n fun x => { x with cfg := c, newCfg := none, reloaded := true })
    | none =>
      let mark := x.enabled || x.reloaded
      let s := disableLoop s n
      resync { s with loops := { s.loops with
        loops := tabDel s.loops.loops n
        reloaded := if mark then n :: s.loops.reloaded else s.loops.reloaded } }

/-- What waits for a loop's release takes effect: a new entry, then a disable. -/
def settleLoop (s : State) (n : Nat) : State :=
  let s := match s.loop n with
    | some x => match x.newCfg with
      | some c => reloadLoop s n c
      | none => s
    | none => s
  match s.loop n with
  | some x => if x.disableDue then disableLoop s n else s
  | none => s

/-! ## Step A: apply (R235, R242 to R244) -/

/-- The bit values of mode 2 for a state: raise and lower (Table 8.4). -/
def bitsOfState (st : Nat) : Bool × Bool := (st == 1, st == 2)

/-- One write of a loop output: a crossing with SOURCE 4 (R244, R254). -/
def loopWrite (s : State) (n pt type value time : Nat) : Bool × State :=
  match s.loop n with
  | none => (false, s)
  | some x =>
    let (st, s) := writeFrom s iLOOP 4 x.cfg.tenant (loopWriter n) pt type qGood (BitVec.ofNat 64 value) time
    if st = stOk then (true, s) else (false, (s.lpCount rLpWFail).raise rLpEvent 2)

/-- The loop state point takes the applied state (22 R571). -/
def writeLoopPoint (s : State) (n time : Nat) : State :=
  match s.loop n with
  | none => s
  | some x =>
    let (st, s) := writeFrom s iLOOP 4 x.cfg.tenant (loopWriter n) (0x0020000 + n) 7 qGood (BitVec.ofNat 64 x.applied) time
    withLoop s n fun x => { x with pointDue := st != stOk }

/-- Every write of an application has been answered OK: the state is applied. -/
def appliedLoop (s : State) (n st time : Nat) : State :=
  match s.loop n with
  | none => s
  | some x =>
    let changed := x.applied != st || x.written.isNone
    let s := s.setLoop n { x with applied := st, written := some st, appliedNow := x.applied != st, secondBit := none }
    if changed then writeLoopPoint s n time else s

/-- Writes one bit of mode 2 where it differs from the last one written or that is unknown. -/
def writeBit (s : State) (n : Nat) (raise : Bool) (v : Bool) (time : Nat) : Bool × State :=
  match s.loop n with
  | none => (false, s)
  | some x =>
    if (if raise then x.bitRaise else x.bitLower) = some v then (true, s)
    else
      let (ok, s) := loopWrite s n (x.cfg.outPt + b2n (!raise)) 0 (b2n v) time
      (ok, if ok then withLoop s n fun x => if raise then { x with bitRaise := some v } else { x with bitLower := some v } else s)

/-- The bits that go to 0 are written; where a bit that goes to 1 is still to follow a write, it waits for the answers
(R243). -/
def applyBits (s : State) (n st time : Nat) : State :=
  let (r, l) := bitsOfState st
  let before := s.loop n
  let (ok1, s) := if r then (true, s) else writeBit s n true false time
  let (ok2, s) := if l then (true, s) else writeBit s n false false time
  if !(ok1 && ok2) then s
  else if !r && !l then appliedLoop s n st time
  else
    let same := before.any fun x =>
      (r || x.bitRaise == some false) && (l || x.bitLower == some false)
    if same then
      let (ok, s) := writeBit s n r true time
      if ok then appliedLoop s n st time else s
    else withLoop s n fun x => { x with secondBit := some (r, l) }

/-- Step A for one loop: a pending output is written where it differs from the last value written, or that is unknown. -/
def applyLoop (s : State) (n time : Nat) : State :=
  let s := withLoop s n fun x => { x with appliedNow := false }
  match s.loop n with
  | none => s
  | some x =>
    match x.pending with
    | none => s
    | some st =>
      let s := if x.pointDue then writeLoopPoint s n time else s
      if x.written = some st then s
      else if x.cfg.outMode = 2 then applyBits (withLoop s n fun x => { x with written := none }) n st time
      else
        let (ok, s) := loopWrite s n x.cfg.outPt (if x.cfg.outMode = 0 then 0 else 7) st time
        if ok then appliedLoop s n st time else s

/-- A group's next release instant has come (R234 to R237, R254). -/
def releaseGroup (s : State) (g : Nat) : State :=
  let x := s.group g
  if !s.running iLOOP || decide (4 ≤ g) || decide (s.tai < x.nextRelease) then s
  else
    let next := x.nextRelease + groupPeriod g
    if !s.rbit rLpCtrl g then s.setGroup g { x with nextRelease := groupNext g s.tai }
    else if (s.isl iLOOP).draining then (s.setGroup g { x with nextRelease := next }).lpCount (rLpGSkip g)
    else if x.phase != .idle then
      ((s.setGroup g { x with nextRelease := next }).lpCount (rLpGOvr g)).raise rLpEvent 0
    else
      let r := x.nextRelease
      let s := s.wakeIsl iLOOP
      let s := s.setGroup g { x with
        phase := .applied, release := r, lastRelease := r, nextRelease := next, releasedAt := s.now - (s.tai - r) }
      let s := (loopsOf s g).foldl settleLoop s
      let s := (loopsOf s g).foldl (fun s n => withLoop s n fun x => { x with joined := x.enabled, secondBit := none }) s
      if s.shadow then s else (joinedOf s g).foldl (fun s n => applyLoop s n r) s

/-- GROUP_RELEASE: the groups of lower number due at the same instant are served first (R234; log 118). -/
def groupRelease (s : State) (g : Nat) : State :=
  releaseGroup (((List.range g).filter fun h => (s.group h).nextRelease == (s.group g).nextRelease).foldl releaseGroup s) g

/-- A group of lower number released at the same instant is still being served (R234). -/
def servedBefore (s : State) (g : Nat) : Bool :=
  (List.range g).any fun h => (s.group h).phase != .idle && (s.group h).release == (s.group g).release

/-- GROUP_RELEASE (R234, R235). -/
def execGroupRelease (g : Nat) (s : State) : Host.Outcome State Fault Refusal := .next (groupRelease s g)

/-- LOOP_SECOND_BIT_WRITE: the bit going to 1 follows once the write of the other was answered OK (R243). -/
def secondBitWrite (s : State) (n : Nat) : State :=
  match s.loop n with
  | none => s
  | some x =>
    match x.secondBit with
    | none => s
    | some (r, l) =>
      if !s.running iLOOP then s
      else
        let t := (s.group x.cfg.group).release
        let (ok, s) := writeBit s n r true t
        let s := withLoop s n fun x => { x with secondBit := none }
        if ok then appliedLoop s n (if r then 1 else if l then 2 else 0) t else s

def execLoopSecondBitWrite (loop : Nat) (s : State) : Host.Outcome State Fault Refusal := .next (secondBitWrite s loop)

/-! ## Step B: sample (R235, R239) -/

/-- A value of a point as f32, rounded to nearest even; a bit is 0.0 or 1.0 (R239). -/
def toF32 (type : Nat) (v : Word64) : Nat :=
  let n := v.toNat
  if type = 0 then fofInt fmt32 (n % 2)
  else if type = 1 then fofInt fmt32 (sInt 32 n)
  else if type = 2 then fofInt fmt32 (n % 2 ^ 32)
  else if type = 3 then fofInt fmt32 (sInt 64 n)
  else if type = 4 then fofInt fmt32 n
  else if type = 5 then n % 2 ^ 32
  else if type = 6 then fconv fmt64 fmt32 n
  else fofInt fmt32 (n % 65536)

/-- One read of a loop: a crossing with SOURCE 3. -/
def loopRead (s : State) (tenant pt : Nat) : LoopSample × State :=
  let (r, s) := readFrom s iLOOP 3 tenant pt
  ({ status := r.status, quality := r.quality, value := BitVec.ofNat 32 (toF32 r.type r.value), raw := r.value, type := r.type }, s)

/-- Reads a loop's points. -/
def sampleLoop (s : State) (n : Nat) : State :=
  match s.loop n with
  | none => s
  | some x =>
    let c := x.cfg
    let (a, s) := loopRead s c.tenant c.inPt
    let (b, s) := if c.spFromPt then loopRead s c.tenant c.spPt else (({} : LoopSample), s)
    let (e, s) := if c.useEnable then loopRead s c.tenant c.enPt else (({} : LoopSample), s)
    withLoop s n fun x => { x with x := a, spS := b, en := e }

/-- LOOP_SAMPLE: once every write of step A is answered, the points are read, the group's turn having come. -/
def loopSample (s : State) (g : Nat) : State :=
  let x := s.group g
  if !s.running iLOOP || s.shadow || x.phase != .applied || servedBefore s g ||
      (joinedOf s g).any fun n => ((s.loop n).bind (·.secondBit)).isSome then s
  else ((joinedOf s g).foldl sampleLoop s).setGroup g { x with phase := .sampled }

def execLoopSample (g : Nat) (s : State) : Host.Outcome State Fault Refusal := .next (loopSample s g)

/-! ## Steps C and D: evaluate (R240, R241, R250 to R252) -/

/-- A usable sample. -/
def LoopSample.usable (x : LoopSample) : Bool :=
  x.status == stOk && (x.quality == qGood || x.quality == qForced || x.quality == qSubstituted) &&
    !fisNan fmt32 x.value.toNat

/-- The setpoint in use. -/
def Loop.setpoint (x : Loop) : Word := if x.cfg.spFromPt then x.spS.value else x.cfg.sp

/-- Whether the enable point lets the loop run. -/
def Loop.permitted (x : Loop) : Bool :=
  !x.cfg.useEnable || (x.en.usable && fcmp fmt32 x.en.value.toNat 0 != some .eq)

/-- Whether the samples the law needs are usable. -/
def Loop.sound (x : Loop) : Bool := x.x.usable && (!x.cfg.spFromPt || x.spS.usable)

/-- The error of the samples. -/
def Loop.error (x : Loop) : Word :=
  let sp := x.setpoint.toNat
  let v := x.x.value.toNat
  BitVec.ofNat 32 (if x.cfg.direction then fsub fmt32 v sp else fsub fmt32 sp v)

/-- The state the law gives on usable samples. -/
def Loop.law (x : Loop) (held : Nat) (e : Nat) : Nat :=
  let a := x.cfg.bandA.toNat
  let b := x.cfg.bandB.toNat
  if x.cfg.kind = 1 then
    if x.state = 0 then (if fle fmt32 a e && decide (x.cfg.dwell2 ≤ held) then 1 else 0)
    else (if fle fmt32 e (fneg fmt32 b) && decide (x.cfg.dwell1 ≤ held) then 0 else x.state)
  else if x.state = 0 then
    if decide (x.cfg.dwell2 ≤ held) then
      if fle fmt32 a e then 1 else if fle fmt32 e (fneg fmt32 a) then 2 else 0
    else 0
  else if decide (x.cfg.dwell1 ≤ held) then
    if x.state = 1 ∧ flt fmt32 e b then 0
    else if x.state = 2 ∧ flt fmt32 (fneg fmt32 b) e then 0
    else x.state
  else x.state

/-- What one evaluation leaves, with the marks the counters need: an unusable sample, the safe state taken on loss. -/
structure Evaluated where
  loop : Loop
  unusable : Bool
  lossSafe : Bool
  deriving DecidableEq, Repr

/-- The law of R240. -/
def evaluate (x : Loop) : Evaluated :=
  let held := min 65535 (x.held + 1)
  let c := x.cfg
  let y := { x with held := held, loss := !x.sound, inhibit := !x.permitted }
  let settle (y : Loop) (next : Nat) : Loop :=
    let y := if next = x.state then y else { y with state := next, held := 0 }
    { y with pending := some y.state }
  if !x.permitted then { loop := settle y c.safe, unusable := false, lossSafe := false }
  else if !x.sound then
    let lost := min 255 (x.lost + 1)
    let safe := decide (c.lossPeriods < lost) && c.lossSafe
    { loop := settle { y with lost := lost, lossTaken := safe } (if safe then c.safe else x.state)
      unusable := true
      lossSafe := safe && !x.lossTaken }
  else
    let e := x.error
    { loop := settle { y with lost := 0, lossTaken := false, err := e, errValid := true } (x.law held e.toNat), unusable := false, lossSafe := false }

/-- The node of a trace: its value at this evaluation (Table 8.6). -/
def traceValue (x : Loop) (sel : Nat) : Word :=
  if sel = 0 then x.x.value
  else if sel = 1 then x.setpoint
  else if sel = 2 then x.err
  else if sel = 3 then BitVec.ofNat 32 x.state
  else if sel = 4 then BitVec.ofNat 32 x.applied
  else if sel = 5 then BitVec.ofNat 32 x.held
  else if sel = 6 then BitVec.ofNat 32 x.lost
  else if sel = 7 then BitVec.ofNat 32 (x.x.quality + x.x.status * 65536)
  else BitVec.ofNat 32 (b2n x.permitted)

/-- A trace channel. -/
def State.trace (s : State) (c : Nat) : Trace := tabGetD s.loops.traces c {}

/-- Replaces a trace channel. -/
def State.setTrace (s : State) (c : Nat) (x : Trace) : State :=
  { s with loops := { s.loops with traces := tabSet s.loops.traces c x } }

/-- One sample into a channel; whether it froze. -/
def Trace.record (x : Trace) (v : Word) (trigger : Bool) (release : Nat) : Trace × Bool :=
  match x.state with
  | .stopped => (x, false)
  | .frozen => (x, false)
  | .recording =>
    let y := { x with samples := (v :: x.samples).take 4096 }
    if x.mode = 1 then
      if 4096 ≤ y.samples.length then ({ y with state := .frozen }, true) else (y, false)
    else if trigger && x.mode != 4 then
      let y := { y with trigIndex := min x.pre x.samples.length, trigTime := release }
      if x.pre = 4095 then ({ y with state := .frozen }, true) else ({ y with state := .triggered, left := 4095 - x.pre }, false)
    else (y, false)
  | .triggered =>
    let y := { x with samples := (v :: x.samples).take 4096, left := x.left - 1 }
    if x.left ≤ 1 then ({ y with state := .frozen }, true) else (y, false)

/-- Every channel on a loop records once per evaluation (R250). -/
def traceLoop (s : State) (n : Nat) (r : Evaluated) (release : Nat) : State :=
  (List.range 16).foldl (fun s c =>
    let t := s.trace c
    if t.node % 1024 = n ∧ t.state ≠ .stopped then
      let trigger := (t.mode == 2 && r.loop.appliedNow) || (t.mode == 3 && r.lossSafe)
      let (t, froze) := t.record (traceValue r.loop (t.node / 1024)) trigger release
      let s := s.setTrace c t
      if froze then (s.raise rLpTraceDone c).raise rLpEvent 4 else s
    else s) s

/-- Evaluates one loop. -/
def evaluateLoop (s : State) (n release : Nat) : State :=
  match s.loop n with
  | none => s
  | some x =>
    let r := evaluate x
    let s := s.setLoop n r.loop
    let s := if r.unusable then s.lpCount rLpLoss else s
    let s := if r.lossSafe then s.raise rLpEvent 1 else s
    traceLoop s n r release

/-- The records the active ships of a release (16 Table 16.12). -/
def loopRecords (s : State) (g : Nat) : List (List Byte) :=
  let ns := joinedOf s g
  let item (n k : Nat) (x : LoopSample) : List Byte := shipItem (n + k * 4096) x.status x.quality 0 x.raw.toNat
  let samples := ns.flatMap fun n =>
    match s.loop n with
    | some x => [item n 0 x.x] ++ (if x.cfg.spFromPt then [item n 1 x.spS] else []) ++
        (if x.cfg.useEnable then [item n 2 x.en] else [])
    | none => []
  let results := ns.filterMap fun n =>
    (s.loop n).map fun x => shipItem n 0 0 x.state (x.held + x.lost * 65536)
  if ns.isEmpty then [] else [shipRecord 0x10 g samples, shipRecord 0x11 g results]

/-- Step D: the release is complete. -/
def completeGroup (s : State) (g : Nat) : State :=
  let x := s.group g
  let us := min all32 ((s.now - x.releasedAt) / 1000)
  let s := s.setReg (rLpGLast g) us
  let s := s.setReg (rLpGMax g) (max us (s.reg (rLpGMax g)))
  s.setGroup g { x with phase := .idle, shipped := [] }

/-! ## The standby (R253) -/

/-- A shipped sample becomes a loop's sample; its type is that of the standby's own record. -/
def shippedSample (s : State) (pt : Nat) (i : ShipItem) : LoopSample :=
  let t := (s.point pt).type
  { status := i.status, quality := i.qual, value := BitVec.ofNat 32 (toF32 t (BitVec.ofNat 64 i.value))
    raw := BitVec.ofNat 64 i.value, type := t }

/-- Adopts one shipped sample. -/
def supplySample (s : State) (i : ShipItem) : State :=
  withLoop s (i.key % 1024) fun x =>
    let k := i.key / 4096 % 4
    if k = 0 then { x with x := shippedSample s x.cfg.inPt i }
    else if k = 1 then { x with spS := shippedSample s x.cfg.spPt i }
    else { x with en := shippedSample s x.cfg.enPt i }

/-- Whether a shipped result differs from the standby's own. -/
def resultDiffers (s : State) (i : ShipItem) : Bool :=
  match s.loop (i.key % 1024) with
  | some x => x.state != i.flags || x.held != i.value % 65536 || x.lost != i.value / 65536 % 256
  | none => true

/-- Adopts one shipped result. -/
def adoptResult (s : State) (i : ShipItem) : State :=
  withLoop s (i.key % 1024) fun x =>
    let lost := i.value / 65536 % 256
    { x with
      state := i.flags, held := i.value % 65536, lost := lost, pending := some i.flags
      lossTaken := decide (x.cfg.lossPeriods < lost) && x.cfg.lossSafe }

/-- The standby performs in its own store the writes the active's fabric performed at this release (16 R451). -/
def shadowApply (s : State) (n time : Nat) : State :=
  match s.loop n with
  | none => s
  | some x =>
    let s := withLoop s n fun x => { x with appliedNow := false }
    match x.pending with
    | none => s
    | some st =>
      if x.written = some st then s
      else
        let (r, l) := bitsOfState st
        let ws := if x.cfg.outMode = 2 then [(x.cfg.outPt, 0, b2n r), (x.cfg.outPt + 1, 0, b2n l)]
          else [(x.cfg.outPt, if x.cfg.outMode = 0 then 0 else 7, st)]
        let s := ws.foldl (fun (s : State) (w : Nat × Nat × Nat) =>
          (fabWrite s x.cfg.tenant (loopWriter n) w.1 w.2.1 qGood (BitVec.ofNat 64 w.2.2) time).2) s
        let s := withLoop s n fun x => { x with bitRaise := some r, bitLower := some l }
        appliedLoop s n st time

/-- Evaluation in shadow: on the shipped samples, compared and then adopted; one verdict a release. Where no loop
takes part the active ships nothing, and the release is complete. -/
def shadowEvaluate (s : State) (g : Nat) : State :=
  let x := s.group g
  let items (t : Nat) : List ShipItem := ((x.shipped.filter (·.type == t)).map ShipRec.items).flatten
  if x.shipped.isEmpty then (if (joinedOf s g).isEmpty then completeGroup s g else s)
  else
    let s := if s.running iPF then (joinedOf s g).foldl (fun s n => shadowApply s n x.release) s else s
    let s := (items 0x10).foldl supplySample s
    let s := (joinedOf s g).foldl (fun s n => evaluateLoop s n x.release) s
    let differs := (items 0x11).any (resultDiffers s)
    let s := makeVerdict s 2 g x.release differs
    let s := (items 0x11).foldl adoptResult s
    completeGroup s g

/-- LOOP_EVALUATE: the loops sampled are evaluated, the release is complete. -/
def loopEvaluate (s : State) (g : Nat) : State :=
  let x := s.group g
  if !s.running iLOOP then s
  else if s.shadow then (if x.phase == .applied then shadowEvaluate s g else s)
  else if x.phase != .sampled then s
  else
    let s := (joinedOf s g).foldl (fun s n => evaluateLoop s n x.release) s
    completeGroup (ship s (loopRecords s g)) g

def execLoopEvaluate (g : Nat) (s : State) : Host.Outcome State Fault Refusal := .next (loopEvaluate s g)

/-! ## Steps of time and transitions of LOOP (R237, R254) -/

/-- A step of the time unit reaches one group; in RETAIN the return counts the releases passed (R237, R254). -/
def stepGroup (s : State) (g old new : Nat) : State :=
  let x := s.group g
  let last := ((x.lastRelease : Int) + (new : Int) - old).toNat
  if old ≤ new then
    let k := if new ≤ x.nextRelease ∨ !s.running iLOOP then 0 else (new - 1 - x.nextRelease) / groupPeriod g + 1
    (s.setGroup g { x with lastRelease := last, nextRelease := x.nextRelease + k * groupPeriod g }).lpCount (rLpGSkip g) k
  else
    s.setGroup g { x with lastRelease := last, nextRelease := groupNext g (max new (last + groupPeriod g / 2 - 1)) }

/-- A step of the time unit's time reaches LOOP in RUN, IDLE or RETAIN (R237). -/
def loopTimeStep (s : State) (old new : Nat) : State :=
  (List.range 4).foldl (fun s g => stepGroup s g old new) (s.raise rLpEvent 5)

/-- LOOP leaves RUN or IDLE: a release not complete is abandoned (R254). -/
def loopLeave (s : State) : State :=
  { s with loops := { s.loops with
      groups := tabMap (fun _ x => { x with phase := .idle, shipped := [] }) s.loops.groups
      loops := tabMap (fun _ x => { x with secondBit := none, joined := false }) s.loops.loops } }

/-- LOOP returns from RETAIN: the releases passed are counted. -/
def loopReturn (s : State) : State :=
  (List.range 4).foldl (fun s g =>
    let x := s.group g
    let k := if s.tai ≤ x.nextRelease then 0 else (s.tai - 1 - x.nextRelease) / groupPeriod g + 1
    (s.setGroup g { x with nextRelease := x.nextRelease + k * groupPeriod g }).lpCount (rLpGSkip g) k) s

/-- LOOP loses table, states and traces. -/
def loopLose (s : State) : State :=
  { s with loops := { s.loops with loops := [], groups := [], traces := [], reloaded := [] } }

/-- The groups take their next releases: LOOP has started. -/
def loopStart (s : State) : State :=
  (List.range 4).foldl (fun s g => s.setGroup g { s.group g with nextRelease := groupNext g s.tai }) s

/-! ## Enable and disable (R248) -/

/-- The state read from the output points (R248). -/
def adoptedState (s : State) (c : LoopCfg) : Nat × State :=
  let good (r : FabRes) : Bool := r.status == stOk && r.quality != qUninit
  let (a, s) := readFrom s iLOOP 3 c.tenant c.outPt
  if c.outMode = 2 then
    let (b, s) := readFrom s iLOOP 3 c.tenant (c.outPt + 1)
    let up := good a && a.value.toNat % 2 == 1
    let dn := good b && b.value.toNat % 2 == 1
    (if !good a || !good b || (up && dn) then 0 else if up then 1 else if dn then 2 else 0, s)
  else
    let v := if c.outMode = 0 then a.value.toNat % 2 else a.value.toNat % 65536
    (if good a && decide (v ≤ c.kind) then v else 0, s)

/-- Whether a point may be read by the loop: a crossing from LOOP. -/
def mayRead (s : State) (tenant pt : Nat) : Nat × State := crossStatus s iLOOP iPF 3 fun s => judged s pt tenant 0 .read

/-- Whether an output may be written by the loop and has the type of Table 8.4. -/
def mayDrive (s : State) (n tenant pt type : Nat) : Nat × State :=
  crossStatus s iLOOP iPF 4 fun s =>
    let (st, s) := judged s pt tenant (loopWriter n) .write
    (if st ≠ stOk then st else if (s.point pt).type ≠ type then stBadArgument else stOk, s)

/-- Runs judgements in order; the first that fails gives the status. -/
def firstFailure (s : State) (fs : List (State → Nat × State)) : Nat × State :=
  fs.foldl (fun (a : Nat × State) f => if a.1 = stOk then f a.2 else a) (stOk, s)

/-- Judges the points of an enable, then claims the outputs; a refused claim releases what was claimed (R248). -/
def judgeEnable (s : State) (n : Nat) (c : LoopCfg) : Nat × State :=
  let type := if c.outMode = 1 then 7 else 0
  let outs := loopOutputs c
  let (st, s) := firstFailure s
    ([fun s => mayRead s c.tenant c.inPt] ++
      (if c.spFromPt then [fun s => mayRead s c.tenant c.spPt] else []) ++
      (if c.useEnable then [fun s => mayRead s c.tenant c.enPt] else []) ++
      outs.map fun pt => fun s => mayDrive s n c.tenant pt type)
  if st ≠ stOk then (st, s)
  else
    let (st, s) := firstFailure s (outs.map fun pt => fun s =>
      crossStatus s iLOOP iPF 4 fun s => tryClaim s c.tenant (loopWriter n) pt)
    (st, if st = stOk then s else outs.foldl (fun s pt => releaseHeld s pt (loopWriter n)) s)

/-- Enables a loop: judgement, claims, the start state (R248). -/
def startLoop (s : State) (n : Nat) (adopt : Bool) : Nat × State :=
  match s.loop n with
  | none => (stTenantMismatch, s)
  | some x =>
    let (st, s) := judgeEnable s n x.cfg
    if st ≠ stOk then (st, s)
    else
      let (st0, s) := if adopt then adoptedState s x.cfg else (0, s)
      let s := withLoop s n fun x =>
        { x with
          enabled := true, joined := false, state := st0, held := 65535, lost := 0, lossTaken := false, written := none, bitRaise := none
          bitLower := none, pending := none, errValid := false, err := 0, loss := false, inhibit := false
          reloaded := false, disableDue := false, appliedNow := false }
      (stOk, { s with loops := { s.loops with
        savedOn := if s.loops.savedOn.contains n then s.loops.savedOn else s.loops.savedOn ++ [n] } })

/-- One loop of LOOP_ENABLE (R248). -/
def enableEntry (s : State) (tenant n : Nat) (on : Bool) : Nat × State :=
  match s.loop n with
  | none => (stTenantMismatch, s)
  | some x =>
    if x.cfg.tenant ≠ tenant then (stTenantMismatch, s)
    else if x.enabled then (stOk, s.setLoop n { x with disableDue := !on })
    else if on then startLoop s n x.cfg.initAdopt
    else (stOk, s)

/-- LOOP enters RUN, or the module starts: the last accepted table is loaded and the loops enabled again; a refused one
is enabled again by LOOP_ENABLE only (R254). -/
def loopRestart (s : State) : State :=
  let s := { s with loops := { s.loops with loops := s.loops.saved.map fun p => (p.1, { cfg := p.2 : Loop }) } }
  let s := resync s
  s.loops.savedOn.foldl (fun s n =>
    let (st, s) := startLoop s n true
    if st = stOk then s
    else { s with loops := { s.loops with savedOn := s.loops.savedOn.filter (· != n) } }.logEvent lvWarn iLOOP 1 0x20
      (n + st * 65536)) s

/-! ## The loop table (R245 to R247) -/

/-- A table entry from its 64 bytes (Table 8.5). -/
def loopCfgOf (e : List Byte) : LoopCfg :=
  let m := fld e 3 1
  { kind := fld e 2 1, group := bitsOf m 0 2, direction := bitOf m 2, spFromPt := bitOf m 3, useEnable := bitOf m 4
    initAdopt := bitOf m 5, tenant := fld e 4 2, outMode := fld e 6 1, lossSafe := bitOf (fld e 7 1) 0
    inPt := fld e 8 4, outPt := fld e 12 4, spPt := fld e 16 4, enPt := fld e 20 4
    sp := BitVec.ofNat 32 (fld e 24 4), bandA := BitVec.ofNat 32 (fld e 28 4), bandB := BitVec.ofNat 32 (fld e 32 4)
    dwell1 := fld e 36 2, dwell2 := fld e 38 2, lossPeriods := fld e 40 1, safe := fld e 41 1 }

/-- The bytes of an entry (Table 8.5). -/
def loopBytes (n : Nat) (c : LoopCfg) : List Byte :=
  leBytes 2 n ++ leBytes 1 c.kind ++
    leBytes 1 (c.group + b2n c.direction * 4 + b2n c.spFromPt * 8 + b2n c.useEnable * 16 + b2n c.initAdopt * 32) ++
    leBytes 2 c.tenant ++ leBytes 1 c.outMode ++ leBytes 1 (b2n c.lossSafe) ++ leBytes 4 c.inPt ++ leBytes 4 c.outPt ++
    leBytes 4 c.spPt ++ leBytes 4 c.enPt ++ leBytes 4 c.sp.toNat ++ leBytes 4 c.bandA.toNat ++ leBytes 4 c.bandB.toNat ++
    leBytes 2 c.dwell1 ++ leBytes 2 c.dwell2 ++ leBytes 1 c.lossPeriods ++ leBytes 1 c.safe ++ leBytes 22 0

/-- The checks of R246 on one entry among those before it. -/
def checkLoopEntry (s : State) (tenant : Nat) (seen : List Nat) (e : List Byte) : Nat :=
  let c := loopCfgOf e
  let n := fld e 0 2
  let bands := fisFin fmt32 c.bandA.toNat && fisFin fmt32 c.bandB.toNat && fle fmt32 0 c.bandA.toNat && fle fmt32 0 c.bandB.toNat &&
    (if c.kind = 1 then flt fmt32 0 c.bandA.toNat || flt fmt32 0 c.bandB.toNat
      else flt fmt32 0 c.bandA.toNat && fle fmt32 c.bandB.toNat c.bandA.toNat)
  let modes := if c.kind = 1 then decide (c.outMode ≤ 1) else c.outMode == 1 || c.outMode == 2
  let other := (s.loop n).any fun x => x.cfg.tenant != tenant
  if 1024 ≤ n ∨ seen.contains n ∨ 2 < c.kind ∨ !allZero (e.drop 42) then stBadArgument
  else if c.kind = 0 then (if c.tenant ≠ tenant ∨ other then stTenantMismatch else stOk)
  else if 64 ≤ fld e 3 1 ∨ 2 ≤ fld e 7 1 ∨ !modes ∨ c.kind < c.safe ∨
      2 ^ 25 ≤ c.inPt ∨ 2 ^ 25 ≤ c.outPt ∨ 2 ^ 25 ≤ c.spPt ∨ 2 ^ 25 ≤ c.enPt ∨
      (c.outMode = 2 ∧ 2 ^ 25 ≤ c.outPt + 1) ∨ (!c.spFromPt ∧ c.spPt ≠ 0) ∨ (!c.useEnable ∧ c.enPt ≠ 0) ∨ !bands then
    stBadArgument
  else if c.tenant ≠ tenant ∨ other then stTenantMismatch
  else stOk

/-- The first entry that fails: status and position. -/
def checkLoopTable (s : State) (tenant : Nat) : Nat → List Nat → List (List Byte) → Option (Nat × Nat)
  | _, _, [] => none
  | k, seen, e :: es =>
    let st := checkLoopEntry s tenant seen e
    if st = stOk then checkLoopTable s tenant (k + 1) (fld e 0 2 :: seen) es else some (st, k)

/-- One accepted entry: into the saved table, and into the engine at once or at the loop's next release (R247). -/
def putLoopEntry (s : State) (e : List Byte) : State :=
  let n := fld e 0 2
  let c := loopCfgOf e
  if c.kind = 0 then
    let s := { s with loops := { s.loops with saved := tabDel s.loops.saved n } }
    match s.loop n with
    | some x => if x.enabled then s.setLoop n { x with newCfg := some none } else reloadLoop s n none
    | none => s
  else
    let s := { s with loops := { s.loops with saved := tabSet s.loops.saved n c } }
    match s.loop n with
    | some x => if x.enabled then s.setLoop n { x with newCfg := some (some c) } else reloadLoop s n (some c)
    | none =>
      let mark := s.loops.reloaded.contains n
      { s with loops := { s.loops with reloaded := s.loops.reloaded.filter (· != n) } }.setLoop n { cfg := c, reloaded := mark }

/-- A whole table transfer: status, and the table performed wholly or not at all (R246). -/
def loadLoopTable (s : State) (tenant : Nat) (data : List Byte) : Nat × State :=
  let es := entriesAt data 0 64 (data.length / 64)
  match checkLoopTable s tenant 0 [] es with
  | some (st, k) => (st, (s.setReg rLpReject (st + k * 65536)).raise rLpEvent 3)
  | none => (stOk, resync (es.foldl putLoopEntry s))

/-- LOOP_TABLE_LOAD's response: loops defined. -/
def loopsDefined (s : State) : List Byte := leBytes 2 s.loops.loops.length ++ leBytes 2 0

/-- LOOP_TABLE_LOAD (0x0401): a MORE transfer of 64-byte entries (R245, R158); what is accepted is shipped in loads of
63 entries. -/
def execLoopTableLoad (r : Route) (tag : Nat) (s : State) : Host.Outcome State Fault Refusal :=
  .next (serve 0x0401 s r tag fun q s =>
    let p := q.payload
    let total := fld p 4 4
    if p.length < 8 then done stBadLength s
    else if total % 64 ≠ 0 ∨ total = 0 ∨ 65536 < total then done stBadArgument s
    else
      match transferPart s q (fld p 0 4) total 0 (p.drop 8) with
      | .refused st => done st s
      | .more t => ((stOk, loopsDefined s), putTransfer s t)
      | .whole t =>
        toIsland (endTransfer s 0x0401) iLOOP fun s =>
          let (st, s) := loadLoopTable s (routeTenant s q.route) t.data
          if st = stOk then
            ((stOk, loopsDefined s), (chunks 4032 17 t.data).foldl (fun s d =>
              shipConfig s 0x0401 (leBytes 4 0 ++ leBytes 4 d.length ++ d)) s)
          else done st s)

/-- The accepted entries of a LOOP_ENABLE are shipped, loop by loop (R253). -/
def shipEnables (s : State) (rs : List (List Byte)) (on : Nat) : State :=
  (rs.filter fun e => fld e 2 2 = stOk).foldl (fun s e =>
    shipConfig s 0x0402 (e.take 2 ++ leBytes 2 1 ++ leBytes 1 on ++ leBytes 3 0)) s

/-- LOOP_ENABLE (0x0402; R248). -/
def execLoopEnable (r : Route) (tag : Nat) (s : State) : Host.Outcome State Fault Refusal :=
  .next (serve 0x0402 s r tag fun q s =>
    let p := q.payload
    let n := fld p 2 2
    if p.length ≠ 8 then done stBadLength s
    else if n = 0 ∨ 1016 < n ∨ 1024 < fld p 0 2 + n ∨ 1 < fld p 4 1 ∨ !allZero (p.drop 5) then done stBadArgument s
    else
      let t := routeTenant s q.route
      let (rs, s) := (List.range n).foldl (fun (a : List (List Byte) × State) i =>
        let (st, s) := crossStatus a.2 iSAGE iLOOP 1 fun s => enableEntry s t (fld p 0 2 + i) (fld p 4 1 == 1)
        (a.1 ++ [leBytes 2 (fld p 0 2 + i) ++ leBytes 2 st], s)) ([], s)
      ((stOk, rs.flatten), shipEnables s rs (fld p 4 1)))

/-- Dwell remaining, µs (R577). -/
def dwellLeft (x : Loop) : Nat :=
  let d := if x.state = 0 then x.cfg.dwell2 else x.cfg.dwell1
  if x.enabled then min all32 ((d - x.held) * groupPeriodUs x.cfg.group) else 0

/-- One entry of LOOP_STATUS (R577). -/
def loopStatusEntry (s : State) (tenant n : Nat) : List Byte :=
  match s.loop n with
  | some x =>
    if x.cfg.tenant = tenant then
      leBytes 2 n ++ leBytes 2 stOk ++ leBytes 1 x.applied ++
        leBytes 1 (b2n x.enabled + b2n x.loss * 2 + b2n x.inhibit * 4 + b2n x.reloaded * 8) ++ leBytes 2 0 ++
        leBytes 4 (dwellLeft x) ++ leBytes 4 (if x.errValid then x.err.toNat else 0)
    else leBytes 2 n ++ leBytes 2 stTenantMismatch ++ leBytes 12 0
  | none => leBytes 2 n ++ leBytes 2 stTenantMismatch ++ leBytes 12 0

/-- LOOP_STATUS (0x0403; R577). -/
def execLoopStatus (r : Route) (tag : Nat) (s : State) : Host.Outcome State Fault Refusal :=
  .next (serve 0x0403 s r tag fun q s =>
    let p := q.payload
    let n := fld p 2 2
    if p.length ≠ 4 then done stBadLength s
    else if n = 0 ∨ 252 < n ∨ 1024 < fld p 0 2 + n then done stBadArgument s
    else
      let t := routeTenant s q.route
      let (rs, s) := (List.range n).foldl (fun (a : List (List Byte) × State) i =>
        let k := fld p 0 2 + i
        let (e, s) := crossing a.2 iSAGE iLOOP 1 (fun st => leBytes 2 k ++ leBytes 2 st ++ leBytes 12 0) (fun e => fld e 2 2)
          fun s => (loopStatusEntry s t k, s)
        (a.1 ++ [e], s)) ([], s)
      ((stOk, leBytes 2 n ++ leBytes 2 0 ++ rs.flatten), s))

/-! ## Traces (R250 to R252) -/

/-- Whether a tenant may trace a node's loop. -/
def mayTrace (s : State) (tenant node : Nat) : Bool := (s.loop (node % 1024)).any fun x => x.cfg.tenant == tenant

/-- A trace channel is configured. -/
def traceConfig (s : State) (p : List Byte) : State :=
  let w := fld p 4 4
  s.setTrace (fld p 0 1)
    { node := fld p 2 2, mode := bitsOf w 0 4, pre := bitsOf w 16 12, state := if bitsOf w 0 4 = 0 then .stopped else .recording }

/-- TRACE_CONFIG (0x0404; R250, R251). -/
def execTraceConfig (r : Route) (tag : Nat) (s : State) : Host.Outcome State Fault Refusal :=
  .next (serve 0x0404 s r tag fun q s =>
    let p := q.payload
    let c := fld p 0 1
    let node := fld p 2 2
    let w := fld p 4 4
    if p.length ≠ 8 then done stBadLength s
    else if 16 ≤ c ∨ fld p 1 1 ≠ 0 ∨ 8 < node / 1024 ∨ 4 < bitsOf w 0 4 ∨ bitsOf w 4 12 ≠ 0 ∨ bitsOf w 28 4 ≠ 0 then
      done stBadArgument s
    else toIsland s iLOOP fun s =>
      if !mayTrace s (routeTenant s q.route) node then done stTenantMismatch s
      else done stOk (shipConfig (traceConfig s p) 0x0404 p))

/-- The buffer of a channel, oldest sample first. -/
def Trace.buffer (x : Trace) : List Byte := padTo 16384 ((x.samples.reverse.map fun w => leBytes 4 w.toNat).flatten)

/-- TRACE_READ (0x0405; R252): the samples from the offset named. -/
def execTraceRead (r : Route) (tag : Nat) (s : State) : Host.Outcome State Fault Refusal :=
  .next (serve 0x0405 s r tag fun q s =>
    let p := q.payload
    let off := fld p 0 4
    if p.length ≠ 9 then done stBadLength s
    else if 16384 ≤ off ∨ fld p 4 4 ≠ 16384 ∨ 16 ≤ fld p 8 1 then done stBadArgument s
    else toIsland s iLOOP fun s =>
      let x := s.trace (fld p 8 1)
      if !mayTrace s (routeTenant s q.route) x.node then done stTenantMismatch s
      else ((stOk, leBytes 4 off ++ (x.buffer.drop off).take 4060), s))

end Sys2Proof.Machine
end

