-- ==== Sys2Proof/Machine/Vault.lean ====
section
/-! DEFINITION. The key vault (18 R487 to R504): roots, stored keys, the working key register, tenant credentials and
authorisations, session keys, and its commands. The cryptographic functions are free (log 16). -/

namespace Sys2Proof.Machine

/-! ## Roots and identity (R487, R490) -/

/-- The module's serial number, 12 ASCII digits. -/
def serialBytes : List Byte := (List.range 12).map fun i => BitVec.ofNat 8 (0x30 + Config.serialDigit i % 10)

/-- The root in force. -/
def rootBytes (s : State) : List Byte := leBytes 32 (if s.vault.testRoot then Config.testRoot else Config.deviceRoot)

/-- Seeds of the identity key pair and of the import key. -/
def identitySeed (s : State) : Nat := Config.kmac (rootBytes s) [] 256 "CFM-8420 identity"
def importSeed (s : State) : Nat := Config.kmac (rootBytes s) [] 512 "CFM-8420 import"

/-! ## The store (R491, R492, R494) -/

/-- Sets an event bit of the vault. -/
def State.kvEvent (s : State) (bit : Nat) : State := s.raise rKvEvent bit

/-- The key a handle names. -/
def keyOf (s : State) (handle : Nat) : Option StoredKey :=
  (tabGet s.vault.keys (handle % 256)).filter (·.handle == handle)

/-- A copy of a key record written to MRAM is a unit of check channel 2: 124 bytes before its check value, whose value is
free, as the record's layout and its ciphertext are (20 Table 20.4; log 122). -/
def keyUnit (s : State) (k : StoredKey) : State :=
  s.chkUnit 2 124 (BitVec.ofNat 32 (Config.keyCheck s.vault.seed [k.handle, k.tenant, k.purpose, b2n k.expire, k.uses.getD 0, b2n k.void,
    k.material])) true

/-- Writes a key to the store and to both copies in MRAM, copy 0 first (R494). -/
def putKey (s : State) (k : StoredKey) : State :=
  let i := k.handle % 256
  let s := keyUnit { s with vault := { s.vault with
    keys := tabSet s.vault.keys i k, copy0 := tabSet s.vault.copy0 i { key := k } } } k
  keyUnit { s with vault := { s.vault with copy1 := tabSet s.vault.copy1 i { key := k } } } k

/-- The working key register loses a key. -/
def clearWorking (s : State) (handle : Nat) : State :=
  if s.vault.working = handle then { s with vault := { s.vault with working := 0 } } else s

/-- A key leaves the store; its slot is free. -/
def dropKey (s : State) (k : StoredKey) : State :=
  let i := k.handle % 256
  clearWorking { s with vault := { s.vault with
      keys := tabDel s.vault.keys i, copy0 := tabDel s.vault.copy0 i, copy1 := tabDel s.vault.copy1 i } } k.handle

/-- A key becomes void: its material is erased, its slot stays listed (R492). -/
def voidKey (s : State) (k : StoredKey) : State :=
  (clearWorking (putKey s { k with void := true, material := 0, operational := none }) k.handle).kvEvent 0

/-- The next generation of a slot, skipping 0 (R491). -/
def nextGen (g : Nat) : Nat := if (g + 1) % 2 ^ 24 = 0 then 1 else (g + 1) % 2 ^ 24

/-- Stores a new key at the lowest free slot: its handle, none when 256 slots are in use. -/
def storeKey (s : State) (tenant purpose : Nat) (expire : Bool) (uses : Nat) (material : Nat) (credential : Bool)
    (operational : Option Nat) : Option (Nat × State) :=
  match tabFree s.vault.keys 0 256 with
  | none => none
  | some i =>
    let g := nextGen (tabGetD s.vault.gens i 0)
    let s := { s with vault := { s.vault with gens := tabSet s.vault.gens i g } }
    let h := i + g * 256
    some (h, putKey s
      { handle := h, tenant := tenant, purpose := purpose, expire := expire, uses := if uses = 0 then none else some uses
        void := false, material := material, credential := credential, operational := operational
        test := s.vault.testRoot })

/-- A key usable under the root and the seed in force: a key wrapped under a seed that is erased opens no more (R490,
R510). -/
def usable (s : State) (k : StoredKey) : Bool := !k.void && k.test == s.vault.testRoot && !s.vault.reseedDue

/-! ## Operations (R495, R496) -/

/-- A refused operation is counted. -/
def kvRefused (s : State) (st : Nat) : Nat × State := (st, s.stick rKvRefused rKvEvent 6)

/-- Judges an operation with a key for a tenant and a purpose; the first of absence, tenant, voidness and purpose decides
(log 35). -/
def judgeKey (s : State) (handle tenant purpose : Nat) : Except Nat StoredKey :=
  match keyOf s handle with
  | none => .error stKeyVoid
  | some k =>
    if k.tenant ≠ tenant then .error stTenantMismatch
    else if !usable s k then .error stKeyVoid
    else if k.purpose ≠ purpose then .error stKeyPurpose
    else .ok k

/-- One use of a key: loaded into the register, its counter decremented; at 0, which takes the place of the counter's
largest value, the key is void, and the event reaches the interrupt controller and the fault log (R492, R495; 00 R13; 22
R564). -/
def useKey (s : State) (k : StoredKey) : State :=
  let s := { s with vault := { s.vault with working := k.handle } }
  let s := s.stick rKvOps rKvEvent 6
  match k.uses with
  | none => s
  | some n =>
    if n ≤ 1 then (voidKey s { k with uses := some 0 }).logEvent lvWarn iVLT 1 0 k.handle
    else putKey s { k with uses := some (n - 1) }

/-- AES-256-GCM sealing: ciphertext and tag. -/
def gcm (key : Nat) (nonce aad plain : List Byte) : List Byte × List Byte :=
  let c := padTo plain.length (Config.gcmSeal key nonce aad plain)
  (c, padTo 16 (Config.gcmTag key nonce aad c))

/-- AES-256-GCM opening: none when the tag fails. -/
def gcmOpen? (key : Nat) (nonce aad c tag : List Byte) : Option (List Byte) :=
  if padTo 16 (Config.gcmTag key nonce aad c) = tag then some (padTo c.length (Config.gcmOpen key nonce aad c)) else none

/-! ## Tenants (R501 to R503) -/

/-- The credential of a tenant. -/
def credentialOf (s : State) (tenant : Nat) : Option StoredKey :=
  (s.vault.keys.find? fun p => p.2.credential && p.2.tenant == tenant && usable s p.2).map (·.2)

/-- Whether a tenant is enrolled; house always is. -/
def enrolled (s : State) (tenant : Nat) : Bool := tenant == house || (credentialOf s tenant).isSome

/-- Enrolled tenants, house included. -/
def tenantCount (s : State) : Nat :=
  1 + (s.vault.keys.filter fun p => p.2.credential && !p.2.void && p.2.tenant != house).length

/-- The vault checks a tag under a tenant's credential: one operation with that key (R495, R499). -/
def useCredential (s : State) (tenant : Nat) : State :=
  match credentialOf s tenant with
  | some k => useKey s k
  | none => s

/-- Whether a 32-byte tag is right under a tenant's credential (R499, R502). -/
def tagMatches (s : State) (tenant : Nat) (x : List Byte) (label : String) (tag : List Byte) : Bool :=
  match credentialOf s tenant with
  | some k => tag.length == 32 && leNat tag == Config.kmac (leBytes 32 k.material) x 256 label % 2 ^ 256
  | none => false

/-- A mailbox becomes unbound: requests on it complete with NOT_PERMITTED, its transfers and claims end (R138, R158). -/
def unbindBox (s : State) (m : Nat) : State :=
  let r : Route := .mailbox m
  let s := abandonWhere s r fun _ => true
  let s := dropClaims s (routeWriter r)
  let qs := s.mail.inProgress.filter (·.route == r)
  let s := s.setBox m { s.box m with bind := none }
  let s := { s with vault := { s.vault with statements := s.vault.statements.filter (·.route != r) } }
  qs.foldl (fun s q => respond s q stNotPermitted []) s

/-- The mailboxes bound to a tenant, apart from mailbox 0. -/
def boxesOf (s : State) (tenant : Nat) : List Nat :=
  (s.mail.boxes.filter fun p => p.1 != 0 && (p.2.bind.map Bind.tenant) == some tenant).map (·.1)

/-- The credential of a tenant is erased: its mailboxes become unbound and its sessions close (R138, R144). -/
def credentialGone (s : State) (tenant : Nat) : State :=
  let s := (boxesOf s tenant).foldl unbindBox s
  ((s.mail.sessions.filter fun p => p.2.tenant == tenant).map (·.1)).foldl closeSession s

/-- Every key of a tenant is erased (R503). -/
def eraseTenant (s : State) (tenant : Nat) : State :=
  let s := ((s.vault.keys.filter fun p => p.2.tenant == tenant).map (·.2)).foldl dropKey s
  credentialGone s tenant

/-! ## Session keys (R500, R509) -/

/-- The MACsec associations of every port are lost (12 R357). -/
def dropSaks (s : State) : State :=
  let f (p : Port) : Port :=
    { p with macsec := p.macsec.map fun x => { x with txNow := none, txNext := none, rxNow := none, rxNext := none } }
  { s with switch := { s.switch with ports := tabMap (fun _ p => f p) s.switch.ports } }

/-- The working key register and every session key are erased: every session closes, MACsec traffic stops. -/
def eraseSessionKeys (s : State) : State :=
  let s := (tabKeys s.mail.sessions).foldl closeSession s
  let s := dropSaks s
  { s with vault := { s.vault with sessKeys := [], working := 0 } }

/-! ## Wrapped keys (R493) -/

/-- Bytes of a wrapped key whose KEY holds n bytes. -/
def wrappedSize (n : Nat) : Nat := 1588 + n + 16

/-- The key material of a wrapped key; none when any step fails. -/
def unwrapKey (s : State) (w : List Byte) : Option (List Byte) :=
  let n := fld w 6 2
  match Config.kemDecap (importSeed s) (sub w 8 1568) with
  | none => none
  | some shared =>
    let key := Config.kmac (leBytes 32 shared) serialBytes 256 "CFM-8420 import"
    gcmOpen? key (sub w 1576 12) (sub w 0 8 ++ serialBytes) (sub w 1588 n) (sub w (1588 + n) 16)

/-- VERSION, the reserved bits and LENGTH of a wrapped key are as Table 18.3. -/
def wrappedForm (w : List Byte) (lengths : List Nat) : Bool :=
  fld w 0 1 == 1 && bitsOf (fld w 1 1) 2 5 == 0 && bitsOf (fld w 4 2) 12 4 == 0 && lengths.contains (fld w 6 2)

/-- While a level 3 source is latched: KV_STATUS.L3_HOLD (R512). -/
def l3Hold (s : State) : Bool :=
  (List.range 6).any fun i => s.rbit rVgLatch i && s.rfield rVgCfg (2 * i) 2 == 3

/-- The length of a payload whose wrapped key starts at an offset. -/
def wrappedLengthOk (p : List Byte) (off : Nat) : Bool :=
  decide (off + 8 ≤ p.length) && p.length == off + wrappedSize (fld p (off + 6) 2)

/-- Answers a stored key's handle, or STORE_FULL. -/
def stored (s : State) : Option (Nat × State) → Ans
  | some (h, s') => ((stOk, leBytes 4 h), s')
  | none => done stStoreFull s

/-! ## Commands -/

/-- KEY_IMPORT (0x0C03). -/
def execKeyImport (r : Route) (tag : Nat) (s : State) : Host.Outcome State Fault Refusal :=
  .next (serve 0x0C03 s r tag fun q s =>
    let p := q.payload
    let w := p.drop 4
    if !wrappedLengthOk p 4 then done stBadLength s
    else if fld p 1 1 ≠ 0 ∨ !wrappedForm w [32] ∨ fld p 0 1 ≠ fld w 1 1 ∨ fld p 2 2 ≠ fld w 2 2 ∨ fld w 4 2 ≠ 0 then
      done stBadArgument s
    else toIsland s iVLT fun s =>
      if l3Hold s then done stNotPermitted s
      else
        match unwrapKey s w with
        | none => done stBadCheck s
        | some m =>
          stored s (storeKey s house (bitsOf (fld w 1 1) 0 2) (bitOf (fld w 1 1) 7) (fld w 2 2) (leNat m) false none))

/-- TENANT_ENROL (0x0C01; R501). -/
def execTenantEnrol (r : Route) (tag : Nat) (s : State) : Host.Outcome State Fault Refusal :=
  .next (serve 0x0C01 s r tag fun q s =>
    let p := q.payload
    let w := p.drop 4
    let t := fld p 0 2
    if !wrappedLengthOk p 4 then done stBadLength s
    else if fld p 2 2 ≠ 0 ∨ nobody ≤ t ∨ !wrappedForm w [32, 64] ∨ fld w 1 1 ≠ 3 ∨ fld w 2 2 ≠ 0 ∨ fld w 4 2 ≠ t then
      done stBadArgument s
    else toIsland s iVLT fun s =>
      if l3Hold s then done stNotPermitted s
      else
        match unwrapKey s w with
        | none => done stBadCheck s
        | some m =>
          let op := if fld w 6 2 = 64 then some (leNat (m.drop 32)) else none
          let old := credentialOf s t
          match storeKey s t 3 false 0 (leNat (m.take 32)) true op with
          | none => done stStoreFull s
          | some (h, s) =>
            let s := match old with
              | some k => credentialGone (voidKey s k) t
              | none => s
            ((stOk, leBytes 4 h), s))

/-- KEY_DELETE (0x0C04). -/
def execKeyDelete (r : Route) (tag : Nat) (s : State) : Host.Outcome State Fault Refusal :=
  .next (serve 0x0C04 s r tag fun q s =>
    if q.payload.length ≠ 4 then done stBadLength s
    else toIsland s iVLT fun s =>
      match keyOf s (fld q.payload 0 4) with
      | none => done stKeyVoid s
      | some k =>
        let s := dropKey s k
        done stOk (if k.credential && !k.void then credentialGone s k.tenant else s))

/-- An entry of KEY_LIST: flags [1] VOID. -/
def keyListEntry (k : StoredKey) : List Byte :=
  leBytes 4 k.handle ++ leBytes 2 k.tenant ++ leBytes 1 k.purpose ++ leBytes 1 (b2n k.void * 2) ++
    leBytes 2 (k.uses.getD 0) ++ leBytes 2 0

/-- KEY_LIST (0x0C05): keys from a slot on; a tenant sees its own (log 35). -/
def execKeyList (r : Route) (tag : Nat) (s : State) : Host.Outcome State Fault Refusal :=
  .next (serve 0x0C05 s r tag fun q s =>
    if q.payload.length ≠ 4 then done stBadLength s
    else if fld q.payload 2 2 ≠ 0 then done stBadArgument s
    else toIsland s iVLT fun s =>
      let t := routeTenant s q.route
      let ks := s.vault.keys.filter fun e =>
        decide (fld q.payload 0 2 ≤ e.1) && (t == house || e.2.tenant == t)
      ((stOk, (ks.map fun e => keyListEntry e.2).flatten), s))

/-- KEY_ENCRYPT (0x0C08; R498). -/
def execKeyEncrypt (r : Route) (tag : Nat) (s : State) : Host.Outcome State Fault Refusal :=
  .next (serve 0x0C08 s r tag fun q s =>
    let p := q.payload
    let a := fld p 4 2
    let d := fld p 6 2
    if p.length < 8 ∨ p.length ≠ 8 + a + d ∨ 4028 < a + d then done stBadLength s
    else toIsland s iVLT fun s =>
      match judgeKey s (fld p 0 4) (routeTenant s q.route) 0 with
      | .error st => done st (kvRefused s st).2
      | .ok k =>
        let (nonce, s) := s.drawBytes 12
        let (c, t) := gcm k.material nonce (sub p 8 a) (sub p (8 + a) d)
        ((stOk, nonce ++ c ++ t), useKey s k))

/-- KEY_DECRYPT (0x0C09; R498). -/
def execKeyDecrypt (r : Route) (tag : Nat) (s : State) : Host.Outcome State Fault Refusal :=
  .next (serve 0x0C09 s r tag fun q s =>
    let p := q.payload
    let a := fld p 4 2
    let d := fld p 6 2
    if p.length < 8 ∨ p.length ≠ 36 + a + d ∨ 4028 < a + d then done stBadLength s
    else toIsland s iVLT fun s =>
      match judgeKey s (fld p 0 4) (routeTenant s q.route) 1 with
      | .error st => done st (kvRefused s st).2
      | .ok k =>
        match gcmOpen? k.material (sub p 8 12) (sub p 20 a) (sub p (20 + a) d) (sub p (20 + a + d) 16) with
        | some x => ((stOk, x), useKey s k)
        | none => done stBadCheck (useKey s k))

/-- Bytes 0 to 7 of Table 18.3 for an exported key. -/
def exportHead (k : StoredKey) : List Byte :=
  leBytes 1 1 ++ leBytes 1 (k.purpose + b2n k.expire * 128) ++ leBytes 2 (k.uses.getD 0) ++ leBytes 2 k.tenant ++ leBytes 2 32

/-- KEY_WRAP (0x0C0A; R498). -/
def execKeyWrap (r : Route) (tag : Nat) (s : State) : Host.Outcome State Fault Refusal :=
  .next (serve 0x0C0A s r tag fun q s =>
    let p := q.payload
    if p.length ≠ 8 then done stBadLength s
    else toIsland s iVLT fun s =>
      let t := routeTenant s q.route
      match judgeKey s (fld p 0 4) t 2 with
      | .error st => done st (kvRefused s st).2
      | .ok k =>
        let target : Except Nat StoredKey := match judgeKey s (fld p 4 4) t 0 with
          | .ok x => .ok x
          | .error st => if st = stKeyPurpose then judgeKey s (fld p 4 4) t 1 else .error st
        match target with
        | .error st => done st (kvRefused s st).2
        | .ok x =>
          if x.expire then done stKeyPurpose (kvRefused s stKeyPurpose).2
          else
            let (nonce, s) := s.drawBytes 12
            let h := exportHead x
            let (c, g) := gcm k.material nonce h (leBytes 32 x.material)
            ((stOk, h ++ nonce ++ c ++ g), useKey s k))

/-- KEY_UNWRAP (0x0C0B; R498). -/
def execKeyUnwrap (r : Route) (tag : Nat) (s : State) : Host.Outcome State Fault Refusal :=
  .next (serve 0x0C0B s r tag fun q s =>
    let p := q.payload
    let w := p.drop 4
    let t := routeTenant s q.route
    if p.length ≠ 72 then done stBadLength s
    else if !wrappedForm w [32] then done stBadArgument s
    else toIsland s iVLT fun s =>
      match judgeKey s (fld p 0 4) t 2 with
      | .error st => done st (kvRefused s st).2
      | .ok k =>
        if fld w 4 2 ≠ k.tenant then done stTenantMismatch (kvRefused s stTenantMismatch).2
        else if 1 < bitsOf (fld w 1 1) 0 2 then done stKeyPurpose (kvRefused s stKeyPurpose).2
        else if (tabFree s.vault.keys 0 256).isNone then done stStoreFull s
        else
          let s' := useKey s k
          match gcmOpen? k.material (sub w 8 12) (sub w 0 8) (sub w 20 32) (sub w 52 16) with
          | none => done stBadCheck s'
          | some m => stored s' (storeKey s' k.tenant (bitsOf (fld w 1 1) 0 2) (bitOf (fld w 1 1) 7) (fld w 2 2) (leNat m) false none))

/-- KEY_DERIVE (0x0C0C; R498). -/
def execKeyDerive (r : Route) (tag : Nat) (s : State) : Host.Outcome State Fault Refusal :=
  .next (serve 0x0C0C s r tag fun q s =>
    let p := q.payload
    let b := fld p 5 1
    if p.length < 8 ∨ p.length ≠ 8 + b then done stBadLength s
    else if b = 0 ∨ 64 < b ∨ bitsOf (fld p 4 1) 2 5 ≠ 0 then done stBadArgument s
    else toIsland s iVLT fun s =>
      match judgeKey s (fld p 0 4) (routeTenant s q.route) 3 with
      | .error st => done st (kvRefused s st).2
      | .ok k =>
        if (tabFree s.vault.keys 0 256).isNone then done stStoreFull s
        else
          let s := useKey s k
          let m := Config.kmac (leBytes 32 k.material) (p.drop 8) 256 "CFM-8420 derive" % 2 ^ 256
          stored s (storeKey s k.tenant (bitsOf (fld p 4 1) 0 2) (bitOf (fld p 4 1) 7) (fld p 6 2) m false none))

/-- DEBUG_ENABLE (0x0C07; R489). -/
def execDebugEnable (r : Route) (tag : Nat) (s : State) : Host.Outcome State Fault Refusal :=
  .next (serve 0x0C07 s r tag fun q s =>
    let p := q.payload
    if p.length ≠ 64 then done stBadLength s
    else if fld p 1 3 ≠ 0 ∨ fld p 28 4 ≠ 0 then done stBadArgument s
    else toIsland s iVLT fun s =>
      if fld p 0 1 = 1 ∧ sub p 4 12 = serialBytes ∧ s.reg rKvDebugCtr < fld p 16 4 ∧ s.tai < fld p 20 8 ∧ !l3Hold s ∧
          leNat (p.drop 32) = Config.kmac (leBytes 32 Config.debugKey) (p.take 32) 256 "CFM-8420 debug" % 2 ^ 256 then
        let s := s.setReg rKvDebugCtr (fld p 16 4)
        let s := eraseSessionKeys s
        let s := { s with vault := { s.vault with testRoot := true, debugOpen := true } }
        done stOk (s.kvEvent 2)
      else done stNotPermitted (s.kvEvent 3))

end Sys2Proof.Machine
end

