-- ==== Sys2Proof/Machine/Energy.lean ====
section
/-! DEFINITION. Energy registers (10): accumulators, demand, apportioning, spill outputs, pulse inputs, the totals area. -/

namespace Sys2Proof.Machine

/-! ## Accumulator numbers (10 R284 to R288) -/

/-- An assigned accumulator number (Table 10.1). -/
def accAssigned (n : Nat) : Bool :=
  (decide (n < 0x300) && decide (n % 16 < 13)) || (decide (0x400 ≤ n) && decide (n < 0x800) && n % 4 != 3) ||
    (decide (0x800 ≤ n) && decide (n < 0x808))

/-- A combined accumulator. -/
def accCombined (n : Nat) : Bool :=
  (decide (n < 0x300) && (n % 16 == 2 || n % 16 == 7 || n % 16 == 10)) ||
    (decide (0x400 ≤ n) && decide (n < 0x800) && n % 4 == 2)

/-- A remainder accumulator. -/
def accRemainder (n : Nat) : Bool := decide (n < 0x300) && (n % 16 == 11 || n % 16 == 12)

/-- An accumulator that keeps demand (R291). -/
def accDemand (n : Nat) : Bool :=
  (decide (n < 0x300) && n % 16 == 2) || (decide (0x400 ≤ n) && decide (n < 0x800) && n % 4 == 2) ||
    (decide (0x800 ≤ n) && decide (n < 0x808))

/-- The system point of an accumulator (R285). -/
def accPoint (n : Nat) : Nat := 0x0011000 + n

/-- The metering function that writes an accumulator's point. -/
def accFunction (n : Nat) : Nat := if n < 0x400 then 1 else if n < 0x800 then 2 else 3

/-- An accumulator. -/
def State.acc (s : State) (n : Nat) : Acc := tabGetD s.meter.accs n {}

/-- Replaces an accumulator. -/
def State.setAcc (s : State) (n : Nat) (x : Acc) : State :=
  { s with meter := { s.meter with accs := tabSet s.meter.accs n x } }

/-- The tenant of an accumulator: its slot's, or house. -/
def accTenant (s : State) (n : Nat) : Nat :=
  if 0x400 ≤ n ∧ n < 0x800 then ((tabGet s.meter.slots ((n - 0x400) / 4)).map (·.tenant)).getD house else house

/-- Writes an accumulator's point where it is defined. -/
def writeAccPoint (s : State) (n time : Nat) : State :=
  let x := s.acc n
  (writeFrom s iMTR 3 (accTenant s n) (meterWriter (accFunction n)) (accPoint n) 4
    (if x.failed then qOutOfRange else qGood) (BitVec.ofNat 64 x.reported) time).2

/-! ## Spill residues (R298) -/

/-- A spill output. -/
def State.spill (s : State) (o : Nat) : Spill := tabGetD s.meter.spills o {}

/-- Replaces a spill output. -/
def State.setSpill (s : State) (o : Nat) (x : Spill) : State :=
  { s with meter := { s.meter with spills := tabSet s.meter.spills o x } }

/-- One spill output takes an increment of its accumulator. -/
def feedSpill (s : State) (o : Nat) (delta : Int) : State :=
  let x := s.spill o
  let r := x.residue + delta
  let n := if r < 0 ∨ x.threshold = 0 then 0 else r.toNat / x.threshold
  let lost := x.backlog + n - 65535
  let s := s.setSpill o { x with residue := r - (n * x.threshold : Nat), backlog := min 65535 (x.backlog + n) }
  if lost = 0 then s
  else (((s.stick (rMeSpillLost o) rMeEvent 10 lost).raise (rMeSpillStat o) 16).raise rMeEvent 1).logEvent lvWarn iMTR 1 1 o

/-- The spill outputs bound to an accumulator take its increment. -/
def feedSpills (s : State) (n : Nat) (delta : Int) : State :=
  (List.range 8).foldl (fun s o => if (s.spill o).bound && (s.spill o).acc == n then feedSpill s o delta else s) s

/-! ## Accumulating (R288, R289, R291) -/

/-- Whether a sum passes the range of an accumulator as it is reported: a carry out of bit 63, or an overflow of the i64
(R289, R306). -/
def accWraps (n : Nat) (x : Acc) (delta : Int) : Bool :=
  if accRemainder n then false
  else if accCombined n && !x.absolute then
    let v := sInt 64 x.reported + delta
    decide (v < -(2 ^ 63 : Int)) || decide ((2 ^ 63 : Int) ≤ v)
  else decide ((2 ^ 64 : Int) ≤ (x.reported : Int) + delta)

/-- An accumulator takes an increment at an instant, and with it the spill outputs bound to it. -/
def accTake (s : State) (n : Nat) (delta : Int) (time : Nat) : State :=
  let x := s.acc n
  let wraps := accWraps n x delta
  let y := { x with master := uNat 64 ((x.master : Int) + delta), time := time }
  let y := if wraps then { y with wraps := (x.wraps + 1) % 256, wrapPending := true } else y
  let s := s.setAcc n y
  let s := if wraps then (s.raise rMeEvent 0).logEvent lvInfo iMTR 1 0 n else s
  if delta = 0 then s else feedSpills s n delta

/-- An accumulator takes a block's increment; its point is written when it changes (R285). -/
def accAdd (s : State) (n : Nat) (delta : Int) (time : Nat) : State :=
  if delta = 0 then accTake s n delta time else writeAccPoint (accTake s n delta time) n time

/-- Energy that ended in an interval already closed joins the newest that had begun by then. -/
def lateDemand (time imp exp : Nat) : List DemandDone → List DemandDone
  | [] => []
  | h :: hs =>
    if h.start ≤ time then { h with imp := (h.imp + imp) % 2 ^ 32, exp := (h.exp + exp) % 2 ^ 32 } :: hs
    else h :: lateDemand time imp exp hs

/-- Demand takes the increments of a block or pulse in the interval that contains its end instant; `start` is that of the
interval in progress (R291). -/
def Demand.add (d : Demand) (start time imp exp : Nat) : Demand :=
  if start ≤ time ∨ !d.history.any (fun h => decide (h.start ≤ time)) then { d with imp := d.imp + imp, exp := d.exp + exp }
  else
    { d with
      history := lateDemand time ((d.impRest + imp) / 256) ((d.expRest + exp) / 256) d.history
      impRest := (d.impRest + imp) % 256, expRest := (d.expRest + exp) % 256 }

/-- The demand of an accumulator. -/
def State.demand (s : State) (n : Nat) : Demand := tabGetD s.meter.demands n {}

/-- Replaces the demand of an accumulator. -/
def State.setDemand (s : State) (n : Nat) (d : Demand) : State :=
  { s with meter := { s.meter with demands := tabSet s.meter.demands n d } }

/-- Demand of an accumulator takes import and export increments that ended at an instant. -/
def demandAdd (s : State) (n imp exp time : Nat) : State :=
  s.setDemand n ((s.demand n).add s.meter.demandStart time imp exp)

/-- A mode accepted for a combined accumulator takes effect, at the start of a block (R288). -/
def settleMode (s : State) (n : Nat) : State :=
  match (s.acc n).newAbsolute with
  | some b => s.setAcc n { s.acc n with absolute := b, newAbsolute := none }
  | none => s

/-- A combined accumulator takes an import-side and an export-side increment by its mode. -/
def accCombine (s : State) (n imp exp time : Nat) : State :=
  let x := s.acc n
  accAdd s n (if x.absolute then ((imp + exp : Nat) : Int) else (imp : Int) - (exp : Int)) time

/-! ## Apportioning (R295, R296) -/

/-- One, in shares. -/
abbrev wholeShare : Nat := 0x1000000

/-- The entries on a circuit in slot order: slot and entry. -/
def entriesOn (s : State) (c : Nat) : List (Nat × AppEntry) :=
  s.meter.slots.flatMap fun p => (p.2.entries.filter (·.circuit == c)).map fun e => (p.1, e)

/-- Replaces the entry of a slot on a circuit. -/
def putEntry (s : State) (t : Nat) (e : AppEntry) : State :=
  match tabGet s.meter.slots t with
  | some x =>
    let x := { x with entries := x.entries.map fun y => if y.circuit == e.circuit then e else y }
    { s with meter := { s.meter with slots := tabSet s.meter.slots t x } }
  | none => s

/-- A weight as f64, when the read makes it usable (R296). -/
def weightOf (r : FabRes) : Option (BitVec 64) :=
  if r.status ≠ stOk ∨ (r.quality ≠ qGood ∧ r.quality ≠ qForced ∧ r.quality ≠ qSubstituted) then none
  else
    let n := r.value.toNat
    let v :=
      if r.type = 0 then fofInt fmt64 (n % 2)
      else if r.type = 1 then fofInt fmt64 (sInt 32 n)
      else if r.type = 2 then fofInt fmt64 (n % 2 ^ 32)
      else if r.type = 3 then fofInt fmt64 (sInt 64 n)
      else if r.type = 4 then fofInt fmt64 n
      else if r.type = 5 then fconv fmt32 fmt64 (n % 2 ^ 32)
      else if r.type = 6 then n
      else fofInt fmt64 (n % 65536)
    if fisFin fmt64 v && fle fmt64 0 v && fle fmt64 v (fofInt fmt64 4294967295) then some (BitVec.ofNat 64 v) else none

/-- Reads the weight of an entry as house; an unusable one keeps the last usable (R296). -/
def readWeight (s : State) (t : Nat) (e : AppEntry) : State :=
  if e.source ≠ 1 then s
  else
    let (r, s) := readFrom s iMTR 0 house e.value
    match weightOf r with
    | some w => putEntry s t { e with weight := w }
    | none => s.raise rMeEvent 8

/-- The share of an entry in a block (R295). -/
def shareOf (e : AppEntry) (rest : Nat) (wsum : Nat) : Nat :=
  if e.source = 0 then e.value
  else if flt fmt64 0 wsum then
    match ffloorInt fmt64 (fdiv fmt64 (fmul fmt64 (fofInt fmt64 rest) e.weight.toNat) wsum) with
    | some (.ok k) => k.toNat
    | _ => 0
  else 0

/-- Splits one side's increment over the entries of a circuit; what each slot is handed stands in the list (R295). -/
def splitSide (s : State) (c e : Nat) (exp : Bool) : List (Nat × Nat) × State :=
  let es := entriesOn s c
  let fixed := (es.map fun p => if p.2.source = 0 then p.2.value else 0).sum
  let wsum := (es.filter fun p => p.2.source == 1).foldl (fun a p => fadd fmt64 a p.2.weight.toNat) 0
  es.foldl (fun (a : List (Nat × Nat) × State) p =>
    let j := p.2
    let x := (if exp then j.residueExp else j.residueImp) + e * shareOf j (wholeShare - fixed) wsum
    let j := if exp then { j with residueExp := x % wholeShare } else { j with residueImp := x % wholeShare }
    -- the other side's residue of this entry is the one the state holds now
    let now := (entriesOn a.2 c).find? (·.1 == p.1)
    let j := match now with
      | some q => if exp then { j with residueImp := q.2.residueImp } else { j with residueExp := q.2.residueExp }
      | none => j
    (a.1 ++ [(p.1, x / wholeShare)], putEntry a.2 p.1 j)) ([], s)

/-- What a list hands to a slot. -/
def handed (hs : List (Nat × Nat)) (t : Nat) : Nat := ((hs.filter (·.1 == t)).map Prod.snd).sum

/-- Apportions a block's active import and export (R295). -/
def apportion (s : State) (c imp exp time : Nat) : State :=
  let s := (entriesOn s c).foldl (fun s p => readWeight s p.1 p.2) s
  let (hi, s) := splitSide s c imp false
  let (he, s) := splitSide s c exp true
  let slots := (entriesOn s c).map Prod.fst
  let s := slots.foldl (fun s t =>
    let b := 0x400 + 4 * t
    let s := accAdd s b (handed hi t) time
    let s := accAdd s (b + 1) (handed he t) time
    let s := accCombine s (b + 2) (handed hi t) (handed he t) time
    demandAdd s (b + 2) (handed hi t) (handed he t) time) s
  let s := accAdd s (16 * c + 11) ((imp : Int) - ((hi.map Prod.snd).sum : Int)) time
  accAdd s (16 * c + 12) ((exp : Int) - ((he.map Prod.snd).sum : Int)) time

/-- A slot's accepted entry list takes effect on a circuit whose next block starts (R295); an entry kept keeps its
residues (log 40). -/
def TenantSlot.settle (x : TenantSlot) (c : Nat) : TenantSlot :=
  match x.newEntries with
  | some es =>
    if x.newLeft.contains c then
      let keep (e : AppEntry) : AppEntry :=
        match x.entries.find? fun o => o.circuit == c && o.source == e.source with
        | some o => { e with residueImp := o.residueImp, residueExp := o.residueExp, weight := o.weight }
        | none => e
      let left := x.newLeft.filter (· != c)
      { x with
        entries := x.entries.filter (·.circuit != c) ++ (es.filter (·.circuit == c)).map keep
        newLeft := left
        newEntries := if left.isEmpty then none else some es }
    else x
  | none => x

/-- Every slot's list takes effect on a circuit whose next block starts. -/
def settleEntries (s : State) (c : Nat) : State :=
  { s with meter := { s.meter with slots := tabMap (fun _ x => x.settle c) s.meter.slots } }

/-- What waits for a circuit's next block takes effect: entry lists, and the modes of its combined accumulators and of the
slots it feeds (R288, R295). -/
def settleBlock (s : State) (c : Nat) : State :=
  let s := settleEntries s c
  ([16 * c + 2, 16 * c + 7, 16 * c + 10] ++ (entriesOn s c).map fun (p : Nat × AppEntry) => 0x402 + 4 * p.1).foldl settleMode s

/-! ## A block is accumulated (R288, R295) -/

/-- The energies a block hands on: active, reactive, apparent, and its quadrant, 0 for a no-load block. -/
structure BlockEnergy where
  active : Nat
  reactive : Nat
  apparent : Nat
  quadrant : Nat
  deriving DecidableEq, Repr

/-- The circuit's accumulators, demand and apportioning take a block (Table 10.2). -/
def accumulate (s : State) (c : Nat) (b : BlockEnergy) (time : Nat) : State :=
  let n := 16 * c
  let imp := b.quadrant == 1 || b.quadrant == 4
  let exp := b.quadrant == 2 || b.quadrant == 3
  let ai := if imp then b.active else 0
  let ae := if exp then b.active else 0
  let r (q : Nat) : Nat := if b.quadrant = q then b.reactive else 0
  let si := if imp then b.apparent else 0
  let se := if exp then b.apparent else 0
  let s := accAdd s n ai time
  let s := accAdd s (n + 1) ae time
  let s := accCombine s (n + 2) ai ae time
  let s := [1, 2, 3, 4].foldl (fun s q => accAdd s (n + 2 + q) (r q) time) s
  let s := accCombine s (n + 7) (r 1 + r 2) (r 3 + r 4) time
  let s := accAdd s (n + 8) si time
  let s := accAdd s (n + 9) se time
  let s := accCombine s (n + 10) si se time
  let s := demandAdd s (n + 2) ai ae time
  apportion s c ai ae time

/-! ## Demand intervals (R291, R292) -/

/-- The interval length, ns (Table 10.18). -/
def demandLength (s : State) : Nat := max 1 (min 60 (s.rfield rMeDmdCtrl 0 6)) * 60 * nsSec

/-- The first boundary after an instant. -/
def demandAfter (s : State) (t : Nat) : Nat := (t / demandLength s + 1) * demandLength s

/-- Accumulators that keep demand now. -/
def demandKeys (s : State) : List Nat :=
  (tabKeys s.meter.circuits).map (16 * · + 2) ++ (tabKeys s.meter.slots).map (0x402 + 4 * ·) ++
    (List.range 8).map (0x800 + ·)

/-- One accumulator closes its interval at a boundary, and records the intervals that passed with 0 energy. -/
def closeDemand (d : Demand) (start first len : Nat) (zeros : Nat) : Demand :=
  let i := d.imp + d.impRest
  let e := d.exp + d.expRest
  let done : DemandDone := { start := start, imp := i / 256 % 2 ^ 32, exp := e / 256 % 2 ^ 32 }
  let passed := (List.range (min zeros 126)).map fun k =>
    ({ start := first + (zeros - 1 - k) * len, imp := 0, exp := 0 } : DemandDone)
  { impRest := i % 256, expRest := e % 256, history := (passed ++ done :: d.history).take 126 }

/-- The interval in progress closes when its boundary has come. -/
def demandBoundary (s : State) : State :=
  let len := demandLength s
  if !s.running iMTR || decide (s.tai < s.meter.demandNext) then s
  else
    let first := s.meter.demandNext
    let zeros := (s.tai - first) / len
    let s1 := (demandKeys s).foldl (fun s n =>
      s.setDemand n (closeDemand (s.demand n) s.meter.demandStart first len zeros)) s
    { s1 with meter := { s1.meter with demandStart := first + zeros * len, demandNext := first + (zeros + 1) * len } }

/-- A step of time: after a backward one the next boundary after the new time closes the interval (R292). -/
def demandStep (s : State) (old new : Nat) : State :=
  if new < old then { s with meter := { s.meter with demandNext := demandAfter s new } } else s

/-- DEMAND_BOUNDARY (R291). -/
def execDemandBoundary (s : State) : Host.Outcome State Fault Refusal := .next (demandBoundary s)

/-! ## Spill pulses (R299) -/

/-- The grid of an output: whole multiples of 2 W. -/
def spillGrid (s : State) (x : Spill) : Nat := s.tai / (2 * x.width * nsMs) * (2 * x.width * nsMs)

/-- A pulse starts at a grid instant, within the cycle of the reference that holds it (log 121). A standby computes it and
keeps its output released; a module that holds or is kept silent starts none. -/
def spillStart (s : State) (o : Nat) : State :=
  let x := s.spill o
  if !s.running iMTR || !x.bound || x.backlog == 0 || x.driving || !(s.acts || s.shadow) ||
      decide (spillGrid s x ≤ x.start) || decide (spillGrid s x + 10 < s.tai) then s
  else s.setSpill o { x with
    backlog := x.backlog - 1, driving := true, quiet := !s.acts, start := spillGrid s x, pulseWidth := x.width }

/-- A pulse ends after its width. -/
def spillEnd (s : State) (o : Nat) : State :=
  let x := s.spill o
  if x.driving && decide (x.start + x.pulseWidth * nsMs ≤ s.tai) then s.setSpill o { x with driving := false } else s

def execSpillPulseStart (o : Nat) (s : State) : Host.Outcome State Fault Refusal :=
  .next (if o < 8 then spillStart s o else s)

def execSpillPulseEnd (o : Nat) (s : State) : Host.Outcome State Fault Refusal :=
  .next (if o < 8 then spillEnd s o else s)

/-! ## Pulse inputs (R285, R300) -/

/-- A pulse input. -/
def State.pulseIn (s : State) (k : Nat) : PulseIn := tabGetD s.meter.pulses k {}

/-- DEBOUNCE in ns. -/
def debounce (s : State) (k : Nat) : Nat := max 1 (min 50 (s.rfield (rMePinCfg k) 8 6)) * nsMs

/-- A new level has held for DEBOUNCE: it is accepted, and counts in the direction of EDGE. -/
def pulseAccepted (s : State) (k : Nat) (level : Bool) : State :=
  let x := s.pulseIn k
  if !s.running iMTR || x.level == level || decide (s.now < x.since + debounce s k) then s
  else
    let count := s.rbit (rMePinCfg k) 0 && (s.rbit (rMePinCfg k) 1 == level)
    let put (s : State) (c : Bool) : State := { s with meter := { s.meter with
      pulses := tabSet s.meter.pulses k { level := level, since := s.now, changed := x.changed || c } } }
    let w := s.reg (rMePinWt k)
    if count && w != 0 then put (demandAdd (accTake s (0x800 + k) w s.tai) (0x800 + k) w 0 s.tai) true
    else put s false

def execPulseAccepted (k : Nat) (level : Bool) (s : State) : Host.Outcome State Fault Refusal :=
  .next (if k < 8 then pulseAccepted s k level else s)

/-- The shipped items of accumulators (16 Table 16.12 MTR_ACC). -/
def accItems (s : State) (ns : List Nat) : List (List Byte) :=
  ns.map fun n =>
    let x := s.acc n
    shipItem n x.wraps 0 (b2n x.wrapPending + b2n x.absolute * 2 + b2n x.failed * 4) x.reported

/-- The shipped item of a spill output (MTR_SPILL). -/
def spillItem (s : State) (o : Nat) : List Byte := shipItem o (s.spill o).backlog 0 0 (uNat 64 (s.spill o).residue)

/-- Spill outputs bound to one of some accumulators. -/
def spillsOf (s : State) (accs : List Nat) : List Nat :=
  (List.range 8).filter fun o => (s.spill o).bound && accs.contains (s.spill o).acc

/-- The shipped item of an accumulator's demand sums (MTR_DEMAND). -/
def demandItem (s : State) (n : Nat) : List Byte :=
  let d := s.demand n
  let i := d.imp + d.impRest
  let e := d.exp + d.expRest
  shipItem n (i % 256 + e % 256 * 256) 0 0 (i / 256 % 2 ^ 32 + e / 256 % 2 ^ 32 * 2 ^ 32)

/-- What is shipped of some accumulators: masters, the residues of the spill outputs bound to them, demand sums (Table 10.9). -/
def accRecords (s : State) (ns demands : List Nat) : List (List Byte) :=
  let os := spillsOf s ns
  [shipRecord 0x21 0 (accItems s ns)] ++ (if os.isEmpty then [] else [shipRecord 0x23 0 (os.map (spillItem s))]) ++
    [shipRecord 0x24 0 (demands.map (demandItem s))]

/-- At a whole TAI second the changed pulse accumulators' points are written, and all are shipped (R285, R305). -/
def pulsePointWrite (s : State) : State :=
  let t := s.tai / nsSec * nsSec
  if !s.running iMTR then s
  else
    let s := (List.range 8).foldl (fun s k =>
      let x := s.pulseIn k
      if x.changed then
        let s := writeAccPoint s (0x800 + k) t
        { s with meter := { s.meter with pulses := tabSet s.meter.pulses k { x with changed := false } } }
      else s) s
    ship s (accRecords s ((List.range 8).map (0x800 + ·)) ((List.range 8).map (0x800 + ·)))

def execPulsePointWrite (s : State) : Host.Outcome State Fault Refusal := .next (pulsePointWrite s)

/-! ## The totals area (R301 to R303) -/

/-- A copy of an MRAM record: its bytes and their check value. -/
def mramCopy (b : List Byte) : List Byte := b ++ leBytes 4 (crcIscsi b).toNat

/-- An MRAM record as written: two equal copies. -/
def mramPair (b : List Byte) : MramPair := { copy0 := mramCopy b, copy1 := mramCopy b }

/-- The bytes of a copy other than its check value, and whether its check passes. -/
def mramBody (c : List Byte) : List Byte := c.take (c.length - 4)
def mramOk (c : List Byte) : Bool := fld c (c.length - 4) 4 == (crcIscsi (mramBody c)).toNat && decide (4 ≤ c.length)

/-- An MRAM record under the two-copy rule (03 R106). -/
def MramPair.judge (x : MramPair) : TwoCopy (List Byte) :=
  twoCopies (mramBody x.copy0) (mramBody x.copy1) (mramOk x.copy0) (mramOk x.copy1)

/-- Bytes of the records of Table 10.6 before their check values. An accumulator is saved as the value it reports. -/
def accRecord (n : Nat) (x : Acc) : List Byte :=
  leBytes 8 x.reported ++ leBytes 1 x.wraps ++ leBytes 1 (b2n x.wrapPending + b2n x.absolute * 2 + b2n x.failed * 4) ++
    leBytes 2 n
def spillRecord (o : Nat) (x : Spill) : List Byte :=
  leBytes 8 (uNat 64 x.residue) ++ leBytes 2 x.backlog ++ leBytes 1 o ++ leBytes 1 (b2n x.bound)
def demandRecord (n : Nat) (d : Demand) : List Byte :=
  let i := d.imp + d.impRest
  let e := d.exp + d.expRest
  leBytes 4 (i / 256) ++ leBytes 4 (e / 256) ++ leBytes 2 n ++ leBytes 1 (i % 256) ++ leBytes 1 (e % 256)
def pulseRecord (s : State) (k : Nat) : List Byte :=
  leBytes 4 (s.reg (rMePinWt k)) ++ leBytes 1 (s.rfield (rMePinCfg k) 0 2) ++ leBytes 1 (s.rfield (rMePinCfg k) 8 6) ++
    leBytes 6 0
def headRecord (s : State) (reason : Nat) : List Byte :=
  leBytes 4 0x544F544D ++ leBytes 2 1 ++ leBytes 1 reason ++ leBytes 1 (s.rfield rMeDmdCtrl 0 6) ++
    leBytes 1 (s.rfield rMeSaveCtrl 0 8) ++ leBytes 3 0 ++ leBytes 8 s.tai ++ leBytes 8 0

/-- The totals area as a save with a reason leaves it (Table 10.6). -/
def totalsOf (s : State) (reason : Nat) : Totals :=
  { head := some (mramPair (headRecord s reason))
    accs := s.meter.accs.map fun p => (p.1, mramPair (accRecord p.1 p.2))
    spills := (List.range 8).map fun o => (o, mramPair (spillRecord o (s.spill o)))
    demands := s.meter.demands.map fun p => (p.1, mramPair (demandRecord p.1 p.2))
    pulses := (List.range 8).map fun k => (k, mramPair (pulseRecord s k)) }

/-- Copies one save writes, each a unit of check channel 2: 1,729 records, two copies each. -/
abbrev totalsCopies : Nat := 3458

/-- Counts the units of a save or restore on a channel; the last record of the area is pulse input 7's. -/
def totalsUnits (s : State) (c : Nat) : State :=
  if s.running iPF then
    let x := s.chkChan c
    let n := stickNat x.units (totalsCopies - 1)
    let s := (s.setChkChan c { x with units := n.1 }).chkStuck n.2
    s.chkUnit c 12 (crcIscsi (pulseRecord s 7)) true
  else s

/-- Every copy whose check fails as the area is read counts on check channel 3 (20 R541). -/
def totalsFails (s : State) (t : Totals) : State :=
  let pairs := t.head.toList ++ tabVals t.accs ++ tabVals t.spills ++ tabVals t.demands ++ tabVals t.pulses
  let bad := (pairs.flatMap fun p => [p.copy0, p.copy1]).filter fun c => !mramOk c
  if s.running iPF then bad.foldl (fun s _ => s.chkFailed 3) s else s

/-- A save of the totals, with a reason of Table 10.6; it needs the fabric's MRAM port (R302, R304). -/
def totalsSave (s : State) (reason : Nat) : State :=
  if !s.running iMTR || !s.power.totalsBack || !s.meter.restored then s
  else
    let (st, s) := reach s iMTR iPF
    if st ≠ stOk then s.lastError iMTR iPF 4 st
    else
      let s := { s with meter := { s.meter with
        totals := totalsOf s reason, lastSave := s.now
        spills := tabMap (fun _ x => { x with fresh := false }) s.meter.spills } }
      let s := totalsUnits s 2
      let s := s.setReg rMeSaveStatus (reason + 4)
      let s := s.setReg rMeSaveTimeLo (s.tai % 2 ^ 32)
      let s := s.setReg rMeSaveTimeHi (s.tai / 2 ^ 32)
      if reason = 2 then s.raise rMeEvent 4 else s

/-- The periodic save (R302). -/
def periodicSave (s : State) : State :=
  if s.meter.lastSave + max 1 (s.rfield rMeSaveCtrl 0 8) * nsSec ≤ s.now then totalsSave s 1 else s

def execTotalsSave (s : State) : Host.Outcome State Fault Refusal := .next (periodicSave s)

/-- The records of one part of the area under the two-copy rule: each is handed on with its content, if any; a bad check
value is rewritten (R303). -/
def restorePart (s : State) (part : Tab MramPair) (f : State → Nat → Option (List Byte) → State) : Tab MramPair × State :=
  part.foldl (fun (a : Tab MramPair × State) p =>
    match p.2.judge with
    | .taken b repaired =>
      (a.1 ++ [(p.1, if repaired then mramPair b else p.2)], f (if repaired then a.2.raise rMeEvent 6 else a.2) p.1 (some b))
    | .lost => (a.1 ++ [p], f a.2 p.1 none)) ([], s)

/-- One accumulator is restored; what it has counted since MTR started stays counted, and a record lost is failed (R303). -/
def restoreAcc (s : State) (n : Nat) (b : Option (List Byte)) : State :=
  let x := s.acc n
  match b with
  | some b =>
    s.setAcc n { x with
      master := (fld b 0 8 + x.master) % 2 ^ 64, wraps := (fld b 8 1 + x.wraps) % 256
      wrapPending := bitOf (fld b 9 1) 0 || x.wrapPending, absolute := bitOf (fld b 9 1) 1, failed := bitOf (fld b 9 1) 2 }
  | none =>
    let s := (s.setAcc n { x with failed := true }).raise rMeEvent 5
    writeAccPoint { s with meter := { s.meter with restoreFail := true } } n s.tai

/-- Residue and backlog of a spill output are restored, unless it was configured after the save. -/
def restoreSpill (s : State) (o : Nat) (b : Option (List Byte)) : State :=
  let x := s.spill o
  match b with
  | some b =>
    if x.fresh then s
    else s.setSpill o { x with residue := x.residue + sInt 64 (fld b 0 8), backlog := min 65535 (x.backlog + fld b 8 2) }
  | none => s

/-- Demand sums of the interval begun at an instant are restored, unless the history already holds that interval. -/
def restoreDemand (start : Nat) (s : State) (n : Nat) (b : Option (List Byte)) : State :=
  let d := s.demand n
  match b with
  | some b =>
    if d.history.any fun h => decide (start ≤ h.start) then s
    else s.setDemand n { d with
      imp := d.imp + fld b 0 4 * 256, exp := d.exp + fld b 4 4 * 256, impRest := d.impRest + fld b 10 1
      expRest := d.expRest + fld b 11 1 }
  | none => s

/-- The newest valid header. -/
def newestHead (t : Totals) : Option (List Byte) :=
  match t.head with
  | none => none
  | some p =>
    match [p.copy0, p.copy1].filter mramOk with
    | a :: b :: _ => some (if fld a 12 8 < fld b 12 8 then b else a)
    | l => l.head?

/-- The interval the saved sums belong to: the one that holds the save's instant, else the present one. -/
def savedInterval (s : State) : Nat :=
  ((newestHead s.meter.totals).map (fld · 12 8)).getD s.tai / demandLength s * demandLength s

/-- Demand goes on: the interval in progress, if MTR was out past its end, closes with those that passed (R292). -/
def demandResume (s : State) (start : Nat) : State :=
  if start ≤ s.meter.demandStart then demandBoundary s
  else demandBoundary { s with meter := { s.meter with
    demandStart := start, demandNext := if s.tai < start then demandAfter s s.tai else start + demandLength s } }

/-- MTR has entered RUN from RESET or OFF: the totals are restored before its first block (R303). -/
def totalsRestore (s : State) : State :=
  if !s.running iMTR || s.meter.restored then s
  else
    let t := s.meter.totals
    let start := savedInterval s
    let s := if t.head.isNone then s
      else
        let s := totalsFails (totalsUnits s 3) t
        let (accs, s) := restorePart s t.accs restoreAcc
        let (spills, s) := restorePart s t.spills restoreSpill
        let (demands, s) := restorePart s t.demands (restoreDemand start)
        let (pulses, s) := restorePart s t.pulses fun s _ _ => s
        let (head, s) := restorePart s (t.head.toList.map fun p => (0, p)) fun s _ _ => s
        let s := { s with meter := { s.meter with
          totals := { head := (head.head?).map Prod.snd, accs := accs, spills := spills, demands := demands, pulses := pulses } } }
        if (newestHead t).map (fld · 6 1) = some 1 then s.raise rMeEvent 7 else s
    demandResume { s with
      meter := { s.meter with restored := true, lastSave := s.now }
      power := { s.power with totalsBack := true } } start

def execTotalsRestore (s : State) : Host.Outcome State Fault Refusal := .next (totalsRestore s)

/-! ## Registers of the accumulators -/

/-- A write of ME_ACC_CTRL (Table 10.16). -/
def accCtrlWrite (s : State) (v : Nat) : State :=
  let n := bitsOf v 0 12
  let s := s.setReg rMeAccCtrl n
  let x := s.acc n
  let s :=
    if bitOf v 16 then
      let s := s.setReg rMeAccLo (x.reported % 2 ^ 32)
      let s := s.setReg rMeAccHi (x.reported / 2 ^ 32)
      s.setReg rMeAccInfo (x.wraps + bitsOf x.reported 48 8 * 256 + b2n x.wrapPending * 65536 + b2n x.absolute * 2 ^ 17 +
        b2n x.failed * 2 ^ 18 + b2n (accAssigned n && s.defined (accPoint n)) * 2 ^ 19)
    else s
  let y := if bitOf v 17 then { x with wrapPending := false } else x
  let y := if bitOf v 18 then { y with failed := false } else y
  let s := if y = x then s else s.setAcc n y
  { s with meter := { s.meter with restoreFail := s.meter.accs.any fun p => p.2.failed } }

/-- A write of ME_SAVE_CTRL (Table 10.15). -/
def saveCtrlWrite (s : State) (v : Nat) : State :=
  let s := s.setReg rMeSaveCtrl (bitsOf v 0 8)
  if bitOf v 8 then totalsSave s 1 else s

/-- A write of ME_DMD_CTRL: the interval in progress closes at the next boundary of the new length (R292). -/
def dmdCtrlWrite (s : State) (v : Nat) : State :=
  let s1 := s.setReg rMeDmdCtrl (bitsOf v 0 6)
  if s1.reg rMeDmdCtrl = s.reg rMeDmdCtrl then s1
  else { s1 with meter := { s1.meter with demandNext := demandAfter s1 s1.tai } }

/-- What the spill registers and ME_TACCt read. -/
def spillCfgRead (s : State) (o : Nat) : Nat :=
  let x := s.spill o
  x.acc + b2n x.bound * 2 ^ 15 + x.width * 2 ^ 16
def spillStatRead (s : State) (o : Nat) : Nat :=
  let x := s.spill o
  x.backlog + b2n (s.rbit (rMeSpillStat o) 16) * 2 ^ 16 + b2n (x.driving && !x.quiet && !s.shadow) * 2 ^ 17
def taccRead (s : State) (t : Nat) : Nat :=
  match tabGet s.meter.slots t with
  | some x => x.tenant + 2 ^ 15 + (x.newEntries.getD x.entries).length * 2 ^ 16
  | none => 0xFFF

/-! ## The commands -/

/-- Judges a read of an accumulator's point on behalf of a tenant, from MTR (R167). -/
def accReadable (s : State) (tenant n : Nat) : Nat × State :=
  crossStatus s iMTR iPF 0 fun s => judged s (accPoint n) tenant 0 .read

/-- One entry of METER_READ (05 Table 5.9). -/
def meterEntry (s : State) (tenant n : Nat) : List Byte × State :=
  let failed (st : Nat) : List Byte := leBytes 2 n ++ leBytes 2 st ++ leBytes 28 0
  if !accAssigned n then (failed stBadArgument, s)
  else
    let (st, s) := accReadable s tenant n
    if st ≠ stOk then (failed st, s)
    else
      let x := s.acc n
      let v := x.reported
      (leBytes 2 n ++ leBytes 2 (if x.failed then stCheckFailed else stOk) ++ leBytes 1 x.wraps ++
        leBytes 1 (bitsOf v 48 8) ++ leBytes 1 (b2n x.wrapPending + b2n x.absolute * 2) ++ leBytes 1 0 ++ leBytes 8 v ++
        leBytes 4 (bitsOf v 16 32) ++ leBytes 4 0 ++ leBytes 8 x.time, s)

/-- METER_READ (0x0501). -/
def execMeterRead (r : Route) (tag : Nat) (s : State) : Host.Outcome State Fault Refusal :=
  .next (serve 0x0501 s r tag fun q s =>
    let p := q.payload
    let n := fld p 2 2
    if p.length ≠ 4 then done stBadLength s
    else if n = 0 ∨ 126 < n then done stBadArgument s
    else
      let t := routeTenant s q.route
      let (es, s) := (List.range n).foldl (fun (a : List (List Byte) × State) i =>
        let k := fld p 0 2 + i
        let (e, s) := crossing a.2 iSAGE iMTR 1 (fun st => leBytes 2 k ++ leBytes 2 st ++ leBytes 28 0) (fun e => fld e 2 2)
          fun s => meterEntry s t k
        (a.1 ++ [e], s)) ([], s)
      ((stOk, leBytes 2 n ++ leBytes 6 0 ++ es.flatten), s))

/-- ACC_CONFIG (0x0504; R288). -/
def accConfig (s : State) (p : List Byte) : Nat × State :=
  let n := fld p 0 2
  if fld p 3 1 ≠ 0 ∨ 1 < fld p 2 1 ∨ !accAssigned n ∨ !accCombined n then (stBadArgument, s)
  else (stOk, s.setAcc n { s.acc n with newAbsolute := some (fld p 2 1 == 1) })

def execAccConfig (r : Route) (tag : Nat) (s : State) : Host.Outcome State Fault Refusal :=
  .next (serve 0x0504 s r tag fun q s =>
    if q.payload.length ≠ 4 then done stBadLength s
    else toIsland s iMTR fun s =>
      let (st, s) := accConfig s q.payload
      done st (if st = stOk then shipConfig s 0x0504 q.payload else s))

/-- The entries a slot will have. -/
def TenantSlot.latest (x : TenantSlot) : List AppEntry := x.newEntries.getD x.entries

/-- APPORTION_SET (0x0505; R294, R295). -/
def apportionSet (s : State) (p : List Byte) : Nat × State :=
  let tenant := fld p 0 2
  let n := fld p 2 2
  let es := (entriesAt p 4 8 n).map fun e =>
    ({ circuit := fld e 0 2, source := fld e 2 2, value := fld e 4 4 } : AppEntry)
  let slot := (s.meter.slots.find? fun x => x.2.tenant == tenant).map Prod.fst
  let others := (s.meter.slots.filter fun x => x.2.tenant != tenant).flatMap fun x => x.2.latest
  let fixed (c : Nat) : Nat := ((es ++ others).map fun e => if e.circuit = c ∧ e.source = 0 then e.value else 0).sum
  let circuits := es.map (·.circuit)
  if tenant = house ∨ nobody ≤ tenant ∨ !enrolled s tenant ∨
      es.any (fun e => decide (48 ≤ e.circuit) || decide (2 ≤ e.source) ||
        (e.source == 0 && decide (wholeShare < e.value)) || (e.source == 1 && decide (pointCount ≤ e.value))) ∨
      circuits.eraseDups.length ≠ circuits.length ∨ circuits.any (fun c => decide (wholeShare < fixed c)) then
    (stBadArgument, s)
  else if 2048 < (es ++ others).length then (stStoreFull, s)
  else
    match slot.or (tabFree s.meter.slots 0 256) with
    | none => (stStoreFull, s)
    | some t =>
      let old : TenantSlot := tabGetD s.meter.slots t { tenant := tenant, entries := [] }
      let left := (old.entries.map (·.circuit) ++ circuits).eraseDups
      let x := { old with newEntries := if left.isEmpty then none else some es, newLeft := left }
      let s := { s with meter := { s.meter with slots := tabSet s.meter.slots t x } }
      -- a circuit without a block in progress takes the list at once
      let idle := left.filter fun c => (tabGet s.meter.circuits c).isNone
      (stOk, resync (idle.foldl settleEntries s))

def execApportionSet (r : Route) (tag : Nat) (s : State) : Host.Outcome State Fault Refusal :=
  .next (serve 0x0505 s r tag fun q s =>
    let p := q.payload
    if p.length < 4 ∨ p.length ≠ 4 + 8 * fld p 2 2 then done stBadLength s
    else toIsland s iMTR fun s =>
      let (st, s) := apportionSet s p
      done st (if st = stOk then shipConfig s 0x0505 p else s))

/-- TENANT_REMOVE frees a tenant's slot: its points undefined, its accumulators and history 0 (R294, R286). -/
def freeSlot (s : State) (tenant : Nat) : State :=
  match s.meter.slots.find? fun x => x.2.tenant == tenant with
  | none => s
  | some (t, _) =>
    let mine (n : Nat) : Bool := decide (0x400 + 4 * t ≤ n) && decide (n < 0x404 + 4 * t)
    resync { s with meter := { s.meter with
      slots := tabDel s.meter.slots t
      accs := tabFilter (fun n _ => !mine n) s.meter.accs
      demands := tabFilter (fun n _ => !mine n) s.meter.demands
      totals := { s.meter.totals with
        accs := tabFilter (fun n _ => !mine n) s.meter.totals.accs
        demands := tabFilter (fun n _ => !mine n) s.meter.totals.demands } } }

/-- SPILL_CONFIG (0x0506; R297). -/
def spillConfig (s : State) (p : List Byte) : Nat × State :=
  let o := fld p 0 1
  let thr := fld p 4 4
  let w := fld p 8 2
  if fld p 1 1 ≠ 0 ∨ fld p 10 2 ≠ 0 ∨ 8 ≤ o ∨ w < 10 ∨ 100 < w ∨ !accAssigned (fld p 2 2) then (stBadArgument, s)
  else
    let x := s.spill o
    (stOk, s.setSpill o
      { x with bound := thr != 0, acc := fld p 2 2, threshold := thr, width := w, residue := 0, backlog := 0, fresh := true })

def execSpillConfig (r : Route) (tag : Nat) (s : State) : Host.Outcome State Fault Refusal :=
  .next (serve 0x0506 s r tag fun q s =>
    if q.payload.length ≠ 12 then done stBadLength s
    else toIsland s iMTR fun s =>
      let (st, s) := spillConfig s q.payload
      done st (if st = stOk then shipConfig s 0x0506 q.payload else s))

/-- DEMAND_READ (0x0507; R292): the most recent completed intervals, oldest first. -/
def execDemandRead (r : Route) (tag : Nat) (s : State) : Host.Outcome State Fault Refusal :=
  .next (serve 0x0507 s r tag fun q s =>
    let p := q.payload
    let n := fld p 0 2
    if p.length ≠ 4 then done stBadLength s
    else if fld p 2 2 = 0 ∨ 126 < fld p 2 2 then done stBadArgument s
    else toIsland s iMTR fun s =>
      if !accAssigned n ∨ !accDemand n ∨ !s.defined (accPoint n) then done stBadArgument s
      else
        let (st, s) := accReadable s (routeTenant s q.route) n
        if st ≠ stOk then done st s
        else
          let es := ((s.demand n).history.take (fld p 2 2)).reverse.map fun x =>
            leBytes 8 x.start ++ leBytes 4 x.imp ++ leBytes 4 x.exp ++ leBytes 8 0
          ((stOk, es.flatten), s))

end Sys2Proof.Machine
end

