-- ==== Sys2Proof/Machine/Metering.lean ====
section
/-! DEFINITION. Metering inputs and quantities (09): the isolated link, samples, blocks, published quantities, and a
standby's reconciliation (10 R305 to R309). -/

namespace Sys2Proof.Machine

/-! ## Samples (09 R256 to R259, R267) -/

/-- The sample period, ns (R257). -/
abbrev samplePeriod : Nat := 125000

/-- The constants of a channel. -/
def CalSet.chan (c : CalSet) (k : Nat) : ChanCal := tabGetD c.chans k {}

/-- GAIN as f64. -/
def ChanCal.gain64 (x : ChanCal) : Nat := fconv fmt32 fmt64 x.gain.toNat

/-- A calibrated sample: GAIN × (code − OFFSET) ÷ 8,388,607 (R267), from a code as f64. -/
def calibrate (x : ChanCal) (code : Nat) : BitVec 64 :=
  BitVec.ofNat 64 (fdiv fmt64 (fmul fmt64 x.gain64 code) (fofInt fmt64 8388607))

/-- The alignment delay of a channel in whole sample periods, and whether a part of one is added: 8 + PHASE ÷ 4,096 (R258). -/
def ChanCal.delay (x : ChanCal) : Nat × Bool := ((8 + x.phase.fdiv 4096).toNat, x.phase.fmod 4096 != 0)

/-- How many received codes a channel's delay reaches back over. -/
def ChanCal.reach (x : ChanCal) : Nat := x.delay.1 + (if x.delay.2 then 2 else 1)

/-- The delayed code of a channel, binary64 (R258; log 17). -/
def delayedCode (x : ChanCal) (codes : List Int) : Nat :=
  if x.delay.2 then (Config.fractionalDelay x.phase codes).toNat else fofInt fmt64 (codes.getD x.delay.1 0)

/-- The aligned and filtered code of a channel, binary64: less OFFSET where the high-pass is clear (R258; log 17). -/
def alignedCode (x : ChanCal) (codes : List Int) (seed : Nat) : Nat :=
  if x.hpf then (Config.highPass seed (BitVec.ofNat 64 (delayedCode x codes))).toNat
  else fsub fmt64 (delayedCode x codes) (fofInt fmt64 x.offset)

/-- The channels of a circuit's phases: voltage and current, numbered 0 to 59, and the invert flag (R263). -/
def circuitChannels (c : CircuitCfg) : List (Nat × Nat × Bool) :=
  if c.kind = 2 then
    [(c.volt, 12 + c.curr, c.invA), (c.volt + 1, 13 + c.curr, c.invB), (c.volt + 2, 14 + c.curr, c.invC)]
  else [(c.volt, 12 + c.curr, c.invA)]

/-- One sample of a circuit: calibrated voltage and current of each phase. -/
def circuitSample (s : State) (x : Circuit) : List (BitVec 64) :=
  (circuitChannels x.cfg).flatMap fun p =>
    let code (k : Nat) : Nat := alignedCode (x.cal.chan k) (tabGetD s.meter.history k []) (s.freeCtr * 64 + k)
    let u := calibrate (x.cal.chan p.1) (code p.1)
    let i := calibrate (x.cal.chan p.2.1) (code p.2.1)
    [u, if p.2.2 then BitVec.ofNat 64 (fneg fmt64 i.toNat) else i]

/-- Every channel of a circuit has the codes its delay reaches back over. -/
def aligned (s : State) (x : Circuit) : Bool :=
  (circuitChannels x.cfg).all fun p => [p.1, p.2.1].all fun k =>
    decide ((x.cal.chan k).reach ≤ (tabGetD s.meter.history k []).length)

/-- An overload code (R259). -/
def overload (c : Int) : Bool := decide (8388607 ≤ c) || decide (c ≤ -8388608)

/-- The sample of a channel is one of overload codes, before filtering. -/
def overloaded (s : State) (x : Circuit) (k : Nat) : Bool :=
  let d := (x.cal.chan k).delay
  (((tabGetD s.meter.history k []).drop d.1).take (if d.2 then 2 else 1)).any overload

/-! ## Block quantities (R274 to R279) -/

/-- A sum in f64, in order. -/
def fsum (xs : List Nat) : Nat := xs.foldl (fadd fmt64) 0

/-- rms of a list of m samples. -/
def frms (xs : List Nat) (m : Nat) : Nat :=
  fsqrt fmt64 (fdiv fmt64 (fsum (xs.map fun x => fmul fmt64 x x)) (fofInt fmt64 m))

/-- The quantities of one phase: urms, irms, P, Q, S as f64 (R274). -/
structure PhaseOut where
  u : Nat
  i : Nat
  p : Nat
  q : Nat
  s : Nat
  deriving DecidableEq, Repr

/-- The fundamental component of a phase's samples by a one-bin DFT at a frequency: real and imaginary part. -/
def fundamental (xs : List Nat) (f : BitVec 64) : Nat × Nat :=
  (fsum (xs.zipIdx.map fun p => fmul fmt64 p.1 (Config.binCos f p.2).toNat),
    fsum (xs.zipIdx.map fun p => fmul fmt64 p.1 (Config.binSin f p.2).toNat))

/-- One phase of one block (R274). -/
def phaseQuantities (us is : List (BitVec 64)) (f : BitVec 64) : PhaseOut :=
  let m := us.length
  let u := us.map BitVec.toNat
  let i := is.map BitVec.toNat
  let ur := frms u m
  let ir := frms i m
  let u1 := fundamental u f
  let i1 := fundamental i f
  { u := ur, i := ir
    p := fdiv fmt64 (fsum (List.zipWith (fmul fmt64) u i)) (fofInt fmt64 m)
    q := fmul fmt64 (fdiv fmt64 (fofInt fmt64 2) (fofInt fmt64 (m * m : Nat)))
      (fsub fmt64 (fmul fmt64 u1.2 i1.1) (fmul fmt64 u1.1 i1.2))
    s := fmul fmt64 ur ir }

/-- Column k of the samples of a block. -/
def column (samples : List (List (BitVec 64))) (k : Nat) : List (BitVec 64) := samples.map fun x => x.getD k 0

/-- One unit in the steps remainders are carried in: 28,125 × 2^1074. -/
abbrev unitSteps : Nat := 28125 * 2 ^ 1074

/-- Energy of a power's magnitude over m samples, |P| × m × 64 ÷ 28,125 units, with the remainder carried in exactly;
rounded to the nearest unit, ties away from zero (R277; log 119). -/
def energyUnits (power : Nat) (m : Nat) (rem : Int) : Nat × Int :=
  let e : Nat := match funpack fmt64 power with
    | .fin _ k x => k * 2 ^ (x + 1074).toNat * (m * 64)
    | _ => 0
  let x := rem + e
  let u := (2 * x + unitSteps).fdiv (2 * unitSteps)
  (u.toNat, x - u * unitSteps)

/-- A circuit's full-scale power: voltage GAIN × current GAIN over its phases (R276). -/
def fullScale (c : CircuitCfg) (k : CalSet) : Nat :=
  fsum ((circuitChannels c).map fun p => fmul fmt64 (k.chan p.1).gain64 (k.chan p.2.1).gain64)

/-- A negative value other than −0. -/
def fneg? (x : Nat) : Bool := flt fmt64 x 0

/-- The quadrant of a block's totals (Table 9.5). -/
def quadrantOf (p q : Nat) : Nat := if fneg? p then (if fneg? q then 3 else 2) else (if fneg? q then 4 else 1)

/-- f64 to the published f32. -/
def pub (x : Nat) : Word := BitVec.ofNat 32 (fconv fmt64 fmt32 x)

/-- The quiet NaN of R281. -/
abbrev pubNan : Word := 0x7FC00000

/-- A block as measured: the published values by offset, the energies and the remainders carried. -/
structure BlockOut where
  values : List Word
  energy : BlockEnergy
  remP : Int
  remQ : Int
  remS : Int
  deriving DecidableEq, Repr

/-- Measures a block of samples, oldest first (R274 to R278). `freq` is the measured frequency, `none` in free mode. -/
def measure (x : Circuit) (samples : List (List (BitVec 64))) (freq : Option Nat) : BlockOut :=
  let m := samples.length
  let f := freq.getD (fofInt fmt64 (if x.cfg.nominal60 then 60 else 50))
  let n := (circuitChannels x.cfg).length
  let ph := (List.range n).map fun k => phaseQuantities (column samples (2 * k)) (column samples (2 * k + 1)) (BitVec.ofNat 64 f)
  let p := fsum (ph.map (·.p))
  let q := fsum (ph.map (·.q))
  let t := fsum (ph.map (·.s))
  let noLoad := flt fmt64 (fmul fmt64 (fofInt fmt64 2500) t) (fullScale x.cfg x.cal)
  let pf := if noLoad then 0 else fdiv fmt64 p t
  let get (k : Nat) (g : PhaseOut → Nat) : Word := pub (((ph[k]?).map g).getD 0)
  let neutral := if n = 3 then
      frms (samples.map fun r => fadd fmt64 (fadd fmt64 (r.getD 1 0).toNat (r.getD 3 0).toNat) (r.getD 5 0).toNat) m
    else 0
  let quad := if noLoad then 0 else quadrantOf p q
  let (ep, rp) := if noLoad then (0, x.remP) else energyUnits p m x.remP
  let (eq, rq) := if noLoad then (0, x.remQ) else energyUnits q m x.remQ
  let (es, rs) := if noLoad then (0, x.remS) else energyUnits t m x.remS
  { values := [0, match freq with
      | some v => pub v
      | none => pubNan,
      get 0 (·.u), get 1 (·.u), get 2 (·.u), get 0 (·.i), get 1 (·.i), get 2 (·.i), pub neutral,
      get 0 (·.p), get 1 (·.p), get 2 (·.p), pub p, get 0 (·.q), get 1 (·.q), get 2 (·.q), pub q,
      get 0 (·.s), get 1 (·.s), get 2 (·.s), pub t, pub pf, BitVec.ofNat 32 quad]
    energy := { active := ep, reactive := eq, apparent := es, quadrant := quad }
    remP := rp, remQ := rq, remS := rs }

/-! ## Publishing (R280, R281) -/

/-- The STATUS point of a block (Table 9.6). -/
def blockStatus (x : Circuit) (short noLoad lost : Bool) : Nat :=
  b2n x.free + b2n short * 2 + b2n x.overA * 4 + b2n x.overB * 8 + b2n x.overC * 16 + b2n x.replaced * 32 +
    b2n noLoad * 64 + b2n lost * 128

/-- The quality of a quantity: a phase with an overload sample, and what is computed from it, is out of range. -/
def blockQuality (x : Circuit) (off : Nat) : Nat :=
  let any := x.overA || x.overB || x.overC
  let bad :=
    if off = 0 then false
    else if off = 1 then x.overA || x.free
    else if off = 8 ∨ off = 0xC ∨ off = 0x10 ∨ off = 0x14 ∨ off = 0x15 ∨ off = 0x16 then any
    else
      let k := if off < 5 then off - 2 else if off < 8 then off - 5 else (off - 9) % 4
      if k = 0 then x.overA else if k = 1 then x.overB else x.overC
  if bad then qOutOfRange else qGood

/-- Writes one quantity point. -/
def writeQuantity (s : State) (c off quality : Nat) (v : Word) (time : Nat) : State :=
  (writeFrom s iMTR 3 house (meterWriter 0) (circuitBase c + off) (circuitType off) quality (BitVec.ofNat 64 v.toNat) time).2

/-- Replaces a circuit. -/
def State.setCircuit (s : State) (c : Nat) (x : Circuit) : State :=
  { s with meter := { s.meter with circuits := tabSet s.meter.circuits c x } }

/-- Every point of a circuit is written at its block's end. -/
def publish (s : State) (c : Nat) (x : Circuit) (values : List Word) (time : Nat) : State :=
  (circuitOffsets x.cfg.kind).foldl (fun s o => writeQuantity s c o (blockQuality x o) (values.getD o 0) time) s

/-- With the link lost every point but STATUS is written once with NaN and OUT_OF_RANGE (R281). -/
def publishLost (s : State) (c : Nat) (x : Circuit) (time : Nat) : State :=
  let s := writeQuantity s c 0 qGood (BitVec.ofNat 32 (blockStatus x true false true)) time
  ((circuitOffsets x.cfg.kind).filter (· != 0)).foldl (fun s o =>
    writeQuantity s c o qOutOfRange (if o = 0x16 then BitVec.ofNat 32 0x7FC00000 else pubNan) time) s

/-! ## Blocks (R265, R269 to R272) -/

/-- What a block ships (10 Table 10.9): its first and last sample instants, energies and quadrant, and what it fed. -/
def blockRecords (s : State) (c start stop : Nat) (b : BlockEnergy) : List (List Byte) :=
  let blk := [(0, start), (1, stop), (2, b.active), (3, b.reactive), (4, b.apparent)].map fun p => shipItem p.1 0 0 b.quadrant p.2
  let es := entriesOn s c
  let shares := es.flatMap fun p =>
    [shipItem p.1 0 0 0 p.2.residueImp, shipItem (p.1 + 256) 0 0 0 p.2.residueExp, shipItem (p.1 + 512) 0 0 0 p.2.weight.toNat]
  let slots := es.map Prod.fst
  let accs := (List.range 13).map (16 * c + ·) ++ slots.flatMap fun t => [0x400 + 4 * t, 0x401 + 4 * t, 0x402 + 4 * t]
  [shipRecord 0x20 c blk] ++ (if shares.isEmpty then [] else [shipRecord 0x22 c shares]) ++
    accRecords s accs ([16 * c + 2] ++ slots.map (0x402 + 4 * ·))

/-- A circuit's first sample of a block is taken: constants, entry lists and modes accepted take effect (R269; 10 R288,
R295). -/
def beginBlock (s : State) (c : Nat) : State :=
  match tabGet s.meter.circuits c with
  | none => s
  | some x =>
    let s := (settleBlock s c).setCircuit c { x with cal := s.meter.cal }
    if s.reg rMeCalId = s.meter.cal.calId then s else s.setReg rMeCalId s.meter.cal.calId

/-- A circuit's block has ended: the next one starts with its next sample, under a new entry where one waits (R265). -/
def startBlock (s : State) (c stop : Nat) : State :=
  match tabGet s.meter.circuits c with
  | none => s
  | some x =>
    match x.newCfg with
    | none =>
      s.setCircuit c { x with
        samples := [], crossings := 0, base := 0, overA := false, overB := false, overC := false, replaced := false, lastEnd := stop }
    | some (some cfg) => resync (s.setCircuit c { cfg := cfg, cal := x.cal, out := x.out, lastEnd := stop })
    | some none => resync { s with meter := { s.meter with circuits := tabDel s.meter.circuits c } }

/-- Positive crossings in a block: N (R270). -/
def CircuitCfg.cycles (c : CircuitCfg) : Nat := if c.nominal60 then 12 else 10

/-- One sample period in the steps of crossing instants. -/
abbrev crossSteps : Nat := 2 ^ 32

/-- The measured frequency of a block: its crossings ÷ (tN − t0), f64 (R275). -/
def blockFrequency (x : Circuit) (tN : Option Nat) : Option Nat :=
  match x.free, x.t0, tN with
  | false, some a, some b =>
    if a < b then
      some (fdiv fmt64 (fofInt fmt64 ((x.cfg.cycles - x.base) * 8000 * crossSteps : Nat)) (fofInt fmt64 ((b - a : Nat) : Int)))
    else none
  | _, _, _ => none

/-- The mode of a circuit's next block (R271). -/
def nextFree (x : Circuit) (freq : Option Nat) (weak timedOut : Bool) : Bool :=
  let inBand (a b : Nat) : Bool :=
    -- an interval between crossings of 45 to 65 Hz
    decide (8000 * crossSteps ≤ 65 * (a - b)) && decide (45 * (a - b) ≤ 8000 * crossSteps)
  if weak || timedOut then true
  else if x.free then
    match x.crossTimes with
    | a :: b :: c :: d :: _ => !(inBand a b && inBand b c && inBand c d)
    | _ => true
  else
    match freq with
    | some f => flt fmt64 f (fofInt fmt64 45) || flt fmt64 (fofInt fmt64 65) f
    | none => false

/-- The reference is weak: its rms over the last 1,600 samples is below 2 % of full scale, GAIN ÷ √2 (R271; log 17). -/
def weakReference (x : Circuit) : Bool :=
  let r := frms (x.refs.map BitVec.toNat) x.refs.length
  let g := (x.cal.chan x.cfg.volt).gain64
  -- r < 0.02 × g ÷ √2, squared: 5000 r² < g²
  flt fmt64 (fmul fmt64 (fofInt fmt64 5000) (fmul fmt64 r r)) (fmul fmt64 g g)

/-- The crossings a circuit that leaves free mode shares with the circuits already counting on its reference, so that their
blocks end together (R270; log 119). -/
def sharedCount (s : State) (c : Nat) (x : Circuit) : Nat :=
  ((s.meter.circuits.filter fun p => p.1 != c && p.2.cfg.volt == x.cfg.volt && !p.2.free).map fun p => p.2.crossings + p.2.base).headD 0

/-- A block of a circuit ends at an instant: measured, published, accumulated, shipped; the next one starts (R274 to R281).
The energies are answered, so that a standby can compare them. -/
def endBlock (s : State) (c stop : Nat) (short timedOut : Bool) (tN : Option Nat) : State × BlockEnergy :=
  let none_ : BlockEnergy := { active := 0, reactive := 0, apparent := 0, quadrant := 0 }
  match tabGet s.meter.circuits c with
  | none => (s, none_)
  | some x =>
    if x.samples.isEmpty then (startBlock s c stop, none_)
    else
      let freq := blockFrequency x tN
      let b := measure x x.samples.reverse freq
      let status := blockStatus x short (b.energy.quadrant == 0) false
      let values := BitVec.ofNat 32 status :: b.values.drop 1
      let s := publish s c x values stop
      let s := accumulate s c b.energy stop
      let free := nextFree x freq (weakReference x) timedOut
      let y := { x with
        out := { values := values, valid := true }, remP := b.remP, remQ := b.remQ, remS := b.remS, free := free
        t0 := if free then none else tN.or x.crossTimes.head? }
      let first := stop - (x.samples.length - 1) * samplePeriod
      let s := ship s (blockRecords (s.setCircuit c y) c first stop b.energy)
      let s := startBlock (s.setCircuit c y) c stop
      (match tabGet s.meter.circuits c with
        | some z => if x.free && !z.free then s.setCircuit c { z with base := sharedCount s c z } else s
        | none => s, b.energy)

/-- Ends every circuit's block at an instant as a short block. -/
def endAllShort (s : State) (stop : Nat) : State :=
  (tabKeys s.meter.circuits).foldl (fun s c => (endBlock s c stop true false none).1) s

/-- Every block ends at the newest sample, then the totals are saved with reason 2 (10 Table 10.7). -/
def warnSave (s : State) : State :=
  let s := if s.running iMTR then endAllShort s s.meter.lastSample else s
  totalsSave { s with meter := { s.meter with warnDue := false } } 2

/-- The supply-loss warning: blocks in progress end at the next sample instant, before the save (R272). -/
def warnTotals (s : State) : State :=
  if s.running iMTR && s.meter.linkUp && s.meter.circuits.any (fun p => !p.2.samples.isEmpty) then
    { s with meter := { s.meter with warnDue := true } }
  else warnSave s

/-! ## Frames of the isolated link (R260, R261) -/

/-- The instant a sample stands for that is complete now: 8 sample periods before its frame's (R257, R258; log 17). -/
def sampleInstant (s : State) : Nat := (s.tai / samplePeriod - 8) * samplePeriod

/-- Marks a circuit's block with the overloads of the sample taken. -/
def markOverloads (s : State) (x : Circuit) : Circuit :=
  let loud (k : Nat) : Bool :=
    match (circuitChannels x.cfg)[k]? with
    | some p => overloaded s x p.1 || overloaded s x p.2.1
    | none => false
  { x with overA := x.overA || loud 0, overB := x.overB || loud 1, overC := x.overC || loud 2 }

/-- A positive-going crossing between two band-passed samples, armed by one at or below −2 % of full scale: where in the
period between them a straight line meets 0 (R270; log 17). -/
def crossingOf (a b : Nat) : Option Nat :=
  if fle fmt64 a 0 && flt fmt64 0 b then
    let d := fsub fmt64 b a
    match ffloorInt fmt64 (fmul fmt64 (fdiv fmt64 (fneg fmt64 a) d) (fofInt fmt64 crossSteps)) with
    | some (.ok k) => some (min k.toNat (crossSteps - 1))
    | _ => some 0
  else none

/-- A circuit's reference takes its newest sample, of period k: a crossing is counted and its instant kept. -/
def trackReference (s : State) (x : Circuit) (v : BitVec 64) (k : Nat) : Circuit :=
  let b := Config.bandPass (s.freeCtr * 64 + x.cfg.volt) v
  let low := fneg fmt64 (fdiv fmt64 (x.cal.chan x.cfg.volt).gain64 (fofInt fmt64 50))
  let armed := x.armed || fle fmt64 b.toNat low
  match if x.armed then x.filt.bind fun a => crossingOf a.toNat b.toNat else none with
  | some f =>
    { x with filt := some b, armed := false, crossings := x.crossings + 1
             crossTimes := (((k - 1) * crossSteps + f) :: x.crossTimes).take 32 }
  | none => { x with filt := some b, armed := armed }

/-- A circuit takes one sample, once its channels' delays are filled. -/
def takeCircuitSample (s : State) (c now : Nat) (replaced : Bool) : State :=
  let s := if (tabGet s.meter.circuits c).any fun x => x.samples.isEmpty && aligned s { x with cal := s.meter.cal } then
      beginBlock s c else s
  match tabGet s.meter.circuits c with
  | none => s
  | some x =>
    if !aligned s x then s
    else
      let v := circuitSample s x
      let x := trackReference s (markOverloads s x) (v.getD 0 0) (now / samplePeriod)
      s.setCircuit c
        { x with samples := (v :: x.samples).take 8000, refs := (v.getD 0 0 :: x.refs).take 1600, replaced := x.replaced || replaced }

/-- The crossing that precedes a sample within its period. -/
def Circuit.crossingBefore (x : Circuit) (instant : Nat) : Option Nat :=
  x.crossTimes.find? fun t => t / crossSteps + 1 == instant / samplePeriod

/-- A circuit's block goes on or ends with the sample just taken (R265, R270 to R272). -/
def advanceBlock (s : State) (c now : Nat) : State :=
  match tabGet s.meter.circuits c with
  | none => s
  | some x =>
    let len := x.samples.length
    if x.newCfg.isSome then (endBlock s c now true false none).1
    else if x.free then (if 1600 ≤ len then (endBlock s c now false false none).1 else s)
    else if x.cfg.cycles ≤ x.crossings + x.base then (endBlock s c now false false (x.crossingBefore now)).1
    else if 2400 ≤ len then (endBlock s c now true true none).1
    else s

/-- The blocks that end with the newest sample: those counted before those in free mode, which may join them (R270); after
the supply-loss warning all of them, and the totals are saved. A standby waits for the shipped boundaries (R273). -/
def advanceAll (s : State) (now : Nat) : State :=
  if s.meter.warnDue then warnSave s
  else if s.shadow then s
  else
    let free (c : Nat) : Bool := (tabGet s.meter.circuits c).any (·.free)
    let cs := tabKeys s.meter.circuits
    (cs.filter (!free ·) ++ cs.filter free).foldl (fun s c => advanceBlock s c now) s

/-- One sample instant: the codes received, or those of the previous instant (R257 to R260). -/
def sampleAll (s : State) (codes : List Int) (replaced : Bool) : State :=
  let now := sampleInstant s
  let s := { s with meter := { s.meter with
    prev := codes, lastSample := now, lastGood := if replaced then s.meter.lastGood else now
    history := (List.range 60).map fun k => (k, (codes.getD k 0 :: tabGetD s.meter.history k []).take 17) } }
  let s := (List.range 60).foldl (fun s k =>
    if !replaced && overload (codes.getD k 0) then
      (if k < 32 then s.raise rMeOvlLo k else s.raise rMeOvlHi (k - 32)).raise rMeEvent 3
    else s) s
  let s := (tabKeys s.meter.circuits).foldl (fun s c => takeCircuitSample s c now replaced) s
  let s := advanceAll s now
  { s with freeCtr := s.freeCtr + 1 }

/-- What a circuit shows once its points have turned NaN (R281, R282). -/
def lostOut (x : Circuit) : CircuitOut :=
  { values := BitVec.ofNat 32 (blockStatus x true false true) :: List.replicate 0x16 pubNan, valid := true }

/-- The link is lost: blocks end at the last accepted instant, without the samples replaced since, points turn NaN, the KQ48
restarts (R261). -/
def linkLost (s : State) : State :=
  let back := (s.meter.lastSample - s.meter.lastGood) / samplePeriod
  let s := { s with meter := { s.meter with
    circuits := tabMap (fun _ x => { x with samples := x.samples.drop back }) s.meter.circuits } }
  let s := endAllShort s s.meter.lastGood
  let s := s.meter.circuits.foldl (fun s p => publishLost s p.1 p.2 s.meter.lastGood) s
  let s := { s with meter := { s.meter with
    linkUp := false, linkLost := true, afeSeq := none, afePrev := none, rejected := 0, history := []
    circuits := tabMap (fun _ x =>
      { x with free := true, t0 := none, crossTimes := [], refs := [], samples := [], crossings := 0, base := 0, filt := none
               armed := false, out := lostOut x }) s.meter.circuits } }
  let s := (s.raise rMeEvent 2).logEvent lvWarn iMTR 1 2 0
  if s.meter.warnDue then warnSave s else s

/-- A frame as sent: sequence, status, 60 codes of 3 bytes, CRC-16/IBM-3740; all little-endian (R260; log 17). -/
def afeCodes (p : List Byte) : List Int := (List.range 60).map fun k => sfld p (2 + 3 * k) 3

/-- The frame's own check passes. -/
def afeCheck (p : List Byte) : Bool := p.length == 184 && (crc16 (p.take 182)).toNat == fld p 182 2

/-- A rejected frame: its samples are replaced, and eight in a row lose the link (R260, R261). -/
def afeReject (s : State) (p : List Byte) : State :=
  let s := s.stick rMeAfeBad rMeEvent 10
  let s := { s with meter := { s.meter with afePrev := some (fld p 0 1) } }
  if !s.meter.linkUp then s
  else
    let n := s.meter.rejected + 1
    let s := { s with meter := { s.meter with rejected := n, lastFrame := s.now } }
    if 8 ≤ n then linkLost s else sampleAll s s.meter.prev true

/-- A frame arrives from the KQ48: it is accepted when its check is right and its number follows the previous frame's
(R260; log 17). While MTR does not run, or before the totals are restored, no sample is processed. -/
def afeFrame (s : State) (p : List Byte) : State :=
  if !s.running iMTR || !s.meter.restored then s
  else
    let seq := fld p 0 1
    if !afeCheck p || (s.meter.afePrev.any fun q => (q + 1) % 256 != seq) then afeReject s p
    else
      let s := { s with meter := { s.meter with
        linkUp := true, linkLost := false, afeSeq := some seq, afePrev := some seq, afeStatus := fld p 1 1, rejected := 0
        lastFrame := s.now } }
      sampleAll s (afeCodes p) false

def execAfeFrame (bytes : List Byte) (s : State) : Host.Outcome State Fault Refusal := .next (afeFrame s bytes)

/-- No frame has arrived for 1 ms (R261). -/
def afeTimeout (s : State) : State :=
  if s.running iMTR && s.meter.linkUp && decide (s.meter.lastFrame + nsMs ≤ s.now) then linkLost s else s

def execAfeLinkTimeout (s : State) : Host.Outcome State Fault Refusal := .next (afeTimeout s)

/-! ## The standby (R273, 10 R305 to R309) -/

/-- A value of a shipped record's items by key. -/
def itemValue (items : List ShipItem) (k : Nat) : Nat := ((items.find? (·.key == k)).map (·.value)).getD 0

/-- The standby ends its own block of samples up to an instant, its frequency from its own crossings (R273). -/
def endShadowBlock (s : State) (c first stop : Nat) : State × BlockEnergy :=
  match tabGet s.meter.circuits c with
  | none => (s, { active := 0, reactive := 0, apparent := 0, quadrant := 0 })
  | some x =>
    -- the samples up to the boundary belong to the block, later ones to the next
    let later := (s.meter.lastSample - stop) / samplePeriod
    let rest := x.samples.take later
    let tN := x.crossingBefore stop
    let t0 := x.crossingBefore (first - samplePeriod)
    let (s, own) := endBlock (s.setCircuit c { x with
      samples := x.samples.drop later, t0 := t0, base := 0, free := t0.isNone || tN.isNone }) c stop false false tN
    (match tabGet s.meter.circuits c with
      | some y => s.setCircuit c { y with
          samples := rest ++ y.samples, free := tN.isNone, t0 := tN, base := 0
          crossings := (y.crossTimes.filter fun t => decide (stop / samplePeriod ≤ t / crossSteps)).length }
      | none => s, own)

/-- The standby measures the shipped block over the same sample instants and compares its active energy (R273, 10 R307);
samples before it, whose boundary never came, are a block of their own. -/
def shippedBlock (s : State) (c : Nat) (items : List ShipItem) : State :=
  match tabGet s.meter.circuits c with
  | none => s
  | some x =>
    let first := itemValue items 0
    let stop := itemValue items 1
    let oldest := s.meter.lastSample - (x.samples.length - 1) * samplePeriod
    let s := if oldest < first then (endShadowBlock s c oldest (first - samplePeriod)).1 else s
    let (s, own) := endShadowBlock s c first stop
    let quad := ((items.head?).map (·.flags)).getD 0
    let side (q a : Nat) (imp : Bool) : Nat := if (if imp then q == 1 || q == 4 else q == 2 || q == 3) then a else 0
    let bad (imp : Bool) : Bool :=
      let a := side own.quadrant own.active imp
      let b := side quad (itemValue items 2) imp
      let d := max a b - min a b
      decide (b + 16 * 200 < d * 200)
    if bad true || bad false then
      let n := stickNat s.twin.health.xcheck 1
      let s := { s with twin := { s.twin with health := { s.twin.health with xcheck := n.1 } } }
      (healthCount (s.stick rMeXCheck rMeEvent 10) n).raise rMeEvent 9
    else s

/-- The offset of an accumulator, and its wraps and flags, are adopted (10 R306, R309). -/
def shippedAcc (s : State) (i : ShipItem) : State :=
  let x := s.acc i.key
  let s := s.setAcc i.key
    { x with
      offset := (i.value + 2 ^ 64 - x.master % 2 ^ 64) % 2 ^ 64, wraps := i.status % 256, wrapPending := bitOf i.flags 0
      absolute := bitOf i.flags 1, failed := bitOf i.flags 2 }
  { s with meter := { s.meter with reconValid := true, restoreFail := s.meter.accs.any fun p => p.2.failed } }

/-- Residues and weights are adopted. -/
def shippedShare (s : State) (c : Nat) (i : ShipItem) : State :=
  let t := i.key % 256
  match (entriesOn s c).find? (·.1 == t) with
  | some (_, e) =>
    putEntry s t
      (if bitOf i.key 9 then { e with weight := BitVec.ofNat 64 i.value }
        else if bitOf i.key 8 then { e with residueExp := i.value } else { e with residueImp := i.value })
  | none => s

/-- Spill residues and backlogs are adopted. -/
def shippedSpill (s : State) (i : ShipItem) : State :=
  if i.key < 8 then s.setSpill i.key { s.spill i.key with residue := sInt 64 i.value, backlog := i.status } else s

/-- Demand sums are adopted. -/
def shippedDemand (s : State) (i : ShipItem) : State :=
  s.setDemand i.key { s.demand i.key with
    imp := i.value % 2 ^ 32 * 256, exp := i.value / 2 ^ 32 * 256, impRest := i.status % 256, expRest := i.status / 256 % 256 }

/-- A shipped metering record reaches a standby whose MTR runs. -/
def meterShipped (s : State) (r : ShipRec) : State :=
  if !s.running iMTR then s
  else if r.type = 0x20 then shippedBlock s r.unit r.items
  else if r.type = 0x21 then r.items.foldl shippedAcc s
  else if r.type = 0x22 then r.items.foldl (fun s i => shippedShare s r.unit i) s
  else if r.type = 0x23 then r.items.foldl shippedSpill s
  else if r.type = 0x24 then r.items.foldl shippedDemand s
  else s

/-! ## Transitions of MTR and steps of time -/

/-- MTR begins to drain: blocks end, then the totals are saved (10 R302, Table 10.8). -/
def meterDrain (s : State) : State :=
  totalsSave (endAllShort s s.meter.lastSample) 3

/-- MTR leaves RUN or IDLE: no sample is processed (R262). -/
def meterLeave (s : State) : State :=
  { s with meter := { s.meter with
      linkUp := false, afeSeq := none, afePrev := none, rejected := 0, history := [], warnDue := false
      circuits := tabMap (fun _ x =>
        { x with free := true, t0 := none, crossTimes := [], refs := [], samples := [], crossings := 0, base := 0, filt := none
                 armed := false, overA := false, overB := false, overC := false, replaced := false }) s.meter.circuits } }

/-- MTR enters RUN: the front end is treated as after a lost link (R262). -/
def meterEnter (s : State) : State := { s with meter := { s.meter with linkLost := true } }

/-- MTR enters RESET or OFF: accumulators, residues and remainders are lost; history survives (10 R293, R303). -/
def meterLose (s : State) : State :=
  { s with meter := { s.meter with
      accs := s.meter.accs.filterMap fun p => p.2.newAbsolute.map fun b => (p.1, ({ newAbsolute := some b } : Acc))
      restored := false, restoreFail := false, reconValid := false
      demands := tabMap (fun _ d => { history := d.history : Demand }) s.meter.demands
      spills := tabMap (fun _ x => { x with residue := 0, backlog := 0, driving := false, quiet := false }) s.meter.spills
      circuits := tabMap (fun _ x => { x with remP := 0, remQ := 0, remS := 0, out := {} }) s.meter.circuits
      slots := tabMap (fun _ x =>
        let es := (x.newEntries.getD x.entries).map fun e => { e with residueImp := 0, residueExp := 0, weight := 0 }
        { x with entries := es, newEntries := none, newLeft := [] }) s.meter.slots } }

/-- A step of the time unit's time reaches MTR: demand, and the grid of the spill outputs. -/
def meterTimeStep (s : State) (old new : Nat) : State :=
  let move (x : Spill) : Spill :=
    if x.driving then { x with start := ((x.start : Int) + (new : Int) - old).toNat }
    else if new < old then { x with start := 0 } else x
  demandStep { s with meter := { s.meter with spills := tabMap (fun _ x => move x) s.meter.spills } } old new

/-! ## CIRCUIT_MAP (R263 to R265) -/

/-- A circuit entry from its 8 bytes (Table 9.2): number and entry. -/
def circuitOf (e : List Byte) : Nat × CircuitCfg :=
  let f := fld e 4 1
  (fld e 0 1, { kind := fld e 1 1, volt := fld e 2 1, curr := fld e 3 1, nominal60 := bitOf f 0, invA := bitOf f 1
                invB := bitOf f 2, invC := bitOf f 3 })

/-- The ranges of Table 9.2. -/
def circuitFormed (e : List Byte) : Bool :=
  let (c, x) := circuitOf e
  decide (c < 48) && allZero (e.drop 5) && decide (fld e 4 1 < 16) &&
    (x.kind == 0 || (x.kind == 1 && decide (x.volt ≤ 11) && decide (x.curr ≤ 47)) ||
      (x.kind == 2 && decide (x.volt ≤ 9) && decide (x.curr ≤ 45)))

/-- The map as last accepted. -/
def latestMap (s : State) : Tab CircuitCfg :=
  s.meter.circuits.filterMap fun p =>
    match p.2.newCfg with
    | some (some c) => some (p.1, c)
    | some none => none
    | none => some (p.1, p.2.cfg)

/-- The current channels of an entry, counted from I0. -/
def currents (c : CircuitCfg) : List Nat := if c.kind = 2 then [c.curr, c.curr + 1, c.curr + 2] else [c.curr]

/-- The gain limit of R268 over a map. -/
def withinPower (m : Tab CircuitCfg) (k : CalSet) : Bool :=
  fle fmt64 (fsum (m.map fun p => fullScale p.2 k)) (fofInt fmt64 2000000)

/-- Whether a resulting map may stand (R264). -/
def mapSound (m : Tab CircuitCfg) (k : CalSet) : Bool :=
  let cs := m.flatMap fun p => currents p.2
  decide (cs.eraseDups.length = cs.length) &&
    m.all (fun p => m.all fun q => p.2.volt != q.2.volt || p.2.nominal60 == q.2.nominal60) && withinPower m k

/-- One entry is accepted: a block in progress ends at the next sample instant, before the entry takes effect; where none is
in progress it does so at once (R265). -/
def putCircuit (s : State) (e : Nat × CircuitCfg) : State :=
  let (c, x) := e
  match tabGet s.meter.circuits c with
  | none => if x.kind = 0 then s else s.setCircuit c { cfg := x, cal := s.meter.cal, lastEnd := s.meter.lastSample }
  | some y =>
    let s := s.setCircuit c { y with
      newCfg := if x.kind = 0 then some none else if y.cfg = x then none else some (some x) }
    if y.samples.isEmpty then startBlock s c y.lastEnd else s

/-- CIRCUIT_MAP, wholly or not at all. -/
def circuitMap (s : State) (p : List Byte) : Nat × State :=
  let es := entriesAt p 4 8 (fld p 0 2)
  let cs := es.map circuitOf
  let m := cs.foldl (fun m e => if e.2.kind = 0 then tabDel m e.1 else tabSet m e.1 e.2) (latestMap s)
  if fld p 2 2 ≠ 0 ∨ !es.all circuitFormed ∨ (cs.map Prod.fst).eraseDups.length ≠ cs.length ∨ !mapSound m s.meter.cal then
    (stBadArgument, s)
  else
    let s := cs.foldl putCircuit s
    (stOk, resync s)

def execCircuitMap (r : Route) (tag : Nat) (s : State) : Host.Outcome State Fault Refusal :=
  .next (serve 0x0502 s r tag fun q s =>
    let p := q.payload
    if p.length < 4 ∨ p.length ≠ 4 + 8 * fld p 0 2 then done stBadLength s
    else toIsland s iMTR fun s =>
      let (st, s) := circuitMap s p
      done st (if st = stOk then shipConfig s 0x0502 p else s))

/-! ## CALIBRATION_LOAD (R266 to R269) -/

/-- One channel entry (Table 9.4). -/
def chanOf (e : List Byte) : ChanCal :=
  { gain := BitVec.ofNat 32 (fld e 4 4), offset := sfld e 8 4, phase := sfld e 12 2, hpf := bitOf (fld e 1 1) 0 }

/-- The calibration set of 976 bytes. -/
def calOf (p : List Byte) : CalSet :=
  { calId := fld p 12 4
    chans := ((List.range 60).map fun k => (k, chanOf (sub p (16 + 16 * k) 16))).filter fun x => x.2 != ({} : ChanCal) }

/-- The checks of R268. -/
def calSound (s : State) (p : List Byte) : Bool :=
  let k := calOf p
  let m := latestMap s
  p.length == 976 && fld p 0 4 == 0x4C41434D && fld p 4 2 == 1 && fld p 6 2 == 60 &&
    fld p 8 4 == (crcIscsi (p.drop 16)).toNat &&
    (List.range 60).all (fun c =>
      let e := sub p (16 + 16 * c) 16
      fld e 0 1 == c && decide (fld e 1 1 < 2) && fld e 2 2 == 0 && fld e 14 2 == 0 &&
        fisFin fmt32 (fld e 4 4) && flt fmt32 0 (fld e 4 4)) &&
    m.all (fun x =>
      let hs := (circuitChannels x.2).flatMap fun c => [(k.chan c.1).hpf, (k.chan c.2.1).hpf]
      hs.all (· == hs.headD true)) && withinPower m k

/-- The bytes of a set (Tables 9.3, 9.4). -/
def calBytes (k : CalSet) : List Byte :=
  let body := ((List.range 60).map fun c =>
    leBytes 1 c ++ leBytes 1 (b2n (k.chan c).hpf) ++ leBytes 2 0 ++ leBytes 4 (k.chan c).gain.toNat ++
      leBytes 4 (uNat 32 (k.chan c).offset) ++ leBytes 2 (uNat 16 (k.chan c).phase) ++ leBytes 2 0).flatten
  leBytes 4 0x4C41434D ++ leBytes 2 1 ++ leBytes 2 60 ++ leBytes 4 (crcIscsi body).toNat ++ leBytes 4 k.calId ++ body

/-- A whole set is checked, and accepted into force and into MRAM (R266, R268). -/
def loadCalibration (s : State) (p : List Byte) : Nat × State :=
  if calSound s p then (stOk, { s with meter := { s.meter with cal := calOf p, calSaved := some (mramPair p) } })
  else (stBadArgument, s)

/-- CALIBRATION_LOAD (0x0503): the request that completes the transfer pends while the set is checked (R268). -/
def execCalibrationLoad (r : Route) (tag : Nat) (s : State) : Host.Outcome State Fault Refusal :=
  .next (serve 0x0503 s r tag fun q s =>
    let p := q.payload
    if p.length < 8 then done stBadLength s
    else if fld p 4 4 ≠ 976 then done stBadArgument s
    else
      match transferPart s q (fld p 0 4) (fld p 4 4) 0 (p.drop 8) with
      | .refused st => done st s
      | .more t => done stOk (putTransfer s t)
      | .whole t =>
        toIsland (endTransfer s 0x0503) iMTR fun s =>
          if s.meter.calDue.isSome then done stBusy s
          else done stPending { s with meter := { s.meter with calDue := some t.data } })

/-- The set that waits has been checked: its request is answered (R268; log 120). -/
def calibrationChecked (s : State) : State :=
  match s.meter.calDue with
  | none => s
  | some d =>
    let s := { s with meter := { s.meter with calDue := none } }
    if !s.running iMTR then complete_ s 0x0503 stIslandAbsent []
    else
      let (st, s) := loadCalibration s d
      complete_ (if st = stOk then shipConfig s 0x0503 (leBytes 4 0 ++ leBytes 4 976 ++ d) else s) 0x0503 st []

/-- MTR enters RUN from RESET or OFF: the set of the stored record is in force, else the default constants (R266). -/
def restoreCalibration (s : State) : State :=
  match s.meter.calSaved.map MramPair.judge with
  | some (.taken b repaired) =>
    let s := { s with meter := { s.meter with cal := calOf b, calSaved := some (if repaired then mramPair b else s.meter.calSaved.getD (mramPair b)) } }
    if repaired then s.raise rMeEvent 6 else s
  | _ => { s with meter := { s.meter with cal := {} } }

/-! ## INSTANT_READ (R282) -/

/-- The f32 mean of three values, summed in order. -/
def mean3 (a b c : Word) : Word :=
  BitVec.ofNat 32 (fdiv fmt32 (fadd fmt32 (fadd fmt32 a.toNat b.toNat) c.toNat) (fofInt fmt32 3))

/-- The values of an entry: urms, irms, P, Q, S, frequency, power factor. A circuit that has completed no block has none
stated: they are drawn (log 17). -/
def instantValues (s : State) (x : Circuit) : List Word × State :=
  if x.out.valid then
    let v (o : Nat) : Word := x.out.values.getD o 0
    let three := x.cfg.kind == 2
    ([if three then mean3 (v 2) (v 3) (v 4) else v 2, if three then mean3 (v 5) (v 6) (v 7) else v 5, v 0xC, v 0x10, v 0x14,
      v 1, v 0x15], s)
  else
    let (b, s) := s.drawBytes 28
    ((List.range 7).map fun k => BitVec.ofNat 32 (fld b (4 * k) 4), s)

/-- One entry of INSTANT_READ. -/
def instantEntry (s : State) (tenant c : Nat) : List Byte × State :=
  let failed (st : Nat) : List Byte := leBytes 2 c ++ leBytes 2 st ++ leBytes 28 0
  match tabGet s.meter.circuits c with
  | none => (failed stBadArgument, s)
  | some x =>
    let (st, s) := crossStatus s iMTR iPF 0 fun s => judged s (circuitBase c + 0xC) tenant 0 .read
    if st ≠ stOk then (failed st, s)
    else
      let (vs, s) := instantValues s x
      (leBytes 2 c ++ leBytes 2 stOk ++ (vs.map fun w => leBytes 4 w.toNat).flatten, s)

def execInstantRead (r : Route) (tag : Nat) (s : State) : Host.Outcome State Fault Refusal :=
  .next (serve 0x0508 s r tag fun q s =>
    let p := q.payload
    let n := fld p 2 2
    if p.length ≠ 4 then done stBadLength s
    else if n = 0 ∨ 127 < n then done stBadArgument s
    else
      let t := routeTenant s q.route
      let (es, s) := (List.range n).foldl (fun (a : List (List Byte) × State) i =>
        let k := fld p 0 2 + i
        let (e, s) := crossing a.2 iSAGE iMTR 1 (fun st => leBytes 2 k ++ leBytes 2 st ++ leBytes 28 0) (fun e => fld e 2 2)
          fun s => instantEntry s t k
        (a.1 ++ [e], s)) ([], s)
      ((stOk, es.flatten), s))

/-- What ME_STATUS, ME_AFE_STATUS and ME_FREE read. -/
def meStatusRead (s : State) : Nat :=
  b2n s.shadow + b2n s.meter.restoreFail * 2 + b2n s.meter.reconValid * 4 + b2n s.meter.saving * 8 +
    s.meter.circuits.length * 256 + s.meter.slots.length * 65536
def meAfeRead (s : State) : Nat :=
  b2n s.meter.linkUp + b2n s.meter.linkLost * 2 + s.meter.afeStatus * 256 + s.meter.afeSeq.getD 0 * 65536
def meFreeRead (s : State) (hi : Bool) : Nat :=
  ((s.meter.circuits.filter fun p => p.2.free && (decide (32 ≤ p.1) == hi)).map fun p => 2 ^ (p.1 % 32)).sum

end Sys2Proof.Machine
end

