-- ==== Sys2Proof/Machine/PtpFrame.lean ====
section
/-! DEFINITION. PTP frames as they leave (13 R366 to R371): layouts of IEEE 1588-2019 in layer 2 (log 49), egress stamps,
and the residence time a forwarded Sync takes with it. -/

namespace Sys2Proof.Machine

/-- PTP at a port. -/
def State.ptp (s : State) (p : Nat) : PtpPort := tabGetD s.clock.ports p {}

/-- Replaces PTP at a port. -/
def State.setPtp (s : State) (p : Nat) (x : PtpPort) : State :=
  { s with clock := { s.clock with ports := tabSet s.clock.ports p x } }

/-- The corrections of a port (R370) and its mean link delay, ns. -/
def ingressLatency (s : State) (p : Nat) : Int := sInt 16 (s.rfield (rTuPCorr p) 0 16)
def egressLatency (s : State) (p : Nat) : Int := sInt 16 (s.rfield (rTuPCorr p) 16 16)
def linkAsymmetry (s : State) (p : Nat) : Int := sInt 16 (s.rfield (rTuPAsym p) 0 16)
def linkDelay (s : State) (p : Nat) : Int := s.reg (rTuPDelay p)

/-- The stamp of a frame that leaves a port now (R369). -/
def egressStamp (s : State) (p : Nat) : Int := s.tai + egressLatency s p

/-- The module's clockIdentity and a port identity of it. -/
def clockId (s : State) : Nat := Config.clockIdentity (macBase s) % 2 ^ 64
def portId (s : State) (p : Nat) : Nat := clockId s * 65536 + (p + 1)

/-- A PTP timestamp, 10 bytes. -/
def ptpTime (t : Int) : List Byte := beBytes 6 (t.toNat / nsSec) ++ beBytes 4 (t.toNat % nsSec)

/-- A correctionField in units of 2^-16 ns. -/
def ptpCorr (ns : Int) : List Byte := beBytes 8 (uNat 64 (ns * 65536))

/-- Message types. -/
abbrev ptSync : Nat := 0
abbrev ptPdelayReq : Nat := 2
abbrev ptPdelayResp : Nat := 3
abbrev ptFollowUp : Nat := 8
abbrev ptPdelayFollowUp : Nat := 10
abbrev ptAnnounce : Nat := 11

/-- The flag octets of a two-step message. -/
abbrev twoStepFlag : Nat := 0x0200

/-- A PTP message of the module: header and body. -/
def ptpMessage (s : State) (p type flags seq : Nat) (logInterval correction : Int) (body : List Byte) : List Byte :=
  leBytes 1 ((if p < 2 then 0 else 16) + type) ++ leBytes 1 0x12 ++ beBytes 2 (34 + body.length) ++
    beBytes 1 (s.rfield rTuPtp 0 8) ++ leBytes 1 0 ++ beBytes 2 flags ++ ptpCorr correction ++ leBytes 4 0 ++
    beBytes 10 (portId s p) ++ beBytes 2 seq ++
    leBytes 1 (if type = ptSync then 0 else if type = ptFollowUp then 2 else 5) ++ leBytes 1 (uNat 8 logInterval) ++ body

/-- Queues a PTP message; on the ring under HSR it carries a tag, but for the link-local Pdelay messages. -/
def ptpQueue (s : State) (p type : Nat) (m : List Byte) (stamp : Stamp) : State :=
  let pdelay := type == ptPdelayReq || type == ptPdelayResp || type == ptPdelayFollowUp
  let dst := if p < 2 && !pdelay then 0x011B19000000 else 0x0180C200000E
  let b := ethFrame dst (ownMac s p) 0x88F7 m
  if p < 2 && s.rbit rSwCtrl 1 && !pdelay then
    let q := s.switch.hsrSeq
    let s := { s with switch := { s.switch with hsrSeq := (q + 1) % 65536 } }
    enqueue s p 7 (hsrTag p q b) stamp
  else enqueue s p 7 b stamp

/-- Where the PTP message of a frame begins: behind the Ethertype, and behind an HSR tag. -/
def ptpOffset (b : List Byte) : Nat := if beNat (sub b 12 2) = 0x892F then 20 else 14

/-- Adds nanoseconds to the correctionField of a frame. -/
def addCorrection (b : List Byte) (ns : Int) : List Byte :=
  let o := ptpOffset b + 8
  overlay b o (beBytes 8 (uNat 64 (sInt 64 (beNat (sub b o 8)) + ns * 65536)))

/-- A frame leaves a port: its bytes as the hardware stamps them, and what the stamp starts (R367, R369, R371). -/
def stampFrame (s : State) (p : Nat) (q : QFrame) : List Byte × State :=
  let t := egressStamp s p
  let x := s.ptp p
  match q.stamp with
  | .none => (q.bytes, s)
  | .origin => (overlay q.bytes (ptpOffset q.bytes + 34) (ptpTime t), s)
  | .followUp n =>
    let m := ptpMessage s p ptFollowUp 0 n x.logSync 0 (ptpTime t)
    -- the Follow_Up information of IEEE 802.1AS, free (log 49)
    let (tlv, s) := s.drawBytes 32
    (q.bytes, ptpQueue s p ptFollowUp (m.take 2 ++ beBytes 2 (m.length + 32) ++ m.drop 4 ++ tlv) .none)
  | .request => (q.bytes, s.setPtp p { x with t1 := t, pdStep := 1 })
  | .response n who =>
    (q.bytes, ptpQueue s p ptPdelayFollowUp
      (ptpMessage s p ptPdelayFollowUp 0 n 127 0 (ptpTime t ++ beBytes 10 who)) .none)
  | .residence from_ => (addCorrection q.bytes (t - from_), s)

end Sys2Proof.Machine
end

