-- ==== Sys2Proof/Machine/Operands.lean ====
section
/-! DEFINITION. Instruction words of Thyme (06 R172 to R175): fields, formats, operand modes, what an operand reads
and where it stores. A fault of R181 is the error of a result. -/

namespace Sys2Proof.Machine

/-- Task fault codes (06 Table 6.14). -/
abbrev tfBranchOver : Nat := 1
abbrev tfBranchUnder : Nat := 2
abbrev tfCallOver : Nat := 3
abbrev tfCallUnder : Nat := 4
abbrev tfIndex : Nat := 5
abbrev tfRunOff : Nat := 6
abbrev tfOverrunLimit : Nat := 7

/-- What an instruction reads and changes: the machine state of its task (06 Table 6.1), the image and the instances. -/
structure ThMem where
  m : Mach
  bits : Tab Slot
  words : Tab Slot
  timers : Tab TimerInst
  counters : Tab CounterInst
  edges : Tab EdgeInst
  deriving DecidableEq, Repr

/-- What is fixed for a cycle: slot counts, the contents of the special bits and words (06 Table 6.4), the timer
clock (07 R202). -/
structure ThCtx where
  bitSlots : Nat
  wordSlots : Nat
  first : Bool
  exchanged : Bool
  gatherFail : Bool
  overran : Bool
  release : Nat
  period : Nat
  task : Nat
  cycles : Nat
  last : Nat
  failed : Nat
  clock : Nat
  deriving DecidableEq, Repr

/-- The outcome of an instruction: a fault code, or the new contents. -/
abbrev ThRes := Except Nat ThMem

/-! ## Fields (06 Table 6.2) -/

def wOpcode (w : Nat) : Nat := bitsOf w 24 8
def wAddr (w : Nat) : Nat := bitsOf w 0 16
def wBitMode (w : Nat) : Nat := bitsOf w 22 2
def wWordMode (w : Nat) : Nat := bitsOf w 21 3
def wComb (w : Nat) : Bool := bitOf w 20
def wCond (w : Nat) : Nat := bitsOf w 16 4
def wUnit (w : Nat) : Nat := bitsOf w 22 2
def wInst (w : Nat) : Nat := bitsOf w 0 15
def wTarget (w : Nat) : Nat := bitsOf w 0 18
def wShift (w : Nat) : Nat := bitsOf w 0 5

/-- The format of an opcode with the modes it accepts (06 Tables 6.5 to 6.12). -/
inductive ThFormat where
  | n
  /-- Bit modes 0 up to. -/
  | b (last : Nat)
  /-- Word modes from, up to; whether COMB and COND are used. -/
  | w (first last : Nat) (cmp : Bool)
  /-- Whether UNIT is used. -/
  | i (unit : Bool)
  | j
  | s
  deriving DecidableEq, Repr

/-- The format of an opcode; `none` for an opcode that no table lists. -/
def opFormat (op : Nat) : Option ThFormat :=
  if op = 0x00 then some .n
  else if op ≤ 0x08 then some (.b 2)
  else if op ≤ 0x0C then some (.b 1)
  else if op ≤ 0x16 then some .n
  else if op = 0x17 then none
  else if op ≤ 0x19 then some (.i false)
  else if op ≤ 0x1D then some (.i true)
  else if op ≤ 0x22 then some (.i false)
  else if op < 0x28 then none
  else if op = 0x28 then some (.w 0 4 false)
  else if op = 0x29 then some (.b 2)
  else if op = 0x2A then some (.w 2 3 false)
  else if op ≤ 0x2D then some (.w 0 1 false)
  else if op = 0x2E then some (.b 1)
  else if op = 0x2F then some .n
  else if op = 0x30 then some (.w 0 4 false)
  else if op = 0x31 then some (.w 0 1 false)
  else if op = 0x32 then some .n
  else if op = 0x33 then some (.b 1)
  else if op < 0x38 then none
  else if op ≤ 0x3E then some (.w 0 4 false)
  else if op ≤ 0x40 then some .n
  else if op ≤ 0x43 then some (.w 0 4 false)
  else if op = 0x44 then some .n
  else if op ≤ 0x48 then some .s
  else if op < 0x50 then none
  else if op ≤ 0x54 then some (.w 0 4 false)
  else if op < 0x58 then none
  else if op ≤ 0x5B then some (.w 0 4 false)
  else if op ≤ 0x5E then some .n
  else if op = 0x5F then none
  else if op ≤ 0x63 then some (.w 0 4 false)
  else if op = 0x64 then some .n
  else if op < 0x68 then none
  else if op ≤ 0x6F then some .n
  else if op ≤ 0x74 then some (.w 0 4 true)
  else if op < 0x78 then none
  else if op ≤ 0x7B then some .j
  else if op ≤ 0x7D then some .n
  else if op = 0x7F then some .n
  else none

/-- Whether the operand field suits a format: reserved bits 0, mode, UNIT and COND permitted (06 Table 6.18 step 4). -/
def ThFormat.fits (f : ThFormat) (w : Nat) : Bool :=
  match f with
  | .n => bitsOf w 0 24 == 0
  | .b last => bitsOf w 16 6 == 0 && decide (wBitMode w ≤ last)
  | .w first last cmp =>
    decide (first ≤ wWordMode w) && decide (wWordMode w ≤ last) &&
      (if cmp then decide (wCond w ≤ 5) else bitsOf w 16 5 == 0)
  | .i unit => bitsOf w 15 7 == 0 && decide (wUnit w ≤ if unit then 2 else 0)
  | .j => bitsOf w 18 6 == 0
  | .s => bitsOf w 5 19 == 0

/-- A word that decodes to a listed opcode with a permitted format, mode, UNIT and COND. -/
def legalWord (w : Nat) : Bool :=
  match opFormat (wOpcode w) with
  | some f => f.fits w
  | none => false

/-- Opcodes with a 64-bit operand: LDW64, STW64, 64-bit arithmetic, f64 instructions, CMPL and CMPD (07 R211). -/
def wideOp (op : Nat) : Bool :=
  op == 0x30 || op == 0x31 || (decide (0x50 ≤ op) && decide (op ≤ 0x54)) ||
    (decide (0x60 ≤ op) && decide (op ≤ 0x63)) || op == 0x73 || op == 0x74

/-! ## Addresses (06 R173, R174) -/

/-- The bit slot of a B operand in mode 0 or 1. -/
def bitAddr (c : ThCtx) (w : Nat) (x : ThMem) : Except Nat Nat :=
  let a := if wBitMode w = 1 then wAddr w + x.m.ix.toNat else wAddr w
  if a < c.bitSlots then .ok a else .error tfIndex

/-- The word slot of a W operand in mode 0 or 1. -/
def wordAddr (c : ThCtx) (w : Nat) (x : ThMem) : Except Nat Nat :=
  let a := if wWordMode w = 1 then wAddr w + x.m.ix.toNat else wAddr w
  if a < c.wordSlots then .ok a else .error tfIndex

/-- The first word slot of a 64-bit W operand in mode 0 or 1. -/
def wideAddr (c : ThCtx) (w : Nat) (x : ThMem) : Except Nat Nat :=
  let a := if wWordMode w = 1 then wAddr w + x.m.ix.toNat else wAddr w
  if a % 2 = 0 ∧ a + 1 < c.wordSlots then .ok a else .error tfIndex

/-! ## Slots -/

/-- A bit slot, and its value. -/
def ThMem.bitSlot (x : ThMem) (a : Nat) : Slot := tabGetD x.bits a {}
def ThMem.bit (x : ThMem) (a : Nat) : Bool := (x.bitSlot a).value % 2 == 1

/-- A word slot, and its 32-bit value. -/
def ThMem.wordSlot (x : ThMem) (a : Nat) : Slot := tabGetD x.words a {}
def ThMem.word (x : ThMem) (a : Nat) : Nat := (x.wordSlot a).value % 2 ^ 32

/-- Stores a bit; quality and mark of the slot stay. -/
def ThMem.setBit (x : ThMem) (a : Nat) (b : Bool) : ThMem :=
  { x with bits := tabSet x.bits a { x.bitSlot a with value := b2n b } }

/-- Stores a word. -/
def ThMem.setWord (x : ThMem) (a v : Nat) : ThMem :=
  { x with words := tabSet x.words a { x.wordSlot a with value := v % 2 ^ 32 } }

/-- Stores a 64-bit value: low half at the address, high half after it. -/
def ThMem.setWide (x : ThMem) (a v : Nat) : ThMem := (x.setWord a v).setWord (a + 1) (v / 2 ^ 32)

/-! ## Special bits and words (06 Table 6.4, R175) -/

/-- A special bit; an unlisted address reads 0. -/
def specialBit (c : ThCtx) (x : ThMem) (a : Nat) : Bool :=
  if a = 0 then c.first
  else if a = 1 then c.exchanged
  else if a = 2 then c.gatherFail
  else if a = 3 then c.overran
  else if a = 4 then x.m.v
  else if a = 5 then x.m.z
  else if a = 6 then x.m.n
  else a == 7

/-- A special word; an unlisted address reads 0. -/
def specialWord (c : ThCtx) (a : Nat) : Nat :=
  (if a = 0 then c.release
  else if a = 1 then c.release / 2 ^ 32
  else if a = 2 then c.period
  else if a = 3 then c.task
  else if a = 4 then c.cycles
  else if a = 5 then c.last
  else if a = 6 then c.failed
  else 0) % 2 ^ 32

/-! ## Operands -/

/-- The operand of a bit instruction (06 Table 6.3). -/
def bitOperand (c : ThCtx) (w : Nat) (x : ThMem) : Except Nat Bool :=
  if wBitMode w ≤ 1 then (bitAddr c w x).map x.bit else .ok (specialBit c x (wAddr w))

/-- The immediate of mode 2, sign-extended, or of mode 3, zero-extended. -/
def immediate (w : Nat) : Int := if wWordMode w = 2 then sInt 16 (wAddr w) else wAddr w

/-- A 32-bit operand; `conv` converts an immediate to the operation's type. -/
def wordOperand (conv : Int → Nat) (c : ThCtx) (w : Nat) (x : ThMem) : Except Nat Nat :=
  if wWordMode w ≤ 1 then (wordAddr c w x).map x.word
  else if wWordMode w ≤ 3 then .ok (conv (immediate w))
  else .ok (specialWord c (wAddr w))

/-- A 64-bit operand; a special one is the pair at the address and the address + 1 (log 30). -/
def wideOperand (conv : Int → Nat) (c : ThCtx) (w : Nat) (x : ThMem) : Except Nat Nat :=
  if wWordMode w ≤ 1 then (wideAddr c w x).map fun a => x.word a + x.word (a + 1) * 2 ^ 32
  else if wWordMode w ≤ 3 then .ok (conv (immediate w))
  else .ok (specialWord c (wAddr w) + specialWord c (wAddr w + 1) * 2 ^ 32)

/-- WEXT:WACC. -/
def Mach.wide (m : Mach) : Nat := m.wacc.toNat + m.wext.toNat * 2 ^ 32

/-- Loads WACC. -/
def ThMem.setAcc (x : ThMem) (v : Nat) : ThMem := { x with m := { x.m with wacc := BitVec.ofNat 32 v } }

/-- Loads WEXT:WACC. -/
def ThMem.setAcc64 (x : ThMem) (v : Nat) : ThMem :=
  { x with m := { x.m with wacc := BitVec.ofNat 32 v, wext := BitVec.ofNat 32 (v / 2 ^ 32) } }

/-- Loads BA. -/
def ThMem.setBa (x : ThMem) (b : Bool) : ThMem := { x with m := { x.m with ba := b } }

/-- Sets PC. -/
def ThMem.jump (x : ThMem) (pc : Nat) : ThMem := { x with m := { x.m with pc := pc } }

end Sys2Proof.Machine
end

