-- ==== Sys2Proof/Machine/Flags.lean ====
section
/-! DEFINITION. Results and flags of Thyme's arithmetic (06 R177, R178, Tables 6.9 and 6.10), and the relations of its
compares (R180). An operation answers its result and whether it sets V. -/

namespace Sys2Proof.Machine

/-- Sets Z and N for a 32-bit result in WACC. -/
def ThMem.zn32 (x : ThMem) : ThMem :=
  { x with m := { x.m with z := x.m.wacc == 0, n := x.m.wacc.msb } }

/-- Sets Z and N for a 64-bit result in WEXT:WACC. -/
def ThMem.zn64 (x : ThMem) : ThMem :=
  { x with m := { x.m with z := x.m.wacc == 0 && x.m.wext == 0, n := x.m.wext.msb } }

/-- Z and N of a float result: a zero of either sign sets Z (log 31). -/
def ThMem.znF32 (x : ThMem) : ThMem :=
  { x with m := { x.m with z := x.m.wacc <<< 1 == 0, n := x.m.wacc.msb } }
def ThMem.znF64 (x : ThMem) : ThMem :=
  { x with m := { x.m with z := x.m.wacc == 0 && x.m.wext <<< 1 == 0, n := x.m.wext.msb } }

/-- V is set by a condition and never cleared by one (R177). -/
def ThMem.orV (x : ThMem) (b : Bool) : ThMem := { x with m := { x.m with v := x.m.v || b } }

/-- A result of an operation and whether it sets V. -/
abbrev Res := Nat × Bool

/-- Whether an integer fits w bits of two's complement. -/
def fitsInt (w : Nat) (i : Int) : Bool := decide (-(2 : Int) ^ (w - 1) ≤ i) && decide (i < (2 : Int) ^ (w - 1))

/-- An exact signed result narrowed to w bits; V on signed overflow. -/
def narrow (w : Nat) (i : Int) : Res := (uNat w i, !fitsInt w i)

def addInt (w a x : Nat) : Res := narrow w (sInt w a + sInt w x)
def subInt (w a x : Nat) : Res := narrow w (sInt w a - sInt w x)
def mulInt (w a x : Nat) : Res := narrow w (sInt w a * sInt w x)

/-- The truncated quotient; 0 and V for x = 0. -/
def divInt (w a x : Nat) : Res := if x % 2 ^ w = 0 then (0, true) else narrow w ((sInt w a).tdiv (sInt w x))

/-- The remainder with the sign of the dividend; 0 and V for x = 0. -/
def modInt (w a x : Nat) : Res := if x % 2 ^ w = 0 then (0, true) else (uNat w ((sInt w a).tmod (sInt w x)), false)

def divNat (a x : Nat) : Res := if x = 0 then (0, true) else (a / x, false)
def modNat (a x : Nat) : Res := if x = 0 then (0, true) else (a % x, false)
def negInt (w a : Nat) : Res := narrow w (-sInt w a)
def absInt (w a : Nat) : Res := narrow w (sInt w a).natAbs

/-- A float result; V when it is infinite or NaN from finite operands (R178). -/
def floatRes (f : FFmt) (finite : Bool) (r : Nat) : Res := (r, finite && !fisFin f r)

def addFlt (f : FFmt) (a x : Nat) : Res := floatRes f (fisFin f a && fisFin f x) (fadd f a x)
def subFlt (f : FFmt) (a x : Nat) : Res := floatRes f (fisFin f a && fisFin f x) (fsub f a x)
def mulFlt (f : FFmt) (a x : Nat) : Res := floatRes f (fisFin f a && fisFin f x) (fmul f a x)

/-- The quotient; x = 0 of either sign sets V. -/
def divFlt (f : FFmt) (a x : Nat) : Res :=
  let r := floatRes f (fisFin f a && fisFin f x) (fdiv f a x)
  (r.1, r.2 || fabs f x == 0)

/-- The square root; a negative operand gives NaN and sets V. -/
def sqrtFlt (f : FFmt) (a : Nat) : Res := (fsqrt f a, flt f a 0)

/-! ## Relations (R180) -/

/-- The relation COND on an order; a NaN operand gives no order. -/
def relation (cond : Nat) (o : Option Ordering) : Bool :=
  match o with
  | none => cond == 1
  | some .lt => cond == 1 || cond == 2 || cond == 3
  | some .eq => cond == 0 || cond == 3 || cond == 5
  | some .gt => cond == 1 || cond == 4 || cond == 5

/-- The order of two integers. -/
def cmpInt (a b : Int) : Option Ordering := some (if a < b then .lt else if a = b then .eq else .gt)

end Sys2Proof.Machine
end

