-- ==== Sys2Proof/Machine/ThymeOps.lean ====
section
/-! DEFINITION. What each Thyme instruction does to the machine state, the image and the instances (06 R176 to R180,
Tables 6.5 to 6.12; 07 R202 to R209), as a function of the cycle's context and the instruction word. PC has already
moved to the next word when an operation runs. -/

namespace Sys2Proof.Machine

/-- What an instruction is. -/
abbrev ThOp := ThCtx → Nat → ThMem → ThRes

/-! ## Shapes -/

/-- BA from BA and a bit operand. -/
def opBit (f : Bool → Bool → Bool) : ThOp := fun c w x => do
  let b ← bitOperand c w x
  .ok (x.setBa (f x.m.ba b))

/-- A bit slot from BA; `none` stores nothing, the address being judged all the same (R174). -/
def opStore (f : Bool → Option Bool) : ThOp := fun c w x => do
  let a ← bitAddr c w x
  .ok (match f x.m.ba with
    | some b => x.setBit a b
    | none => x)

/-- An operation without operand on BA. -/
def opAcc (f : Bool → Bool) : ThOp := fun _ _ x => .ok (x.setBa (f x.m.ba))

/-- Pushes BA with an operation and sets BA to that operation's identity (Table 6.6). -/
def opBranch (op : BrOp) (ba : Bool → Bool) : ThOp := fun _ _ x =>
  if 16 ≤ x.m.branch.length then .error tfBranchOver
  else .ok { x with m := { x.m with branch := (x.m.ba, op) :: x.m.branch, ba := ba x.m.ba } }

/-- BA from the top entry, which stays or is popped. -/
def opTop (pop : Bool) (f : Bool → Bool × BrOp → Bool) : ThOp := fun _ _ x =>
  match x.m.branch with
  | [] => .error tfBranchUnder
  | t :: rest => .ok { x with m := { x.m with ba := f x.m.ba t, branch := if pop then rest else t :: rest } }

/-- CLOSE: top.value op BA; BA if the operation is NONE. -/
def closeBranch (ba : Bool) (t : Bool × BrOp) : Bool :=
  match t.2 with
  | .and => t.1 && ba
  | .or => t.1 || ba
  | .xor => t.1 != ba
  | .none => ba

/-- A 32-bit operation of WACC and a word operand, with flags. -/
def opWord (conv : Int → Nat) (f : Nat → Nat → Res) : ThOp := fun c w x => do
  let b ← wordOperand conv c w x
  let r := f x.m.wacc.toNat b
  .ok (((x.setAcc r.1).zn32).orV r.2)

/-- A 64-bit operation of WEXT:WACC and a 64-bit operand, with flags. -/
def opWide (conv : Int → Nat) (f : Nat → Nat → Res) : ThOp := fun c w x => do
  let b ← wideOperand conv c w x
  let r := f x.m.wide b
  .ok (((x.setAcc64 r.1).zn64).orV r.2)

/-- A binary32 operation, with flags. -/
def opF32 (f : Nat → Nat → Res) : ThOp := fun c w x => do
  let b ← wordOperand (fofInt fmt32) c w x
  let r := f x.m.wacc.toNat b
  .ok (((x.setAcc r.1).znF32).orV r.2)

/-- A binary64 operation, with flags. -/
def opF64 (f : Nat → Nat → Res) : ThOp := fun c w x => do
  let b ← wideOperand (fofInt fmt64) c w x
  let r := f x.m.wide b
  .ok (((x.setAcc64 r.1).znF64).orV r.2)

/-- An operation on WACC alone, with flags. -/
def opUnary (f : Nat → Nat → Res) : ThOp := fun _ w x =>
  let r := f x.m.wacc.toNat (wShift w)
  .ok (((x.setAcc r.1).zn32).orV r.2)

/-- An operation on WACC alone; Z and N stay (Table 6.10 marks no flags). -/
def opConv32 (f : Nat → Res) : ThOp := fun _ _ x =>
  let r := f x.m.wacc.toNat
  .ok ((x.setAcc r.1).orV r.2)

/-- An operation on WEXT:WACC alone; Z and N stay. -/
def opConv64 (f : Nat → Res) : ThOp := fun _ _ x =>
  let r := f x.m.wide
  .ok ((x.setAcc64 r.1).orV r.2)

/-- A conversion of WACC into WEXT:WACC; Z and N stay. -/
def opWiden (f : Nat → Nat) : ThOp := fun _ _ x => .ok (x.setAcc64 (f x.m.wacc.toNat))

/-- A compare: BA := result, or BA AND result with COMB (R180). -/
def compareInto (w : Nat) (o : Option Ordering) (x : ThMem) : ThMem :=
  let r := relation (wCond w) o
  x.setBa (if wComb w then x.m.ba && r else r)

def opCmp32 (conv : Int → Nat) (f : Nat → Nat → Option Ordering) : ThOp := fun c w x => do
  let b ← wordOperand conv c w x
  .ok (compareInto w (f x.m.wacc.toNat b) x)

def opCmp64 (conv : Int → Nat) (f : Nat → Nat → Option Ordering) : ThOp := fun c w x => do
  let b ← wideOperand conv c w x
  .ok (compareInto w (f x.m.wide b) x)

/-- A jump when a test of BA holds. -/
def opJump (f : Bool → Bool) : ThOp := fun _ w x => .ok (if f x.m.ba then x.jump (wTarget w) else x)

/-! ## Bit logic and branches (Tables 6.5 and 6.6) -/

def opNop : ThOp := fun _ _ x => .ok x
def opLd : ThOp := opBit fun _ b => b
def opLdn : ThOp := opBit fun _ b => !b
def opAnd : ThOp := opBit fun a b => a && b
def opAndn : ThOp := opBit fun a b => a && !b
def opOr : ThOp := opBit fun a b => a || b
def opOrn : ThOp := opBit fun a b => a || !b
def opXor : ThOp := opBit fun a b => a != b
def opXorn : ThOp := opBit fun a b => a != !b
def opSt : ThOp := opStore fun a => some a
def opStn : ThOp := opStore fun a => some (!a)
def opSet : ThOp := opStore fun a => if a then some true else none
def opRst : ThOp := opStore fun a => if a then some false else none
def opNota : ThOp := opAcc fun a => !a
def opSeta : ThOp := opAcc fun _ => true
def opClra : ThOp := opAcc fun _ => false
def opAndb : ThOp := opBranch .and fun _ => true
def opOrb : ThOp := opBranch .or fun _ => false
def opXorb : ThOp := opBranch .xor fun _ => false
def opPush : ThOp := opBranch .none fun a => a
def opClose : ThOp := opTop true closeBranch
def opRead : ThOp := opTop false fun _ t => t.1
def opPop : ThOp := opTop true fun _ t => t.1

/-! ## Timers (07 R202 to R205) -/

/-- Elapsed time in µs (R202). -/
def elapsed (i : TimerInst) (t : Nat) : Nat := (t + 2 ^ 64 - i.start % 2 ^ 64) % 2 ^ 64 / 1000

/-- µs of a UNIT. -/
def unitUs (u : Nat) : Nat := if u = 0 then 1 else if u = 1 then 1000 else 1000000

/-- On-delay. -/
def tonEval (i : TimerInst) (inp : Bool) (pt t : Nat) : TimerInst :=
  let i := if inp && !i.inPrev then { i with start := t, running := true } else i
  let i :=
    if !inp then { i with running := false, et := 0, q := false }
    else if i.running then
      let e := elapsed i t
      { i with et := min e pt, q := decide (pt ≤ e) }
    else i
  { i with inPrev := inp }

/-- Off-delay. -/
def tofEval (i : TimerInst) (inp : Bool) (pt t : Nat) : TimerInst :=
  let i :=
    if inp then { i with running := false, et := 0, q := true }
    else
      let i := if i.inPrev then { i with start := t, running := true } else i
      if i.running then
        let e := elapsed i t
        if pt ≤ e then { i with et := min e pt, running := false, q := false } else { i with et := min e pt }
      else i
  { i with inPrev := inp }

/-- Pulse. -/
def tpEval (i : TimerInst) (inp : Bool) (pt t : Nat) : TimerInst :=
  let i := if !i.running && inp && !i.inPrev then { i with start := t, running := true } else i
  let i :=
    if i.running then
      let e := elapsed i t
      { i with et := min e pt, q := decide (e < pt), running := decide (e < pt) }
    else if !inp then { i with et := 0 }
    else i
  { i with inPrev := inp }

/-- A timer instruction: IN = BA, PT = WACC × UNIT (R203), BA := Q. -/
def opTimer (f : TimerInst → Bool → Nat → Nat → TimerInst) : ThOp := fun c w x =>
  let i := f (tabGetD x.timers (wInst w) {}) x.m.ba (x.m.wacc.toNat * unitUs (wUnit w)) c.clock
  .ok ({ x with timers := tabSet x.timers (wInst w) i }.setBa i.q)

def opTon : ThOp := opTimer tonEval
def opTof : ThOp := opTimer tofEval
def opTp : ThOp := opTimer tpEval

/-- TET: elapsed ÷ UNIT, held at 0xFFFFFFFF with V set (R205). -/
def opTet : ThOp := fun _ w x =>
  let q := (tabGetD x.timers (wInst w) {}).et / unitUs (wUnit w)
  .ok (((x.setAcc (min q 0xFFFFFFFF)).zn32).orV (decide (0xFFFFFFFF < q)))

/-! ## Counters and edge detectors (07 R207, R208) -/

/-- The largest and least value of an i32. -/
abbrev i32Max : Int := 2147483647
abbrev i32Min : Int := -2147483648

def ctuEval (k : CounterInst) (cu : Bool) : CounterInst :=
  let k := if k.upFresh then { k with upPrev := cu, upFresh := false } else k
  let k := if cu && !k.upPrev && decide (k.cv < i32Max) then { k with cv := k.cv + 1 } else k
  { k with upPrev := cu }

def ctdEval (k : CounterInst) (cd : Bool) : CounterInst :=
  let k := if k.dnFresh then { k with dnPrev := cd, dnFresh := false } else k
  let k := if cd && !k.dnPrev && decide (i32Min < k.cv) then { k with cv := k.cv - 1 } else k
  { k with dnPrev := cd }

/-- The counter of a word, and its replacement. -/
def ThMem.counter (x : ThMem) (w : Nat) : CounterInst := tabGetD x.counters (wInst w) {}
def ThMem.setCounter (x : ThMem) (w : Nat) (k : CounterInst) : ThMem :=
  { x with counters := tabSet x.counters (wInst w) k }

def opCtu : ThOp := fun _ w x =>
  let k := ctuEval (x.counter w) x.m.ba
  .ok ((x.setCounter w k).setBa (decide (sInt 32 x.m.wacc.toNat ≤ k.cv)))
def opCtd : ThOp := fun _ w x =>
  let k := ctdEval (x.counter w) x.m.ba
  .ok ((x.setCounter w k).setBa (decide (k.cv ≤ 0)))
def opCrst : ThOp := fun _ w x =>
  .ok (if x.m.ba then x.setCounter w { x.counter w with cv := 0 } else x)
def opCld : ThOp := fun _ w x =>
  .ok (if x.m.ba then x.setCounter w { x.counter w with cv := sInt 32 x.m.wacc.toNat } else x)
def opTcv : ThOp := fun _ w x => .ok ((x.setAcc (uNat 32 (x.counter w).cv)).zn32)

/-- An edge detector: previous := input BA. -/
def opEdge (f : Bool → Bool → Bool) : ThOp := fun _ w x =>
  let e := tabGetD x.edges (wInst w) {}
  let prev := if e.fresh then x.m.ba else e.prev
  .ok ({ x with edges := tabSet x.edges (wInst w) { prev := x.m.ba, fresh := false } }.setBa (f x.m.ba prev))
def opEdgp : ThOp := opEdge fun i p => i && !p
def opEdgn : ThOp := opEdge fun i p => !i && p

/-! ## Word moves (Table 6.8) -/

/-- Two's complement of an immediate. -/
def conv32 (i : Int) : Nat := uNat 32 i
def conv64 (i : Int) : Nat := uNat 64 i

def opLdw : ThOp := fun c w x => do
  let v ← wordOperand conv32 c w x
  .ok ((x.setAcc v).zn32)
def opLdb : ThOp := fun c w x => do
  let b ← bitOperand c w x
  .ok ((x.setAcc (b2n b)).zn32)
def opLdwh : ThOp := fun _ w x => .ok (x.setAcc (bitsOf x.m.wacc.toNat 0 16 + wAddr w * 2 ^ 16))
def opStw : ThOp := fun c w x => do
  let a ← wordAddr c w x
  .ok (x.setWord a x.m.wacc.toNat)
def opStwc : ThOp := fun c w x => do
  let a ← wordAddr c w x
  .ok (if x.m.ba then x.setWord a x.m.wacc.toNat else x)

/-- Quality in [7:0], failed mark in [8]. -/
def slotMark (s : Slot) : Nat := s.quality % 256 + b2n s.failed * 256
def opLdq : ThOp := fun c w x => do
  let a ← wordAddr c w x
  .ok (x.setAcc (slotMark (x.wordSlot a)))
def opLdqb : ThOp := fun c w x => do
  let a ← bitAddr c w x
  .ok (x.setAcc (slotMark (x.bitSlot a)))
def opLdix : ThOp := fun _ _ x => .ok { x with m := { x.m with ix := x.m.wacc.setWidth 16 } }
def opLdw64 : ThOp := fun c w x => do
  let v ← wideOperand conv64 c w x
  .ok ((x.setAcc64 v).zn64)
def opStw64 : ThOp := fun c w x => do
  let a ← wideAddr c w x
  .ok (x.setWide a x.m.wide)
def opXch : ThOp := fun _ _ x => .ok { x with m := { x.m with wacc := x.m.wext, wext := x.m.wacc } }
def opStnz : ThOp := fun c w x => do
  let a ← bitAddr c w x
  .ok (x.setBit a (x.m.wacc != 0))

/-! ## Integer arithmetic and logic (Table 6.9) -/

def opAdd : ThOp := opWord conv32 (addInt 32)
def opSub : ThOp := opWord conv32 (subInt 32)
def opMul : ThOp := opWord conv32 (mulInt 32)
def opDiv : ThOp := opWord conv32 (divInt 32)
def opMod : ThOp := opWord conv32 (modInt 32)
def opDivu : ThOp := opWord conv32 divNat
def opModu : ThOp := opWord conv32 modNat
def opNeg : ThOp := opUnary fun a _ => negInt 32 a
def opAbs : ThOp := opUnary fun a _ => absInt 32 a
def opAndw : ThOp := opWord conv32 fun a b => (a &&& b, false)
def opOrw : ThOp := opWord conv32 fun a b => (a ||| b, false)
def opXorw : ThOp := opWord conv32 fun a b => (a ^^^ b, false)
def opNotw : ThOp := opUnary fun a _ => (2 ^ 32 - 1 - a, false)
def opShl : ThOp := opUnary fun a n => (a * 2 ^ n, false)
def opShr : ThOp := opUnary fun a n => (a / 2 ^ n, false)
def opSar : ThOp := opUnary fun a n => (uNat 32 ((sInt 32 a).fdiv ((2 : Int) ^ n)), false)
def opRol : ThOp := opUnary fun a n => (a * 2 ^ n + a / 2 ^ (32 - n), false)
def opAdd64 : ThOp := opWide conv64 (addInt 64)
def opSub64 : ThOp := opWide conv64 (subInt 64)
def opMul64 : ThOp := opWide conv64 (mulInt 64)
def opDiv64 : ThOp := opWide conv64 (divInt 64)
def opMod64 : ThOp := opWide conv64 (modInt 64)

/-! ## Float arithmetic and conversion (Table 6.10) -/

def opAddf : ThOp := opF32 (addFlt fmt32)
def opSubf : ThOp := opF32 (subFlt fmt32)
def opMulf : ThOp := opF32 (mulFlt fmt32)
def opDivf : ThOp := opF32 (divFlt fmt32)
def opSqrtf : ThOp := opConv32 (sqrtFlt fmt32)
def opAbsf : ThOp := opConv32 fun a => (fabs fmt32 a, false)
def opNegf : ThOp := opConv32 fun a => (fneg fmt32 a, false)
def opAddd : ThOp := opF64 (addFlt fmt64)
def opSubd : ThOp := opF64 (subFlt fmt64)
def opMuld : ThOp := opF64 (mulFlt fmt64)
def opDivd : ThOp := opF64 (divFlt fmt64)
def opSqrtd : ThOp := opConv64 (sqrtFlt fmt64)
def opItof : ThOp := opConv32 fun a => (fofInt fmt32 (sInt 32 a), false)
def opUtof : ThOp := opConv32 fun a => (fofInt fmt32 a, false)
def opFtoi : ThOp := opConv32 fun a => (uNat 32 (ftoInt fmt32 32 a).1, (ftoInt fmt32 32 a).2)
def opFtod : ThOp := opWiden (fconv fmt32 fmt64)
def opDtof : ThOp := opConv64 fun a => floatRes fmt32 (fisFin fmt64 a) (fconv fmt64 fmt32 a)
def opItol : ThOp := opWiden fun a => uNat 64 (sInt 32 a)
def opLtod : ThOp := opConv64 fun a => (fofInt fmt64 (sInt 64 a), false)
def opDtol : ThOp := opConv64 fun a => (uNat 64 (ftoInt fmt64 64 a).1, (ftoInt fmt64 64 a).2)

/-! ## Compares and control (Tables 6.11 and 6.12) -/

def opCmpi : ThOp := opCmp32 conv32 fun a b => cmpInt (sInt 32 a) (sInt 32 b)
def opCmpu : ThOp := opCmp32 conv32 fun a b => cmpInt a b
def opCmpf : ThOp := opCmp32 (fofInt fmt32) (fcmp fmt32)
def opCmpl : ThOp := opCmp64 conv64 fun a b => cmpInt (sInt 64 a) (sInt 64 b)
def opCmpd : ThOp := opCmp64 (fofInt fmt64) (fcmp fmt64)
def opJmp : ThOp := opJump fun _ => true
def opJt : ThOp := opJump fun a => a
def opJf : ThOp := opJump fun a => !a
def opCall : ThOp := fun _ w x =>
  if 16 ≤ x.m.calls.length then .error tfCallOver
  else .ok ({ x with m := { x.m with calls := x.m.pc :: x.m.calls } }.jump (wTarget w))
def opRet : ThOp := fun _ _ x =>
  match x.m.calls with
  | [] => .error tfCallUnder
  | a :: rest => .ok ({ x with m := { x.m with calls := rest } }.jump a)
def opClrv : ThOp := fun _ _ x => .ok { x with m := { x.m with v := false } }

end Sys2Proof.Machine
end

