-- ==== Sys2Proof/Machine/ThymeRun.lean ====
section
/-! DEFINITION. Thyme at run time (06 R169 to R171, R181, R182, R185 to R195; 07 R200, R216, R221 to R232): tasks,
schedule, dispatch, one instruction, faults, stop and start, gathers and scatters, the on-line exchange, and what a
cycle ships. -/

namespace Sys2Proof.Machine

/-! ## Tasks -/

/-- A task. -/
def State.task (s : State) (t : Nat) : Task := tabGetD s.thyme.tasks t {}

/-- Replaces a task. -/
def State.setTask (s : State) (t : Nat) (x : Task) : State :=
  { s with thyme := { s.thyme with tasks := tabSet s.thyme.tasks t x } }

/-- The program a task runs: the new one once it has exchanged (07 R227). -/
def progOf (s : State) (t : Nat) : Option Loaded := if (s.task t).onNew then s.thyme.next else s.thyme.loaded

/-- The task entry of a task in the program it runs. -/
def cfgOf (s : State) (t : Nat) : Option TaskCfg := (progOf s t).bind fun l => tabGet l.prog.tasks t

/-- Stores the program a task runs back. -/
def putProg (s : State) (t : Nat) (l : Loaded) : State :=
  if (s.task t).onNew then { s with thyme := { s.thyme with next := some l } }
  else { s with thyme := { s.thyme with loaded := some l } }

/-- The writer id of a task (03 Table 3.7). -/
def taskWriter (t : Nat) : Nat := 2 ^ 28 + t

/-- TH_CTRL.RUN: the program's run state (R194). -/
def thRun (s : State) : Bool := s.rbit rThCtrl 0

/-- A cycle of the task is under way. -/
def Task.busy (x : Task) : Bool :=
  x.state == .gathering || x.state == .ready || x.state == .running || x.state == .scattering

/-- Whether any cycle is under way. -/
def anyBusy (s : State) : Bool := s.thyme.tasks.any fun p => p.2.busy

/-- Counts n on a counter of the Thyme block. -/
def State.thCount (s : State) (a : Nat) (n : Nat := 1) : State := if n = 0 then s else s.stick a rThEvent 7 n

/-! ## The schedule (R188) -/

/-- The first release instant after an instant, TAI ns. -/
def nextInstant (c : TaskCfg) (after : Nat) : Nat :=
  let per := c.period * 1000
  let ph := c.phase * 1000
  if after < ph then ph else ph + ((after - ph) / per + 1) * per

/-- Release instants from `first` on that are not later than an instant. -/
def passed (c : TaskCfg) (first upTo : Nat) : Nat := if upTo < first then 0 else (upTo - first) / (c.period * 1000) + 1

/-! ## Mapped points (06 R578) -/

/-- A mapped point: key of its first slot (area * 65536 + slot), identifier, type. -/
structure Mapped where
  key : Nat
  pt : Nat
  type : Nat
  deriving DecidableEq, Repr

/-- Slots a point takes. -/
def slotsOf (type : Nat) : Nat := if type = 3 ∨ type = 4 ∨ type = 6 then 2 else 1

/-- The points of one map entry from a slot on. -/
def mappedFrom (area : Nat) : Nat → Nat → List Nat → List Mapped
  | _, _, [] => []
  | slot, pt, ty :: rest =>
    { key := area * 65536 + slot, pt := pt, type := ty } :: mappedFrom area (slot + slotsOf ty) (pt + 1) rest

/-- The points a program maps for a task in a role: 0 INPUT, 1 OUTPUT. -/
def mappedOf (p : Program) (t role : Nat) : List Mapped :=
  ((p.maps.filter fun e => e.task == t && e.role == role).map fun e => mappedFrom e.area e.slot e.pt e.types).flatten

/-- A slot of a task's image. -/
def Task.slot (x : Task) (key : Nat) : Slot :=
  if key < 65536 then tabGetD x.bits key {} else tabGetD x.words (key - 65536) {}

/-- Sets a slot of a task's image. -/
def Task.putSlot (x : Task) (key : Nat) (v : Slot) : Task :=
  if key < 65536 then { x with bits := tabSet x.bits key v } else { x with words := tabSet x.words (key - 65536) v }

/-- Whether a slot is an INPUT slot of a task. -/
def inputSlot (p : Program) (t key : Nat) : Bool :=
  p.maps.any fun e => e.task == t && e.role == 0 && decide (e.area * 65536 + e.slot ≤ key) &&
    decide (key < e.area * 65536 + e.slot + e.count)

/-- The image as a program starts: every slot but the INPUT slots is 0 (R185). -/
def Task.zeroed (x : Task) (p : Program) (t : Nat) : Task :=
  { x with bits := tabFilter (fun k _ => inputSlot p t k) x.bits, words := tabFilter (fun k _ => inputSlot p t (k + 65536)) x.words }

/-- The value a mapped point's slots hold, as the point's type takes it (R186). -/
def Task.valueAt (x : Task) (m : Mapped) : Nat :=
  let v := (x.slot m.key).value
  if slotsOf m.type = 2 then v % 2 ^ 32 + (x.slot (m.key + 1)).value % 2 ^ 32 * 2 ^ 32 else v % 2 ^ typeWidth m.type

/-! ## Faults and stops (R181, R182, R194) -/

/-- The scatter set, the gather and the snapshot of an ended cycle are gone. -/
def Task.cleared (x : Task) : Task :=
  { x with gathered := none, offered := [], before := none, exMark := false }

/-- A task ends a cycle without completing it. -/
def Task.abandoned (x : Task) (run : Bool) : Task :=
  { x.cleared with
    state := if run && !x.stopping then .waiting else .stopped
    stopping := false
    first := x.first && (x.state == .gathering)
    exchanged := x.exchanged && (x.state == .gathering) }

/-- The image operations of a task leave the fabric's queue. -/
def dropImageOps (s : State) (t : Nat) : State :=
  { s with fabric := { s.fabric with imageQueue := s.fabric.imageQueue.filter (·.task != t) } }

/-- FAULT_STOPS_ALL: every task stops at its next boundary, without its scatter (R182). A cycle whose END has been
executed keeps its scatter. -/
def stopAll (s : State) : State :=
  let s := s.lower rThCtrl 0
  let f (x : Task) : Task :=
    if x.state == .scattering then { x with stopping := true }
    else if x.busy then x.abandoned false
    else if x.state == .waiting then { x with state := .stopped }
    else x
  { s with
    thyme := { s.thyme with tasks := tabMap (fun _ x => f x) s.thyme.tasks }
    fabric := { s.fabric with imageQueue := s.fabric.imageQueue.filter fun o => !o.gather } }

/-- A task faults (R181). -/
def faultTask (s : State) (t code : Nat) : State :=
  let x := s.task t
  let s := s.setTask t { x.cleared with state := .faulted, fault := code, stopping := false }
  let s := s.setReg (rThTFaultPc t) (x.mach.pc % 2 ^ 18 + 2 ^ 31)
  let s := s.raise rThEvent 3
  if s.rbit rThCtrl 1 then stopAll s else s

/-! ## Dispatch (Table 6.19 step 3) -/

/-- Priority of a task. -/
def prioOf (s : State) (t : Nat) : Nat := ((cfgOf s t).map TaskCfg.priority).getD 0

/-- The task running. -/
def runningTask (s : State) : Option Nat := (s.thyme.tasks.find? fun p => p.2.state == .running).map (·.1)

/-- The ready task of highest priority, the lower number first. -/
def bestReady (s : State) : Option Nat :=
  (s.thyme.tasks.filter fun p => p.2.state == .ready).foldl
    (fun b p => match b with
      | none => some p.1
      | some k => if prioOf s k < prioOf s p.1 then some p.1 else some k) none

/-- Dispatches: a ready task runs when none does, or in place of one of lower priority. -/
def dispatch (s : State) : State :=
  match bestReady s, runningTask s with
  | some b, none => s.setTask b { s.task b with state := .running }
  | some b, some r =>
    if prioOf s r < prioOf s b then
      (s.setTask r { s.task r with state := .ready }).setTask b { (s.setTask r { s.task r with state := .ready }).task b with state := .running }
    else s
  | none, _ => s

/-! ## One instruction -/

/-- The context of a task's cycle (06 Table 6.4). -/
def ctxOf (s : State) (t : Nat) (c : TaskCfg) : ThCtx :=
  let x := s.task t
  { bitSlots := c.bitSlots, wordSlots := c.wordSlots, first := x.first, exchanged := x.exchanged
    gatherFail := decide (0 < x.gfail), overran := x.overran, release := x.release, period := c.period, task := t
    cycles := s.reg (rThTCycles t), last := s.reg (rThTLast t), failed := x.gfail, clock := x.clock }

/-- What the running task's instruction works on. -/
def memOf (x : Task) (l : Loaded) : ThMem :=
  { m := { x.mach with pc := x.mach.pc + 1 }, bits := x.bits, words := x.words, timers := l.timers
    counters := l.counters, edges := l.edges }

/-- The running task, its program and the word at its PC, when that word is legal and of an opcode. -/
def fetch (s : State) (op : Nat) : Option (Nat × Loaded × TaskCfg × Nat) :=
  if s.running iTHY then
    match runningTask s with
    | none => none
    | some t =>
      match progOf s t, cfgOf s t with
      | some l, some c =>
        match l.prog.code[(s.task t).mach.pc]? with
        | some w => if wOpcode w.toNat = op ∧ legalWord w.toNat then some (t, l, c, w.toNat) else none
        | none => none
      | _, _ => none
  else none

/-! ## Gather and scatter (R185 to R187, R192; 03 R99 to R101) -/

/-- The slots one gather entry delivers: the point's value in its slots, or the previous ones marked failed. -/
def gatherSlots (x : Task) (m : Mapped) (r : FabRes) : List (Nat × Slot) :=
  let ok := r.status = stOk ∧ r.type = m.type
  let v := r.value.toNat
  let lo : Slot := if ok then { value := v % 2 ^ 32, quality := r.quality } else { x.slot m.key with failed := true }
  let hi : Slot :=
    if ok then { value := v / 2 ^ 32, quality := r.quality } else { x.slot (m.key + 1) with failed := true }
  if slotsOf m.type = 2 then [(m.key, lo), (m.key + 1, hi)] else [(m.key, lo)]

/-- The fabric performs a gather: slots delivered and entries failed. -/
def performGather (s : State) (t tenant : Nat) (ms : List Mapped) : (Tab Slot × Nat) × State :=
  ms.foldl (fun (a : (Tab Slot × Nat) × State) m =>
    let (r, s) := fabRead a.2 tenant m.pt
    let ok := r.status = stOk ∧ r.type = m.type
    (((gatherSlots (s.task t) m r).foldl (fun g p => tabSet g p.1 p.2) a.1.1, a.1.2 + (if ok then 0 else 1)), s)) (([], 0), s)

/-- The fabric performs the gather of a task. -/
def gatherNow (s : State) (t : Nat) : State :=
  match progOf s t, cfgOf s t with
  | some l, some c =>
    let ((g, n), s) := performGather s t c.tenant (mappedOf l.prog t 0)
    s.setTask t { s.task t with gathered := some g, gfail := n }
  | _, _ => s

/-- The fabric performs the scatter of a task: each entry with the release time and quality GOOD (03 R101). -/
def scatterNow (s : State) (t : Nat) : State :=
  match cfgOf s t with
  | some c =>
    let x := s.task t
    let (os, s) := x.offered.foldl (fun (a : List Offer × State) o =>
      let (st, s) := fabWrite a.2 c.tenant (taskWriter t) o.pt o.type qGood (BitVec.ofNat 64 o.value) x.release
      (a.1 ++ [{ o with status := some st }], s)) ([], s)
    s.setTask t { s.task t with offered := os }
  | none => s

/-- The next image operation leaves the queue. -/
def popImage (s : State) : State :=
  { s with fabric := { s.fabric with imageQueue := s.fabric.imageQueue.drop 1 } }

/-- OUTPUT slots that differ from the value last written (R187). -/
def differing (x : Task) (ms : List Mapped) : List Offer :=
  (ms.filter fun m => tabGet x.written m.key != some (x.valueAt m)).map fun m =>
    { key := m.key, pt := m.pt, type := m.type, value := x.valueAt m }

/-- Records what the fabric performed. -/
def Task.recordWritten (x : Task) : Task :=
  { x with written := (x.offered.filter (·.status == some stOk)).foldl (fun w o => tabSet w o.key o.value) x.written }

/-! ## What a cycle ships (07 R231, 16 R459) -/

/-- Whether an instance of an index and kinds belongs to a task. -/
def ownsInst (p : Program) (t lo hi i : Nat) : Bool :=
  p.insts.any fun e => decide (lo ≤ e.kind) && decide (e.kind ≤ hi) && e.task == t && e.index == i

/-- Entries of a table that differ from an older table. -/
def changedIn {β : Type} [DecidableEq β] (old new : Tab β) : Tab β := new.filter fun p => tabGet old p.1 != some p.2

/-- The flag byte of booleans, the first at bit 0. -/
def flagByte (bs : List Bool) : Nat := ((List.range bs.length).map fun i => b2n (bs.getD i false) * 2 ^ i).sum

def timerItems (p : Nat × TimerInst) : List ShipItem :=
  let f := flagByte [p.2.inPrev, p.2.running, p.2.q]
  [{ key := p.1, flags := f, value := p.2.start % 2 ^ 64 }, { key := p.1 + 2 ^ 31, flags := f, value := p.2.et }]

def counterItem (p : Nat × CounterInst) : ShipItem :=
  { key := p.1, flags := flagByte [p.2.upPrev, p.2.dnPrev, p.2.upFresh, p.2.dnFresh], value := uNat 64 p.2.cv }

def edgeItem (p : Nat × EdgeInst) : ShipItem := { key := p.1, flags := flagByte [p.2.prev, p.2.fresh] }

/-- Whether a slot is a LOCAL slot of a task. -/
def localSlot (p : Program) (t key : Nat) : Bool :=
  p.maps.any fun e => e.task == t && e.role == 2 && decide (e.area * 65536 + e.slot ≤ key) &&
    decide (key < e.area * 65536 + e.slot + e.count)

/-- LOCAL slots that changed in the cycle. -/
def localItems (p : Program) (t : Nat) (x : Task) (b : Before) : List ShipItem :=
  let f (off : Nat) (old new : Tab Slot) : List ShipItem :=
    ((changedIn old new).filter fun q => localSlot p t (q.1 + off)).map fun q => { key := q.1 + off, value := q.2.value }
  f 0 b.bits x.bits ++ f 65536 b.words x.words

/-- The items of a gather: every INPUT slot. -/
def inputItems (x : Task) : List ShipItem :=
  (x.gathered.getD []).map fun q => { key := q.1, qual := q.2.quality, flags := b2n q.2.failed, value := q.2.value }

/-- The records of one task cycle (Table 7.7). -/
def cycleRecords (s : State) (t : Nat) : List ShipRec :=
  let x := s.task t
  match progOf s t, x.before with
  | some l, some b =>
    [ { type := 1, unit := t, items :=
          [{ key := 0, flags := flagByte [x.overran, x.exMark], value := x.release }, { key := 1, value := x.corr }] },
      { type := 2, unit := t, items := inputItems x },
      { type := 3, unit := t, items := x.offered.map fun o =>
          { key := o.key, status := o.status.getD stIslandAbsent, value := o.value } },
      { type := 4, unit := t, items := (((changedIn b.timers l.timers).filter fun p => ownsInst l.prog t 1 3 p.1).map timerItems).flatten },
      { type := 5, unit := t, items := ((changedIn b.counters l.counters).filter fun p => ownsInst l.prog t 4 4 p.1).map counterItem },
      { type := 6, unit := t, items := ((changedIn b.edges l.edges).filter fun p => ownsInst l.prog t 5 5 p.1).map edgeItem },
      { type := 7, unit := t, items := localItems l.prog t x b } ]
  | _, _ => []

/-- The bytes of a record. -/
def ShipRec.bytes (r : ShipRec) : List Byte :=
  shipRecord r.type r.unit (r.items.map fun i => shipItem i.key i.status i.qual i.flags i.value)

/-- Ships the records that hold items. -/
def shipCycle (s : State) (t : Nat) : State :=
  ship s (((cycleRecords s t).filter fun r => !r.items.isEmpty).map ShipRec.bytes)

/-! ## Claims of outputs (03 R94, 05 R165) -/

/-- Every output of a program: task, tenant, point. -/
def outputsOf (p : Program) : List (Nat × Nat × Nat) :=
  (p.tasks.map fun q => (mappedOf p q.1 1).map fun m => (q.1, q.2.tenant, m.pt)).flatten

/-- Releases the claims tasks hold on points. -/
def releaseOutputs (s : State) (os : List (Nat × Nat)) : State :=
  os.foldl (fun (s : State) (o : Nat × Nat) => releaseHeld s o.2 (taskWriter o.1)) s

/-- Claims points for their tasks; on a refusal the claims made here are released. Status and refused point. -/
def claimEach (s : State) (os : List (Nat × Nat × Nat)) : (Nat × Nat) × State :=
  let (st, _, pt, s) := os.foldl
    (fun (a : Nat × List (Nat × Nat) × Nat × State) o =>
      if a.1 ≠ stOk then a
      else
        let held := holdsClaim a.2.2.2 o.2.2 (taskWriter o.1)
        let (st, s) := crossStatus a.2.2.2 iSAGE iPF 1 fun s => tryClaim s o.2.1 (taskWriter o.1) o.2.2
        if st = stOk then (stOk, (if held then a.2.1 else (o.1, o.2.2) :: a.2.1), 0, s)
        else (st, [], o.2.2, releaseOutputs s a.2.1))
    (stOk, [], 0, s)
  ((st, pt), s)

/-- Claims every output of a program. -/
def claimOutputs (s : State) (p : Program) : (Nat × Nat) × State := claimEach s (outputsOf p)

/-- The task and point of each output. -/
def outputPoints (p : Program) : List (Nat × Nat) := (outputsOf p).map fun (o : Nat × Nat × Nat) => (o.1, o.2.2)

/-! ## Starting a program (R194, 07 R201, R216) -/

/-- A task of a program starts: it takes its next release, with FIRST set and its OUTPUT and LOCAL slots 0 (R185). A task
whose cycle still runs goes on with it, and starts at the release after. -/
def startTask (s : State) (p : Program) (t : Nat) (c : TaskCfg) (x : Task) : Task :=
  let x := { x with stopping := false, nextRelease := nextInstant c s.tai }
  if x.busy then { x with renew := true } else { x.zeroed p t with state := .waiting, fault := 0, first := true }

/-- PROGRAM_RUN with run. C is 0 where every instance is still new (07 R201). -/
def startProgram (s : State) : State :=
  match s.thyme.loaded with
  | none => s
  | some l =>
    let s := s.raise rThCtrl 0
    let s := { s with thyme := { s.thyme with halted := false, corr := if s.thyme.fresh then 0 else s.thyme.corr } }
    (l.prog.tasks.foldl (fun s p => s.setTask p.1 (startTask s l.prog p.1 p.2 (s.task p.1))) s).wakeIsl iTHY

/-- A program is installed stopped, with every instance new: images 0, last written values unknown, C = 0. -/
def installProgram (s : State) (p : Program) : State :=
  { s with thyme := { s.thyme with
      loaded := some { prog := p }, next := none, exchange := none, corr := 0, fresh := true
      tasks := p.tasks.map fun q => (q.1, { state := .stopped }) } }

/-- The program Steward loads again at a restart (R198). -/
def setLast (s : State) (p : Option Program) : State := { s with thyme := { s.thyme with lastProg := p } }

/-- PROGRAM_UNLOAD once every task has stopped (R575). -/
def unloadNow (s : State) : State :=
  let s := match s.thyme.loaded with
    | some l => releaseOutputs s (outputPoints l.prog)
    | none => s
  setLast { s with thyme := { s.thyme with loaded := none, next := none, tasks := [], unloading := false, corr := 0 } } none

/-! ## On-line exchange (07 R221 to R229) -/

/-- Adds to one of the nine counts of the exchange: class 0 timers, 1 counters, 2 edges; 0 carried, 1 new, 2 dropped. -/
def bump (cs : List Nat) (cls what n : Nat) : List Nat := cs.set (cls * 3 + what) (cs.getD (cls * 3 + what) 0 + n)

/-- The class of an instance kind. -/
def kindClass (k : Nat) : Nat := if k ≤ 3 then 0 else if k = 4 then 1 else 2

/-- The old entry that an entry of the new image carries (Table 7.6). -/
def carriedFrom (old : Program) (t : Nat) (e : InstEntry) : Option InstEntry :=
  if e.source = 0 then none
  else old.insts.find? fun o => o.identity == e.source && o.kind == e.kind && o.task == t &&
    (decide (e.kind ≤ 5) || o.index / 65536 == e.index / 65536)

/-- Copies an instance between instance memories. -/
def carryInst (a b : Loaded) (kind i j : Nat) : Loaded :=
  if kind ≤ 3 then
    match tabGet a.timers i with
    | some v => { b with timers := tabSet b.timers j v }
    | none => b
  else if kind = 4 then
    match tabGet a.counters i with
    | some v => { b with counters := tabSet b.counters j v }
    | none => b
  else
    match tabGet a.edges i with
    | some v => { b with edges := tabSet b.edges j v }
    | none => b

/-- Copies the slots of a LOCAL block: kind 6 bits, 7 words. -/
def carryBlock (x y : Task) (kind a b : Nat) : Task :=
  let n := a / 65536 + 1
  let off := if kind = 6 then 0 else 65536
  (List.range n).foldl (fun y k =>
    let v := (x.slot (off + a % 65536 + k)).value
    if v = 0 then y else y.putSlot (off + b % 65536 + k) { value := v }) y

/-- Carries the OUTPUT slots, and the last written values, of points that stay outputs of the task. -/
def carryOutputs (x y : Task) (olds news : List Mapped) : Task :=
  news.foldl (fun y m =>
    match olds.find? fun o => o.pt == m.pt with
    | some o =>
      let y := y.putSlot m.key (x.slot o.key)
      let y := if slotsOf m.type = 2 ∧ slotsOf o.type = 2 then y.putSlot (m.key + 1) (x.slot (o.key + 1)) else y
      match tabGet x.written o.key with
      | some v => { y with written := tabSet y.written m.key v }
      | none => y
    | none => y) y

/-- The transplant of one task (R223): the new task, the new instance memory and the counts. -/
def transplant (a b : Loaded) (t : Nat) (x : Task) (cs : List Nat) : Task × Loaded × List Nat :=
  let same := (tabGet a.prog.tasks t).isSome &&
    (tabGet a.prog.tasks t).map TaskCfg.tenant == (tabGet b.prog.tasks t).map TaskCfg.tenant
  let y : Task :=
    { x with onNew := true, mach := {}, bits := [], words := [], written := [], first := false, exchanged := true
             consecOvr := 0, fault := 0, gathered := none, offered := [], before := none, exMark := true
             renew := false }
  let ents := b.prog.insts.filter (·.task == t)
  let (y, b', cs) := ents.foldl (fun (r : Task × Loaded × List Nat) e =>
    match if same then carriedFrom a.prog t e else none with
    | some o =>
      if e.kind ≤ 5 then (r.1, carryInst a r.2.1 e.kind o.index e.index, bump r.2.2 (kindClass e.kind) 0 1)
      else (carryBlock x r.1 e.kind o.index e.index, r.2.1, r.2.2)
    | none => if e.kind ≤ 5 then (r.1, r.2.1, bump r.2.2 (kindClass e.kind) 1 1) else r) (y, b, cs)
  let dropped := a.prog.insts.filter fun o => o.task == t && decide (o.kind ≤ 5) &&
    !(same && ents.any fun e => carriedFrom a.prog t e == some o)
  let cs := dropped.foldl (fun cs o => bump cs (kindClass o.kind) 2 1) cs
  let y := if same then carryOutputs x y (mappedOf a.prog t 1) (mappedOf b.prog t 1) else y
  (y, b', cs)

/-- The payload of PROGRAM_EXCHANGE's final response (Table 5.7). -/
def exchangePayload (tasks : Nat) (cs : List Nat) (t : Nat) : List Byte :=
  leBytes 2 tasks ++ leBytes 2 0 ++ (cs.map (leBytes 4)).flatten ++ leBytes 8 t

/-- The exchange is complete (R227). -/
def finishExchange (s : State) : State :=
  match s.thyme.exchange, s.thyme.next with
  | some e, some b =>
    let s := { s with thyme := { s.thyme with
      loaded := some b, next := none, exchange := none, staged := none
      tasks := tabMap (fun _ x => { x with onNew := false }) s.thyme.tasks } }
    let s := setLast s (some b.prog)
    let s := s.raise rThEvent 6
    complete_ s 0x0303 stOk (exchangePayload e.tasksDone e.counts s.tai)
  | _, _ => s

/-- A task has exchanged, or gone; the last ends the exchange. -/
def exchanged (s : State) (t : Nat) (inNew : Bool) : State :=
  match s.thyme.exchange with
  | some e =>
    let e := { e with
      remaining := e.remaining.filter (· != t), tasksDone := e.tasksDone ||| (if inNew then 2 ^ t else 0) }
    let s := { s with thyme := { s.thyme with exchange := some e } }
    let s := if inNew then setLast s (s.thyme.next.map Loaded.prog) else s
    if e.remaining.isEmpty then finishExchange s else s
  | none => s

/-- One task exchanges, in the steps of Table 7.5: transplant, and release of the claims it leaves. -/
def exchangeTask (s : State) (t : Nat) : State :=
  match s.thyme.loaded, s.thyme.next, s.thyme.exchange with
  | some a, some b, some e =>
    match tabGet b.prog.tasks t with
    | none =>
      let s := releaseOutputs s ((mappedOf a.prog t 1).map fun m => (t, m.pt))
      let gone := a.prog.insts.filter fun o => o.task == t && decide (o.kind ≤ 5)
      let e := { e with counts := gone.foldl (fun cs o => bump cs (kindClass o.kind) 2 1) e.counts }
      let s := { s with thyme := { s.thyme with exchange := some e } }
      exchanged { s with thyme := { s.thyme with tasks := tabDel s.thyme.tasks t } } t false
    | some c =>
      let (y, b', cs) := transplant a b t (s.task t) e.counts
      let s := { s with thyme := { s.thyme with next := some b', exchange := some { e with counts := cs } } }
      let s := s.setTask t { y with nextRelease := nextInstant c s.tai }
      let keep := (mappedOf b.prog t 1).map Mapped.pt
      let gone := ((mappedOf a.prog t 1).map Mapped.pt).filter fun p => !keep.contains p
      exchanged (releaseOutputs s (gone.map fun p => (t, p))) t true
  | _, _, _ => s

/-- A cycle of the task is under way that will complete: one that waits in shadow for the gather of a release the active
does not take will not. -/
def completes (s : State) (x : Task) : Bool := x.busy && !(s.shadow && x.state == .gathering)

/-- Tasks that exchange or go at once: stopped, faulted, or defined only in the old image and not in a cycle (R221,
R225). -/
def sweepTask (s : State) (t : Nat) : State :=
  match s.thyme.exchange, s.thyme.next with
  | some e, some b =>
    if e.mode = 0 ∧ e.waiting.isNone ∧ e.remaining.contains t then
      let x := s.task t
      let fresh := x.onNew
      if (tabGet b.prog.tasks t).isNone then (if completes s x then s else exchangeTask s t)
      else if x.state == .stopped || x.state == .faulted then
        let s := if fresh then exchanged s t true else exchangeTask s t
        s.setTask t { s.task t with state := if thRun s then .waiting else .stopped }
      else s
    else s
  | _, _ => s

/-- Sweeps every task still to exchange. -/
def sweep (s : State) : State :=
  ((s.thyme.exchange.map Exchange.remaining).getD []).foldl sweepTask s

/-- A task defined only in the new image enters, with every element new (R225). -/
def enterFresh (s : State) (b : Loaded) (t : Nat) : State :=
  match tabGet b.prog.tasks t with
  | some c =>
    let n (cls : Nat) := (b.prog.insts.filter fun e => e.task == t && decide (e.kind ≤ 5) && kindClass e.kind == cls).length
    let s := s.setTask t
      { state := if thRun s then .waiting else .stopped, onNew := true, exchanged := true, exMark := true
        nextRelease := nextInstant c s.tai }
    match s.thyme.exchange with
    | some e =>
      let cs := bump (bump (bump e.counts 0 1 (n 0)) 1 1 (n 1)) 2 1 (n 2)
      { s with thyme := { s.thyme with exchange := some { e with counts := cs } } }
    | none => s
  | none => s

/-- Tasks an exchange in mode 0 goes through: those of the old image, then those only the new one defines. -/
def exchangeTasks (a p : Program) : List Nat :=
  tabKeys a.tasks ++ (tabKeys p.tasks).filter fun t => !(tabKeys a.tasks).contains t

/-- The exchange accepted starts in mode 0: tasks defined only in the new image enter, and tasks that need no release
exchange. -/
def beginOnline (s : State) : State :=
  match s.thyme.loaded, s.thyme.next with
  | some a, some b =>
    let s := ((tabKeys b.prog.tasks).filter fun t => !(tabKeys a.prog.tasks).contains t).foldl (fun s t => enterFresh s b t) s
    if (exchangeTasks a.prog b.prog).isEmpty then finishExchange s else sweep s
  | _, _ => s

/-- Instances of a program by class. -/
def instCount (p : Program) (cls : Nat) : Nat := (p.insts.filter fun e => decide (e.kind ≤ 5) && kindClass e.kind == cls).length

/-- The old program is put back as it was, its instances new: its claims made again, and started if it was running
(R229). -/
def putBackOld (s : State) (p : Program) (old : Option Loaded) (run : Bool) : State :=
  let s := releaseOutputs s (outputPoints p)
  match old with
  | some a =>
    let s := installProgram (claimOutputs s a.prog).2 a.prog
    if run then startProgram s else s
  | none => { s with thyme := { s.thyme with exchange := none } }

/-- An exchange in mode 1, or a first start: the running program has stopped (R229). -/
def replaceNow (s : State) (p : Program) : State :=
  let old := s.thyme.loaded
  let run := (s.thyme.exchange.map Exchange.wasRun).getD false
  let s := match old with
    | some a => releaseOutputs s (outputPoints a.prog)
    | none => s
  let ((st, _), s) := claimOutputs s p
  if st = stOk then
    let n (f : Nat → Nat) := [0, f 0, ((old.map fun a => instCount a.prog 0).getD 0), 0, f 1,
      ((old.map fun a => instCount a.prog 1).getD 0), 0, f 2, ((old.map fun a => instCount a.prog 2).getD 0)]
    let s := installProgram s p
    let s := { s with thyme := { s.thyme with staged := none } }
    let s := (setLast s (some p)).raise rThEvent 6
    let s := startProgram s
    complete_ s 0x0303 stOk
      (exchangePayload ((tabKeys p.tasks).foldl (fun m t => m ||| 2 ^ t) 0) (n (instCount p)) s.tai)
  else complete_ (putBackOld s p old run) 0x0303 st []

/-- PROGRAM_RUN with stop (R194). -/
def stopProgram (s : State) : State :=
  let s := s.lower rThCtrl 0
  let s := { s with thyme := { s.thyme with halted := true } }
  let f (x : Task) : Task :=
    if x.busy then { x with stopping := true } else if x.state == .waiting then { x with state := .stopped } else x
  { s with thyme := { s.thyme with tasks := tabMap (fun _ x => f x) s.thyme.tasks } }

/-- Whatever waits for cycles to end: an unload, an exchange in mode 1, tasks that exchange at once. -/
def afterCycles (s : State) : State :=
  if s.thyme.unloading ∧ !anyBusy s then complete_ (unloadNow s) 0x0305 stOk []
  else
    match s.thyme.exchange, s.thyme.staged with
    | some e, some p =>
      if e.waiting.isSome then s else if e.mode = 1 then (if anyBusy s then s else replaceNow s p) else sweep s
    | _, _ => s

/-! ## The end of a cycle (Table 6.19 step 5, R190, R191) -/

/-- Counts overruns of a task (R190, R576). -/
def countOverruns (s : State) (t n : Nat) : State :=
  if n = 0 then s
  else
    let x := s.task t
    let k := stickNat x.lifeOvr n
    let s := s.setTask t { x with consecOvr := min 255 (x.consecOvr + n), skipped := true, lifeOvr := k.1 }
    let s := (s.thCount (rThTOvr t) n).raise rThEvent 0
    if k.2 then s.raise rThEvent 7 else s

/-- A cycle is complete. -/
def completeCycle (s : State) (t : Nat) : State :=
  match cfgOf s t with
  | none => s
  | some c =>
    let x := s.task t
    let late := if x.stopping ∨ s.tai = 0 then 0 else passed c x.nextRelease (s.tai - 1)
    let s := countOverruns s t late
    let s := s.setTask t { s.task t with nextRelease := x.nextRelease + late * (c.period * 1000) }
    let x := s.task t
    let us := min all32 ((s.now - x.releasedAt) / 1000)
    let s := s.setReg (rThTLast t) us
    let s := if s.reg (rThTMax t) < us then s.setReg (rThTMax t) us else s
    let s := s.wrapAdd (rThTCycles t)
    let s := shipCycle s t
    let consec := if x.skipped then x.consecOvr else 0
    let y := { x.cleared with consecOvr := consec, first := false, exchanged := false, shipped := [] }
    let s :=
      if c.ovrLimit ≠ 0 ∧ c.ovrLimit ≤ consec then faultTask (s.setTask t y) t tfOverrunLimit
      else s.setTask t { y with state := if x.stopping || !thRun s then .stopped else .waiting, stopping := false }
    afterCycles s

/-- A gather or scatter that another island's state ended (R192). -/
def crossLost (st : Nat) : Bool := st == stIslandAbsent || st == stBusy || st == stStaleEpoch

/-! ## Shadow (R195, 07 R232) -/

/-- Items of a shipped record type of a task. -/
def Task.shippedItems (x : Task) (type : Nat) : List ShipItem := ((x.shipped.filter (·.type == type)).map ShipRec.items).flatten

/-- The release a shipment is of. -/
def Task.shippedRelease (x : Task) : Option Nat := ((x.shippedItems 1).find? (·.key == 0)).map ShipItem.value

/-- The flags shipped with the release: OVERRAN and the exchange mark (16 Table 16.12). -/
def Task.shippedFlags (x : Task) : Nat := (((x.shippedItems 1).find? (·.key == 0)).map ShipItem.flags).getD 0

/-- The step correction shipped with the release. -/
def Task.shippedCorr (x : Task) : Nat := (((x.shippedItems 1).find? (·.key == 1)).map ShipItem.value).getD x.corr

/-- The timer clock of a release (R200). -/
def timerClock (release corr : Nat) : Nat := (release % 2 ^ 64 + 2 ^ 64 - corr % 2 ^ 64) % 2 ^ 64

/-- Under the exchange mark a standby's task exchanges at the same release, ahead of its gather (R231, R233). -/
def exchangeMarked (s : State) (t : Nat) : State :=
  match s.thyme.exchange with
  | some e =>
    if bitOf (s.task t).shippedFlags 1 ∧ e.mode = 0 ∧ e.waiting.isNone ∧ e.remaining.contains t then
      if (s.task t).onNew then exchanged s t true else exchangeTask s t
    else s
  | none => s

/-- The input image shipped for the release a task waits in becomes its gather, with the active's C and OVERRAN (R195,
R231). -/
def supplyShadow (s : State) (t : Nat) : State :=
  let x := s.task t
  if x.state == .gathering && x.shippedRelease == some x.release && x.gathered.isNone then
    let s := exchangeMarked s t
    let x := s.task t
    let items := x.shippedItems 2
    s.setTask t { x with
      gathered := some (items.foldl (fun g i =>
        tabSet g i.key { value := i.value, quality := i.qual, failed := bitOf i.flags 0 }) [])
      gfail := (items.filter fun i => bitOf i.flags 0).length
      overran := bitOf x.shippedFlags 0, corr := x.shippedCorr, clock := timerClock x.release x.shippedCorr }
  else s

/-! ## One instruction executed -/

/-- A faulting instruction ends its task's cycle; the next ready task is dispatched. -/
def endFault (s : State) (t code : Nat) : State := dispatch (afterCycles (faultTask s t code))

/-- The running task executes the instruction at its PC, which is one of the opcode given (R171, R181). PC reaching the
end of the code is a RUN_OFF fault. Without such an instruction nothing happens. -/
def execWord (op : Nat) (f : ThOp) (s : State) : State :=
  let s := if s.running iTHY then dispatch s else s
  match fetch s op with
  | none => s
  | some (t, l, c, w) =>
    match f (ctxOf s t c) w (memOf (s.task t) l) with
    | .error code => endFault s t code
    | .ok r =>
      let s := putProg s t { l with timers := r.timers, counters := r.counters, edges := r.edges }
      let s := s.setTask t { s.task t with mach := r.m, bits := r.bits, words := r.words }
      if l.prog.code.length ≤ r.m.pc then endFault s t tfRunOff else s

end Sys2Proof.Machine
end

