-- ==== Sys2Proof/Machine/ThymeCycle.lean ====
section
/-! DEFINITION. The task cycle's events (06 R189 to R197; 03 R99 to R101) and the program's run commands (06 R194, R575,
R576; 05 R165). -/

namespace Sys2Proof.Machine

/-! ## Release -/

/-- A task that only the old image of an exchange under way defines takes no release (07 R225). -/
def retiring (s : State) (t : Nat) : Bool :=
  match s.thyme.exchange, s.thyme.next with
  | some e, some b => e.mode == 0 && e.remaining.contains t && (tabGet b.prog.tasks t).isNone
  | _, _ => false

/-- At its release a task exchanges, unless it computes in shadow (07 R221, R233). -/
def exchangeAtRelease (s : State) (t : Nat) : State :=
  match s.thyme.exchange with
  | some e =>
    if e.mode = 0 ∧ e.waiting.isNone ∧ e.remaining.contains t ∧ !s.shadow then
      if (s.task t).onNew then exchanged s t true else exchangeTask s t
    else s
  | none => s

/-- Queues a gather: those of one instant in order of priority, then of number (06 Table 6.19 step 1). -/
def queueGather (s : State) (t : Nat) : State :=
  let later (o : ImageOp) : Bool :=
    o.gather && (s.task o.task).release == (s.task t).release &&
      (decide (prioOf s o.task < prioOf s t) || (prioOf s o.task == prioOf s t && decide (t < o.task)))
  let q := s.fabric.imageQueue
  let k := (q.findIdx? later).getD q.length
  { s with fabric := { s.fabric with imageQueue := q.take k ++ [{ task := t, gather := true }] ++ q.drop k } }

/-- THY asks the fabric for an image operation: one crossing; refused, it ends with that status later (R192). -/
def askImage (s : State) (f : State → State) : State :=
  let (st, s) := reach s iTHY iPF
  if st = stOk then f s else s

/-- A task's cycle begins: its gather is requested (06 Table 6.19 step 1; 07 R200). -/
def beginCycle (s : State) (t r : Nat) : State :=
  match cfgOf s t with
  | none => s
  | some c =>
    let x := match progOf s t with
      | some l => if (s.task t).renew then { (s.task t).zeroed l.prog t with renew := false, first := true } else s.task t
      | none => s.task t
    let s := { s.wakeIsl iTHY with thyme := { s.thyme with fresh := false } }
    let s := s.setTask t
      { x with
        state := .gathering, release := r, lastRelease := r, nextRelease := nextInstant c r
        overran := x.skipped, skipped := false, gfail := 0, gathered := none, offered := []
        clock := timerClock r s.thyme.corr
        corr := s.thyme.corr, releasedAt := s.now - (s.tai - r) }
    if s.shadow then supplyShadow s t else askImage s fun s => queueGather s t

/-- TASK_RELEASE: the task's next release instant has come. -/
def taskRelease (s : State) (t : Nat) : State :=
  match cfgOf s t with
  | none => s
  | some c =>
    let x := s.task t
    if !s.running iTHY || !thRun s || x.stopping || x.state == .undefined || x.state == .stopped ||
        x.state == .faulted || decide (s.tai < x.nextRelease) || retiring s t then s
    else
      let next := x.nextRelease + c.period * 1000
      if (s.isl iTHY).draining then (s.setTask t { x with nextRelease := next }).thCount (rThTSkip t)
      else if x.busy then (countOverruns s t 1).setTask t { (countOverruns s t 1).task t with nextRelease := next }
      else beginCycle (exchangeAtRelease s t) t x.nextRelease

/-- TASK_RELEASE (06 R188). -/
def execTaskRelease (t : Nat) (s : State) : Host.Outcome State Fault Refusal := .next (taskRelease s t)

/-! ## Gather -/

/-- IMAGE_GATHER: the operation at the head of the fabric's queue, when it is a gather (03 R99). It waits for
STORE_READY (03 R108). -/
def execImageGather (s : State) : Host.Outcome State Fault Refusal :=
  .next (match s.fabric.imageQueue with
    | o :: _ =>
      if s.running iPF && s.rbit rPfStatus 0 && o.gather then
        (if (s.task o.task).state == .gathering then gatherNow (popImage s) o.task else popImage s)
      else s
    | [] => s)

/-- The gather is delivered: the task is ready with its machine state as R170 gives. -/
def deliverGather (s : State) (t : Nat) (g : Tab Slot) (l : Loaded) (c : TaskCfg) : State :=
  let x := g.foldl (fun (x : Task) p => x.putSlot p.1 p.2) (s.task t)
  let s := s.setTask t
    { x with
      state := .ready, mach := { pc := c.entry }
      before := some { timers := l.timers, counters := l.counters, edges := l.edges, bits := x.bits, words := x.words } }
  let s := s.thCount (rThTGFail t) x.gfail
  let s := if x.gfail = 0 then s else s.raise rThEvent 4
  dispatch (s.wakeIsl iTHY)

/-- A lost cycle (R192). -/
def loseCycle (s : State) (t status : Nat) : State :=
  let s := dropImageOps s t
  let s := s.setTask t ((s.task t).abandoned (thRun s))
  let s := ((s.thCount (rThTLost t)).raise rThEvent 1).lastError iTHY iPF 3 status
  afterCycles s

/-- GATHER_COMPLETE (06 R189, R192). -/
def execGatherComplete (t status : Nat) (s : State) : Host.Outcome State Fault Refusal :=
  .next (
    let x := s.task t
    if !s.running iTHY || x.state != .gathering then s
    else if status = stOk then
      match x.gathered, progOf s t, cfgOf s t with
      | some g, some l, some c => deliverGather s t g l c
      | _, _, _ => s
    else if crossLost status then loseCycle s t status
    else s)

/-! ## END and scatter -/

/-- Whether the standby's results of a cycle differ from the shipment (07 Table 7.7, R231). -/
def cycleDiffers (x : Task) (own : List ShipRec) : Bool :=
  own.any fun r =>
    let theirs := x.shippedItems r.type
    if r.type = 3 then r.items.map (fun i => (i.key, i.value)) != theirs.map fun i => (i.key, i.value)
    else if 4 ≤ r.type then r.items != theirs
    else false

/-- The standby adopts a shipped instance item (07 R232). -/
def adoptItem (l : Loaded) (type : Nat) (i : ShipItem) : Loaded :=
  if type = 4 then
    let k := i.key % 2 ^ 31
    let o := tabGetD l.timers k {}
    let o := { o with inPrev := bitOf i.flags 0, running := bitOf i.flags 1, q := bitOf i.flags 2 }
    { l with timers := tabSet l.timers k (if i.key / 2 ^ 31 = 0 then { o with start := i.value } else { o with et := i.value }) }
  else if type = 5 then
    let k : CounterInst :=
      { cv := sInt 32 i.value, upPrev := bitOf i.flags 0, dnPrev := bitOf i.flags 1, upFresh := bitOf i.flags 2
        dnFresh := bitOf i.flags 3 }
    { l with counters := tabSet l.counters i.key k }
  else if type = 6 then { l with edges := tabSet l.edges i.key { prev := bitOf i.flags 0, fresh := bitOf i.flags 1 } }
  else l

/-- A table with the entries of its own keys as they were before. -/
def revertIn {β : Type} (own : Nat → Bool) (old new : Tab β) : Tab β :=
  (old.filter fun p => own p.1).foldl (fun m p => tabSet m p.1 p.2) (tabFilter (fun k _ => !own k) new)

/-- The task's instances and LOCAL slots as they were before the cycle: what only the standby changed goes, so that no
mismatch is carried on (07 R232). -/
def revertOwn (s : State) (t : Nat) : State :=
  match progOf s t, (s.task t).before with
  | some l, some b =>
    let own (lo hi : Nat) : Nat → Bool := ownsInst l.prog t lo hi
    let s := putProg s t { l with
      timers := revertIn (own 1 3) b.timers l.timers, counters := revertIn (own 4 4) b.counters l.counters
      edges := revertIn (own 5 5) b.edges l.edges }
    let x := s.task t
    s.setTask t { x with
      bits := revertIn (localSlot l.prog t) b.bits x.bits
      words := revertIn (fun k => localSlot l.prog t (k + 65536)) b.words x.words }
  | _, _ => s

/-- The standby adopts instances, LOCAL slots and C (07 R232). -/
def adoptShipment (s : State) (t : Nat) (recs : List ShipRec) : State :=
  match progOf s t with
  | none => s
  | some l =>
    let l := recs.foldl (fun l r => r.items.foldl (fun l i => adoptItem l r.type i) l) l
    let s := putProg s t l
    let x := (recs.filter (·.type == 7)).foldl (fun (x : Task) r =>
      r.items.foldl (fun (x : Task) i => x.putSlot i.key { x.slot i.key with value := i.value }) x) (s.task t)
    let c := ((recs.filter (·.type == 1)).map ShipRec.items).flatten.find? (·.key == 1)
    let s := s.setTask t x
    match c with
    | some i => { s with thyme := { s.thyme with corr := i.value } }
    | none => s

/-- The standby performs in its own store the scatter entries the active's fabric performed (16 R451). -/
def performShipped (s : State) (t : Nat) (recs : List ShipRec) : State :=
  match progOf s t, cfgOf s t with
  | some l, some c =>
    let ms := mappedOf l.prog t 1
    let x := s.task t
    ((recs.filter (·.type == 3)).map ShipRec.items).flatten.foldl (fun s i =>
      match ms.find? (·.key == i.key) with
      | some m =>
        if i.status = stOk then
          let s := (fabWrite s c.tenant (taskWriter t) m.pt m.type qGood (BitVec.ofNat 64 i.value) x.release).2
          s.setTask t { s.task t with written := tabSet (s.task t).written i.key i.value }
        else s
      | none => s) s
  | _, _ => s

/-- END in shadow: the scatter is compared, not sent (R195); a VERDICT is sent and the shipment adopted. -/
def shadowEnd (s : State) (t : Nat) : State :=
  let x := s.task t
  let own := cycleRecords s t
  let s := if x.shippedRelease == some x.release then
      let s := makeVerdict s 1 t x.release (cycleDiffers x own)
      performShipped (adoptShipment (revertOwn s t) t x.shipped) t x.shipped
    else s
  completeCycle s t

/-- END: the scatter of the differing OUTPUT slots is requested; with none the cycle is complete (R187, R189). -/
def endCycle (s : State) (t : Nat) (l : Loaded) : State :=
  let x := s.task t
  let s := s.setTask t { x with state := .scattering, offered := differing x (mappedOf l.prog t 1) }
  let s :=
    if s.shadow then shadowEnd s t
    else if (s.task t).offered.isEmpty then completeCycle s t
    else askImage s fun s =>
      { s with fabric := { s.fabric with imageQueue := s.fabric.imageQueue ++ [{ task := t, gather := false }] } }
  dispatch s

/-- IMAGE_SCATTER: the operation at the head of the fabric's queue, when it is a scatter (03 R101). It waits for
STORE_READY (03 R108). -/
def execImageScatter (s : State) : Host.Outcome State Fault Refusal :=
  .next (match s.fabric.imageQueue with
    | o :: _ =>
      if s.running iPF && s.rbit rPfStatus 0 && !o.gather then
        (if (s.task o.task).state == .scattering then scatterNow (popImage s) o.task else popImage s)
      else s
    | [] => s)

/-- A lost scatter: the cycle completes, counted as lost (R192). -/
def loseScatter (s : State) (t status : Nat) : State :=
  completeCycle (((dropImageOps s t).thCount (rThTLost t)).raise rThEvent 2 |>.lastError iTHY iPF 4 status) t

/-- SCATTER_COMPLETE (06 R189 to R192). -/
def execScatterComplete (t status : Nat) (s : State) : Host.Outcome State Fault Refusal :=
  .next (
    let x := s.task t
    if !s.running iTHY || x.state != .scattering then s
    else if status = stOk then
      if x.offered.all (·.status.isSome) then completeCycle (s.setTask t x.recordWritten) t else s
    else if crossLost status then loseScatter s t status
    else s)

/-! ## Steps of time and transitions of THY (R193, R196, R197, 07 R201) -/

/-- A step of the time unit reaches one task. In RETAIN the releases a forward step passes are counted on the return
(R197). -/
def stepTask (s : State) (t : Nat) (old new : Nat) : State :=
  match cfgOf s t with
  | none => s
  | some c =>
    let x := s.task t
    let last := (x.lastRelease : Int) + (new : Int) - old
    let last := last.toNat
    if old ≤ new then
      let k := if new = 0 ∨ !s.running iTHY then 0 else passed c x.nextRelease (new - 1)
      let s := s.setTask t { x with lastRelease := last, nextRelease := x.nextRelease + k * (c.period * 1000) }
      s.thCount (rThTSkip t) k
    else
      let half := last + c.period * 500
      s.setTask t { x with lastRelease := last, nextRelease := nextInstant c (max new (half - 1)) }

/-- A step of the time unit's time reaches THY in RUN, IDLE or RETAIN (R193, 07 R201). -/
def thyTimeStep (s : State) (old new : Nat) : State :=
  let s := { s with thyme := { s.thyme with
    corr := uNat 64 ((s.thyme.corr : Int) + (new : Int) - (old : Int)) } }
  let s := s.raise rThEvent 5
  (s.thyme.tasks.filter fun p => thRun s && p.2.state != .stopped && p.2.state != .faulted).foldl
    (fun s p => stepTask s p.1 old new) s

/-- THY leaves RUN or IDLE: cycles not complete are abandoned (R196). -/
def thyLeave (s : State) : State :=
  let run := thRun s
  let s := { s with
    thyme := { s.thyme with
      lastStopped := s.thyme.loaded.isSome && s.thyme.halted
      tasks := tabMap (fun _ x => if x.busy then x.abandoned run else x) s.thyme.tasks }
    fabric := { s.fabric with imageQueue := [] } }
  if s.thyme.unloading then complete_ (unloadNow s) 0x0305 stOk [] else s

/-- THY returns from RETAIN: releases passed are counted, the next ones taken (R197). -/
def thyReturn (s : State) : State :=
  let s := (s.thyme.tasks.filter fun p => thRun s && p.2.state == .waiting).foldl (fun s p =>
    match cfgOf s p.1 with
    | some c =>
      let k := if s.tai = 0 then 0 else passed c p.2.nextRelease (s.tai - 1)
      (s.setTask p.1 { p.2 with nextRelease := p.2.nextRelease + k * (c.period * 1000) }).thCount (rThTSkip p.1) k
    | none => s) s
  afterCycles s

/-- THY enters RESET, OFF or UPDATE: an exchange and the checks of an image under way end with the status of the crossing
that ended them (07 R228). -/
def thyAbort (s : State) : State :=
  let s := if s.thyme.exchange.isSome then complete_ s 0x0303 stIslandAbsent [] else s
  let s := if s.thyme.checking.isSome then complete_ s 0x0301 stIslandAbsent [] else s
  { s with thyme := { s.thyme with checking := none, exchange := none } }

/-- THY loses program, images and instances (R198). -/
def thyLose (s : State) : State :=
  let s := thyAbort s
  { s with thyme := { s.thyme with
      loaded := none, next := none, staged := none, tasks := [], corr := 0, unloading := false, fresh := false, halted := false } }

/-! ## PROGRAM_RUN, PROGRAM_UNLOAD, PROGRAM_STATUS (R194, R575, R576) -/

/-- A write of RUN acts as PROGRAM_RUN (R194): its status, and the state after; an accepted change is shipped. -/
def programRun (s : State) (run : Bool) : Nat × State :=
  if onStandby s then (stNotActive, s)
  else if run && s.thyme.loaded.isNone then (stBadArgument, s)
  else if run == thRun s then (stOk, s)
  else
    let s := if run then startProgram s else afterCycles (stopProgram s)
    (stOk, shipConfig s 0x0304 (leBytes 4 (b2n run)))

/-- A write of TH_CTRL. -/
def thCtrlWrite (s : State) (v : Nat) : Nat × State :=
  let (st, s) := if bitOf v 0 == thRun s then (if onStandby s then (stNotActive, s) else (stOk, s)) else programRun s (bitOf v 0)
  (st, if st = stOk then s.setField rThCtrl 1 1 (bitsOf v 1 1) else s)

/-- PROGRAM_RUN (0x0304). -/
def execProgramRun (r : Route) (tag : Nat) (s : State) : Host.Outcome State Fault Refusal :=
  .next (serve 0x0304 s r tag fun q s =>
    if q.payload.length ≠ 4 then done stBadLength s
    else if 1 < fld q.payload 0 4 then done stBadArgument s
    else toIsland s iTHY fun s =>
      let (st, s) := programRun s (fld q.payload 0 1 == 1)
      done st s)

/-- PROGRAM_UNLOAD (0x0305): it pends until every task has stopped (R575). -/
def execProgramUnload (r : Route) (tag : Nat) (s : State) : Host.Outcome State Fault Refusal :=
  let s1 := serve 0x0305 s r tag fun q s =>
    if q.payload.length ≠ 0 then done stBadLength s
    else toIsland s iTHY fun s =>
      if s.thyme.exchange.isSome then done stBusy s
      else if s.thyme.loaded.isNone then done stOk s
      else done stPending (shipConfig { stopProgram s with thyme := { (stopProgram s).thyme with unloading := true } } 0x0305 [])
  .next (if s1.thyme.unloading then afterCycles s1 else s1)

/-- The state of TH_STATUS: 0 none, 1 running, 2 stopped. -/
def thState (s : State) : Nat := if s.thyme.loaded.isNone then 0 else if thRun s then 1 else 2

/-- What TH_PROG_ID and TH_STAGED_ID read (07 R227). -/
def thProgId (s : State) : Nat :=
  match s.thyme.exchange, s.thyme.next with
  | some e, some b => if e.tasksDone ≠ 0 then b.prog.id else (s.thyme.loaded.map fun l => l.prog.id).getD 0
  | _, _ => (s.thyme.loaded.map fun l => l.prog.id).getD 0
def thStagedId (s : State) : Nat := (s.thyme.staged.map Program.id).getD 0

/-- One task of PROGRAM_STATUS (R576). -/
def taskStatus (s : State) (t : Nat) : List Byte :=
  match cfgOf s t with
  | some c => leBytes 4 c.period ++ leBytes 4 (s.reg (rThTLast t)) ++ leBytes 4 (s.task t).lifeOvr
  | none => leBytes 12 0

/-- PROGRAM_STATUS (0x0302). -/
def execProgramStatus (r : Route) (tag : Nat) (s : State) : Host.Outcome State Fault Refusal :=
  .next (serve 0x0302 s r tag fun q s =>
    if q.payload.length ≠ 0 then done stBadLength s
    else toIsland s iTHY fun s =>
      ((stOk, leBytes 1 (thState s) ++ leBytes 1 (b2n s.thyme.staged.isSome) ++ leBytes 2 0 ++ leBytes 4 (thProgId s) ++
        leBytes 4 (thStagedId s) ++ ((List.range 16).map (taskStatus s)).flatten), s))

/-! ## PROGRAM_EXCHANGE (05 R165, 07 R221, R229, R233) -/

/-- The outputs of a new program that no other task of the loaded one holds: those that mode 1 can claim before the stop
(log 113). -/
def claimable (old : Option Loaded) (p : Program) : List (Nat × Nat × Nat) :=
  let held := (old.map fun a => outputPoints a.prog).getD []
  (outputsOf p).filter fun o => !held.any fun h => h.2 == o.2.2 && h.1 != o.1

/-- A standby takes state of this module and is ready. -/
def pairShips (s : State) : Bool := s.twin.role == .active && s.twin.partner == 2 && s.twin.ready

/-- An exchange of a staged image is accepted: the claims are made first, and a refused one leaves the old program as it
runs. With no program loaded both modes start the staged one. Answers the status so far (05 R165). -/
def acceptExchange (s : State) (mode : Nat) (p : Program) : Nat × State :=
  let m := if s.thyme.loaded.isNone then 1 else mode
  let ((st, _), s) := if m = 1 then claimEach s (claimable s.thyme.loaded p) else claimOutputs s p
  if st ≠ stOk then (st, s)
  else
    (stPending, { s with thyme := { s.thyme with
      next := if m = 0 then some { prog := p } else none
      exchange := some
        { mode := m, remaining := if m = 0 then (s.thyme.loaded.map fun a => exchangeTasks a.prog p).getD [] else []
          tasksDone := 0, counts := List.replicate 9 0, waiting := if pairShips s then some s.tai else none
          wasRun := thRun s } } })

/-- The exchange accepted starts: the standby is told, and tasks exchange, or the program stops (07 R229, R233). -/
def startExchange (s : State) : State :=
  match s.thyme.exchange, s.thyme.staged with
  | some e, some p =>
    let s := { s with thyme := { s.thyme with exchange := some { e with waiting := none } } }
    let s := shipConfig s 0x0303 (leBytes 1 e.mode ++ leBytes 3 0 ++ leBytes 4 p.id)
    if e.mode = 1 then afterCycles (stopProgram s) else beginOnline s
  | _, _ => s

/-- The exchange waits for the standby. -/
def exchangeWaits (s : State) : Bool := s.thyme.exchange.any fun e => e.waiting.isSome

/-- A frame of the standby shows that it has taken what was shipped before an instant; without a ready standby there is
nothing to wait for (07 R233; log 114). -/
def standbyHolds (s : State) (upTo : Nat) : State :=
  if s.running iTHY ∧ (s.thyme.exchange.any fun e => e.waiting.any fun w => decide (w < upTo) || !pairShips s) then
    startExchange s
  else s

/-- A program image is shipped to a standby (07 R233). -/
def shipImage (s : State) (p : Program) : State :=
  let cs := chunks 4048 600 p.image
  (List.range cs.length).foldl (fun s k =>
    shipConfig s 0x0301 (leBytes 4 (4048 * k) ++ leBytes 4 p.image.length ++ leBytes 4 (crcIscsi p.image).toNat ++
      leBytes 4 0 ++ cs.getD k [])) s

/-- The checks of PROGRAM_EXCHANGE and its acceptance (05 R165). -/
def exchangeAsked (s : State) (p : List Byte) : Nat × State :=
  if s.thyme.exchange.isSome then (stBusy, s)
  else
    match s.thyme.staged with
    | some g =>
      if fld p 4 4 ≠ g.id then (stBadArgument, s)
      else
        let (st, s) := acceptExchange s (fld p 0 1) g
        (st, if st = stPending then shipImage s g else s)
    | none => (stBadArgument, s)

/-- PROGRAM_EXCHANGE (0x0303). -/
def execProgramExchange (r : Route) (tag : Nat) (s : State) : Host.Outcome State Fault Refusal :=
  let was := s.thyme.exchange.isSome
  let s := serve 0x0303 s r tag fun q s =>
    let p := q.payload
    if p.length ≠ 8 then done stBadLength s
    else if fld p 1 3 ≠ 0 ∨ 1 < fld p 0 1 then done stBadArgument s
    else toIsland s iTHY fun s =>
      let (st, s) := exchangeAsked s p
      done st s
  .next (if !was ∧ s.thyme.exchange.isSome ∧ !exchangeWaits s then startExchange s else s)

end Sys2Proof.Machine
end

