-- ==== Sys2Proof/Machine/Time.lean ====
section
/-! DEFINITION. The time unit (13): steps and their notices, the servo and its states, the best master, the PTP messages,
PPS, compares, and the commands TIME_READ, PTP_CONFIG and PPS_CONFIG. -/

namespace Sys2Proof.Machine

/-- A counter of the time unit. -/
def State.tuCount (s : State) (a : Nat) (n : Nat := 1) : State := if n = 0 then s else s.stick a rTuEvent 8 n

/-- TU_RATE (R362). -/
def tuRate (s : State) : Int := sInt 32 (s.reg rTuRate)
def setRate (s : State) (r : Int) : State := s.setReg rTuRate (uNat 32 r)

/-- A value of i32, saturating. -/
def sat32 (v : Int) : Int := max (-2147483648) (min 2147483647 v)

/-- PTP runs at a port (R366, Table 13.8). -/
def ptpOn (s : State) (p : Nat) : Bool :=
  s.running iTIME && s.rbit rTuCtrl 0 &&
    (decide (p < 2) || (p == 3 && s.rbit rTuCtrl 4) || (decide (4 ≤ p) && decide (p < 20)))

/-- An interval of 2^l s in ns. -/
def logInterval (l : Int) : Nat := if 0 ≤ l then nsSec * 2 ^ l.toNat else nsSec / 2 ^ (-l).toNat

/-! ## Advance and steps (R361 to R363) -/

/-- The counter advances over n ns of the reference, corrected by TU_RATE (R362). -/
def advanceTime (s : State) (n : Nat) : State :=
  let c := s.clock
  let fine : Int := c.rem + n * 65536 * tuRate s
  let whole := fine.fdiv 1000000000000
  { s with clock := { c with
      time16 := ((c.time16 : Int) + n * 65536 + whole).toNat
      rem := fine - whole * 1000000000000
      up := c.up + n } }

/-- An idle cycle of the 100 MHz reference passes: 10 ns (log 2). The counter lies in the always-on domain (R364). -/
def idleTick (s : State) : State := advanceTime s 10

/-- The next instant at which PPS_OUT rises after an instant (R378). -/
def ppsAfter (s : State) (t : Nat) : Nat :=
  let o := sInt 32 (s.reg rTuPpsOffset)
  let k := ((t : Int) - o).fdiv nsSec + 1
  (k * nsSec + o).toNat

/-- The step notice reaches an island (R363). -/
def notice (s : State) (i : Nat) (f : State → State) : State := if s.running i then f (s.wakeIsl i) else s

/-- The time steps by d ns (R363). The PPS_IN edges stand in the stepped time (log 50). THY's correction takes every step before its next release (07 R201). -/
def timeStep (s : State) (d : Int) : State :=
  let old := s.tai
  let s := { s with clock := { s.clock with time16 := ((s.clock.time16 : Int) + d * 65536).toNat } }
  let new := s.tai
  let u := uNat 64 d
  let s := ((s.setReg rTuLastStepLo (u % 2 ^ 32)).setReg rTuLastStepHi (u / 2 ^ 32)).raise rTuEvent 0
  let moved (t : Nat) : Nat := ((t : Int) + d).toNat
  let s := { s with clock := { s.clock with
    ppsNext := ppsAfter s new, ppsLast := s.clock.ppsLast.map moved, ppsCand := s.clock.ppsCand.map moved } }
  let s := if s.running iTHY || (s.isl iTHY).state == .retain then thyTimeStep (s.wakeIsl iTHY) old new
    else { s with thyme := { s.thyme with corr := uNat 64 ((s.thyme.corr : Int) + (new : Int) - (old : Int)) } }
  let s := if s.running iLOOP || (s.isl iLOOP).state == .retain then loopTimeStep (s.wakeIsl iLOOP) old new else s
  notice s iMTR fun s => meterTimeStep s old new

/-! ## States (Table 13.4) -/

/-- The rate HOLDOVER keeps (R375). -/
def heldRate (s : State) : Int :=
  let rs := (s.clock.rates.filter fun p => decide (s.now ≤ p.1 + 16 * nsSec)).map Prod.snd
  if s.clock.state = .locked ∧ s.clock.lockedSince + 16 * nsSec ≤ s.now ∧ rs ≠ [] then rs.sum.tdiv rs.length else tuRate s

/-- HOLDOVER is entered. -/
def enterHoldover (s : State) : State :=
  let s := setRate s (heldRate s)
  { s with clock := { s.clock with state := .holdover, okSyncs := 0, rates := [] } }.raise rTuEvent 2

/-- The best of the foreign masters still heard, three Announce intervals each (Table 13.2). -/
def aliveMaster (s : State) (f : Foreign) : Bool :=
  decide (s.now < f.heard + 3 * logInterval (s.ptp f.port).logAnnounce)

/-- The roles of the PTP ports (Table 13.1, R368, R372). While the ring gives the time a host port that hears a master
is passive (Table 13.6's text; log 49). -/
def portRole (s : State) (p : Nat) : PtpRole :=
  if !ptpOn s p then .disabled
  else if 4 ≤ p then .master
  else if s.clock.state = .grandmaster then .master
  else
    match s.clock.master with
    | none => .listening
    | some f =>
      if f.port = 0 then
        if p = 3 then (if s.clock.foreign.any fun g => g.port == 3 && aliveMaster s g then .passive else .master)
        else if s.clock.slavePort = some p then .slave
        else if s.clock.slavePort = none then .listening else .passive
      else if p = 3 then .slave else .master

/-- Every PTP port takes its role. -/
def setRoles (s : State) : State :=
  ((List.range 20).filter (· != 2)).foldl (fun s p =>
    let r := portRole s p
    if (s.ptp p).role = r then s else s.setPtp p { s.ptp p with role := r }) s

/-- The module's own clock as it announces itself (R368). -/
def ownClock (s : State) : Foreign :=
  let onPps := s.clock.state == .grandmaster && s.rbit rTuCtrl 1 && (s.clock.ppsSeen.any fun t => decide (s.now ≤ t + 2 * nsSec)) &&
    s.clock.ppsDisciplined
  { port := 20, gmId := clockId s, source := portId s 0
    priority1 := s.rfield rTuPtp 8 8
    clockClass := if onPps then 13 else if s.clock.ppsDisciplined then 14 else 248
    clockAccuracy := if onPps then 0x21 else 0xFE
    variance := Config.clockVariance % 65536
    priority2 := s.rfield rTuPtp 16 8
    steps := 0, utcOffset := s.clock.utcOffset, flags := s.clock.utcFlags
    timeSource := if onPps then 0x90 else 0xA0, heard := s.now }

/-- The order of the data set comparison of IEEE 1588-2019: lower is better (R368; log 49). -/
def Foreign.key (f : Foreign) : List Nat :=
  [f.priority1, f.clockClass, f.clockAccuracy, f.variance, f.priority2, f.gmId, f.steps, f.source, f.port]

def lexLess : List Nat → List Nat → Bool
  | a :: as, b :: bs => if a < b then true else if b < a then false else lexLess as bs
  | _, _ => false

/-- The best of them. -/
def bestForeign (s : State) : Option Foreign :=
  (s.clock.foreign.filter (aliveMaster s)).foldl (fun b f =>
    match b with
    | some g => if lexLess f.key g.key then some f else b
    | none => some f) none

/-- The grandmaster chosen becomes another, or is reached otherwise (R376). -/
def noteGm (s : State) (id port : Nat) : State :=
  let g := some (id, port)
  if s.clock.gm = g then s
  else
    let s := if s.clock.gm.isSome then (s.tuCount rTuMasterChanges).raise rTuEvent 1 else s
    { s with clock := { s.clock with gm := g } }

/-- A foreign master is chosen, or its Announce renews what it announces (R368, R376). -/
def takeMaster (s : State) (f : Foreign) : State :=
  let same := s.clock.master.any fun m => m.gmId == f.gmId && m.port == f.port
  let s := noteGm s f.gmId f.port
  let s := { s with clock := { s.clock with master := some f, utcOffset := f.utcOffset, utcFlags := f.flags } }
  if same then s
  else
    let s := { s with clock := { s.clock with slavePort := if f.port = 3 then some 3 else none, acceptedAt := none, ppsDisciplined := false } }
    setRoles (match s.clock.state with
      | .free => s
      | .holdover => s
      | _ => enterHoldover s)

/-- The module's own clock is the best (Table 13.4). -/
def becomeGrandmaster (s : State) : State :=
  if s.clock.state = .grandmaster then s
  else
    let s := setRate (noteGm s (clockId s) 20) 0
    setRoles { s with clock := { s.clock with
      state := .grandmaster, master := none, slavePort := none, acceptedAt := none, okSyncs := 0, rates := [] } }

/-- The best master clock algorithm runs (R368). -/
def runBmca (s : State) : State :=
  match bestForeign s with
  | some f => if lexLess f.key (ownClock s).key then takeMaster s f else becomeGrandmaster s
  | none => becomeGrandmaster s

/-- ANNOUNCE: ring and host ports (R366, R368). -/
def announce (s : State) (m : PtpMsg) : State :=
  let p := m.port
  if !ptpOn s p then s
  else if m.domain ≠ s.rfield rTuPtp 0 8 then s.tuCount (rTuPBad p)
  else if 4 ≤ p ∨ m.gmId = clockId s ∨ 255 ≤ m.stepsRemoved then s
  else
    let k := if p < 2 then 0 else 3
    let f : Foreign :=
      { port := k, gmId := m.gmId, source := m.sourceId, priority1 := m.priority1, clockClass := m.clockClass
        clockAccuracy := m.clockAccuracy, variance := m.variance, priority2 := m.priority2, steps := m.stepsRemoved
        utcOffset := m.utcOffset, flags := m.flags, timeSource := m.timeSource, heard := s.now }
    setRoles (runBmca { s with clock := { s.clock with
      foreign := f :: s.clock.foreign.filter fun g => !(g.port == k && g.source == f.source) } })

def execAnnounce (m : PtpMsg) (s : State) : Host.Outcome State Fault Refusal := .next (announce s m)

/-- ANNOUNCE_TIMEOUT: the master's Announce has timed out, or none has come while the ports listened (R373, R375). The
module's own clock is chosen once its ports have listened a whole receipt timeout without a better one (log 49). -/
def announceTimeout (s : State) : State :=
  if !s.running iTIME || !s.rbit rTuCtrl 0 then s
  else
    match s.clock.master with
    | some f =>
      if aliveMaster s f then setRoles s
      else
        let s := match s.clock.state with
          | .acquiring => enterHoldover s
          | .locked => enterHoldover s
          | _ => s
        let s := { s with clock := { s.clock with
          master := none, slavePort := none, acceptedAt := none, listenFrom := s.now
          foreign := s.clock.foreign.filter (aliveMaster s) } }
        match bestForeign s with
        | some g => if lexLess g.key (ownClock s).key then takeMaster s g else setRoles s
        | none => setRoles s
    | none =>
      if s.clock.state = .grandmaster ∨ s.now < s.clock.listenFrom + 3 * logInterval (s.ptp 0).logAnnounce then s
      else runBmca s

def execAnnounceTimeout (s : State) : Host.Outcome State Fault Refusal := .next (announceTimeout s)

/-! ## Sync and the servo (R372 to R375) -/

/-- The servo's new rate (R362, R374). -/
def servo (s : State) (offset : Int) : State :=
  let est := Config.servoRate (tuRate s) offset
  let slew := max (-100000000) (min 100000000 (Config.servoSlew (tuRate s) offset))
  setRate s (max (-200000000) (min 200000000 (est + slew)))

/-- The step threshold; 0 acts as 1. -/
def stepThreshold (s : State) : Nat := max 1 (s.rfield rTuStepThresh 0 24)

/-- Sync intervals without a Sync while slave, up to now (TU_PMISS). -/
def countMissed (s : State) (p : Nat) (upTo : Nat) : State :=
  let l := logInterval (s.ptp p).logSync
  let n := if l = 0 then 0 else (upTo - s.clock.missFrom) / l
  s.tuCount (rTuPMiss p) n

/-- A Sync accepted at the slave port gives an offset (R374). -/
def takeSync (s : State) (p : Nat) (ingress origin correction : Int) : State :=
  let l := logInterval (s.ptp p).logSync
  let s := s.tuCount (rTuPSync p)
  let s := if s.clock.acceptedAt.isSome then countMissed s p (s.now - l / 2) else s
  let off := (ingress - ingressLatency s p) - (origin + correction + linkDelay s p + linkAsymmetry s p)
  let s := s.setReg rTuOffset (uNat 32 (sat32 off))
  let far := !s.clock.firstDone || decide (stepThreshold s < off.natAbs)
  let s := if far then timeStep s (-off) else servo s off
  let ok := if off.natAbs ≤ 100 then s.clock.okSyncs + 1 else 0
  let acquiring := s.clock.state != .locked
  let s := { s with clock := { s.clock with
    firstDone := true, acceptedAt := some s.now, missFrom := s.now, okSyncs := ok
    state := if acquiring then .acquiring else .locked } }
  if acquiring && decide (8 ≤ ok) then
    { s with clock := { s.clock with state := .locked, lockedSince := s.now, rates := [(s.now, tuRate s)] } }.raise rTuEvent 3
  else
    { s with clock := { s.clock with
        rates := if acquiring then [] else
          (s.now, tuRate s) :: s.clock.rates.filter fun r => decide (s.now ≤ r.1 + 16 * nsSec) } }

/-- The slave direction of the ring (R372): the first heard with the smaller correctionField, changed only when it has
accepted no Sync for three intervals while the other direction has one. -/
def chooseDirection (s : State) (p : Nat) : State :=
  let other := s.ptp (1 - p)
  match s.clock.slavePort with
  | none =>
    let q := if other.syncAt.isSome && decide (other.lastCorr < (s.ptp p).lastCorr) then 1 - p else p
    setRoles { s with clock := { s.clock with slavePort := some q, missFrom := s.now } }
  | some q =>
    if q = p ∨ 2 ≤ q then s
    else
      let quiet := match s.clock.acceptedAt with
        | some t => decide (t + 3 * logInterval (s.ptp q).logSync ≤ s.now)
        | none => true
      if quiet then setRoles { s with clock := { s.clock with slavePort := some p, missFrom := s.now } } else s

/-- SYNC (R366, R367, R372). -/
def syncIn (s : State) (m : PtpMsg) : State :=
  let p := m.port
  if !ptpOn s p then s
  else if m.domain ≠ s.rfield rTuPtp 0 8 then s.tuCount (rTuPBad p)
  else if 4 ≤ p then s
  else
    let mine := s.clock.master.any fun f => f.port == (if p < 2 then 0 else 3) && f.source / 65536 == m.sourceId / 65536
    if !mine then s
    else
      let s := s.setPtp p { s.ptp p with syncAt := some s.now, lastCorr := m.correction }
      let s := if p < 2 then chooseDirection s p else s
      if s.clock.slavePort ≠ some p then s
      else if m.twoStep then s.setPtp p { s.ptp p with waiting := some (m.seq, m.ingress, m.correction) }
      else takeSync s p m.ingress m.origin m.correction

def execSync (m : PtpMsg) (s : State) : Host.Outcome State Fault Refusal := .next (syncIn s m)

/-- FOLLOW_UP completes a two-step Sync (R367). -/
def followUp (s : State) (m : PtpMsg) : State :=
  let p := m.port
  if !ptpOn s p then s
  else if m.domain ≠ s.rfield rTuPtp 0 8 then s.tuCount (rTuPBad p)
  else
    match (s.ptp p).waiting with
    | some (q, ingress, corr) =>
      if q ≠ m.seq ∨ s.clock.slavePort ≠ some p then s
      else takeSync (s.setPtp p { s.ptp p with waiting := none }) p ingress m.origin (corr + m.correction)
    | none => s

def execFollowUp (m : PtpMsg) (s : State) : Host.Outcome State Fault Refusal := .next (followUp s m)

/-- SYNC_TIMEOUT: no Sync accepted for three intervals (R373, R375). -/
def syncTimeout (s : State) : State :=
  match s.clock.slavePort, s.clock.acceptedAt with
  | some p, some t =>
    if s.running iTIME && (s.clock.state == .acquiring || s.clock.state == .locked) &&
        decide (t + 3 * logInterval (s.ptp p).logSync ≤ s.now) then
      let s := countMissed s p s.now
      enterHoldover { s with clock := { s.clock with missFrom := s.now } }
    else s
  | _, _ => s

def execSyncTimeout (s : State) : Host.Outcome State Fault Refusal := .next (syncTimeout s)

/-! ## Peer delay (R367, R369) -/

/-- A PTP message is for a port on which PTP runs, of the module's domain; another domain's is counted (R366). -/
def ptpHeard (s : State) (m : PtpMsg) (f : State → State) : State :=
  if !ptpOn s m.port then s
  else if m.domain ≠ s.rfield rTuPtp 0 8 then s.tuCount (rTuPBad m.port)
  else f s

/-- PDELAY_REQ is answered with Pdelay_Resp; its Follow_Up goes out with the egress stamp. -/
def pdelayReq (s : State) (m : PtpMsg) : State :=
  let p := m.port
  let t2 := m.ingress - ingressLatency s p
  ptpQueue s p ptPdelayResp
    (ptpMessage s p ptPdelayResp twoStepFlag m.seq 127 0 (ptpTime t2 ++ beBytes 10 m.sourceId)) (.response m.seq m.sourceId)

def execPdelayReq (m : PtpMsg) (s : State) : Host.Outcome State Fault Refusal :=
  .next (ptpHeard s m fun s => pdelayReq s m)

/-- The peer delay is measured: half of the round trip less the turn-round. -/
def delayMeasured (s : State) (p : Nat) (turn : Int) : State :=
  let x := s.ptp p
  let d := (x.t4 - x.t1 - turn).fdiv 2
  (s.setReg (rTuPDelay p) ((max 0 d).toNat % 2 ^ 32)).setPtp p
    { x with pdStep := 0, pdelayAt := some s.now, asCapable := decide (3 ≤ p) }

/-- PDELAY_RESP. -/
def pdelayResp (s : State) (m : PtpMsg) : State :=
  let p := m.port
  let x := s.ptp p
  if x.pdStep ≠ 1 ∨ x.pdSeq ≠ m.seq then s
  else
    let s := s.setPtp p { x with pdStep := 2, t2 := m.origin, t4 := m.ingress - ingressLatency s p - m.correction }
    if m.twoStep then s else delayMeasured s p 0

def execPdelayResp (m : PtpMsg) (s : State) : Host.Outcome State Fault Refusal :=
  .next (ptpHeard s m fun s => pdelayResp s m)

/-- PDELAY_RESP_FOLLOW_UP. -/
def pdelayFollowUp (s : State) (m : PtpMsg) : State :=
  let x := s.ptp m.port
  if x.pdStep ≠ 2 ∨ x.pdSeq ≠ m.seq then s else delayMeasured s m.port (m.origin - x.t2 + m.correction)

def execPdelayRespFollowUp (m : PtpMsg) (s : State) : Host.Outcome State Fault Refusal :=
  .next (ptpHeard s m fun s => pdelayFollowUp s m)

/-- The peer delay of a port was measured within the last 3 s (TU_PSTATE). -/
def pdelayOk (s : State) (p : Nat) : Bool := (s.ptp p).pdelayAt.any fun t => decide (s.now ≤ t + 3 * nsSec)

/-- PDELAY_REQ_SEND: every interval, on each port with PTP. -/
def pdelaySend (s : State) (p : Nat) : State :=
  let x := s.ptp p
  if !ptpOn s p || decide (s.now < x.nextPdelay) then s
  else
    let q := (x.pdSeq + 1) % 65536
    let s := s.setPtp p { x with
      pdSeq := q, pdStep := 0, nextPdelay := s.now + logInterval x.logPdelay, asCapable := x.asCapable && pdelayOk s p }
    ptpQueue s p ptPdelayReq (ptpMessage s p ptPdelayReq 0 q x.logPdelay 0 (List.replicate 20 0)) .request

def execPdelayReqSend (port : Nat) (s : State) : Host.Outcome State Fault Refusal := .next (pdelaySend s port)

/-- SIGNALING changes the intervals of a host or field port (R367); 127 stops and 126 restores the first (log 49). -/
def signaling (s : State) (m : PtpMsg) : State :=
  let p := m.port
  let x := s.ptp p
  let take (i : Nat) (old first : Int) : Int :=
    if !bitOf m.flags i then old
    else if m.logInterval = 126 then first
    else if m.logInterval = 127 ∨ (-24 ≤ m.logInterval ∧ m.logInterval ≤ 24) then m.logInterval else old
  if p < 3 then s
  else s.setPtp p { x with
    logPdelay := take 0 x.logPdelay 0, logSync := take 1 x.logSync (-3), logAnnounce := take 2 x.logAnnounce 0 }

def execSignaling (m : PtpMsg) (s : State) : Host.Outcome State Fault Refusal :=
  .next (ptpHeard s m fun s => signaling s m)

/-! ## Sending as master (R367, R368) -/

/-- SYNC_SEND: one-step on the ring, two-step elsewhere. -/
def syncSend (s : State) (p : Nat) : State :=
  let x := s.ptp p
  if !ptpOn s p || x.role != .master || decide (s.now < x.nextSync) then s
  else
    let s := s.setPtp p { x with seqSync := (x.seqSync + 1) % 65536, nextSync := s.now + logInterval x.logSync }
    let two := decide (2 ≤ p)
    ptpQueue s p ptSync
      (ptpMessage s p ptSync (if two then twoStepFlag else 0) x.seqSync x.logSync 0 (List.replicate 10 0))
      (if two then .followUp x.seqSync else .origin)

def execSyncSend (port : Nat) (s : State) : Host.Outcome State Fault Refusal := .next (syncSend s port)

/-- The body of an Announce (R368). -/
def announceBody (s : State) : List Byte :=
  let f := match s.clock.master with
    | some f => { f with steps := f.steps + 1 }
    | none => ownClock s
  List.replicate 10 0 ++ beBytes 2 (uNat 16 f.utcOffset) ++ leBytes 1 0 ++ beBytes 1 f.priority1 ++ beBytes 1 f.clockClass ++
    beBytes 1 f.clockAccuracy ++ beBytes 2 f.variance ++ beBytes 1 f.priority2 ++ beBytes 8 f.gmId ++ beBytes 2 f.steps ++
    beBytes 1 f.timeSource

/-- ANNOUNCE_SEND. -/
def announceSend (s : State) (p : Nat) : State :=
  let x := s.ptp p
  if !ptpOn s p || x.role != .master || decide (s.now < x.nextAnnounce) then s
  else
    let s := s.setPtp p { x with
      seqAnnounce := (x.seqAnnounce + 1) % 65536, nextAnnounce := s.now + logInterval x.logAnnounce }
    ptpQueue s p ptAnnounce (ptpMessage s p ptAnnounce s.clock.utcFlags x.seqAnnounce x.logAnnounce 0 (announceBody s)) .none

def execAnnounceSend (port : Nat) (s : State) : Host.Outcome State Fault Refusal := .next (announceSend s port)

/-! ## PPS (R377, R378) -/

/-- PPS_IN disciplines the counter: enabled, and the module is grandmaster. -/
def ppsDisciplines (s : State) : Bool := s.rbit rTuCtrl 1 && s.clock.state == .grandmaster

/-- A PPS_IN edge accepted: the counter follows it where it disciplines (R363, R377). -/
def ppsAccept (s : State) (stamp : Nat) (err : Int) : State :=
  let s := { s with clock := { s.clock with ppsLast := some stamp, ppsCand := none, ppsAgree := 0, ppsSeen := some s.now } }
  if !ppsDisciplines s then s
  else
    let first := !s.clock.ppsFirst
    let s := { s with clock := { s.clock with ppsFirst := true, ppsDisciplined := true } }
    if first && decide (stepThreshold s < err.natAbs) then timeStep s (-err) else servo s err

/-- PPS_IN_EDGE (R377). -/
def ppsIn (s : State) (stamp width : Nat) : State :=
  if !s.running iTIME || decide (width < 1000) then s
  else
    let sec := (stamp + nsSec / 2) / nsSec * nsSec
    let err := (stamp : Int) - sec
    let s := s.setReg rTuPpsInErr (uNat 32 err)
    let s := { s with clock := { s.clock with ppsEdge := some s.now } }
    let near (t : Nat) : Bool := decide (((stamp : Int) - t - nsSec).natAbs ≤ 1000000)
    match s.clock.ppsLast with
    | none => ppsAccept s stamp err
    | some t =>
      if near t then ppsAccept s stamp err
      else
        let s := s.raise rTuEvent 5
        let agrees := s.clock.ppsCand.any near
        if agrees && s.clock.ppsAgree == 1 then ppsAccept s stamp err
        else { s with clock := { s.clock with ppsCand := some stamp, ppsAgree := if agrees then s.clock.ppsAgree + 1 else 0 } }

def execPpsInEdge (stamp widthNs : Nat) (s : State) : Host.Outcome State Fault Refusal := .next (ppsIn s stamp widthNs)

/-- PPS_IN_LOST: no edge for 2 s. -/
def ppsInLost (s : State) : State :=
  match s.clock.ppsEdge with
  | some t =>
    if s.running iTIME && decide (t + 2 * nsSec ≤ s.now) then
      { s with clock := { s.clock with ppsSeen := none, ppsEdge := none } }.raise rTuEvent 4
    else s
  | none => s

def execPpsInLost (s : State) : Host.Outcome State Fault Refusal := .next (ppsInLost s)

/-- PPS_OUT is driven (R378). -/
def ppsDriven (s : State) : Bool :=
  s.rbit rTuCtrl 2 && match s.clock.state with
    | .free => s.rbit rTuCtrl 3
    | .acquiring => s.rbit rTuCtrl 3
    | _ => true

/-- PPS_OUT_RISE: the counter, counting, has reached the instant. -/
def ppsOutRise (s : State) : State :=
  if !s.running iTIME || decide (s.tai < s.clock.ppsNext) then s
  else
    let go := ppsDriven s
    { s with clock := { s.clock with
        ppsOut := s.clock.ppsOut || go
        ppsRise := if go then s.now else s.clock.ppsRise
        ppsNext := ppsAfter s s.tai } }

def execPpsOutRise (s : State) : Host.Outcome State Fault Refusal := .next (ppsOutRise s)

/-- WIDTH_MS in ns: 0 acts as 1, above 500 as 500. -/
def ppsWidth (s : State) : Nat := max 1 (min 500 (s.rfield rTuPpsOut 0 10)) * nsMs

/-- PPS_OUT_FALL. -/
def ppsOutFall (s : State) : State :=
  if s.clock.ppsOut && decide (s.clock.ppsRise + ppsWidth s ≤ s.now) then
    { s with clock := { s.clock with ppsOut := false } }
  else s

def execPpsOutFall (s : State) : Host.Outcome State Fault Refusal := .next (ppsOutFall s)

/-! ## Compares and the latch (R379, R380, R382) -/

/-- Whether an instant is reached, of two fields of 32 bits (R379). -/
def reached32 (now t : Nat) : Bool := decide (0 ≤ sInt 32 (uNat 32 ((now : Int) - t)))

/-- A write of TU_CMPk arms compare k. -/
def cmpWrite (s : State) (k v : Nat) : State :=
  let s := s.setReg (rTuCmp k) v
  { s with clock := if k = 0 then { s.clock with cmp0 := true } else { s.clock with cmp1 := true } }

def execTuCmpWrite (by_ : Agent) (k : Nat) (value : Word) (s : State) : Host.Outcome State Fault Refusal :=
  .next (if 2 ≤ k then s else writeRow s by_ (rTuCmp k) value.toNat fun s => cmpWrite s k value.toNat)

/-- COMPARE_FIRE. -/
def compareFire (s : State) (k : Nat) : State :=
  let armed := if k = 0 then s.clock.cmp0 else k == 1 && s.clock.cmp1
  if s.running iTIME && armed && reached32 (s.tai % 2 ^ 32) (s.reg (rTuCmp k)) then
    { s with clock := if k = 0 then { s.clock with cmp0 := false } else { s.clock with cmp1 := false } }.raise rTuEvent (6 + k)
  else s

def execCompareFire (k : Nat) (s : State) : Host.Outcome State Fault Refusal := .next (compareFire s k)

/-- A read of TU_TIME_SEC_HI latches the rest (Table 13.12). -/
def timeLatch (s : State) : Nat × State :=
  let sec := s.tai / nsSec
  (sec / 2 ^ 32 % 65536, { s with clock := { s.clock with
    latchLo := sec % 2 ^ 32, latchNs := s.tai % nsSec, latchFrac := s.clock.time16 % 65536 } })

def execTimeLatchRead (by_ : Agent) (s : State) : Host.Outcome State Fault Refusal :=
  .next (readRow s by_ rTuTimeSecHi timeLatch)

/-! ## Registers that show live state (Tables 13.9 to 13.15) -/

def TimeState.code : TimeState → Nat
  | .free => 0 | .acquiring => 1 | .locked => 2 | .holdover => 3 | .grandmaster => 4
def PtpRole.code : PtpRole → Nat
  | .disabled => 0 | .master => 1 | .slave => 2 | .passive => 3 | .listening => 4

def tuStatusRead (s : State) : Nat :=
  let seen := s.clock.ppsSeen.any fun t => decide (s.now ≤ t + 2 * nsSec)
  s.clock.state.code + b2n seen * 8 + s.clock.slavePort.getD 31 * 256 +
    ((s.clock.master.map Foreign.steps).getD 0) % 65536 * 65536

def tuGmRead (s : State) (hi : Bool) : Nat :=
  if s.clock.state = .free then 0
  else
    let g := (s.clock.gm.map Prod.fst).getD 0
    if hi then g / 2 ^ 32 % 2 ^ 32 else g % 2 ^ 32

def tuPStateRead (s : State) (p : Nat) : Nat :=
  if p = 2 then 0 else (s.ptp p).role.code + b2n (pdelayOk s p) * 8 + b2n ((s.ptp p).asCapable && pdelayOk s p) * 16

/-- A write of TU_CTRL: the ports take their roles, PPS_OUT its level. -/
def tuCtrlWrite (s : State) (v : Nat) : State :=
  let s := setRoles (s.setReg rTuCtrl (v &&& 0x1F))
  if s.rbit rTuCtrl 2 then s else { s with clock := { s.clock with ppsOut := false } }

/-! ## Transitions of TIME (R364, R365) -/

/-- TIME leaves RUN or IDLE: the PTP protocol state is lost. -/
def timeLeave (s : State) : State :=
  let held := s.clock.state == .locked || s.clock.state == .holdover
  { s with clock := { s.clock with
      wasHeld := held, ports := [], foreign := [], master := none, slavePort := none, acceptedAt := none, okSyncs := 0
      rates := [], ppsLast := none, ppsCand := none, ppsAgree := 0, ppsSeen := none, ppsEdge := none, ppsOut := false
      cmp0 := false, cmp1 := false } }

/-- TIME enters RUN from BOOT. -/
def timeEnter (s : State) : State :=
  let s := if s.clock.wasHeld then s.raise rTuEvent 2 else setRate s 0
  setRoles { s with clock := { s.clock with
    state := if s.clock.wasHeld then .holdover else .free
    gm := if s.clock.wasHeld then s.clock.gm else none
    listenFrom := s.now, ppsNext := ppsAfter s s.tai } }

/-! ## Commands -/

/-- TIME_READ (0x0701). -/
def execTimeRead (r : Route) (tag : Nat) (s : State) : Host.Outcome State Fault Refusal :=
  .next (serve 0x0701 s r tag fun q s =>
    if q.payload.length ≠ 0 then done stBadLength s
    else toIsland s iTIME fun s =>
      ((stOk, leBytes 8 s.tai ++ leBytes 2 s.clock.time16 ++ leBytes 1 s.clock.state.code ++ leBytes 1 0 ++
        leBytes 4 (s.reg rTuOffset)), s))

/-- PTP_CONFIG's settings take force (R370): the entries of a group, in the ports of Table 13.3. -/
def ptpGroup (s : State) (p : List Byte) (g port : Nat) : State :=
  let o := 4 + 8 * g
  (s.setReg (rTuPCorr port) (fld p o 2 + fld p (o + 2) 2 * 65536)).setReg (rTuPAsym port) (fld p (o + 4) 2)

def ptpConfig (s : State) (p : List Byte) : Nat × State :=
  if [0, 1, 2, 3].any fun g => fld p (4 + 8 * g + 6) 2 != 0 then (stBadArgument, s)
  else
    let s := s.setReg rTuPtp (fld p 0 3)
    let s := ptpGroup (ptpGroup (ptpGroup s p 0 0) p 1 1) p 2 3
    (stOk, (List.range 16).foldl (fun s k => ptpGroup s p 3 (4 + k)) s)

/-- PTP_CONFIG (0x0702). -/
def execPtpConfig (r : Route) (tag : Nat) (s : State) : Host.Outcome State Fault Refusal :=
  .next (serve 0x0702 s r tag fun q s =>
    let p := q.payload
    if p.length ≠ 36 then done stBadLength s
    else if fld p 3 1 ≠ 0 then done stBadArgument s
    else toIsland s iTIME fun s =>
      let (st, s) := ptpConfig s p
      done st (if st = stOk then shipConfig s 0x0702 p else s))

/-- PPS_CONFIG's settings take force (R378). -/
def ppsConfig (s : State) (p : List Byte) : Nat × State :=
  let o := sfld p 4 4
  if o < -500000000 ∨ 499999999 < o then (stBadArgument, s)
  else
    let s := s.setReg rTuPpsOffset (fld p 4 4)
    let s := tuCtrlWrite s (putBits (s.reg rTuCtrl) 1 2 (fld p 0 1))
    (stOk, { s with clock := { s.clock with ppsNext := ppsAfter s s.tai } })

/-- PPS_CONFIG (0x0703). -/
def execPpsConfig (r : Route) (tag : Nat) (s : State) : Host.Outcome State Fault Refusal :=
  .next (serve 0x0703 s r tag fun q s =>
    let p := q.payload
    if p.length ≠ 8 then done stBadLength s
    else if 4 ≤ fld p 0 1 ∨ fld p 1 3 ≠ 0 then done stBadArgument s
    else toIsland s iTIME fun s =>
      let (st, s) := ppsConfig s p
      done st (if st = stOk then shipConfig s 0x0703 p else s))

end Sys2Proof.Machine
end

