-- ==== Sys2Proof/Machine/Almanac.lean ====
section
/-! DEFINITION. The Almanac (14): calendar, alarms, trim, backup memory, the supply of the backup core, and the commands
on them. The loss of the core stands with the vault, in Machine/Vigil.lean. -/

namespace Sys2Proof.Machine

/-! ## Calendar values (R386 to R391) -/

/-- A leap year (R388). -/
def leap (year : Nat) : Bool := (2000 + year) % 4 == 0 && ((2000 + year) % 100 != 0 || (2000 + year) % 400 == 0)

/-- The length of a month (Table 14.3). -/
def monthLength (month year : Nat) : Nat :=
  if month = 2 then (if leap year then 29 else 28)
  else if month = 4 ∨ month = 6 ∨ month = 9 ∨ month = 11 then 30 else 31

/-- The words of AL_TIME and AL_DATE, and a calendar value of them (Table 14.8). -/
def Cal.timeWord (c : Cal) : Nat := c.sec + c.min * 256 + c.hour * 65536 + c.wday * 0x1000000
def Cal.dateWord (c : Cal) : Nat := c.day + c.month * 256 + c.year * 65536
def Cal.setTime (c : Cal) (v : Nat) : Cal :=
  { c with sec := bitsOf v 0 6, min := bitsOf v 8 6, hour := bitsOf v 16 5, wday := bitsOf v 24 3 }
def Cal.setDate (c : Cal) (v : Nat) : Cal := { c with day := bitsOf v 0 5, month := bitsOf v 8 4, year := bitsOf v 16 8 }

/-- The order of R397, WDAY apart: c lies after d. -/
def Cal.ordered (c : Cal) : List Nat := [c.year, c.month, c.day, c.hour, c.min, c.sec]
def Cal.after (c d : Cal) : Bool := lexLess d.ordered c.ordered

/-- A field outside the valid range (R390). -/
def Cal.invalid (c : Cal) : Bool :=
  decide (59 < c.sec) || decide (59 < c.min) || decide (23 < c.hour) || c.day == 0 ||
    decide (monthLength c.month c.year < c.day) || c.month == 0 || decide (12 < c.month) || decide (199 < c.year) || c.wday == 0

/-- The next second (Table 14.2). -/
def Cal.tick (c : Cal) : Cal :=
  if c.sec < 59 then { c with sec := c.sec + 1 }
  else
    let c := { c with sec := 0 }
    if c.min < 59 then { c with min := c.min + 1 }
    else
      let c := { c with min := 0 }
      if c.hour < 23 then { c with hour := c.hour + 1 }
      else
        let c := { c with hour := 0, wday := if c.wday = 0 ∨ c.wday = 7 then 1 else c.wday + 1 }
        let l := monthLength c.month c.year
        if c.day ≠ l ∧ c.day ≠ 31 then { c with day := c.day + 1 }
        else
          let c := { c with day := 1 }
          if c.month < 12 then { c with month := c.month + 1 }
          else { c with month := 1, year := if c.year = 199 ∨ c.year = 255 then 0 else c.year + 1 }

/-- Days of the years and months before a date. -/
def daysBefore (month year : Nat) : Nat :=
  ((List.range year).map fun y => if leap y then 366 else 365).sum +
    ((List.range (month - 1)).map fun m => monthLength (m + 1) year).sum

/-- The calendar as TAI ns (R391). -/
def Cal.tai (c : Cal) : Nat :=
  (946684800 + (daysBefore c.month c.year + c.day - 1) * 86400 + c.hour * 3600 + c.min * 60 + c.sec) * nsSec

/-- The month and day of a day of a year (fuel: the months). -/
def monthOf (year : Nat) : Nat → Nat → Nat → Nat × Nat
  | 0, m, d => (m, d + 1)
  | f + 1, m, d => if d < monthLength m year then (m, d + 1) else monthOf year f (m + 1) (d - monthLength m year)

/-- The year of a day counted from 2000 (fuel: the years), and the day of that year. -/
def yearOf : Nat → Nat → Nat → Nat × Nat
  | 0, y, d => (y, d)
  | f + 1, y, d =>
    let n := if leap y then 366 else 365
    if d < n then (y, d) else yearOf f (y + 1) (d - n)

/-- A time of the time unit as calendar fields (R394). -/
def calOfTai (t : Nat) : Cal :=
  let s := t / nsSec - 946684800
  let days := s / 86400
  let (y, d) := yearOf 199 0 days
  let (m, d) := monthOf y 11 1 d
  { year := y, month := m, day := d, hour := s / 3600 % 24, min := s / 60 % 60, sec := s % 60, wday := (days + 5) % 7 + 1 }

/-! ## Alarms (R397 to R399) -/

/-- An alarm of the Almanac. -/
def State.alarm (s : State) (k : Nat) : Alarm := if k = 0 then s.almanac.alarm0 else s.almanac.alarm1
def State.setAlarm (s : State) (k : Nat) (a : Alarm) : State :=
  { s with almanac := if k = 0 then { s.almanac with alarm0 := a } else { s.almanac with alarm1 := a } }

/-- A calendar value matches every enabled field; none enabled is no match. -/
def Alarm.holds (a : Alarm) (c : Cal) : Bool :=
  let f (i : Nat) (x y : Nat) : Bool := !bitOf a.mask i || x == y
  a.mask % 128 != 0 && f 0 a.time.sec c.sec && f 1 a.time.min c.min && f 2 a.time.hour c.hour && f 3 a.time.wday c.wday &&
    f 4 a.time.day c.day && f 5 a.time.month c.month && f 6 a.time.year c.year

/-- An alarm fires: its event, and F (R397). -/
def fireAlarm (s : State) (k : Nat) (c : Cal) : State :=
  (s.setAlarm k { s.alarm k with fired := some c }).raise rAlEvent k

/-- An alarm at an ordinary tick (R397). -/
def tickAlarm (s : State) (k : Nat) (before now : Cal) : State :=
  let a := s.alarm k
  if a.holds now && !a.holds before && a.fired.all now.after then fireAlarm s k now else s

/-- The enabled fields of an alarm other than WDAY in the order of R397, each with the number of its values. -/
def Alarm.fields (a : Alarm) : List (Option Nat × Nat) :=
  let f (i v n : Nat) : Option Nat × Nat := (if bitOf a.mask i then some v else none, n)
  [f 6 a.time.year 256, f 5 a.time.month 16, f 4 a.time.day 32, f 2 a.time.hour 32, f 1 a.time.min 64, f 0 a.time.sec 64]

/-- The least value after another that agrees with the fixed fields. -/
def nextMatch : List (Option Nat × Nat) → List Nat → Option (List Nat)
  | (f, n) :: fs, x :: xs =>
    match (if f.all (· == x) then nextMatch fs xs else none) with
    | some r => some (x :: r)
    | none =>
      let v := f.getD (x + 1)
      if x < v ∧ v < n then some (v :: fs.map fun p => p.1.getD 0) else none
  | _, _ => none

/-- An alarm judges the step of a release of HALT (R398). -/
def stepAlarm (s : State) (k : Nat) (t0 t1 : Cal) : State :=
  let a := s.alarm k
  if a.mask % 128 = 0 then s
  else if t1.after t0 then
    let lo := match a.fired with
      | some f => if f.after t0 then f else t0
      | none => t0
    let within := (nextMatch a.fields lo.ordered).any fun v => !lexLess t1.ordered v
    if within && (!bitOf a.mask 3 || t1.wday == a.time.wday) then
      let s := fireAlarm s k t1
      s.setAlarm k { s.alarm k with skipped := true }
    else s
  else if t0.after t1 && a.rearm then s.setAlarm k { a with fired := none }
  else s

/-! ## The prescaler, ticks and trim (R386, R395, R396) -/

/-- The prescaler now: at least what State holds, free above it up to a limit (log 51). -/
def prescaleNow (s : State) (limit : Nat) : Nat × State :=
  if s.almanac.halt then (s.almanac.prescale, s)
  else
    let (d, s) := s.draw
    let lo := min s.almanac.prescale limit
    let v := lo + d % (limit - lo + 1)
    (v, { s with almanac := { s.almanac with prescale := v } })

/-- CALENDAR_TICK: a prescaler wrap (R386, R389, R397, R399). -/
def calendarTick (s : State) : State :=
  if s.almanac.halt then s
  else
    let old := s.almanac.cal
    let c := old.tick
    let s := { s with almanac := { s.almanac with cal := c, prescale := 0 } }
    let s := if c.year = 0 ∧ old.year ≠ 0 then
        (s.setAlarm 0 { s.alarm 0 with fired := none }).setAlarm 1 { s.alarm 1 with fired := none }
      else s
    tickAlarm (tickAlarm s 0 old c) 1 old c

def execCalendarTick (s : State) : Host.Outcome State Fault Refusal := .next (calendarTick s)

/-- TRIM_WINDOW: the trim written takes effect. -/
def execTrimWindow (s : State) : Host.Outcome State Fault Refusal :=
  .next { s with almanac := { s.almanac with trim := s.almanac.trimNext, corrections := 0 } }

/-- TRIM_CORRECTION: the prescaler advances by 2, or by 0; without effect while it is frozen (R395, R396). -/
def trimCorrection (s : State) : State :=
  let a := s.almanac
  if a.trim.natAbs ≤ a.corrections then s
  else
    let s := { s with almanac := { a with corrections := a.corrections + 1 } }
    if a.halt then s
    else
      let (v, s) := prescaleNow s 32765
      { s with almanac := { s.almanac with prescale := if 0 < a.trim then v + 2 else v } }

def execTrimCorrection (s : State) : Host.Outcome State Fault Refusal := .next (trimCorrection s)

/-! ## HALT and the writes under it (R392, R393) -/

/-- HALT is set. -/
def haltSet (s : State) : State :=
  if s.almanac.halt then s
  else
    let (_, s) := prescaleNow s 32767
    { s with almanac := { s.almanac with halt := true, t0 := s.almanac.cal } }

/-- HALT is released (R398). -/
def haltRelease (s : State) : State :=
  if !s.almanac.halt then s
  else
    let t0 := s.almanac.t0
    let t1 := s.almanac.cal
    stepAlarm (stepAlarm { s with almanac := { s.almanac with halt := false } } 0 t0 t1) 1 t0 t1

/-- A write of AL_CTRL. -/
def alCtrlWrite (s : State) (v : Nat) : State := if bitOf v 0 then haltSet s else haltRelease s

/-- A write of AL_TIME or AL_DATE: performed only under HALT. -/
def calWrite (s : State) (f : Cal → Cal) : State :=
  if s.almanac.halt then { s with almanac := { s.almanac with cal := f s.almanac.cal, prescale := 0 } }
  else s.raise rAlEvent 5

/-- The calendar is set as one action (R393). -/
def setCalendar (s : State) (time date : Nat) : State :=
  haltRelease (calWrite (calWrite (haltSet s) fun c => c.setTime time) fun c => c.setDate date)

/-- AL_CTRL with HALT written. -/
def execHaltSet (by_ : Agent) (value : Word) (s : State) : Host.Outcome State Fault Refusal :=
  .next (writeRow s by_ rAlCtrl (value.toNat ||| 1) haltSet)

def execHaltRelease (by_ : Agent) (value : Word) (s : State) : Host.Outcome State Fault Refusal :=
  .next (writeRow s by_ rAlCtrl (value.toNat &&& 0xFFFFFFFE) haltRelease)

def execAlTimeWrite (by_ : Agent) (value : Word) (s : State) : Host.Outcome State Fault Refusal :=
  .next (writeRow s by_ rAlTime value.toNat fun s => calWrite s fun c => c.setTime value.toNat)

def execAlDateWrite (by_ : Agent) (value : Word) (s : State) : Host.Outcome State Fault Refusal :=
  .next (writeRow s by_ rAlDate value.toNat fun s => calWrite s fun c => c.setDate value.toNat)

/-- A read of AL_TIME latches AL_DATE and AL_SUBSEC (R387). -/
def alTimeRead (s : State) : Nat × State :=
  let (v, s) := prescaleNow s 32767
  (s.almanac.cal.timeWord, { s with almanac := { s.almanac with latchDate := s.almanac.cal, latchSub := v } })

def execAlTimeRead (by_ : Agent) (s : State) : Host.Outcome State Fault Refusal := .next (readRow s by_ rAlTime alTimeRead)

/-- A trim within ±8,192 (R396). -/
def clampTrim (v : Int) : Int := max (-8192) (min 8192 v)
def setTrim (s : State) (v : Int) : State := { s with almanac := { s.almanac with trimNext := clampTrim v } }

/-- A write of an alarm register: its value, and F emptied (Table 14.9). -/
def alarmWrite (s : State) (k off v : Nat) : State :=
  let a := { s.alarm k with fired := none }
  s.setAlarm k
    (if off = 0 then { a with time := a.time.setTime v }
    else if off = 4 then { a with time := a.time.setDate v }
    else { a with mask := bitsOf v 0 7, rearm := bitOf v 8, skipped := a.skipped && !bitOf v 16 })

/-- Alarm and register of an address. -/
def alarmOf (a : Nat) : Option (Nat × Nat) :=
  if a = rAlAlmTime 0 then some (0, 0) else if a = rAlAlmDate 0 then some (0, 4) else if a = rAlAlmCtrl 0 then some (0, 8)
  else if a = rAlAlmTime 1 then some (1, 0) else if a = rAlAlmDate 1 then some (1, 4)
  else if a = rAlAlmCtrl 1 then some (1, 8) else none

def execAlAlarmWrite (by_ : Agent) (addr : Nat) (value : Word) (s : State) : Host.Outcome State Fault Refusal :=
  .next (match alarmOf addr with
    | some (k, off) => writeRow s by_ addr value.toNat fun s => alarmWrite s k off value.toNat
    | none => s)

/-- What an alarm's control register reads. -/
def Alarm.ctrlWord (a : Alarm) : Nat := a.mask % 128 + b2n a.rearm * 256 + b2n a.skipped * 65536

/-- AL_STATUS: HALTED, INVALID, INVALID_AT_START and BKP_FAIL (Table 14.6). -/
def alStatusRead (s : State) : Nat :=
  b2n s.almanac.halt + b2n s.almanac.cal.invalid * 2 + (s.reg rAlStatus &&& 0xFF04)

/-! ## Backup memory (R401, R402) -/

/-- A backup record. -/
def bkpRec (s : State) (r : Nat) : BkpRec := tabGetD s.almanac.backup r {}
def putBkp (s : State) (r : Nat) (x : BkpRec) : State :=
  { s with almanac := { s.almanac with backup := tabSet s.almanac.backup r x } }

/-- A record read under the stored-record rule: its 8 bytes (R401). -/
def bkpRead (s : State) (r : Nat) : List Byte × State :=
  let x := bkpRec s r
  match twoCopies x.copy0 x.copy1 (x.check0 == crc8 x.copy0) (x.check1 == crc8 x.copy1) with
  | .taken d true => (d, (putBkp s r { copy0 := d, check0 := crc8 d, copy1 := d, check1 := crc8 d }).raise rAlEvent 3)
  | .taken d false => (d, s)
  | .lost => (List.replicate 8 0, ((s.raise rAlStatus (8 + r)).raise rAlEvent 4))

/-- Bytes of a record are written: both copies, each with its new check value; a failed record is valid again. -/
def bkpWrite (s : State) (r off : Nat) (data : List Byte) : State :=
  let (d, s) := bkpRead s r
  let d := overlay d off data
  (putBkp s r { copy0 := d, check0 := crc8 d, copy1 := d, check1 := crc8 d }).lower rAlStatus (8 + r)

/-- A write of AL_BKPw. -/
def execAlBkpWrite (by_ : Agent) (w : Nat) (value : Word) (s : State) : Host.Outcome State Fault Refusal :=
  .next (if 16 ≤ w then s else writeRow s by_ (rAlBkp w) value.toNat fun s => bkpWrite s (w / 2) (w % 2 * 4) (leBytes 4 value.toNat))

/-- A read of AL_BKPw. -/
def bkpWord (s : State) (w : Nat) : Nat × State :=
  let (d, s) := bkpRead s (w / 2)
  (fld d (w % 2 * 4) 4, s)

/-- BACKUP_CHECK: every record is checked. -/
def execBackupCheck (s : State) : Host.Outcome State Fault Refusal :=
  .next ((List.range 8).foldl (fun s r => (bkpRead s r).2) s)

/-! ## CALENDAR_SYNC (R394) -/

/-- Steward compares the calendar with the time unit. -/
def calendarSync (s : State) : State :=
  let timed := s.clock.state == .locked || s.clock.state == .grandmaster
  let due := s.almanac.syncAt.all fun t => decide (t + 1024 * nsSec ≤ s.now)
  if !stewardReady s || !s.running iTIME || !timed || !due then s
  else
    let go (s : State) : Nat × State :=
      let c := s.almanac.cal
      let mine := c.tai + s.almanac.prescale * nsSec / 32768
      let far := decide (nsSec ≤ ((s.tai : Int) - mine).natAbs)
      let new := calOfTai s.tai
      (stOk, if far || c.invalid then setCalendar s new.timeWord new.dateWord else s)
    (crossStatus { s with almanac := { s.almanac with syncAt := some s.now } } iSAGE iALM 1 go).2

def execCalendarSync (s : State) : Host.Outcome State Fault Refusal := .next (calendarSync s)

/-- The time unit starts from the calendar (R365, R391). -/
def startFromCalendar (s : State) : State :=
  let c := s.almanac.cal
  let bad := c.invalid
  let s := (if bad then s.raise rAlStatus 2 else s.lower rAlStatus 2)
  { s with clock := { s.clock with time16 := (if bad then ({} : Cal) else c).tai * 65536, rem := 0 } }

/-! ## The supply of the core (Table 14.1) -/

/-- VBAT_SWITCH: the core runs on VBAT. -/
def execVbatSwitch (s : State) : Host.Outcome State Fault Refusal :=
  .next (if s.almanac.vaonLow && !s.almanac.onVbat then
      { s with almanac := { s.almanac with onVbat := true } }.raise rAlEvent 2
    else s)

/-! ## Commands -/

/-- Bits of 8 bytes of calendar fields that are reserved. -/
def calReserved (time date : Nat) : Bool := (time &&& 0xF8E0C0C0) != 0 || (date &&& 0xFF00F0E0) != 0

/-- CAL_READ (0x0801). -/
def execCalRead (r : Route) (tag : Nat) (s : State) : Host.Outcome State Fault Refusal :=
  .next (serve 0x0801 s r tag fun q s =>
    if q.payload.length ≠ 0 then done stBadLength s
    else toIsland s iALM fun s =>
      let (t, s) := alTimeRead s
      ((stOk, leBytes 4 t ++ leBytes 4 s.almanac.latchDate.dateWord), s))

/-- CAL_SET (0x0802). -/
def execCalSet (r : Route) (tag : Nat) (s : State) : Host.Outcome State Fault Refusal :=
  .next (serve 0x0802 s r tag fun q s =>
    let p := q.payload
    if p.length ≠ 8 then done stBadLength s
    else if calReserved (fld p 0 4) (fld p 4 4) then done stBadArgument s
    else toIsland s iALM fun s => done stOk (setCalendar s (fld p 0 4) (fld p 4 4)))

/-- ALARM_SET (0x0803). -/
def execAlarmSet (r : Route) (tag : Nat) (s : State) : Host.Outcome State Fault Refusal :=
  .next (serve 0x0803 s r tag fun q s =>
    let p := q.payload
    if p.length ≠ 12 then done stBadLength s
    else if 1 < fld p 0 1 ∨ 127 < fld p 1 1 ∨ 1 < fld p 2 1 ∨ fld p 3 1 ≠ 0 ∨ calReserved (fld p 4 4) (fld p 8 4) then
      done stBadArgument s
    else toIsland s iALM fun s =>
      let a := s.alarm (fld p 0 1)
      done stOk (s.setAlarm (fld p 0 1) { a with
        time := (a.time.setTime (fld p 4 4)).setDate (fld p 8 4)
        mask := fld p 1 1, rearm := bitOf (fld p 2 1) 0, fired := none }))

/-- TRIM_SET (0x0804). -/
def execTrimSet (r : Route) (tag : Nat) (s : State) : Host.Outcome State Fault Refusal :=
  .next (serve 0x0804 s r tag fun q s =>
    let p := q.payload
    if p.length ≠ 4 then done stBadLength s
    else if fld p 2 2 ≠ 0 ∨ sfld p 0 2 ≠ clampTrim (sfld p 0 2) then done stBadArgument s
    else toIsland s iALM fun s => done stOk (setTrim s (sfld p 0 2)))

/-- The 64 bytes of backup memory. -/
def backupBytes (s : State) : List Byte × State :=
  (List.range 8).foldl (fun a r =>
    let (d, s) := bkpRead a.2 r
    (a.1 ++ d, s)) ([], s)

/-- BACKUP_READ (0x0805). -/
def execBackupRead (r : Route) (tag : Nat) (s : State) : Host.Outcome State Fault Refusal :=
  .next (serve 0x0805 s r tag fun q s =>
    if q.payload.length ≠ 0 then done stBadLength s
    else toIsland s iALM fun s =>
      let (d, s) := backupBytes s
      ((if s.rfield rAlStatus 8 8 = 0 then stOk else stCheckFailed, d), s))

/-- Bytes of backup memory are written, record by record. -/
def backupWrite (s : State) (off : Nat) (data : List Byte) : State :=
  (List.range 8).foldl (fun s r =>
    let lo := max off (8 * r)
    let hi := min (off + data.length) (8 * r + 8)
    if hi ≤ lo then s else bkpWrite s r (lo - 8 * r) (sub data (lo - off) (hi - lo))) s

/-- BACKUP_WRITE (0x0806). -/
def execBackupWrite (r : Route) (tag : Nat) (s : State) : Host.Outcome State Fault Refusal :=
  .next (serve 0x0806 s r tag fun q s =>
    let p := q.payload
    let n := fld p 1 1
    if p.length < 4 ∨ p.length ≠ 4 + n then done stBadLength s
    else if fld p 2 2 ≠ 0 ∨ n = 0 ∨ 64 < fld p 0 1 + n then done stBadArgument s
    else toIsland s iALM fun s => done stOk (backupWrite s (fld p 0 1) (p.drop 4)))

end Sys2Proof.Machine
end

