-- ==== Sys2Proof/Machine/Irq.lean ====
section
/-! DEFINITION. The interrupt controller (20 R528 to R537, R545): sources as levels derived from the state, delivery,
claims, completions, moderation. -/

namespace Sys2Proof.Machine

/-- Whether an event register ANDed with its enables is not 0. -/
def evOn (s : State) (ev en : Nat) : Bool := (s.reg ev &&& s.reg en) != 0

/-- PF_EVENT: the register and the part of COUNT_STUCK that PF_CACHE_MISS holds. -/
def pfEvent (s : State) : Nat := s.reg rPfEvent ||| b2n s.fabric.missStuck * 16

/-- A doorbell accepted whose request Steward has not taken: a mailbox in WORKING without a request in progress. -/
def untaken (s : State) : Bool :=
  s.mail.boxes.any fun p => p.2.state == .working && !s.mail.inProgress.any fun r => r.route == .mailbox p.1

/-- The island of a source (20 Table 20.1); sources 1 to 12 are driven by the shells. -/
def srcIsland (n : Nat) : Option Nat :=
  if n ≤ 12 then none
  else if n ≤ 18 then some iPF
  else if n = 19 then some iTHY
  else if n = 20 then some iLOOP
  else if n = 21 then some iMTR
  else if n = 22 then some iSW
  else if n = 23 then some iTIME
  else if n = 24 then some iALM
  else if n ≤ 32 then some iBUS
  else if n ≤ 35 then some iMGT
  else if n = 36 then some iVLT
  else if n = 37 then some iALM
  else if n = 38 then some iMGT
  else some iSAGE

/-- The condition of Table 20.1. -/
def srcCondition (s : State) (n : Nat) : Bool :=
  if n = 0 then false
  else if n ≤ 12 then s.reg (rIslFault (n - 1)) != 0
  else if n = 16 then (pfEvent s &&& s.reg rPfEventEn) != 0
  else if n = 17 then evOn s rHvEvent rHvEventEn
  else if n = 18 then (s.chk.event &&& s.reg rChkEventEn) != 0
  else if n = 19 then evOn s rThEvent rThEventEn
  else if n = 20 then evOn s rLpEvent rLpEventEn
  else if n = 21 then evOn s rMeEvent rMeEventEn
  else if n = 22 then evOn s rSwEvent rSwEventEn
  else if n = 23 then evOn s rTuEvent rTuEventEn
  else if n = 24 then evOn s rAlEvent rAlEventEn
  else if 25 ≤ n ∧ n ≤ 32 then evOn s (rBcCEvent (n - 25)) (rBcCEventEn (n - 25))
  else if n = 33 then evOn s rTwEvent rTwEventEn
  else if n = 34 then evOn s rMgEvent rMgEventEn
  else if n = 35 then evOn s rPwEvent rPwEventEn
  else if n = 36 then evOn s rKvEvent rKvEventEn
  else if n = 37 then bitsOf (s.reg rVgLatch) 0 6 != 0
  else if n = 38 then evOn s rUpEvent rUpEventEn
  else if n = 39 then untaken s
  else if 48 ≤ n ∧ n ≤ 50 then s.rbit rIcEvent (n - 48)
  else if 128 ≤ n ∧ n ≤ 255 then s.irq.soft.contains n
  else false

/-- Whether a source is asserted (20 R528). -/
def asserted (s : State) (n : Nat) : Bool :=
  srcCondition s n &&
    match srcIsland n with
    | none => true
    | some i => s.running i

/-- A target. -/
def State.target (s : State) (t : Nat) : Target := tabGetD s.irq.targets t {}

/-- Replaces a target. -/
def State.setTarget (s : State) (t : Nat) (x : Target) : State :=
  { s with irq := { s.irq with targets := tabSet s.irq.targets t x } }

/-- PRIO, TARGET and EN of a source. -/
def srcPrio (s : State) (n : Nat) : Nat := s.rfield (rIcSrc n) 0 4
def srcTarget (s : State) (n : Nat) : Nat := s.rfield (rIcSrc n) 4 2
def srcEnabled (s : State) (n : Nat) : Bool := s.rbit (rIcSrc n) 8

/-- Source and priority at the top of a target's stack; the base is 0 with priority 0 (20 R533). -/
def Target.top (x : Target) : Nat × Nat := x.stack.headD (0, 0)

/-- A source is deliverable to a target (20 R530). -/
def deliverable (s : State) (t n : Nat) : Bool :=
  srcTarget s n == t && srcEnabled s n && asserted s n && !s.irq.active.contains n &&
    decide (s.rfield (rIcTThresh t) 0 4 < srcPrio s n) && decide ((s.target t).top.2 < srcPrio s n)

/-- The sources that Table 20.1 assigns a condition. -/
def sourceNumbers : List Nat := (List.range 40).drop 1 ++ [48, 49, 50] ++ (List.range 128).map (· + 128)

/-- The deliverable source with the highest PRIO, the lowest number winning a tie (20 R531); 0 when there is none. -/
def bestSource (s : State) (t : Nat) : Nat :=
  sourceNumbers.foldl
    (fun b n => if deliverable s t n && (b == 0 || decide (srcPrio s b < srcPrio s n)) then n else b) 0

/-- A target is idle (20 R536): its island stands in IDLE, its processor in its wait-for-interrupt state (log 24). -/
def targetIdle (s : State) (t : Nat) : Bool := (s.isl (if t = 2 then iMGT else iSAGE)).state == .idle

/-- Moderation holds a source back from a target's line (20 R536). -/
def heldBack (s : State) (t n : Nat) : Bool :=
  !targetIdle s t && decide (srcPrio s n < s.rfield (rIcTMod t) 16 4) &&
    match (s.target t).holdUntil with
    | some e => decide (s.now < e)
    | none => false

/-- A target's interrupt line (20 R530, R537). -/
def irqLine (s : State) (t : Nat) : Bool :=
  s.running iSAGE && !(s.target t).frozen && sourceNumbers.any fun n => deliverable s t n && !heldBack s t n

/-- A held write of PRIO and TARGET takes effect when its source completes (20 R529). -/
def applyHeld (s : State) (n : Nat) : State :=
  match tabGet s.irq.held n with
  | some w =>
    let s := s.setReg (rIcSrc n) (putBits (s.reg (rIcSrc n)) 0 6 w)
    { s with irq := { s.irq with held := tabDel s.irq.held n } }
  | none => s

/-- A source leaves the active ones. -/
def deactivate (s : State) (n : Nat) : State :=
  applyHeld { s with irq := { s.irq with active := s.irq.active.filter (· != n) } } n

/-- The claim of a target: the value returned and the state after (20 R531, R532, R535). -/
def claim (s : State) (t : Nat) : Nat × State :=
  let n := if (s.target t).frozen then 0 else bestSource s t
  if n = 0 then (0, s)
  else
    let s1 := s.setTarget t { s.target t with stack := (n, srcPrio s n) :: (s.target t).stack }
    (n, { s1 with irq := { s1.irq with active := n :: s1.irq.active } })

/-- A completion: a pop of the top entry, or the ORDER fault (20 R532, R534, R535, R536). -/
def complete (s : State) (t n : Nat) : State :=
  let x := s.target t
  if x.frozen || n == 0 then s
  else if x.top.1 = n then
    let rest := x.stack.drop 1
    let us := s.rfield (rIcTMod t) 0 10
    let hold := if rest.isEmpty && us != 0 && !targetIdle s t then some (s.now + us * nsUs) else x.holdUntil
    deactivate (s.setTarget t { x with stack := rest, holdUntil := hold }) n
  else
    let s := s.raise rIcEvent t
    let s := s.setReg (rIcTFault t) (n + x.top.1 * 256)
    let s := s.logEvent lvFault iSAGE 1 t (n + x.top.1 * 256)
    s.setTarget t { x with frozen := true }

/-- UNFREEZE (20 R535); without a freeze it has nothing to end (log 23). -/
def unfreezeTarget (s : State) (t : Nat) : State :=
  let x := s.target t
  if !x.frozen then s
  else (x.stack.map Prod.fst).foldl deactivate (s.setTarget t { x with stack := [], frozen := false })

/-- A write of IC_SRCn (20 R529). -/
def srcWrite (s : State) (n v : Nat) : State :=
  if 48 ≤ n ∧ n ≤ 50 ∧ bitsOf v 4 2 = n - 48 then s
  else if s.irq.active.contains n then
    let s := s.setField (rIcSrc n) 8 1 (bitsOf v 8 1)
    if bitsOf v 0 6 = s.rfield (rIcSrc n) 0 6 then
      { s with irq := { s.irq with held := tabDel s.irq.held n } }
    else { s with irq := { s.irq with held := tabSet s.irq.held n (bitsOf v 0 6) } }
  else s.setReg (rIcSrc n) (v &&& 0x13F)

/-- IC_SWSET and IC_SWCLR: software sources 128 to 255, other values ignored. -/
def swSet (s : State) (n : Nat) : State :=
  if 128 ≤ n ∧ n ≤ 255 ∧ !s.irq.soft.contains n then { s with irq := { s.irq with soft := n :: s.irq.soft } } else s
def swClear (s : State) (n : Nat) : State := { s with irq := { s.irq with soft := s.irq.soft.filter (· != n) } }

/-- What IC_STATUS reads. -/
def icStatusRead (s : State) : Nat :=
  let f (g : Nat → Bool) : Nat := b2n (g 0) + b2n (g 1) * 2 + b2n (g 2) * 4
  f (fun t => (s.target t).frozen) + f (irqLine s) * 16 + f (targetIdle s) * 256

/-- 32 bits of a predicate over the sources from 32k. -/
def bits32 (f : Nat → Bool) (k : Nat) : Nat := ((List.range 32).map fun i => b2n (f (32 * k + i)) * 2 ^ i).sum

/-- What IC_TSTATt reads. -/
def icTStatRead (s : State) (t : Nat) : Nat :=
  let x := s.target t
  x.stack.length + x.top.2 * 256 + x.top.1 * 65536

/-- What IC_TSTACKe reads; entry 1 is the first claim above the base. -/
def icTStackRead (s : State) (t e : Nat) : Nat :=
  match (s.target t).stack.reverse[e - 1]? with
  | some (n, p) => n + p * 256
  | none => 0

/-- What IC_SRCn reads. -/
def icSrcRead (s : State) (n : Nat) : Nat :=
  s.reg (rIcSrc n) + b2n (asserted s n) * 65536 + b2n (s.irq.active.contains n) * 131072 +
    b2n (tabGet s.irq.held n).isSome * 262144

/-- The end of a moderation hold (20 R536). -/
def moderationEnd (s : State) (t : Nat) : State :=
  match (s.target t).holdUntil with
  | some e => if e ≤ s.now then s.setTarget t { s.target t with holdUntil := none } else s
  | none => s

end Sys2Proof.Machine
end

