-- ==== Sys2Proof/Machine/Mailbox.lean ====
section
/-! DEFINITION. The mailbox block (04): SPI transactions, doorbells and the MB_ registers, bindings, network settings,
sessions, and Steward's own rows of Table 5.1 for them. -/

namespace Sys2Proof.Machine

/-! ## MB_ registers (R132 to R135, R151) -/

/-- The code of a mailbox state (Table 4.8). -/
def MbState.code : MbState → Nat
  | .idle => 0 | .working => 1 | .pending => 2 | .done => 3

/-- Sessions open: established ones and BACnet/SC connections. -/
def openSessions (s : State) (bac : Bool) : Nat :=
  (s.mail.sessions.filter fun p => p.2.stage == .bacnet || (!bac && p.2.stage == .established)).length

/-- MB_STATUS. -/
def mbStatusRead (s : State) : Nat := b2n (stewardReady s) + openSessions s false * 256 + openSessions s true * 65536

/-- MB_STATE_LO and MB_STATE_HI. -/
def mbStateRead (s : State) (hi : Bool) : Nat :=
  ((List.range 8).map fun k => (s.box (k + b2n hi * 8)).state.code * 16 ^ k).sum

/-- MB_BINDm. -/
def mbBindRead (s : State) (m : Nat) : Nat :=
  match (s.box m).bind with
  | some b => b.tenant + b.role * 4096 + 0x8000
  | none => nobody

/-- An RC counter: its value, and the register cleared. -/
def rcTake (s : State) (a : Nat) : Nat × State := (s.reg a, s.setReg a 0)

/-- A read of a mailbox register at an offset. -/
def mbRead (s : State) (off : Nat) : Nat × State :=
  let a := 0x30200000 + off
  if off = 0x004 then (mbStatusRead s, s)
  else if off = 0x008 then (0, s)
  else if off = 0x018 then (mbStateRead s false, s)
  else if off = 0x01C then (mbStateRead s true, s)
  else if 0x020 ≤ off ∧ off ≤ 0x028 then rcTake s a
  else if 0x040 ≤ off ∧ off ≤ 0x07C then (mbBindRead s ((off - 0x040) / 4), s)
  else (s.reg a, s)

/-- A refused doorbell or buffer write is counted and its event set (R133). -/
def mbLost (s : State) (bit : Nat) : State := (s.stick rMbLost rMbEvent 5).mbEvent bit

/-- One doorbell (R133). -/
def ringBell (s : State) (m : Nat) : State :=
  let x := s.box m
  if x.state == .idle || x.state == .done then
    (s.setBox m { x with state := .working }).lower rMbRespReady m
  else mbLost s 0

/-- A write of MB_DOORBELL; Steward then takes the requests (R133). -/
def doorbellWrite (s : State) (v : Nat) : State :=
  let s := ((List.range 16).filter fun m => bitOf v m).foldl ringBell s
  if stewardReady s then takeDoorbells s else s

/-- A write of MB_CTRL by Steward: its reserved bits keep 0. -/
def mbCtrlWrite (s : State) (v : Nat) : State := s.setReg rMbCtrl (v &&& 0xFFFFFF07)

/-- A write of a mailbox register at an offset. -/
def mbWrite (s : State) (off v : Nat) : State :=
  let a := 0x30200000 + off
  if off = 0x000 then mbCtrlWrite s v
  else if off = 0x008 then doorbellWrite s v
  else if off = 0x00C then s.setReg a (s.reg a &&& (0xFFFFFFFF - v % 2 ^ 32))
  else if off = 0x010 then s.setReg a (v &&& 0x1FFFF)
  else if off = 0x014 then s.setReg a (s.reg a &&& (0xFFFFFFFF - v % 2 ^ 32))
  else s

/-! ## The SPI target (R128 to R130, R150) -/

/-- The SPI target answers (R150). -/
def spiOpen (s : State) : Bool := s.running iSAGE && s.rbit rMbCtrl 0

/-- Writes into a buffer wrap at its end (R130). -/
def bufWrite (m : Mem) (base off : Nat) : List Byte → Mem
  | [] => m
  | b :: bs => bufWrite (memWrite m (base + off % 4096) b) base (off % 4096 + 1) bs

/-- Reads of a buffer wrap at its end. -/
def bufRead (m : Mem) (base off n : Nat) : List Byte := (List.range n).map fun i => memRead m (base + (off + i) % 4096)

/-- The whole aligned registers of the mailbox mirror inside a range of SPI addresses: offsets (R130). -/
def mirrorOffsets (addr n : Nat) : List Nat :=
  (List.range 64).map (4 * ·) |>.filter fun o => decide (addr ≤ 0x100000 + o) && decide (0x100000 + o + 4 ≤ addr + n)

/-- A write transaction. -/
def spiWrite (s : State) (addr : Nat) (data : List Byte) : State :=
  let s := { s with outs := { s.outs with spiOut := [] } }
  if !spiOpen s || data.isEmpty then s
  else
    let s := s.wakeIsl iSAGE
    if addr < 0x20000 then
      let base := addr / 0x1000 * 0x1000
      if addr / 0x1000 % 2 = 1 then s
      else
        let st := (s.box (addr / 0x2000)).state
        if st == .idle || st == .done then
          { s with mail := { s.mail with buf := bufWrite s.mail.buf base (addr % 0x1000) data } }
        else mbLost s 1
    else
      (mirrorOffsets addr data.length).foldl (fun s o =>
        if o = 0 then s else mbWrite s o (fld data (0x100000 + o - addr) 4)) s

/-- The registers of a read transaction, each one access. -/
def mirrorRead (s : State) (addr : Nat) (out : List Byte) : List Nat → List Byte × State
  | [] => (out, s)
  | o :: os =>
    let (v, s) := mbRead s o
    mirrorRead s addr (overlay out (0x100000 + o - addr) (leBytes 4 v)) os

/-- A read transaction of n data bytes. -/
def spiRead (s : State) (addr n : Nat) : State :=
  let put (s : State) (b : List Byte) : State := { s with outs := { s.outs with spiOut := b } }
  if !spiOpen s then put s (List.replicate n 0)
  else
    let s := s.wakeIsl iSAGE
    if addr < 0x20000 then put s (bufRead s.mail.buf (addr / 0x1000 * 0x1000) (addr % 0x1000) n)
    else
      let (b, s) := mirrorRead s addr (List.replicate n 0) (mirrorOffsets addr n)
      put s b

def execSpiWrite (addr : Nat) (data : List Byte) (s : State) : Host.Outcome State Fault Refusal :=
  .next (spiWrite s (addr % 2 ^ 24) data)

def execSpiRead (addr n : Nat) (s : State) : Host.Outcome State Fault Refusal := .next (spiRead s (addr % 2 ^ 24) n)

/-- WRITE_QUAD carries the same address and data over four lines (R128). -/
def execWriteQuad (addr : Nat) (data : List Byte) (s : State) : Host.Outcome State Fault Refusal :=
  .next (spiWrite s (addr % 2 ^ 24) data)

def execReadQuad (addr n : Nat) (s : State) : Host.Outcome State Fault Refusal := .next (spiRead s (addr % 2 ^ 24) n)

/-- The STATUS byte (R129). -/
def spiStatusByte (s : State) : Nat :=
  if spiOpen s then b2n (stewardReady s) + b2n (hostIrq s) * 2 + b2n (s.reg rMbEvent != 0) * 4 else 0

def execSpiStatus (n : Nat) (s : State) : Host.Outcome State Fault Refusal :=
  .next { s with outs := { s.outs with spiOut := List.replicate n (BitVec.ofNat 8 (spiStatusByte s)) } }

/-- IDENT (Table 4.5). -/
def execSpiIdent (s : State) : Host.Outcome State Fault Refusal :=
  .next { s with outs := { s.outs with spiOut := if spiOpen s then [0x4B, 0x84, 0x20, 0x01] else [0, 0, 0, 0] } }

/-- A doorbell through the mirror; a write from inside the module is not performed (R151). -/
def execMbDoorbellWrite (by_ : Agent) (value : Word) (s : State) : Host.Outcome State Fault Refusal :=
  .next (if by_ = Agent.spi ∧ !spiOpen s then s
    else writeRow (s.wakeIsl iSAGE) by_ rMbDoorbell value.toNat fun s => doorbellWrite s value.toNat)

/-! ## Bindings and network settings (R136 to R138, R154) -/

/-- The message a mailbox authorisation covers (18 Table 18.4). -/
def bindMessage (m role tenant : Nat) : List Byte := serialBytes ++ leBytes 1 m ++ leBytes 1 role ++ leBytes 2 tenant

/-- Binds a mailbox; a binding it had ends first (R158). -/
def bindBox (s : State) (m : Nat) (b : Bind) : State :=
  let s := if (s.box m).bind.isSome ∧ (s.box m).bind ≠ some b then unbindBox s m else s
  s.setBox m { s.box m with bind := some b }

/-- The request itself no longer waits: what happens to its own route does not answer it. -/
def takeOut (s : State) (q : Req) : State :=
  { s with mail := { s.mail with inProgress := s.mail.inProgress.filter (· != q) } }

/-- The request waits again, to be answered. -/
def putBack (s : State) (q : Req) : State :=
  { s with mail := { s.mail with inProgress := s.mail.inProgress ++ [q] } }

def execMailboxBind (r : Route) (tag : Nat) (s : State) : Host.Outcome State Fault Refusal :=
  .next (serve 0x0102 s r tag fun q s =>
    let p := q.payload
    let m := fld p 0 1
    let role := fld p 1 1
    let t := fld p 2 2
    let a := fld p 4 2
    if p.length < 8 ∨ p.length ≠ 8 + a then done stBadLength s
    else if fld p 6 2 ≠ 0 ∨ m = 0 ∨ 15 < m ∨ 3 < role ∨ nobody < t then done stBadArgument s
    else if t = nobody then
      let own := routeTenant s q.route
      if own ≠ house ∧ ((s.box m).bind.map Bind.tenant) ≠ some own then done stTenantMismatch s
      else if a ≠ 0 then done stBadArgument s
      else if (s.box m).bind.isNone then done stOk s
      else done stOk (putBack (unbindBox (takeOut s q) m) q)
    else if role = 3 ∧ t ≠ house then done stBadArgument s
    else if t = house then done stOk (putBack (bindBox (takeOut s q) m { tenant := t, role := role }) q)
    else
      let (ok, s) := crossing s iSAGE iVLT 1 (fun st => st) id fun s =>
        (if tagMatches s t (bindMessage m role t) "CFM-8420 bind" (p.drop 8) then stOk else stNotPermitted, useCredential s t)
      if ok ≠ stOk then done ok s
      else done stOk (putBack (bindBox (takeOut s q) m { tenant := t, role := role }) q))

/-- NET_CONFIG in force for an interface. -/
def netConfig (s : State) (p : List Byte) : State :=
  { s with mail := if fld p 0 1 = 0 then { s.mail with netHost := p } else { s.mail with netRing := p } }

/-- NET_CONFIG (0x0103): interface, prefix length, address, gateway (log 9). -/
def execNetConfig (r : Route) (tag : Nat) (s : State) : Host.Outcome State Fault Refusal :=
  .next (serve 0x0103 s r tag fun q s =>
    let p := q.payload
    if p.length ≠ 36 then done stBadLength s
    else if fld p 2 2 ≠ 0 ∨ 1 < fld p 0 1 ∨ 128 < fld p 1 1 then done stBadArgument s
    else done stOk (shipConfig (netConfig s p) 0x0103 p))

/-- The ordering codes of 00 Table 0.1. -/
def orderingCodes : List String := ["CFM-8420-A-01", "CFM-8420-A-08", "CFM-8420-E-01", "CFM-8420-E-08"]

/-- The ordering code marked on the module, 16 bytes. -/
def orderingBytes : List Byte := padTo 16 (ascii (orderingCodes.getD (Config.orderingCode % 4) ""))

/-- STEWARD and CHERVIL of Table 5.2. -/
def stewardVersion : Nat := 3 * 2 ^ 24 + Config.stewardBuild % 2 ^ 24

/-- Bytes 0 to 43 of the SYSTEM_INFO response (Table 5.2), which the attestation statement repeats (18 Table 18.5). -/
def systemBytes (s : State) : List Byte :=
  orderingBytes ++ serialBytes ++ leBytes 4 stewardVersion ++ leBytes 4 Config.chervilVersion ++
    leBytes 4 (Config.silicon % 2 ^ 24) ++ leBytes 1 (b2n s.update.active) ++ leBytes 1 s.twin.role.code ++
    leBytes 2 (tenantCount s)

/-- SYSTEM_INFO (Table 5.2). -/
def execSystemInfo (r : Route) (tag : Nat) (s : State) : Host.Outcome State Fault Refusal :=
  .next (serve 0x0101 s r tag fun q s =>
    if q.payload ≠ [] then done stBadLength s
    else ((stOk, systemBytes s ++ leBytes 8 s.now ++ leBytes 4 0), s))

/-- No request of a transfer has arrived for 60 s (R158). -/
def execTransferTimeout (code : Nat) (s : State) : Host.Outcome State Fault Refusal :=
  .next (match transferOf s code with
    | some t => if t.last + 60 * nsSec ≤ s.now then abandonTransfer s t else s
    | none => s)

/-! ## Sessions (R139 to R144) -/

/-- SESSION_IDLE: values below 10 act as 10 (Table 4.14). -/
def sessionIdle (s : State) : Nat := max 10 (s.rfield rMbCtrl 8 8) * nsSec

/-- Step 1 of Table 4.11: the client's HELLO is acceptable. -/
def helloOk (s : State) (n : Nat) (p : List Byte) : Bool :=
  p.length == 42 && fld p 0 2 == 1 && decide (n < 64) && decide (s.mail.sessions.length < 64) &&
    decide (fld p 34 2 < nobody) && enrolled s (fld p 34 2) && decide (fld p 36 1 ≤ 3) &&
    (fld p 36 1 != 3 || fld p 34 2 == house) && fld p 37 1 == 0 &&
    (match credentialOf s (fld p 34 2) with
      | some k => k.handle == fld p 38 4
      | none => false)

/-- The vault takes part in an establishment: its island runs. -/
def vaultUp (s : State) : Bool := portStatus (s.isl iVLT) (s.epochOf iSAGE iVLT) == stOk && s.vault.ready

/-- A handshake message of the module. -/
def sendPlain (s : State) (n : Nat) (b : List Byte) : State :=
  { s with mail := { s.mail with sent := { session := n, body := b } :: s.mail.sent } }

/-- A session id drawn at random, never 0. -/
def freshId (v : Nat) : Nat := if v % 2 ^ 32 = 0 then 1 else v % 2 ^ 32

/-- Steps 1 and 2 of Table 4.11. -/
def sessionHello (s : State) (n : Nat) (p : List Byte) : State :=
  if !stewardReady s || !s.rbit rMbCtrl 1 || (tabGet s.mail.sessions n).isSome then s
  else if !helloOk s n p || !vaultUp s then sessionFail s
  else
    let (id, s) := s.draw
    let (nonce, s) := s.drawBytes 32
    let (seed, s) := s.draw
    let head := leBytes 4 (freshId id) ++ nonce ++ padTo 1568 (Config.kemPublic seed)
    let sig := padTo 4627 (Config.dsaSign (identitySeed s) (leBytes 64 (Config.sha3 (p ++ head)).toNat))
    let s := s.setSession n
      { stage := .offered, id := freshId id, tenant := fld p 34 2, role := fld p 36 1, credential := fld p 38 4
        transcript := p ++ head ++ sig, kemSeed := seed, keys := 0, rxNext := 0, txNext := 0, heard := s.now, kept := [] }
    sendPlain s n (head ++ sig)

/-- The digest of a transcript. -/
def transcriptHash (x : Session) : List Byte := leBytes 64 (Config.sha3 x.transcript).toNat

/-- A failed step closes the connection without a reply (R139). -/
def failSession (s : State) (n : Nat) : State :=
  sessionFail { s with mail := { s.mail with sessions := tabDel s.mail.sessions n } }

/-- Step 3 of Table 4.11, and the session keys of R140. -/
def sessionAccept (s : State) (n : Nat) (p : List Byte) : State :=
  match tabGet s.mail.sessions n with
  | none => s
  | some x =>
    if !stewardReady s || x.stage != .offered then s
    else if p.length ≠ 1568 ∨ !vaultUp s then failSession s n
    else
      match Config.kemDecap x.kemSeed p with
      | none => failSession s n
      | some shared =>
        let x := { x with transcript := x.transcript ++ p }
        let keys := leBytes 72 (Config.kmac (leBytes 32 shared) (transcriptHash x) 576 "CFM-8420 session")
        let h := s.vault.sessNext
        let s := { s with vault := { s.vault with sessKeys := tabSet s.vault.sessKeys h keys, sessNext := h + 1 } }
        s.setSession n { x with stage := .accepted, keys := h, heard := s.now }

/-- Opens a record: its counter and plaintext, when the counter is new and the tag correct (R141). -/
def openRecord (s : State) (x : Session) (p : List Byte) : Option (Nat × List Byte) :=
  let k := tabGetD s.vault.sessKeys x.keys []
  let ctr := fld p 0 8
  if p.length < 24 ∨ ctr < x.rxNext ∨ k.isEmpty then none
  else
    let c := sub p 8 (p.length - 24)
    let nonce := sub k 64 4 ++ leBytes 8 ctr
    let aad := leBytes 4 p.length ++ leBytes 8 ctr
    let key := leNat (sub k 0 32)
    if padTo 16 (Config.gcmTag key nonce aad c) = p.drop (p.length - 16) then
      some (ctr, padTo c.length (Config.gcmOpen key nonce aad c))
    else none

/-- A record was accepted: the counter moves on, and the session closes when it reaches 2^32. -/
def tookRecord (s : State) (n : Nat) (x : Session) (ctr : Nat) : State :=
  let s := s.setSession n { x with rxNext := ctr + 1, heard := s.now }
  if 2 ^ 32 ≤ ctr + 1 then closeSession s n else s

/-- Steps 4 and 5 of Table 4.11. -/
def sessionProof (s : State) (n : Nat) (p : List Byte) : State :=
  match tabGet s.mail.sessions n with
  | none => s
  | some x =>
    if !stewardReady s || x.stage != .accepted then s
    else
      match openRecord s x p with
      | none => failSession s n
      | some (ctr, tagBytes) =>
        let ok := vaultUp s && tagMatches s x.tenant (transcriptHash x) "CFM-8420 proof" tagBytes
        let s := if vaultUp s then useCredential s x.tenant else s
        if ok then sessionSend (tookRecord s n { x with stage := .established } ctr) n (leBytes 2 stOk)
        else
          let s := { s with vault := { s.vault with sessKeys := tabDel s.vault.sessKeys x.keys } }
          failSession s n

/-- A record of an established session (R141, R143). -/
def sessionRecord (s : State) (n : Nat) (p : List Byte) : State :=
  match tabGet s.mail.sessions n with
  | none => s
  | some x =>
    if !stewardReady s || x.stage != .established then s
    else
      match openRecord s x p with
      | none => sessionFail s
      | some (ctr, plain) =>
        let s := letIn (s.setSession n { x with rxNext := ctr + 1, heard := s.now }) (.session n) (padTo 32 plain) (plain.drop 32)
          (some (if plain.length < 32 then 2 ^ 32 else plain.length - 32))
        if 2 ^ 32 ≤ ctr + 1 then closeSession s n else s

/-- SESSION_IDLE seconds without a valid record (R144). -/
def sessionTimeout (s : State) (n : Nat) : State :=
  match tabGet s.mail.sessions n with
  | some x => if s.running iSAGE && decide (x.heard + sessionIdle s ≤ s.now) then closeSession s n else s
  | none => s

def execSessionHello (n : Nat) (body : List Byte) (s : State) : Host.Outcome State Fault Refusal := .next (sessionHello s n body)

def execSessionAccept (n : Nat) (body : List Byte) (s : State) : Host.Outcome State Fault Refusal := .next (sessionAccept s n body)

def execSessionProof (n : Nat) (body : List Byte) (s : State) : Host.Outcome State Fault Refusal := .next (sessionProof s n body)

def execSessionRecord (n : Nat) (body : List Byte) (s : State) : Host.Outcome State Fault Refusal := .next (sessionRecord s n body)

def execSessionIdleTimeout (n : Nat) (s : State) : Host.Outcome State Fault Refusal := .next (sessionTimeout s n)

def execSessionTcpClose (n : Nat) (s : State) : Host.Outcome State Fault Refusal := .next (closeSession s n)

end Sys2Proof.Machine
end

