-- ==== Sys2Proof/Machine/Bacnet.lean ====
section
/-! DEFINITION. The BACnet/SC profile (04 R145 to R149): services of a hub connection on the points of its tenant.
Numbers of object types, properties, classes and codes are ASHRAE 135's (log 19). -/

namespace Sys2Proof.Machine

/-- Object types of Table 4.12. -/
def bacAnalog (t : Nat) : Bool := t == 0 || t == 1 || t == 2
def bacBinary (t : Nat) : Bool := t == 3 || t == 4 || t == 5
def bacMulti (t : Nat) : Bool := t == 19

/-- Commandable types of Table 4.12. -/
def bacCommandable (t : Nat) : Bool := t == 1 || t == 2 || t == 4 || t == 5 || t == 19

/-- Properties the profile names. -/
abbrev bpEventState : Nat := 36
abbrev bpPresentValue : Nat := 85
abbrev bpPriorityArray : Nat := 87
abbrev bpReliability : Nat := 103
abbrev bpRelinquish : Nat := 104
abbrev bpStatusFlags : Nat := 111

/-- Errors of R146 and of Table 4.12. -/
def bacUnknown : BacAnswer := .error 1 31
def bacDenied : BacAnswer := .error 2 40
def bacRange : BacAnswer := .error 2 37
def bacNoSpace : BacAnswer := .error 3 19

/-- Limits of R146 and R149: objects of a device and of the module, COV subscriptions of a device. -/
abbrev bacPerDevice : Nat := 8192
abbrev bacPerModule : Nat := 65536
abbrev covLimit : Nat := 1024

/-- Point types an object type maps (Table 4.12). -/
def bacFits (t ptType : Nat) : Bool :=
  if bacAnalog t then [1, 2, 5, 6].contains ptType
  else if bacBinary t then ptType == 0
  else if bacMulti t then ptType == 7
  else t == 23 && [2, 4].contains ptType

/-- Where an object of a tenant's device stands. -/
def bacKey (tenant object : Nat) : Nat := tenant * 2 ^ 32 + object % 2 ^ 32

/-- An object of a tenant's device. -/
def bacObj (s : State) (tenant object : Nat) : Option BacObject :=
  (tabGet s.mail.bacObjects (bacKey tenant object)).filter (·.tenant == tenant)

/-- A point value as the binary32 code of a REAL, rounded to nearest (Table 4.12). -/
def bacReal (type : Nat) (v : Word64) : Nat :=
  let n := v.toNat
  if type = 1 then fofInt fmt32 (sInt 32 n)
  else if type = 2 then fofInt fmt32 (n % 2 ^ 32)
  else if type = 6 then fconv fmt64 fmt32 n
  else n % 2 ^ 32

/-- The Present_Value of an object from its point (Table 4.12). -/
def bacPresent (x : BacObject) (r : FabRes) : List Byte :=
  if bacAnalog x.type then beBytes 4 (bacReal r.type r.value)
  else if bacBinary x.type then beBytes 1 (r.value.toNat % 2)
  else if bacMulti x.type then beBytes 4 (r.value.toNat % 65536 + 1)
  else beBytes 4 (r.value.toNat % 2 ^ 32)

/-- Status_Flags of a quality: FAULT is bit 6, OVERRIDDEN bit 5 (Table 4.13). -/
def bacFlags (q : Nat) : Nat :=
  if q = qGood then 0 else if q = qForced ∨ q = qSubstituted then 0x20 else 0x40

/-- Reliability of a quality (Table 4.13), and of a refused write (R147). -/
def bacReliability (x : BacObject) (q : Nat) : Nat :=
  if x.configError then 10
  else if q = qStale then 12
  else if q = qAbsent then 1
  else if q = qOutOfRange then 2
  else if q = qCheckFailed ∨ q = qUninit then 7
  else 0

/-- A property of an object, its point read as its tenant; none when the access is refused (R146, R148). -/
def bacProperty (s : State) (tenant object property : Nat) : Option (List Byte) × State :=
  match bacObj s tenant object with
  | none => (none, s)
  | some x =>
    let (r, s) := readFrom s iSAGE 1 tenant x.pt
    if r.status ≠ stOk ∨ !bacFits x.type r.type then (none, s)
    else
      let b :=
        if property = bpPresentValue then bacPresent x r
        else if property = bpStatusFlags then beBytes 1 (bacFlags r.quality)
        else if property = bpReliability then beBytes 1 (bacReliability x r.quality)
        else if property = bpEventState then beBytes 1 (b2n (bacFlags r.quality == 0x40))
        else if property = bpPriorityArray then (x.priority.map fun v => match v with
          | some w => 1 :: beBytes 8 w.toNat
          | none => [0]).flatten
        else if property = bpRelinquish then beBytes 8 x.relinquish.toNat
        else Config.bacnetProperty object property
      (some b, s)

/-- A written Present_Value as the value of a point of a type; none when it is not representable (Table 4.12). -/
def bacConvert (x : BacObject) (type : Nat) (v : Word64) : Option Word64 :=
  let n := v.toNat % 2 ^ 32
  if bacAnalog x.type then
    if type = 6 then some (BitVec.ofNat 64 (fconv fmt32 fmt64 n))
    else if type = 5 then some (BitVec.ofNat 64 n)
    else
      match froundInt fmt32 n with
      | some (.ok i) =>
        if type = 1 then (if -(2 : Int) ^ 31 ≤ i ∧ i < (2 : Int) ^ 31 then some (BitVec.ofNat 64 (uNat 32 i)) else none)
        else if 0 ≤ i ∧ i < (2 : Int) ^ 32 then some (BitVec.ofNat 64 i.toNat)
        else none
      | _ => none
  else if bacBinary x.type then some (BitVec.ofNat 64 (v.toNat % 2))
  else if 1 ≤ v.toNat ∧ v.toNat ≤ 65536 then some (BitVec.ofNat 64 (v.toNat - 1))
  else none

/-- The winning value of a priority array (R147). -/
def bacWinner (x : BacObject) : Word64 := ((x.priority.find? Option.isSome).bind id).getD x.relinquish

/-- Replaces an object. -/
def putBac (s : State) (object : Nat) (x : BacObject) : State :=
  { s with mail := { s.mail with bacObjects := tabSet s.mail.bacObjects (bacKey x.tenant object) x } }

/-- WriteProperty: the priority array, and the point when the winning value changes or a refused write waits to succeed
(R147). Present_Value of a commandable object alone is written; a point whose type Table 4.12 does not give the object
refuses. -/
def bacWrite (s : State) (n tenant object property priority : Nat) (v : Option Word64) : BacAnswer × State :=
  match bacObj s tenant object with
  | none => (bacUnknown, s)
  | some x =>
    let type := (s.point x.pt).type
    if property != bpPresentValue || !bacCommandable x.type || !bacFits x.type type || priority == 0 || decide (16 < priority) || onStandby s then (bacDenied, s)
    else if v.any fun w => (bacConvert x type w).isNone then (bacRange, s)
    else
      let y := { x with priority := x.priority.set (priority - 1) v }
      if bacWinner y = bacWinner x ∧ !x.configError then (.ack, putBac s object y)
      else
        match bacConvert y type (bacWinner y) with
        | none => (bacRange, putBac s object { y with configError := true })
        | some w =>
          let (st, s) := writeFrom s iSAGE 1 tenant (routeWriter (.session n)) x.pt type qGood w 0
          if st = stOk then (.ack, putBac s object { y with configError := false })
          else (bacDenied, putBac s object { y with configError := true })

/-- Answers on a connection. -/
def bacAnswer (s : State) (a : BacAnswer) : State := { s with mail := { s.mail with bacSent := a :: s.mail.bacSent } }

/-- The items of ReadPropertyMultiple, read in order. -/
def bacMany (s : State) (tenant : Nat) : List (Nat × Nat) → List (Nat × Nat × Option (List Byte)) × State
  | [] => ([], s)
  | (o, p) :: rest =>
    let (b, s) := bacProperty s tenant o p
    let (bs, s) := bacMany s tenant rest
    ((o, p, b) :: bs, s)

/-! ## The device (R145, R146) -/

/-- A tenant asks for its device: Steward keeps the URIs of its hubs. -/
def bacAsk (s : State) (tenant : Nat) (primary failover : List Byte) : State :=
  if nobody ≤ tenant ∨ !enrolled s tenant then bacAnswer s (.status stNotPermitted)
  else
    let hubs : BacHubs := { primary := primary, failover := failover }
    bacAnswer { s with mail := { s.mail with bacHubs := tabSet s.mail.bacHubs tenant hubs } } (.status stOk)

/-- The tenant holds the operational certificate's key (18 R501). -/
def operational (s : State) (tenant : Nat) : Bool := (credentialOf s tenant).any (·.operational.isSome)

/-- A hub connection of the tenant stands. -/
def bacConnected (s : State) (tenant : Nat) : Bool := s.mail.sessions.any fun p => p.2.stage == .bacnet && p.2.tenant == tenant

/-- A device may connect to a hub in a free slot: the profile runs, fewer than 64 sessions are open, the tenant has the
certificate's key in a vault that answers, named that hub, and has no connection yet. -/
def bacMayConnect (s : State) (n tenant : Nat) (failover : Bool) : Bool :=
  s.rbit rMbCtrl 2 && decide (n < 64) && (tabGet s.mail.sessions n).isNone && decide (s.mail.sessions.length < 64) &&
    ((tabGet s.mail.bacHubs tenant).any fun h => !(if failover then h.failover else h.primary).isEmpty) &&
    vaultUp s && operational s tenant && !bacConnected s tenant

/-- A hub connection: one session slot, bound to its tenant with the role OPERATOR (R142, R145). It has no session id. -/
def bacConnect (s : State) (n tenant : Nat) (failover : Bool) : State :=
  if bacMayConnect s n tenant failover then
    s.setSession n
      { stage := .bacnet, id := 0, tenant := tenant, role := 1, credential := 0, transcript := [], kemSeed := 0, keys := 0
        rxNext := 0, txNext := 0, heard := s.now, kept := [] }
  else s

/-- Steward maps an object onto a point, within the limits of R146 (22: STORE_FULL). -/
def bacMap (s : State) (tenant object type pt : Nat) (relinquish : Word64) : State :=
  if (tabGet s.mail.bacHubs tenant).isNone then bacAnswer s (.status stNotPermitted)
  else if !bacFits type (s.point pt).type then bacAnswer s (.status stBadArgument)
  else if (bacObj s tenant object).isNone ∧ (bacPerModule ≤ s.mail.bacObjects.length ∨
      bacPerDevice ≤ (s.mail.bacObjects.filter fun p => p.2.tenant == tenant).length) then
    bacAnswer s (.status stStoreFull)
  else
    let x : BacObject :=
      { tenant := tenant, type := type, pt := pt, priority := List.replicate 16 none, relinquish := relinquish
        configError := false }
    bacAnswer (putBac s object x) (.status stOk)

/-! ## Changes of value (R149) -/

/-- Whether a connection has subscribed to an object. -/
def bacSubscribed (s : State) (n object : Nat) : Bool := s.mail.cov.any fun c => c.session == n && c.object == object

/-- SubscribeCOV: taken once, within the device's limit, or cancelled. -/
def bacSubscribe (s : State) (n tenant object : Nat) (cancel : Bool) : State :=
  if (bacObj s tenant object).isNone then bacAnswer s bacUnknown
  else if cancel then
    bacAnswer { s with mail := { s.mail with
      cov := s.mail.cov.filter fun c => !(c.session == n && c.object == object) } } .ack
  else if bacSubscribed s n object then bacAnswer s .ack
  else if covLimit ≤ (s.mail.cov.filter (·.session == n)).length then bacAnswer s bacNoSpace
  else
    let c : CovSub := { session := n, object := object, last := none }
    bacAnswer { s with mail := { s.mail with cov := s.mail.cov ++ [c] } } .ack

/-- A subscribed object is looked at: a Present_Value or Status_Flags other than those last notified, or none notified
yet, is notified. -/
def bacCovDue (s : State) (n tenant object : Nat) : State :=
  if !bacSubscribed s n object then s
  else
    match bacProperty s tenant object bpPresentValue with
    | (none, s) => s
    | (some v, s) =>
      match bacProperty s tenant object bpStatusFlags with
      | (none, s) => s
      | (some f, s) =>
        let now := some (v, (f.getD 0 0).toNat)
        if s.mail.cov.any fun c => c.session == n && c.object == object && c.last == now then s
        else
          let cov := s.mail.cov.map fun c => if c.session == n && c.object == object then { c with last := now } else c
          bacAnswer { s with mail := { s.mail with cov := cov } } (.notify object v (f.getD 0 0).toNat)

/-! ## Services (R145, R149) -/

/-- A service on a hub connection. -/
def bacServe (s : State) (n : Nat) (x : Session) (svc : BacnetService) : State :=
  match svc with
  | .whoIs => bacAnswer s (.iAm x.tenant)
  | .readProperty o p =>
    let (b, s) := bacProperty s x.tenant o p
    bacAnswer s (match b with
      | some b => .value o p b
      | none => bacUnknown)
  | .readPropertyMultiple items =>
    let (bs, s) := bacMany s x.tenant items
    bacAnswer s (.multiple bs)
  | .writeProperty o p pr v =>
    let (a, s) := bacWrite s n x.tenant o p pr v
    bacAnswer s a
  | .subscribeCOV o cancel => bacSubscribe s n x.tenant o cancel
  | .other _ => bacAnswer s (.reject 9)
  | .covDue .. | .ask .. | .connect .. | .map .. => s

/-- What reaches the profile on a slot. What comes from the hub counts as a valid record of the connection (R144). -/
def bacService (s : State) (n : Nat) (svc : BacnetService) : State :=
  if !stewardReady s then s
  else
    match svc with
    | .ask t p f => bacAsk s t p f
    | .connect t f => bacConnect s n t f
    | .map t o ty pt r => bacMap s t o ty pt r
    | svc =>
      match tabGet s.mail.sessions n with
      | none => s
      | some x =>
        if x.stage != .bacnet || !s.rbit rMbCtrl 2 then s
        else
          match svc with
          | .covDue o => bacCovDue s n x.tenant o
          | svc => bacServe (s.setSession n { x with heard := s.now }) n x svc

def execBacnetService (n : Nat) (svc : BacnetService) (s : State) : Host.Outcome State Fault Refusal := .next (bacService s n svc)

end Sys2Proof.Machine
end

