-- ==== Sys2Proof/Machine/Points.lean ====
section
/-! DEFINITION. The point, force, share and slice commands of Steward (05 Table 5.1, R160 to R163; 03 R87 to R97, R572,
R573), and direct accesses of the fabric (03 R90, R92). -/

namespace Sys2Proof.Machine

/-! ## Lists of points -/

/-- Performs a list of identifiers with a response in the shape of POINT_DEFINE: one crossing an entry (R156, R157). -/
def pointList (s : State) (es : List (List Byte)) (f : List Byte → State → Nat × State) : List (Nat × List Byte) × State :=
  eachEntry s es fun e s =>
    let (st, s) := crossStatus s iSAGE iPF 1 fun s => f e s
    ((st, keyEntry (fld e 0 4) st), s)

/-- The payload of a plain list of identifiers: u16 n, u16 0, n × u32. A list whose response would be longer than R120
allows is turned away (log 71). -/
def pointListOk (p : List Byte) : Nat :=
  if p.length ≠ 4 + 4 * fld p 0 2 ∨ p.length < 4 then stBadLength
  else if fld p 2 2 ≠ 0 ∨ 507 < fld p 0 2 then stBadArgument
  else stOk

/-- A command over a plain list of identifiers; `after` takes the identifiers it was performed on. -/
def listCommand (code : Nat) (s : State) (r : Route) (tag : Nat) (f : Nat → Nat → State → Nat × State)
    (after : List (List Byte) → State → State) : State :=
  serve code s r tag fun q s =>
    let p := q.payload
    let st := pointListOk p
    if st ≠ stOk then done st s
    else
      let t := routeTenant s q.route
      let es := entriesAt p 4 4 (fld p 0 2)
      let (rs, s) := pointList s es fun e s => f t (fld e 0 4) s
      ((stOk, listResponse rs), after (performedEntries es rs) s)

/-- POINT_DEFINE's payload is formed: its length, and no reserved byte set (R152). -/
def defineOk (p : List Byte) : Nat :=
  let n := fld p 0 2
  if p.length < 4 ∨ p.length ≠ 4 + 8 * n then stBadLength
  else if fld p 2 2 ≠ 0 ∨ (entriesAt p 4 8 n).any fun e => fld e 6 2 != 0 then stBadArgument
  else stOk

/-- The bytes of a list's payload before its entries: u16 n, u16 0. -/
def listHead (n : Nat) : List Byte := leBytes 2 n ++ leBytes 2 0

/-- The tenant of the slice that holds an identifier: on a standby the tenant of a shipped definition (log 37). -/
def shippedTenant (s : State) (pt : Nat) : Nat := (sliceTenant s pt).getD nobody

/-! ## POINT_READ and POINT_WRITE -/

/-- One entry of POINT_READ's response (Table 5.3, R161). -/
def readEntry (pt : Nat) (r : FabRes) : List Byte :=
  leBytes 4 pt ++ leBytes 2 r.status ++ leBytes 1 r.type ++ leBytes 1 r.quality ++ leBytes 8 r.value.toNat ++
    leBytes 8 r.time

def execPointRead (r : Route) (tag : Nat) (s : State) : Host.Outcome State Fault Refusal :=
  .next (serve 0x0201 s r tag fun q s =>
    let p := q.payload
    let n := fld p 0 2
    if p.length < 4 ∨ p.length ≠ 4 + 4 * n then done stBadLength s
    else if fld p 2 2 ≠ 0 ∨ n = 0 ∨ 169 < n then done stBadArgument s
    else
      let t := routeTenant s q.route
      let (rs, s) := eachEntry s (entriesAt p 4 4 n) fun e s =>
        let (a, s) := readFrom s iSAGE 1 t (fld e 0 4)
        ((a.status, readEntry (fld e 0 4) a), s)
      ((stOk, listResponse rs), s))

def execPointWrite (r : Route) (tag : Nat) (s : State) : Host.Outcome State Fault Refusal :=
  .next (serve 0x0202 s r tag fun q s =>
    let p := q.payload
    let n := fld p 0 2
    if p.length < 8 ∨ p.length ≠ 8 + 24 * n then done stBadLength s
    else if !allZero (sub p 2 6) ∨ n = 0 ∨ 169 < n ∨ (entriesAt p 8 24 n).any fun e => fld e 6 2 != 0 then
      done stBadArgument s
    else
      let t := routeTenant s q.route
      let w := routeWriter q.route
      let (rs, s) := eachEntry s (entriesAt p 8 24 n) fun e s =>
        let (st, s) := writeFrom s iSAGE 1 t w (fld e 0 4) (fld e 4 1) (fld e 5 1) (BitVec.ofNat 64 (fld e 8 8)) (fld e 16 8)
        ((st, keyEntry (fld e 0 4) st), s)
      ((stOk, listResponse rs), s))

/-! ## Definition and claims -/

def execPointDefine (r : Route) (tag : Nat) (s : State) : Host.Outcome State Fault Refusal :=
  .next (serve 0x0203 s r tag fun q s =>
    let p := q.payload
    let st := defineOk p
    if st ≠ stOk then done st s
    else
      let t := routeTenant s q.route
      let es := entriesAt p 4 8 (fld p 0 2)
      let (rs, s) := pointList s es fun e s => defineEntry s t (fld e 0 4) (fld e 4 1) (fld e 5 1) 0
      ((stOk, listResponse rs), shipList s 0x0203 listHead (performedEntries es rs)))

def execPointUndefine (r : Route) (tag : Nat) (s : State) : Host.Outcome State Fault Refusal :=
  .next (listCommand 0x0204 s r tag (fun t pt s => undefineEntry s t pt) fun es s => shipList s 0x0204 listHead es)

def execPointClaim (r : Route) (tag : Nat) (s : State) : Host.Outcome State Fault Refusal :=
  .next (listCommand 0x0205 s r tag (fun t pt s => claimEntry s t (routeWriter r) pt) fun _ s => s)

def execPointRelease (r : Route) (tag : Nat) (s : State) : Host.Outcome State Fault Refusal :=
  .next (listCommand 0x0206 s r tag (fun t pt s => releaseEntry s t (routeWriter r) pt) fun _ s => s)

/-! ## Forces -/

/-- FORCE_SET (Table 5.5, R163). -/
def execForceSet (r : Route) (tag : Nat) (s : State) : Host.Outcome State Fault Refusal :=
  .next (serve 0x0207 s r tag fun q s =>
    let p := q.payload
    if p.length ≠ 16 then done stBadLength s
    else if !allZero (sub p 5 3) then done stBadArgument s
    else toIsland s iPF fun s =>
      let ((st, i), s) := forceSet s (routeTenant s q.route) (fld p 0 4) (fld p 4 1) (BitVec.ofNat 64 (fld p 8 8))
      ((st, if st = stOk then leBytes 2 i ++ leBytes 2 s.fabric.forces.length else []), s))

/-- FORCE_CLEAR (R163). -/
def execForceClear (r : Route) (tag : Nat) (s : State) : Host.Outcome State Fault Refusal :=
  .next (serve 0x0208 s r tag fun q s =>
    let p := q.payload
    if p.length ≠ 4 then done stBadLength s
    else toIsland s iPF fun s =>
      let t := routeTenant s q.route
      let ((st, n), s) :=
        if fld p 0 4 = 0xFFFFFFFF then
          let (n, s) := forceClearAll s t
          ((stOk, n), s)
        else forceClear s t (fld p 0 4)
      ((st, if st = stOk then leBytes 2 n ++ leBytes 2 s.fabric.forces.length else []), s))

/-- One entry of FORCE_LIST. -/
def forceListEntry (f : Force) : List Byte :=
  leBytes 4 f.pt ++ leBytes 1 f.type ++ leBytes 1 f.entryQuality ++ leBytes 2 0 ++ leBytes 8 f.value.toNat ++ leBytes 8 f.time

/-- FORCE_LIST: the forces from an index on points the route may read, as many as fit in 4,064 bytes (log 38). -/
def execForceList (r : Route) (tag : Nat) (s : State) : Host.Outcome State Fault Refusal :=
  .next (serve 0x0209 s r tag fun q s =>
    let p := q.payload
    if p.length ≠ 4 then done stBadLength s
    else if fld p 2 2 ≠ 0 then done stBadArgument s
    else toIsland s iPF fun s =>
      let t := routeTenant s q.route
      let all := s.fabric.forces.filter fun x => decide (fld p 0 2 ≤ x.1) && judge s x.2.pt t 0 .read == stOk
      let fs := all.take 169
      let next := match all.drop 169 with
        | [] => 0xFFFF
        | x :: _ => x.1
      ((stOk, leBytes 2 fs.length ++ leBytes 2 next ++ leBytes 4 0 ++ (fs.map fun x => forceListEntry x.2).flatten), s))

/-! ## Shares -/

/-- A share entry from its 8 bytes (Table 3.5). -/
def shareOfBytes (p : List Byte) : Share :=
  let g (o : Nat) : Nat × Nat := (bitsOf (fld p o 2) 0 12, bitsOf (fld p o 2) 12 4)
  { owner := fld p 0 2, grants := [g 2, g 4, g 6] }

/-- SHARE_SET (R89). -/
def execShareSet (r : Route) (tag : Nat) (s : State) : Host.Outcome State Fault Refusal :=
  .next (serve 0x020A s r tag fun q s =>
    let p := q.payload
    if p.length ≠ 12 then done stBadLength s
    else if fld p 2 2 ≠ 0 ∨ bitsOf (fld p 4 2) 12 4 ≠ 0 then done stBadArgument s
    else toIsland s iPF fun s =>
      let ((st, i), s) := shareSet s (routeTenant s q.route) (fld p 0 2) (shareOfBytes (p.drop 4))
      if st = stOk then ((stOk, leBytes 2 i), shipConfig s 0x020A (leBytes 2 i ++ p.drop 2)) else done st s)

/-- SHARE_DELETE (R89). -/
def execShareDelete (r : Route) (tag : Nat) (s : State) : Host.Outcome State Fault Refusal :=
  .next (serve 0x020B s r tag fun q s =>
    let p := q.payload
    if p.length ≠ 4 then done stBadLength s
    else if fld p 2 2 ≠ 0 then done stBadArgument s
    else toIsland s iPF fun s =>
      let (st, s) := shareDelete s (routeTenant s q.route) (fld p 0 2)
      done st (if st = stOk then shipConfig s 0x020B p else s))

/-- SHARE_LINK (R88, R89). -/
def execShareLink (r : Route) (tag : Nat) (s : State) : Host.Outcome State Fault Refusal :=
  .next (serve 0x020C s r tag fun q s =>
    let p := q.payload
    let n := fld p 2 2
    if p.length < 4 ∨ p.length ≠ 4 + 4 * n then done stBadLength s
    else if 507 < n then done stBadArgument s
    else
      let t := routeTenant s q.route
      let es := entriesAt p 4 4 n
      let (rs, s) := pointList s es fun e s => shareLink s t (fld p 0 2) (fld e 0 4)
      ((stOk, listResponse rs), shipList s 0x020C (fun n => leBytes 2 (fld p 0 2) ++ leBytes 2 n) (performedEntries es rs)))

/-! ## Slices -/

/-- SLICE_SET (R87). -/
def execSliceSet (r : Route) (tag : Nat) (s : State) : Host.Outcome State Fault Refusal :=
  .next (serve 0x020D s r tag fun q s =>
    let p := q.payload
    if p.length ≠ 16 then done stBadLength s
    else if fld p 2 2 ≠ 0 ∨ fld p 14 2 ≠ 0 then done stBadArgument s
    else toIsland s iPF fun s =>
      let (st, s) := sliceSet s (fld p 0 2) (fld p 4 4) (fld p 8 4) (fld p 12 2)
      done st (if st = stOk then shipConfig s 0x020D p else s))

/-- SLICE_LIST: a tenant route sees its own slices only. -/
def execSliceList (r : Route) (tag : Nat) (s : State) : Host.Outcome State Fault Refusal :=
  .next (serve 0x020E s r tag fun q s =>
    let p := q.payload
    if p.length ≠ 4 then done stBadLength s
    else if fld p 2 2 ≠ 0 then done stBadArgument s
    else toIsland s iPF fun s =>
      let t := routeTenant s q.route
      let all := s.fabric.slices.filter fun x => decide (fld p 0 2 ≤ x.1) && (t == house || x.2.tenant == t)
      let ss := all.take 338
      let next := match all.drop 338 with
        | [] => 0xFFFF
        | x :: _ => x.1
      let es := ss.map fun x => leBytes 2 x.1 ++ leBytes 2 x.2.tenant ++ leBytes 4 x.2.base ++ leBytes 4 x.2.count
      ((stOk, leBytes 2 ss.length ++ leBytes 2 next ++ es.flatten), s))

/-! ## Direct accesses (R90, R92): what the fabric answers stands in `outs` (log 6) -/

/-- The fabric's answer at the requester. -/
def fabAnswer (s : State) (r : FabRes) : State :=
  { s with outs := { s.outs with
      fabStatus := r.status, fabType := r.type, fabQuality := r.quality, fabOut := r.value.toNat, fabTime := r.time } }

/-- The tenant of the path a writer id names, where the path fixes one (R86, Tables 3.6 and 3.7): a task's, a loop's, a
device's, an object's, a route's, house for metering and Chervil. The tenant of a tenant accumulator, of a PEER frame and of
a series stands in the request. -/
def pathTenant (s : State) (writer : Nat) : Option Nat :=
  let n := writer % 2 ^ 28
  match writer / 2 ^ 28 with
  | 1 => (cfgOf s (n % 16)).map TaskCfg.tenant
  | 2 => (tabGet s.loops.loops (n % 1024)).map (·.cfg.tenant)
  | 3 => if n % 256 = 2 then none else some house
  | 4 => (s.fabric.devices.find? fun d => d.port == bitsOf n 20 4 && d.address == n % 1024).map Device.tenant
  | 5 => objTenant s (bitsOf n 8 3) (n % 256)
  | 6 => (routeBind s (if bitOf n 6 then .session (n % 64) else .mailbox (n % 64))).map Bind.tenant
  | 9 => some house
  | _ => none

/-- The requester as its path makes it: Sage core 1 asks as the partition's tenant, under writer id kind 0x7 (Table 3.6). -/
def pathOf (s : State) (who : Requester) : Requester :=
  if who.writer / 2 ^ 28 = 7 then { who with tenant := s.mail.partition, writer := 7 * 2 ^ 28 }
  else { who with tenant := (pathTenant s who.writer).getD who.tenant }

/-- A point read by an island's logic or a core. -/
def execFabricRead (who : Requester) (pt : Nat) (s : State) : Host.Outcome State Fault Refusal :=
  let (r, s) := readFrom s who.island 0 (pathOf s who).tenant pt
  .next (fabAnswer s r)

/-- A point write by an island's logic or a core. -/
def execFabricWrite (who : Requester) (pt type quality : Nat) (value : Word64) (time : Nat) (s : State) :
    Host.Outcome State Fault Refusal :=
  let (st, s) := writeFrom s who.island 0 (pathOf s who).tenant (pathOf s who).writer pt type quality value time
  .next (fabAnswer s { status := st })

end Sys2Proof.Machine
end

