-- ==== Sys2Proof/Machine/Bus.lean ====
section
/-! DEFINITION. The bus channels (15): settings, objects, receiving, queues, requests and arbitration, errors and bus-off,
sleep and wake, and the commands on them. -/

namespace Sys2Proof.Machine

/-! ## Channels and objects -/

/-- A channel. -/
def State.chan (s : State) (c : Nat) : Chan := tabGetD s.bus.chans c {}
def State.setChan (s : State) (c : Nat) (x : Chan) : State := { s with bus := { s.bus with chans := tabSet s.bus.chans c x } }

/-- An object of a channel. -/
def State.obj (s : State) (c n : Nat) : Option BusObj := tabGet (s.chan c).objects n
def State.setObj (s : State) (c n : Nat) (o : BusObj) : State :=
  s.setChan c { s.chan c with objects := tabSet (s.chan c).objects n o }
def State.dropObj (s : State) (c n : Nat) : State := s.setChan c { s.chan c with objects := tabDel (s.chan c).objects n }

/-- An event bit and a counter of a channel. -/
def State.bcEvent (s : State) (c bit : Nat) : State := s.raise (rBcCEvent c) bit
def State.bcCount (s : State) (c a : Nat) : State := s.stick a (rBcCEvent c) 8

/-- Flags of an object (Table 15.3). -/
def ObjCfg.flag (o : ObjCfg) (i : Nat) : Bool := bitOf o.flags i

/-- Bytes a point takes in a frame (R409). -/
def pointBytes (type : Nat) : Nat := max 1 (typeWidth type / 8)

/-- A channel mode bit (Table 15.2). -/
def Chan.mode (x : Chan) (i : Nat) : Bool := bitOf x.cfg.mode i
def Chan.protocol (x : Chan) : Nat := bitsOf x.cfg.mode 0 2

/-- The state in which a channel takes part: restricted where the module does not control the floor (R423, 16 R437). -/
def joined (s : State) (x : Chan) : ChanState :=
  if x.mode 4 then .monitoring else if s.controls then .normal else .restricted

/-- Channels that take part follow the module's role (R423, 16 R437, R446). -/
def busRole (s : State) : State :=
  (List.range 8).foldl (fun s c =>
    let x := s.chan c
    match x.state with
    | .normal => s.setChan c { x with state := joined s x }
    | .restricted => s.setChan c { x with state := joined s x }
    | _ => s) s

/-- The stamp of an instant (R417). -/
def busStamp (t : Nat) : Nat := t / 100 % 2 ^ 32

/-- The channel hears the bus. -/
def hearing (s : State) (c : Nat) : Bool :=
  s.running iBUS && decide (c < 8) &&
    match (s.chan c).state with
    | .normal => true | .restricted => true | .monitoring => true
    | _ => false

/-! ## Settings (R405, R407) -/

/-- Channel settings from their 28 bytes (Table 15.2). -/
def busCfgOf (p : List Byte) : BusCfg :=
  { mode := fld p 0 1, nbrp := fld p 2 2, ntseg1 := fld p 4 1, ntseg2 := fld p 5 1, nsjw := fld p 6 1
    dbrp := fld p 8 1, dtseg1 := fld p 9 1, dtseg2 := fld p 10 1, dsjw := fld p 11 1, dtdc := fld p 12 1
    xbrp := fld p 13 1, xtseg1 := fld p 14 1, xtseg2 := fld p 15 1, xsjw := fld p 16 1, xtdc := fld p 17 1
    wakeFilter := fld p 18 1 }

/-- A field within a range. -/
def inRange (v lo hi : Nat) : Bool := decide (lo ≤ v) && decide (v ≤ hi)

/-- A data phase within its ranges, at least 4 quanta and not faster than a number of Mbit/s. -/
def phaseOk (brp t1 t2 sjw mbit : Nat) : Bool :=
  inRange brp 1 32 && inRange t1 1 63 && inRange t2 1 32 && inRange sjw 1 32 && decide (sjw ≤ t2) &&
    decide (4 ≤ 1 + t1 + t2) && decide (80 ≤ mbit * brp * (1 + t1 + t2))

/-- The settings satisfy R405 on a channel. -/
def busCfgOk (c : Nat) (x : BusCfg) : Bool :=
  let proto := bitsOf x.mode 0 2
  let xl := if proto = 2 then phaseOk x.xbrp x.xtseg1 x.xtseg2 x.xsjw 20
    else x.xbrp == 0 && x.xtseg1 == 0 && x.xtseg2 == 0 && x.xsjw == 0
  decide (x.mode < 128) && decide (proto ≤ 2) && (proto != 2 || decide (c ≤ 1)) &&
    inRange x.nbrp 1 256 && inRange x.ntseg1 1 255 && inRange x.ntseg2 1 128 && inRange x.nsjw 1 128 &&
    decide (x.nsjw ≤ x.ntseg2) && decide (8 ≤ 1 + x.ntseg1 + x.ntseg2) &&
    decide (80 ≤ x.nbrp * (1 + x.ntseg1 + x.ntseg2)) && phaseOk x.dbrp x.dtseg1 x.dtseg2 x.dsjw 8 && xl &&
    inRange x.wakeFilter 1 63

/-- BUS_CONFIG's settings are accepted: Steward keeps them, and they wait for the end of the frame on the bus. -/
def busConfig (s : State) (p : List Byte) : Nat × State :=
  let c := fld p 0 1
  let q := p.drop 4
  let x := busCfgOf q
  if fld q 1 1 ≠ 0 ∨ fld q 7 1 ≠ 0 ∨ !allZero (q.drop 19) ∨ !busCfgOk c x then (stBadArgument, s)
  else
    let s := s.setChan c { s.chan c with newCfg := some x }
    (stOk, { s with bus := { s.bus with savedCfg := tabSet s.bus.savedCfg c x } })

/-- BUS_CONFIG (0x0A01). -/
def execBusConfig (r : Route) (tag : Nat) (s : State) : Host.Outcome State Fault Refusal :=
  .next (serve 0x0A01 s r tag fun q s =>
    let p := q.payload
    if p.length ≠ 32 then done stBadLength s
    else if 7 < fld p 0 1 ∨ fld p 1 3 ≠ 0 then done stBadArgument s
    else toIsland s iBUS fun s =>
      let (st, s) := busConfig s p
      done st (if st = stOk then shipConfig s 0x0A01 p else s))

/-- Settings take force: the error counters clear and the channel integrates; a bus-off channel starts its recovery
(R407, R418). -/
def applyCfg (s : State) (c : Nat) (x : BusCfg) : State :=
  let o := s.chan c
  let off := o.state == .busOff
  s.setChan c { o with
    cfg := x, newCfg := none, txErr := 0, rxErr := 0, recovering := off && bitOf x.mode 6
    state := if !bitOf x.mode 6 then .disabled else if off then .busOff else .integrating }

/-- BUS_CONFIG_APPLY: the frame on the bus has ended. -/
def busConfigApply (s : State) (c : Nat) : State :=
  if !s.running iBUS || decide (8 ≤ c) then s
  else
    match (s.chan c).newCfg with
    | some x => applyCfg s c x
    | none => s

def execBusConfigApply (ch : Nat) (s : State) : Host.Outcome State Fault Refusal := .next (busConfigApply s ch)

/-- BUS_INTEGRATED: 11 recessive bits. -/
def execBusIntegrated (ch : Nat) (s : State) : Host.Outcome State Fault Refusal :=
  .next (if s.running iBUS && (s.chan ch).state == .integrating && decide (ch < 8) then
      s.setChan ch { s.chan ch with state := joined s (s.chan ch) }
    else s)

/-! ## Objects (R408, R409) -/

/-- Object settings from their 24 bytes (Table 15.3). -/
def objCfgOf (p : List Byte) : ObjCfg :=
  { kind := fld p 0 1, flags := fld p 1 1, queue := fld p 2 1, retry := fld p 3 1, id := fld p 4 4, mask := fld p 8 4
    pt := fld p 12 4, offset := fld p 16 1, type := fld p 17 1, count := fld p 18 1, length := fld p 19 1
    period := fld p 20 2, xlLength := fld p 22 2 }

/-- Data lengths of a Classical or FD frame. -/
def dataLengths (fd : Bool) : List Nat := List.range 9 ++ if fd then [12, 16, 20, 24, 32, 48, 64] else []

/-- The fields of an object are within Table 15.3 on a channel. -/
def objCfgOk (c : Nat) (o : ObjCfg) : Bool :=
  let k := o.kind
  let xl := o.flag 3
  let points := k == 1 || k == 3
  let send := k == 3 || k == 4
  let width := o.offset + o.count * pointBytes o.type
  decide (k ≤ 5) && !o.flag 7 && (!xl || ((k == 2 || k == 4) && decide (c ≤ 1))) && (!o.flag 6 || k == 5) &&
    (if k = 2 then inRange o.queue 1 64 else o.queue == 0) && (send || o.retry == 0) &&
    decide (o.id < 2 ^ (if o.flag 0 then 29 else 11)) && decide (o.mask < 2 ^ 29) &&
    (if points then
      decide (o.pt < pointCount) && decide (o.type ≤ 7) && inRange o.count 1 64 && decide (width ≤ 64) &&
        (k == 1 || decide (width ≤ o.length))
    else if k = 5 then true
    else decide (o.pt < (if xl then 8 else 1)) && o.offset == 0 && o.type == 0 && o.count == 0) &&
    (if k = 5 then true else if send && !xl then (dataLengths (o.flag 1)).contains o.length else o.length == 0) &&
    (if k = 3 then decide (o.period ≤ 60000) else if k = 5 then decide (o.period < 16) else o.period == 0) &&
    (if k = 4 ∧ xl then inRange o.xlLength 1 2048 else o.xlLength == 0)

/-- The points of an object of kinds 1 and 3. -/
def objPoints (o : ObjCfg) : List Nat :=
  if o.kind = 1 ∨ o.kind = 3 then (List.range o.count).map (o.pt + ·) else []

/-- The objects a queue takes in beyond its first, and its XL buffers: one buffer an object (R408; log 52). -/
def queueRest (n : Nat) (o : ObjCfg) : List Nat := if o.kind = 2 then (List.range (o.queue - 1)).map (n + 1 + ·) else []
def xlBuffers (o : ObjCfg) : List Nat :=
  if o.flag 3 then (List.range (max 1 o.queue)).map (o.pt % 8 + ·) else []

/-- The objects of a queue may be taken, and each XL buffer is free. -/
def roomFor (s : State) (c n : Nat) (o : ObjCfg) : Bool :=
  let mine (k : Nat) (y : BusObj) : Bool := k == n || y.head == some n
  (queueRest n o).all (fun k => decide (k < 256) && (s.obj c k).all fun y => y.cfg.kind == 0 && (y.head.isNone || y.head == some n)) &&
    (xlBuffers o).all fun b => decide (b < 8) &&
      !(s.chan c).objects.any fun p => !mine p.1 p.2 && p.2.cfg.flag 3 && p.2.cfg.pt % 8 == b

/-- Claims for an object of kind 1, reads judged for kind 3 (R409): the first refusal, with nothing claimed. -/
def objRights (s : State) (c n tenant : Nat) (o : ObjCfg) : Nat × State :=
  let w := busWriter c n
  let (st, new, s) := (objPoints o).foldl (fun (a : Nat × List Nat × State) pt =>
    if a.1 ≠ stOk then a
    else if o.kind = 1 then
      let held := holdsClaim a.2.2 pt w
      let (st, s) := crossStatus a.2.2 iBUS iPF 3 fun s => tryClaim s tenant w pt
      (st, if held then a.2.1 else pt :: a.2.1, s)
    else
      let (st, s) := crossStatus a.2.2 iBUS iPF 4 fun s => judged s pt tenant 0 .read
      (st, a.2.1, s)) (stOk, [], s)
  if st = stOk then (st, s)
  else (st, new.foldl (fun s pt => releaseHeld s pt w) s)

/-- Claims of an object that its new settings do not keep are released. -/
def dropObjClaims (s : State) (c n : Nat) (keep : List Nat) : State :=
  match s.obj c n with
  | some y =>
    if y.cfg.kind ≠ 1 then s
    else ((objPoints y.cfg).filter fun pt => !keep.contains pt).foldl (fun s pt => releaseHeld s pt (busWriter c n)) s
  | none => s

/-- The objects of a queue headed by n leave it, but for those to keep. -/
def dropQueue (s : State) (c n : Nat) (keep : List Nat) : State :=
  ((s.chan c).objects.filter fun p => p.2.head == some n && !keep.contains p.1).foldl (fun s p => s.dropObj c p.1) s

/-- The first multiple of a kind 3 object's PERIOD after an instant. -/
def periodAfter (o : ObjCfg) (t : Nat) : Nat := (t / (o.period * nsMs) + 1) * (o.period * nsMs)

/-- An object as it is set anew. -/
def newObj (s : State) (o : ObjCfg) (tenant : Nat) : BusObj :=
  { cfg := o, tenant := tenant
    state := if o.kind = 0 then .unused else if o.kind = 3 ∨ o.kind = 4 then .ready else .empty
    data := List.replicate o.length 0
    dueAt := if o.period = 0 then 0 else periodAfter o s.tai }

/-- An object is set: another kind loses what the old one held; a queue set again keeps the entries of the objects that
stay in it, and its pointer while that lies in it (R408). -/
def putObj (s : State) (c n tenant : Nat) (o : ObjCfg) : State :=
  let s := dropQueue (dropObjClaims s c n (if o.kind = 1 then objPoints o else [])) c n (queueRest n o)
  let fresh := newObj s o tenant
  let s :=
    if o.kind = 0 then s.dropObj c n
    else
      match s.obj c n with
      | some y =>
        if y.cfg.kind = 2 ∧ o.kind = 2 then
          s.setObj c n { y with
            cfg := { o with length := y.cfg.length }, tenant := tenant
            next := if n ≤ y.next ∧ y.next < n + o.queue then y.next else n }
        else if y.cfg.kind = o.kind then
          s.setObj c n { y with cfg := o, tenant := tenant, data := padTo o.length y.data, dueAt := fresh.dueAt }
        else s.setObj c n { fresh with next := n }
      | none => s.setObj c n { fresh with next := n }
  (queueRest n o).foldl (fun s k =>
    let cfg := { o with kind := 0, queue := 0, pt := if o.flag 3 then o.pt + (k - n) else 0 }
    s.setObj c k (match s.obj c k with
      | some z => { z with cfg := { cfg with length := z.cfg.length }, tenant := tenant }
      | none => { newObj s cfg tenant with state := .empty, head := some n })) s

/-- Steward keeps an object's settings (R424). -/
def saveObj (s : State) (c n tenant : Nat) (o : ObjCfg) : State :=
  { s with bus := { s.bus with savedObj :=
      if o.kind = 0 then tabDel s.bus.savedObj (c * 256 + n) else tabSet s.bus.savedObj (c * 256 + n) (tenant, o) } }

/-- BUS_OBJECT_SET in BUS, for a tenant (R408, R409). -/
def busObjectSet (s : State) (tenant : Nat) (p : List Byte) : Nat × State :=
  let c := fld p 0 1
  let n := fld p 1 1
  let o := objCfgOf (p.drop 4)
  if !objCfgOk c o then (stBadArgument, s)
  else if (s.obj c n).any fun y => y.tenant != tenant then (stTenantMismatch, s)
  else if (s.obj c n).any (fun y => y.head.isSome) || !roomFor s c n o then (stBadArgument, s)
  else if (o.kind = 2 ∨ o.kind = 4) ∧ tenant ≠ s.mail.partition then (stNotPermitted, s)
  else
    let (st, s) := objRights s c n tenant o
    if st ≠ stOk then (st, s) else (stOk, saveObj (putObj s c n tenant o) c n tenant o)

/-- BUS_OBJECT_SET (0x0A02). -/
def execBusObjectSet (r : Route) (tag : Nat) (s : State) : Host.Outcome State Fault Refusal :=
  .next (serve 0x0A02 s r tag fun q s =>
    let p := q.payload
    if p.length ≠ 28 then done stBadLength s
    else if 7 < fld p 0 1 ∨ fld p 2 2 ≠ 0 then done stBadArgument s
    else
      let t := routeTenant s q.route
      toIsland s iBUS fun s =>
        let (st, s) := busObjectSet s t p
        done st (if st = stOk then shipConfig s 0x0A02 p else s))

/-- The tenant of an object shipped to a standby (log 37). -/
def shippedObjTenant (s : State) (p : List Byte) : Nat :=
  let o := objCfgOf (p.drop 4)
  if o.kind = 1 ∨ o.kind = 3 then (sliceTenant s o.pt).getD nobody
  else if o.kind = 2 ∨ o.kind = 4 then s.mail.partition
  else ((s.obj (fld p 0 1) (fld p 1 1)).map BusObj.tenant).getD house

/-! ## Receiving (R410 to R413) -/

/-- A frame matches an object by identifier and format (R410). -/
def objMatches (o : ObjCfg) (f : BusFrame) : Bool :=
  o.flag 0 == f.ide && o.flag 1 == f.fd && o.flag 3 == f.xl && o.flag 4 == f.rtr && (f.id &&& o.mask) == (o.id &&& o.mask)

/-- The value of point i of an object in frame data (R409). -/
def frameValue (o : ObjCfg) (i : Nat) (data : List Byte) : Word64 :=
  let w := pointBytes o.type
  let b := sub data (o.offset + i * w) w
  let v := leNat (if o.flag 5 then b.reverse else b)
  BitVec.ofNat 64 (if o.type = 0 then v % 2 else v)

/-- An object counts a refused entry. -/
def countDenied (s : State) (c n : Nat) : State := s.bcCount c (rBcObj c n 0x18)

/-- A receive point object takes a frame (R411). -/
def takePoints (s : State) (c n : Nat) (y : BusObj) (f : BusFrame) : State :=
  let o := y.cfg
  if f.data.length < o.offset + o.count * pointBytes o.type then s.bcCount c (rBcShort c)
  else (List.range o.count).foldl (fun s i =>
    let (st, s) := writeFrom s iBUS 3 y.tenant (busWriter c n) (o.pt + i) o.type qGood (frameValue o i f.data) f.sof
    if st = stOk then s else countDenied s c n) s

/-- A receive queue takes a frame (R412). -/
def takeQueue (s : State) (c n : Nat) (y : BusObj) (f : BusFrame) : State :=
  let q := y.qseq
  let s := s.setObj c n { y with qseq := (q + 1) % 65536 }
  match s.obj c y.next with
  | none => s
  | some z =>
    if z.state = .full then (s.bcCount c (rBcRxLost c)).bcEvent c 6
    else
      let z := { z with
        state := .full, data := if f.xl then [] else f.data, fid := f.id, fide := f.ide, ffd := f.fd, frtr := f.rtr
        stamp := busStamp f.sof, seq := q, xlHdr := f.xlHdr, xlAf := f.xlAf
        cfg := { z.cfg with length := f.data.length } }
      let s := s.setObj c y.next z
      let s := if f.xl then { s with bus := { s.bus with
          xl := memWriteList s.bus.xl (c * 16384 + z.cfg.pt % 8 * 2048) (f.data.take 2048) } } else s
      let nxt := if y.next + 1 < n + y.cfg.queue then y.next + 1 else n
      match s.obj c n with
      | some h => (s.setObj c n { h with next := nxt }).bcEvent c 0
      | none => s

/-- The first receive object that matches a frame. -/
def firstMatch (s : State) (c : Nat) (f : BusFrame) : Option (Nat × BusObj) :=
  (s.chan c).objects.find? fun p => (p.2.cfg.kind == 1 || p.2.cfg.kind == 2) && p.2.head.isNone && objMatches p.2.cfg f

/-- A channel's protocol takes a frame's format. -/
def formatOk (x : Chan) (f : BusFrame) : Bool := (!f.fd || decide (1 ≤ x.protocol)) && (!f.xl || x.protocol == 2)

/-- The error state of a channel after its counters changed: passive and bus-off (ISO 11898-1, R418). -/
def errorState (s : State) (c : Nat) (old : Chan) : State :=
  let x := s.chan c
  let passive (y : Chan) : Bool := decide (127 < y.txErr) || decide (127 < y.rxErr)
  if 255 < x.txErr then
    ((s.setChan c { x with state := .busOff, recovering := x.mode 3 }).bcEvent c 4).bcCount c (rBcBusOff c)
  else if passive x && !passive old then s.bcEvent c 3 else s

/-- A frame was received: the receive error counter goes down (ISO 11898-1); restricted operation leaves it (log 52). -/
def goodReceive (s : State) (c : Nat) : State :=
  let x := s.chan c
  if x.state = .restricted ∨ x.rxErr = 0 then s
  else if x.rxErr ≤ 127 then s.setChan c { x with rxErr := x.rxErr - 1 }
  else
    let (d, s) := s.draw
    s.setChan c { x with rxErr := 119 + d % 9 }

/-- BUS_FRAME_RECEIVE (R410). -/
def busFrameReceive (s : State) (c : Nat) (f : BusFrame) : State :=
  if !hearing s c || !formatOk (s.chan c) f then s
  else
    let s := goodReceive ((s.wakeIsl iBUS).bcCount c (rBcRxf c)) c
    match firstMatch s c f with
    | none => s.bcCount c (rBcNoMatch c)
    | some (n, y) => if y.cfg.kind = 1 then takePoints s c n y f else takeQueue s c n y f

def execBusFrameReceive (ch : Nat) (f : BusFrame) (s : State) : Host.Outcome State Fault Refusal :=
  .next (busFrameReceive s ch f)

/-- BC_RXACK: a full object goes back to hardware (R413). -/
def rxAck (s : State) (c n : Nat) : State :=
  match s.obj c n with
  | some y => if y.state = .full then s.setObj c n { y with state := .empty } else s
  | none => s

def execBcRxackWrite (by_ : Agent) (ch : Nat) (value : Word) (s : State) : Host.Outcome State Fault Refusal :=
  .next (if 8 ≤ ch then s else writeRow s by_ (rBcRxAck ch) value.toNat fun s => rxAck s ch (value.toNat % 256))

/-- BUS_RECEIVE_ERROR (R418, R419). -/
def receiveError (s : State) (c kind : Nat) (byException : Bool) : State :=
  if !hearing s c then s
  else
    let x := s.chan c
    if byException && x.mode 5 then s.setChan c { x with state := .integrating }
    else
      let s := s.setChan c { x with
        lastError := if byException then 2 else kind % 8
        rxErr := if x.state = .restricted then x.rxErr else min 255 (x.rxErr + 1) }
      errorState s c x

def execBusReceiveError (ch kind : Nat) (byProtocolException : Bool) (s : State) : Host.Outcome State Fault Refusal :=
  .next (receiveError s ch kind byProtocolException)

/-! ## Sending (R414 to R416) -/

/-- The bytes of a point of a kind 3 object. -/
def valueBytes (o : ObjCfg) (v : Word64) : List Byte :=
  let b := leBytes (pointBytes o.type) (if o.type = 0 then v.toNat % 2 else v.toNat)
  if o.flag 5 then b.reverse else b

/-- A kind 3 object reads its points (R414). -/
def readPoints (s : State) (c n : Nat) (y : BusObj) : List Byte × State :=
  (List.range y.cfg.count).foldl (fun (a : List Byte × State) i =>
    let (r, s) := readFrom a.2 iBUS 4 y.tenant (y.cfg.pt + i)
    if r.status = stOk then (overlay a.1 (y.cfg.offset + i * pointBytes y.cfg.type) (valueBytes y.cfg r.value), s)
    else (a.1, countDenied s c n)) (y.data, s)

/-- A request of a send object (R414). -/
def requestObj (s : State) (c n : Nat) : State :=
  match s.obj c n with
  | none => s
  | some y =>
    if y.cfg.kind ≠ 3 ∧ y.cfg.kind ≠ 4 then s
    else if y.state = .pending ∨ y.state = .onBus then s.bcCount c (rBcObj c n 0x1C)
    else
      let (d, s) := if y.cfg.kind = 3 then readPoints s c n y else (y.data, s)
      s.setObj c n { y with state := .pending, data := d, retries := 0, retryStuck := false, abortDue := false }

/-- BUS_PERIOD_REQUEST. -/
def periodRequest (s : State) (c n : Nat) : State :=
  match s.obj c n with
  | none => s
  | some y =>
    if !s.running iBUS || y.cfg.kind != 3 || y.cfg.period == 0 then s
    else
      let due := if s.tai + y.cfg.period * nsMs < y.dueAt then periodAfter y.cfg s.tai else y.dueAt
      if s.tai < due then s
      else requestObj ((s.wakeIsl iBUS).setObj c n { y with dueAt := periodAfter y.cfg s.tai }) c n

def execBusPeriodRequest (ch object : Nat) (s : State) : Host.Outcome State Fault Refusal := .next (periodRequest s ch object)

def execBcTxreqWrite (by_ : Agent) (ch : Nat) (value : Word) (s : State) : Host.Outcome State Fault Refusal :=
  .next (if 8 ≤ ch then s else writeRow s by_ (rBcTxReq ch) value.toNat fun s => requestObj s ch (value.toNat % 256))

/-- The order of arbitration (ISO 11898-1): base identifier, RTR or SRR, IDE, extension, RTR, FDF, XLF; then the number. -/
def arbitrationKey (n : Nat) (o : ObjCfg) : List Nat :=
  let ide := o.flag 0
  let plain := o.flag 1 || o.flag 3
  [if ide then o.id / 2 ^ 18 else o.id % 2 ^ 11, b2n (ide || (o.flag 4 && !plain)), b2n ide,
    if ide then o.id % 2 ^ 18 else 0, b2n (ide && o.flag 4 && !plain), b2n plain, b2n (o.flag 3), n]

def keyLess : List Nat → List Nat → Bool
  | a :: as, b :: bs => if a < b then true else if b < a then false else keyLess as bs
  | _, _ => false

/-- The object the channel offers: the one on the bus, or the pending one that wins (R415). -/
def offered (s : State) (c : Nat) : Option (Nat × BusObj) :=
  let os := (s.chan c).objects
  match os.find? fun p => p.2.state == .onBus with
  | some p => some p
  | none => (os.filter fun p => p.2.state == .pending).foldl (fun b p =>
      match b with
      | some q => if keyLess (arbitrationKey p.1 p.2.cfg) (arbitrationKey q.1 q.2.cfg) then some p else b
      | none => some p) none

/-- The channel may start a frame. -/
def maySend (s : State) (c : Nat) : Bool :=
  s.running iBUS && !(s.isl iBUS).draining && (s.chan c).state == .normal && s.acts

/-- Whether the offered object's attempt is on the bus now: the manual gives no row for its start, so it is free (log 52). -/
def settleBus (s : State) (c : Nat) : State :=
  match offered s c with
  | some (n, y) =>
    if y.state = .onBus ∨ !maySend s c then s
    else
      let (d, s) := s.draw
      if d % 2 = 0 then s else s.setObj c n { y with state := .onBus }
  | none => s

/-- The frame an object sends. -/
def frameOf (s : State) (c : Nat) (y : BusObj) (sof : Nat) : BusFrame :=
  let o := y.cfg
  let xl := o.flag 3
  let data := if xl then memReadList s.bus.xl (c * 16384 + o.pt % 8 * 2048) o.xlLength else y.data
  let n := data.length
  { ide := o.flag 0, fd := o.flag 1, xl := xl, rtr := o.flag 4, id := o.id
    dlc := if xl then n - 1 else if n ≤ 8 then n else ((dataLengths true).findIdx? (· == n)).getD 15
    data := if o.flag 4 then [] else data, xlHdr := y.xlHdr, xlAf := y.xlAf, sof := sof }

/-- A request ends ABORTED (R415, R416). -/
def abortObj (s : State) (c n : Nat) (y : BusObj) (cause : Nat) : State :=
  (s.setObj c n { y with state := .ready, sent := false, aborted := true, cause := cause, abortDue := false }).bcEvent c 2

/-- An attempt is repeated, or the request ends (R415). -/
def failAttempt (s : State) (c n : Nat) (y : BusObj) (cause : Nat) : State :=
  let y := { y with retries := min 255 (y.retries + 1), retryStuck := y.retryStuck || y.retries == 255 }
  if y.abortDue then abortObj s c n y 3
  else if y.cfg.retry ≠ 255 ∧ y.cfg.retry < y.retries then abortObj s c n y cause
  else s.setObj c n { y with state := .pending }

/-- BUS_TX_ATTEMPT_END. -/
def attemptEnd (s : State) (c n : Nat) (outcome : BusTxEnd) : State :=
  match offered s c with
  | none => s
  | some (k, y) =>
    let sending := s.running iBUS && (s.chan c).state == .normal && (y.state == .onBus || maySend s c)
    if k ≠ n ∨ !sending then s
    else
      let x := s.chan c
      match outcome with
      | .sent sof =>
        let s := s.setChan c { x with txErr := x.txErr - 1 }
        let s := s.setObj c n { y with
          state := .ready, sent := true, aborted := false, cause := 0, abortDue := false, stamp := busStamp sof }
        let s := { s with outs := { s.outs with busFrames := (c, frameOf s c y sof) :: s.outs.busFrames } }
        (s.bcCount c (rBcTxf c)).bcEvent c 1
      | .lostArbitration => failAttempt s c n y 1
      | .error kind =>
        let passive := decide (127 < x.txErr) || decide (127 < x.rxErr)
        let s := s.setChan c { x with
          lastError := kind % 8, txErr := if kind = 3 ∧ passive then x.txErr else x.txErr + 8 }
        errorState (failAttempt s c n y 2) c x

def execBusTxAttemptEnd (ch object : Nat) (outcome : BusTxEnd) (s : State) : Host.Outcome State Fault Refusal :=
  .next (if 8 ≤ ch then s else attemptEnd s ch object outcome)

/-- BC_TXABORT (R416). -/
def txAbort (s : State) (c n : Nat) : State :=
  let s := settleBus s c
  match s.obj c n with
  | some y =>
    if y.state = .pending then abortObj s c n y 3
    else if y.state = .onBus then s.setObj c n { y with abortDue := true } else s
  | none => s

def execBcTxabortWrite (by_ : Agent) (ch : Nat) (value : Word) (s : State) : Host.Outcome State Fault Refusal :=
  .next (if 8 ≤ ch then s else writeRow s by_ (rBcTxAbort ch) value.toNat fun s => txAbort s ch (value.toNat % 256))

/-! ## Bus-off (R418) -/

/-- BC_CCTRL.RECOVER. -/
def recoverChan (s : State) (c : Nat) : State :=
  let x := s.chan c
  if x.state = .busOff then s.setChan c { x with recovering := true } else s

/-- A write of BC_CCTRL with RECOVER set. -/
def execRecover (by_ : Agent) (ch : Nat) (value : Word) (s : State) : Host.Outcome State Fault Refusal :=
  .next (if 8 ≤ ch then s else writeRow s by_ (rBcCCtrl ch) (value.toNat ||| 0x100) fun s => recoverChan s ch)

/-- BUS_OFF_RECOVERED: the channel rejoins. -/
def busOffRecovered (s : State) (c : Nat) : State :=
  let x := s.chan c
  if s.running iBUS && x.state == .busOff && x.recovering then
    s.setChan c { x with state := joined s x, recovering := false, txErr := 0, rxErr := 0 }
  else s

def execBusOffRecovered (ch : Nat) (s : State) : Host.Outcome State Fault Refusal := .next (busOffRecovered s ch)

/-! ## Sleep and wake (R420 to R422) -/

/-- A channel wakes (R422). -/
def wakeChan (s : State) (c cause : Nat) : State :=
  ((s.wakeIsl iBUS).setChan c { s.chan c with
    state := .integrating, wakeCause := cause, sleepMode := 0, sleepDue := 0, wakeErr := 0 }).bcEvent c 5

/-- BUS_SLEEP in BUS. -/
def busSleep (s : State) (c mode : Nat) : Nat × State :=
  let x := s.chan c
  if 2 < mode ∨ (mode = 2 ∧ !x.objects.any fun p => p.2.cfg.kind == 5) then (stBadArgument, s)
  else if mode = 0 then
    (stOk, if x.state = .asleep then wakeChan s c 4 else s.setChan c { x with sleepDue := 0 })
  else (stOk, s.setChan c { x with sleepDue := mode })

/-- BUS_SLEEP (0x0A04). -/
def execBusSleep (r : Route) (tag : Nat) (s : State) : Host.Outcome State Fault Refusal :=
  .next (serve 0x0A04 s r tag fun q s =>
    let p := q.payload
    if p.length ≠ 4 then done stBadLength s
    else if 7 < fld p 0 1 ∨ fld p 2 2 ≠ 0 then done stBadArgument s
    else toIsland s iBUS fun s =>
      let (st, s) := busSleep s (fld p 0 1) (fld p 1 1)
      done st (if st = stOk then shipConfig s 0x0A04 p else s))

/-- BUS_SLEEP_ENTRY: the frame in progress has ended. -/
def sleepEntry (s : State) (c : Nat) : State :=
  let x := s.chan c
  if !s.running iBUS || x.sleepDue == 0 then s
  else if x.objects.any fun p => p.2.state == .onBus then s
  else if x.state = .disabled then s.setChan c { x with sleepDue := 0 }
  else s.setChan c { x with state := .asleep, sleepMode := x.sleepDue, sleepDue := 0, wakeErr := 0 }

def execBusSleepEntry (ch : Nat) (s : State) : Host.Outcome State Fault Refusal := .next (sleepEntry s ch)

/-- BUS_WAKE_EDGE (R421). -/
def execBusWakeEdge (ch : Nat) (s : State) : Host.Outcome State Fault Refusal :=
  .next (if s.running iBUS && (s.chan ch).state == .asleep && (s.chan ch).sleepMode == 1 then wakeChan s ch 1 else s)

/-- A valid frame matches a wake object (R421). -/
def wakeMatches (o : ObjCfg) (f : BusFrame) : Bool :=
  let mask := leBytes 4 o.pt ++ [o.offset, o.type, o.count, o.length].map (BitVec.ofNat 8)
  o.flag 0 == f.ide && (f.id &&& o.mask) == (o.id &&& o.mask) && (!o.flag 6 || f.dlc == o.period % 16) &&
    (allZero mask || (List.zipWith (fun a b => a &&& b) mask f.data).any (· != 0))

/-- BUS_WAKE_FRAME (R421). -/
def wakeFrame (s : State) (c : Nat) (seen : BusWake) : State :=
  let x := s.chan c
  if !s.running iBUS || x.state != .asleep || x.sleepMode != 2 then s
  else
    match seen with
    | .frame f =>
      if f.fd || f.xl then s
      else if x.objects.any fun p => p.2.cfg.kind == 5 && wakeMatches p.2.cfg f then wakeChan s c 2
      else s.setChan c { x with wakeErr := x.wakeErr - 1 }
    | .erroneous => if x.wakeErr + 1 = 32 then wakeChan s c 3 else s.setChan c { x with wakeErr := x.wakeErr + 1 }

def execBusWakeFrame (ch : Nat) (seen : BusWake) (s : State) : Host.Outcome State Fault Refusal := .next (wakeFrame s ch seen)

/-! ## Status and registers (R425, R426) -/

def ChanState.code : ChanState → Nat
  | .disabled => 0 | .integrating => 1 | .normal => 2 | .restricted => 3 | .monitoring => 4 | .asleep => 5 | .busOff => 6

def ObjState.code : ObjState → Nat
  | .unused => 0 | .empty => 1 | .full => 2 | .ready => 3 | .pending => 4 | .onBus => 5

/-- The 32 bytes of Table 15.5; the measured delay of TDC is free (R406; log 52). -/
def chanStatus (s : State) (c : Nat) : List Byte × State :=
  let x := s.chan c
  let passive := decide (127 < x.txErr) || decide (127 < x.rxErr)
  let (d, s) := if bitOf x.cfg.dtdc 7 || bitOf x.cfg.xtdc 7 then s.draw else (0, s)
  let flags := b2n passive + b2n (decide (127 < d % 256)) * 2 + b2n (s.rbit (rBcCEvent c) 5) * 4
  (leBytes 1 c ++ leBytes 1 x.state.code ++ leBytes 1 (min 255 x.txErr) ++ leBytes 1 (min 255 x.rxErr) ++ leBytes 1 flags ++
    leBytes 1 x.lastError ++ leBytes 1 x.wakeCause ++ leBytes 1 d ++
    ([rBcRxf c, rBcTxf c, rBcNoMatch c, rBcRxLost c, rBcBusOff c].map fun a => leBytes 4 (s.reg a)).flatten ++
    leBytes 4 (busStamp s.tai), s)

/-- BUS_STATUS (0x0A03). -/
def execBusStatus (r : Route) (tag : Nat) (s : State) : Host.Outcome State Fault Refusal :=
  .next (serve 0x0A03 s r tag fun q s =>
    let p := q.payload
    if p.length ≠ 4 then done stBadLength s
    else if 7 < fld p 0 1 ∨ fld p 1 3 ≠ 0 then done stBadArgument s
    else toIsland s iBUS fun s =>
      let (b, s) := chanStatus s (fld p 0 1)
      ((stOk, b), s))

/-- BC_CCTRL, BC_CSTAT and the timing registers (Table 15.6; the fields' places in a timing word, log 52). -/
def chanRead (s : State) (c off : Nat) : Nat :=
  let x := s.chan c
  let phase (brp t1 t2 sjw : Nat) : Nat := brp % 64 + t1 % 64 * 256 + t2 % 64 * 65536 + sjw % 64 * 0x1000000
  if off = 0 then x.cfg.mode
  else if off = 4 then
    x.state.code + min 255 x.txErr * 256 + min 255 x.rxErr * 65536 + x.lastError % 8 * 0x1000000
  else if off = 0x10 then
    x.cfg.nbrp % 512 + x.cfg.ntseg1 % 256 * 512 + x.cfg.ntseg2 % 128 * 2 ^ 17 + x.cfg.nsjw % 128 * 2 ^ 24
  else if off = 0x14 then phase x.cfg.dbrp x.cfg.dtseg1 x.cfg.dtseg2 x.cfg.dsjw
  else if off = 0x18 then phase x.cfg.xbrp x.cfg.xtseg1 x.cfg.xtseg2 x.cfg.xsjw
  else if off = 0x1C then busStamp s.tai
  else 0

/-- The data bytes of an object as its registers show them. -/
def objLength (y : BusObj) : Nat := if y.cfg.kind = 4 ∧ y.cfg.flag 3 then y.cfg.xlLength else y.cfg.length

/-- A read of a register of an object; DENIED and LATE clear as they are read. -/
def objRead (s : State) (c n off : Nat) : Nat × State :=
  let s := if off = 0 then settleBus s c else s
  if off = 0x18 ∨ off = 0x1C then (s.reg (rBcObj c n off), s.setReg (rBcObj c n off) 0)
  else
    match s.obj c n with
    | none => (0, s)
    | some y =>
      let rx := y.cfg.kind == 2 || y.head.isSome
      let v :=
        if off = 0 then
          y.state.code + b2n y.sent * 8 + b2n y.aborted * 16 + y.cause * 32 + b2n y.retryStuck * 128 + y.retries % 256 * 256
        else if off = 4 then
          if rx then y.fid % 2 ^ 29 + b2n y.fide * 2 ^ 29 + b2n y.ffd * 2 ^ 30 + b2n y.frtr * 2 ^ 31
          else y.cfg.id % 2 ^ 29 + b2n (y.cfg.flag 0) * 2 ^ 29 + b2n (y.cfg.flag 1) * 2 ^ 30 + b2n (y.cfg.flag 4) * 2 ^ 31
        else if off = 8 then y.stamp
        else if off = 0xC then objLength y % 4096 + y.seq % 65536 * 65536
        else if off = 0x10 then y.xlHdr
        else if off = 0x14 then y.xlAf
        else if 0x40 ≤ off then fld y.data (off - 0x40) 4 else 0
      (v, s)

/-- Software may write the data of an object: it holds it (R414). -/
def softwareOwned (y : BusObj) : Bool := y.state == .ready || y.state == .full

/-- A write of a register of an object. -/
def objWrite (s : State) (c n off v : Nat) : State :=
  match s.obj c n with
  | none => s
  | some y =>
    if off = 0 then
      s.setObj c n { y with
        sent := y.sent && !bitOf v 3, aborted := y.aborted && !bitOf v 4, retryStuck := y.retryStuck && !bitOf v 7 }
    else if 0x40 ≤ off ∨ ((off = 0x10 ∨ off = 0x14) ∧ y.cfg.kind = 4) then
      if !softwareOwned y then s.bcEvent c 7
      else if off = 0x10 then s.setObj c n { y with xlHdr := v &&& 0xFF01FF }
      else if off = 0x14 then s.setObj c n { y with xlAf := v }
      else s.setObj c n { y with data := overlay y.data (off - 0x40) (leBytes 4 v) }
    else s

/-- The object an XL buffer serves. -/
def xlOwner (s : State) (c b : Nat) : Option BusObj :=
  ((s.chan c).objects.find? fun p => p.2.cfg.flag 3 && p.2.cfg.pt % 8 == b).map Prod.snd

/-- XL buffers: byte offsets within block 0x03. -/
def xlRead (s : State) (off : Nat) : Nat := leNat (memReadList s.bus.xl off 4)
def xlWrite (s : State) (off v : Nat) : State :=
  let c := off / 16384
  if (xlOwner s c (off % 16384 / 2048)).any fun y => !softwareOwned y then s.bcEvent c 7
  else { s with bus := { s.bus with xl := memWriteList s.bus.xl off (leBytes 4 v) } }

/-! ## Transitions of BUS (R424) -/

/-- BUS leaves RUN or IDLE: a frame in progress has completed or is lost with its attempt. -/
def busLeave (s : State) : State :=
  { s with bus := { s.bus with
      chans := tabMap (fun _ x => { x with
        objects := tabMap (fun _ y => if y.state = .onBus then { y with state := .pending } else y) x.objects }) s.bus.chans } }

/-- BUS returns from RETAIN: the channels integrate. -/
def busReturn (s : State) : State :=
  { s with bus := { s.bus with
      chans := tabMap (fun _ x => match x.state with
        | .disabled => x | .asleep => x | .busOff => x
        | _ => { x with state := .integrating }) s.bus.chans } }

/-- BUS loses objects, queues and settings. -/
def busLose (s : State) : State := { s with bus := { s.bus with chans := [], xl := [] } }

/-- Steward applies the last accepted settings and objects again. -/
def busEnter (s : State) : State :=
  let s := s.bus.savedCfg.foldl (fun s p => applyCfg s p.1 p.2) s
  s.bus.savedObj.foldl (fun s p => putObj s (p.1 / 256) (p.1 % 256) p.2.1 p.2.2) s

end Sys2Proof.Machine
end

