-- ==== Sys2Proof/Machine/Check.lean ====
section
/-! DEFINITION. The check units (20 R538 to R546): write-fed channels 10 to 15, and what the registers of every channel
show. -/

namespace Sys2Proof.Machine

/-- Width of a polynomial in bytes (20 Table 20.3). -/
def polyWidth (poly : Nat) : Nat := if poly ≤ 1 then 4 else if poly = 2 then 2 else 1

/-- The running register before the first byte (20 Table 20.3). -/
def polyInit (poly : Nat) : Word := if poly ≤ 1 then 0xFFFFFFFF else if poly = 2 then 0xFFFF else 0

/-- The running register after more bytes. -/
def polyRun (poly : Nat) (v : Word) (p : List Byte) : Word :=
  if poly = 0 then crcHdlcRun v p
  else if poly = 1 then crcIscsiRun v p
  else if poly = 2 then (crc16Run (v.setWidth 16) p).setWidth 32
  else (crc8Run (v.setWidth 8) p).setWidth 32

/-- The finished value, Xorout applied. -/
def polyOut (poly : Nat) (v : Word) : Word := if poly ≤ 1 then ~~~ v else v

/-- A new unit opens (20 R543 step 1). -/
def ChkChan.start (x : ChkChan) (poly : Nat) (dir : Bool) : ChkChan :=
  { x with poly := poly, dir := dir, value := polyInit poly, held := [], running := true, bytes := 0 }

/-- Bytes fed to an open unit; with DIR 1 the last bytes stay held back (20 R543 steps 2 and 3). -/
def ChkChan.feed (x : ChkChan) (p : List Byte) : ChkChan :=
  if !x.running then x
  else
    let all := x.held ++ p
    let n := if x.dir then all.length - polyWidth x.poly else all.length
    { x with
      value := polyRun x.poly x.value (all.take n)
      held := all.drop n
      bytes := (x.bytes + n) % 2 ^ 24 }

/-- FINISH (20 R543 step 5); a FINISH with no unit open has nothing to finish (log 23). -/
def chkFinish (s : State) (c : Nat) : State :=
  let x := s.chkChan c
  if !x.running then s
  else
    let short := x.dir && decide (x.held.length < polyWidth x.poly)
    let ok := decide (leNat x.held = (polyOut x.poly x.value).toNat)
    let s := s.setChkChan c
      { x with running := false, done := true, matched := if x.dir then ok && !short else x.matched }
    if short then s.chkAborted c
    else
      let s := s.chkCounted c
      if x.dir && !ok then s.chkFailed c else s

/-- A write of CHK_CTRLc: START, then FINISH. POLY and DIR are taken with START, or while no unit is open (log 23). -/
def chkCtrlWrite (s : State) (c v : Nat) : State :=
  if c < 10 then s
  else
    let x := s.chkChan c
    let start := bitOf v 8
    let s :=
      if start then
        let s := if x.running then s.chkAborted c else s
        s.setChkChan c (x.start (bitsOf v 0 2) (bitOf v 2))
      else if x.running then s
      else s.setChkChan c { x with poly := bitsOf v 0 2, dir := bitOf v 2 }
    if bitOf v 9 then chkFinish s c else s

/-- A write of CHK_INnc feeds n bytes, low byte first. -/
def chkInWrite (s : State) (c n v : Nat) : State :=
  if c < 10 then s else s.setChkChan c ((s.chkChan c).feed (leBytes n v))

/-- What CHK_CTRLc reads. -/
def chkCtrlRead (s : State) (c : Nat) : Nat :=
  let x := s.chkChan c
  x.poly + b2n x.dir * 4 + (if c < 10 then (c + 1) * 16 else 0)

/-- What CHK_RESULTc reads. -/
def chkResultRead (s : State) (c : Nat) : Nat :=
  let x := s.chkChan c
  (polyOut x.poly x.value).toNat

/-- What CHK_STATc reads. -/
def chkStatRead (s : State) (c : Nat) : Nat :=
  let x := s.chkChan c
  b2n x.running + b2n x.done * 2 + b2n x.matched * 4 + x.bytes * 256

end Sys2Proof.Machine
end

