-- ==== Sys2Proof/Machine/IrqRows.lean ====
section
/-! DEFINITION. The rows of the interrupt controller and of the write-fed check channels (20 R528 to R536, R543, R545,
R546). -/

namespace Sys2Proof.Machine

/-! ## Interrupt controller -/

/-- A claim by its own target (R531). -/
def claimRow (s : State) (by_ : Agent) (t : Nat) : State :=
  if 3 ≤ t then s else readRow s by_ (rIcTClaim t) fun s => claim s t

/-- IC_TCLAIM_READ. -/
def execIcTclaimRead (by_ : Agent) (t : Nat) (s : State) : Host.Outcome State Fault Refusal := .next (claimRow s by_ t)

/-- IC_TCOMPLETE_WRITE (R534, R535). -/
def execIcTcompleteWrite (by_ : Agent) (t : Nat) (value : Word) (s : State) : Host.Outcome State Fault Refusal :=
  .next (if 3 ≤ t then s
    else writeRow s by_ (rIcTComplete t) value.toNat fun s => complete s t (value.toNat % 256))

/-- A write of IC_TCTRL. -/
def ctrlWrite (s : State) (t v : Nat) : State := if bitOf v 0 then unfreezeTarget s t else s

/-- UNFREEZE: a write of IC_TCTRL with the bit set. -/
def execUnfreeze (by_ : Agent) (t : Nat) (value : Word) (s : State) : Host.Outcome State Fault Refusal :=
  .next (if 3 ≤ t then s else writeRow s by_ (rIcTCtrl t) value.toNat fun s => ctrlWrite s t value.toNat)

/-- IC_SWSET_WRITE. -/
def execIcSwsetWrite (by_ : Agent) (value : Word) (s : State) : Host.Outcome State Fault Refusal :=
  .next (writeRow s by_ rIcSwSet value.toNat fun s => swSet s (value.toNat % 256))

/-- IC_SWCLR_WRITE. -/
def execIcSwclrWrite (by_ : Agent) (value : Word) (s : State) : Host.Outcome State Fault Refusal :=
  .next (writeRow s by_ rIcSwClr value.toNat fun s => swClear s (value.toNat % 256))

/-- A write of IC_SRCn; Sage core 1 reaches EN alone (R545). -/
def srcWriteBy (s : State) (by_ : Agent) (n v : Nat) : State :=
  if by_ = Agent.core1 then s.setField (rIcSrc n) 8 1 (bitsOf v 8 1) else srcWrite s n v

/-- IC_SRC_WRITE. -/
def execIcSrcWrite (by_ : Agent) (n : Nat) (value : Word) (s : State) : Host.Outcome State Fault Refusal :=
  .next (if 256 ≤ n then s else writeRow s by_ (rIcSrc n) value.toNat fun s => srcWriteBy s by_ n value.toNat)

/-- MODERATION_END: the hold is over, or the target has become idle (R536). -/
def execModerationEnd (t : Nat) (s : State) : Host.Outcome State Fault Refusal :=
  .next (if 3 ≤ t then s
    else if targetIdle s t then s.setTarget t { s.target t with holdUntil := none }
    else moderationEnd s t)

/-! ## Check channels -/

/-- A write of CHK_CTRLc. -/
def chkCtrlRow (s : State) (by_ : Agent) (c v : Nat) : State :=
  if 16 ≤ c then s else writeRow s by_ (rChkCtrl c) v fun s => chkCtrlWrite s c v

/-- CHK_START: a write of CHK_CTRLc with START set. -/
def execChkStart (by_ : Agent) (c : Nat) (value : Word) (s : State) : Host.Outcome State Fault Refusal :=
  .next (chkCtrlRow s by_ c (value.toNat ||| 0x100))

/-- CHK_FINISH: a write of CHK_CTRLc with FINISH set. -/
def execChkFinish (by_ : Agent) (c : Nat) (value : Word) (s : State) : Host.Outcome State Fault Refusal :=
  .next (chkCtrlRow s by_ c (value.toNat ||| 0x200))

/-- A write of a CHK_INn register: n bytes, at the register's address. -/
def chkInRow (s : State) (by_ : Agent) (c n a v : Nat) : State :=
  if 16 ≤ c then s else writeRow s by_ a v fun s => chkInWrite s c n v

/-- CHK_IN8_WRITE. -/
def execChkIn8Write (by_ : Agent) (c : Nat) (value : Word) (s : State) : Host.Outcome State Fault Refusal :=
  .next (chkInRow s by_ c 1 (rChkIn8 c) value.toNat)

/-- CHK_IN16_WRITE. -/
def execChkIn16Write (by_ : Agent) (c : Nat) (value : Word) (s : State) : Host.Outcome State Fault Refusal :=
  .next (chkInRow s by_ c 2 (rChkIn16 c) value.toNat)

/-- CHK_IN32_WRITE. -/
def execChkIn32Write (by_ : Agent) (c : Nat) (value : Word) (s : State) : Host.Outcome State Fault Refusal :=
  .next (chkInRow s by_ c 4 (rChkIn32 c) value.toNat)

end Sys2Proof.Machine
end

