-- ==== Sys2Proof/Machine/Roles.lean ====
section
/-! DEFINITION. Role changes of a twin partner: giving up control (16 R436 to R438), withdrawing (R440), and what every
entry into a role does (R429, R446, 10 R309). -/

namespace Sys2Proof.Machine

/-- The islands of Table 16.5. -/
def selfIslands : List Nat := [iTHY, iLOOP, iMTR, iPF, iSW, iFLD, iBUS]

/-- Every island of Table 16.5 is in RUN or IDLE. -/
def islandsFit (s : State) : Bool := selfIslands.all fun i => s.running i

/-- The module is paired. -/
def paired (s : State) : Bool := s.twin.role != .single

/-- Whether the lease wires are in use (TW_CTRL.WIRE_EN). -/
def wireOn (s : State) : Bool := s.rbit rTwCtrl 2

/-- A release or withdrawal burst of 10 edges leaves on LEASE_OUT, which then stays low (R435). -/
def leaseBurstOut (s : State) : State :=
  if wireOn s then { s with twin := { s.twin with bursts := s.twin.bursts + 1, leaseOut := false } } else s

/-- Control is given up while a command marked S is in progress: it completes with LEASE_LOST (05 R155), but for the
TWIN_HANDOVER that gives it up. -/
def leaseLost (s : State) (handover : Bool) : State :=
  (s.mail.inProgress.filter fun q =>
    q.pended && (cmdOf q.command).any (·.s) && !(handover && q.command == 0x0B04)).foldl (fun s q => respond s q stLeaseLost []) s

/-- The module comes to compute in shadow (R437): an image operation not yet served does not happen, and a release of
LOOP not complete is abandoned (log 67). -/
def enterShadow (s : State) : State :=
  let ops := s.fabric.imageQueue
  let s := { s with fabric := { s.fabric with imageQueue := [] } }
  let s := ops.foldl (fun s o =>
    if o.gather then s.setTask o.task ((s.task o.task).abandoned (thRun s)) else completeCycle s o.task) s
  loopLeave (afterCycles s)

/-- The module stops computing in shadow (Table 16.8 step 5): a task that waits for a shipment waits for its next release,
a release of LOOP not complete is abandoned with its outputs still pending (log 67). -/
def leaveShadow (s : State) : State :=
  let run := thRun s
  let s := { s with thyme := { s.thyme with
    tasks := tabMap (fun _ (x : Task) =>
      let x := { x with shipped := [] }
      if x.state == TaskState.gathering && x.gathered.isNone then x.abandoned run else x) s.thyme.tasks } }
  loopLeave (afterCycles s)

/-- TEST_PERIOD in ns; 0 acts as 1 s (Table 16.15). -/
def testPeriod (s : State) : Nat := max 1 (s.rfield rTwCtrl 8 8) * nsSec

/-- A role is entered (Table 16.2): the last role change is recorded, FORMER_ACTIVE follows R429, bus channels follow the
role, and a standby reports its own totals until the first shipment (10 R309). -/
def enterRole (s : State) (role : TwinRole) (cause island : Nat) (cold : Bool) : State :=
  let former := if role == .active || role == .single then true else if role == .standby then false else s.twin.formerActive
  let was := s.shadow
  let s := { s with
    twin := { s.twin with
      role := role, formerActive := former, grantEnd := none, grantorEnd := none, released := none, withdrawn := false
      handover := none, handoverAgreed := false, renewing := false, answers := [], queryAt := s.now, renewAt := s.now
      answered := true, stateRx := none, stateFrag := [], fragNext := 0, ship := [], transfer := false, testDue := []
      testAt := s.now + testPeriod s }
    meter := { s.meter with reconValid := s.meter.reconValid && role != TwinRole.standby } }
  let s := s.setReg rTwCause (cause % 256 + island % 16 * 256 + b2n cold * 4096)
  let s := (s.setReg rTwTakeLo (s.tai % 2 ^ 32)).setReg rTwTakeHi (s.tai / 2 ^ 32 % 2 ^ 32)
  let s := busRole (s.twEvent 0)
  if was == s.shadow then s else if was then leaveShadow s else enterShadow s

/-- A module that holds no partner logs the cause and stays ACTIVE (R438). -/
def noteCause (s : State) (cause island : Nat) : State :=
  let s := s.logEvent lvFault iMGT 5 1 (cause + island * 256)
  if s.twin.causes.contains (cause, island) then s
  else { s with twin := { s.twin with causes := s.twin.causes ++ [(cause, island)] } }

/-- Control is given up (R437), at a handover boundary also with ALONE clear. -/
def giveUp (s : State) (cause island : Nat) : State :=
  if s.twin.role ≠ .active then s
  else if s.twin.alone then noteCause s cause island
  else
    let s := twinSend s 0x03 (leBytes 1 cause ++ leBytes 1 island ++ leBytes 2 0)
    let s := (leaseBurstOut s).twEvent 1
    let s := setReady (enterRole (leaseLost s (cause == 6)) .standby cause island false) false 7
    { s with twin := { s.twin with mute := false, partner := 1 } }

/-- A standby or pairing module withdraws and stops granting (R440); a cause in its own islands makes it not ready. -/
def withdraw (s : State) (cause island : Nat) : State :=
  if s.twin.role == .standby || s.twin.role == .pairing then
    let s := twinSend s 0x04 (leBytes 1 cause ++ leBytes 1 island ++ leBytes 2 0)
    let s := (leaseBurstOut s).twEvent 1
    let s := { s with twin := { s.twin with mute := true } }
    if cause = 4 ∨ s.twin.notReady ≠ 0 then s else notReady s 4
  else s

/-- A cause of Table 16.5 is detected (R436). -/
def selfCause (s : State) (cause island : Nat) : State :=
  if s.twin.role == .active then giveUp s cause island else withdraw s cause island

/-- SELF_DIAGNOSIS: a cause detected by the module's own circuits. -/
def execSelfDiagnosis (cause island : Nat) (s : State) : Host.Outcome State Fault Refusal :=
  .next (if 1 ≤ cause ∧ cause ≤ 7 ∧ island < 12 then selfCause s cause island else s)

/-- Whether a cause noted while ALONE is still present (R438). -/
def causePresent (s : State) (c : Nat × Nat) : Bool :=
  if c.1 = 1 then (s.isl c.2).state == .fault
  else if c.1 = 2 then !s.running c.2 || (s.isl c.2).draining
  else if c.1 = 3 then s.power.warn || (s.isl c.2).state == .fault
  else if c.1 = 4 then (List.range 6).any fun k => s.rbit rVgLatch k && decide (s.rfield rVgCfg (2 * k) 2 = 3)
  else if c.1 = 5 then (s.isl c.2).state == .fault
  else if c.1 = 7 then s.power.reset.isSome
  else false

/-- A ready standby exists: the oldest cause noted while ALONE and still present gives up control (R438). -/
def giveUpNoted (s : State) : State :=
  let left := s.twin.causes.filter (causePresent s)
  match left with
  | [] => { s with twin := { s.twin with causes := [] } }
  | c :: _ => giveUp { s with twin := { s.twin with causes := [], alone := false } } c.1 c.2

end Sys2Proof.Machine
end

