-- ==== Sys2Proof/Machine/Switch.lean ====
section
/-! DEFINITION. The switch and its ports (12): settings and status, the unicast table, receiving up to delivery, queues
and gates, HSR supervision and ageing, MACsec associations, the ring bypass (01 R32 to R34). What a delivered frame
does stands in Machine/Receive.lean. -/

namespace Sys2Proof.Machine

/-! ## Ports -/

/-- The kind of a port (Table 12.3): 0 ring, 1 twin, 2 host, 3 field. -/
def portKind (p : Nat) : Nat := if p < 2 then 0 else if p = 2 then 1 else if p = 3 then 2 else 3

/-- One bit time of a rate in ps. -/
def bitPs (rate : Nat) : Nat := if rate = 0 then 100000 else if rate = 1 then 10000 else if rate = 2 then 1000 else 400

/-- Bits of ENABLE (Table 12.2). -/
def PortCfg.on (c : PortCfg) (i : Nat) : Bool := bitOf c.enable i

/-- A bridged port: the host port or a field port with FWD_EN, while the switch forwards (R338). -/
def bridged (s : State) (p : Nat) : Bool :=
  decide (3 ≤ p) && decide (p < 20) && (s.port p).cfg.on 2 && s.rbit rSwCtrl 0

/-- An event of a port and of the switch. -/
def macEvent (s : State) (p bit : Nat) : State := s.raise (rMacEvent p) bit
def swEvent (s : State) (bit : Nat) : State := s.raise rSwEvent bit

/-- A drop is counted at its port (R343). -/
def swDrop (s : State) (p i : Nat) : State := s.portCount p i

/-- A ring port behind the closed bypass, which joins RING_W_RX to RING_E_TX and RING_E_RX to RING_W_TX (01 R32). -/
def ringBypassed (s : State) (p : Nat) : Bool := decide (p < 2) && s.switch.bypassClosed

/-- Codes of Table 12.3. -/
def LinkState.code : LinkState → Nat
  | .disabled => 0 | .down => 1 | .up => 2 | .sleeping => 3

/-- A link state changes: events, since, transitions to up, and the frames a lost link leaves queued (R359). -/
def setLink (s : State) (p : Nat) (l : LinkState) : State :=
  let x := s.port p
  if x.link = l then s
  else
    let lost := l == .down || l == .disabled
    let s := if lost && !x.queue.isEmpty then s.portCount p 30 x.queue.length else s
    let n := stickNat x.linkUps (b2n (l == .up))
    let s := s.setPort p { s.port p with
      link := l, since := s.now, linkUps := n.1, queue := if lost then [] else x.queue
      pauseUntil := if lost then 0 else x.pauseUntil }
    let s := if n.2 then macEvent s p 4 else s
    macEvent s p 0

/-- The transmitter stands under a PAUSE (R354). -/
def paused (s : State) (p : Nat) : Bool := decide (s.now < (s.port p).pauseUntil)

/-- FLAGS of Table 12.3. -/
def portFlags (s : State) (p : Nat) : Nat :=
  let x := s.port p
  b2n (paused s p) + b2n x.macsec.isSome * 2 + b2n (ringBypassed s p) * 4 + b2n x.autoneg * 8 +
    b2n (s.rbit (rMacEvent p) 1) * 16 +
    b2n (decide (p < 2) && (x.missingAt.any fun t => decide (s.now < t + nsSec))) * 32

/-- The 16 bytes of Table 12.3. -/
def portStatusBytes (s : State) (p : Nat) : List Byte :=
  let x := s.port p
  let fuse : Fuse := if 4 ≤ p then tabGetD s.power.fuses (p - 4) {} else {}
  leBytes 1 p ++ leBytes 1 (portKind p) ++ leBytes 1 x.link.code ++ leBytes 1 x.rate ++ leBytes 1 (portFlags s p) ++
    leBytes 1 (if fuse.state = 3 then fuse.pdClass else 0) ++ leBytes 2 fuse.ma ++ leBytes 4 x.linkUps ++
    leBytes 4 (min 0xFFFFFFFF ((s.now - x.since) / nsSec))

/-- PORT_STATUS (0x0901). -/
def execPortStatus (r : Route) (tag : Nat) (s : State) : Host.Outcome State Fault Refusal :=
  .next (serve 0x0901 s r tag fun q s =>
    let p := q.payload
    if p.length ≠ 2 then done stBadLength s
    else if 20 < fld p 0 1 + fld p 1 1 then done stBadArgument s
    else toIsland s iSW fun s =>
      ((stOk, ((List.range (fld p 1 1)).map fun k => portStatusBytes s (fld p 0 1 + k)).flatten), s))

/-! ## Settings (R342) -/

/-- Settings from the 60 bytes of Table 12.2. -/
def portCfgOf (b : List Byte) : PortCfg :=
  { enable := fld b 0 1, mode := fld b 1 1, maxFrame := fld b 2 2, defaultPcp := fld b 4 1, jioshClass := fld b 5 1
    wakeMask := fld b 6 2, pcpMap := (List.range 8).map fun n => fld b (8 + n) 1
    classLimit := (List.range 8).map fun c => fld b (16 + 2 * c) 2 }

/-- The 60 bytes of settings. -/
def portCfgBytes (c : PortCfg) : List Byte :=
  leBytes 1 c.enable ++ leBytes 1 c.mode ++ leBytes 2 c.maxFrame ++ leBytes 1 c.defaultPcp ++ leBytes 1 c.jioshClass ++
    leBytes 2 c.wakeMask ++ (c.pcpMap.map (leBytes 1)).flatten ++ (c.classLimit.map (leBytes 2)).flatten ++ List.replicate 28 0

/-- Whether settings keep the ranges of Table 12.2 and suit a port's kind (R342, R350). -/
def portCfgOk (p : Nat) (c : PortCfg) (rest : List Byte) : Bool :=
  let kind := portKind p
  allZero rest && decide (64 ≤ c.maxFrame) && decide (c.maxFrame ≤ 2048) && decide (c.defaultPcp ≤ 7) &&
    decide (c.jioshClass ≤ 7) && c.pcpMap.all (fun x => decide (x ≤ 7)) && c.classLimit.all (fun x => decide (x ≤ 16384)) &&
    (decide (2 ≤ kind) || (!c.on 2 && !c.on 6)) &&
    (if kind = 2 then decide (c.mode ≤ 1) else if kind = 3 then decide (c.mode < 16) && bitsOf c.mode 2 2 != 3 else c.mode == 0)

/-- Settings take effect; a change of MODE restarts the link, ENABLE and SLEEP move its state. -/
def applyPortCfg (s : State) (p : Nat) (c : PortCfg) : State :=
  let old := (s.port p).cfg
  let s := s.setPort p { s.port p with cfg := c }
  if !c.on 0 then setLink s p .disabled
  else if (s.port p).link == .disabled ∨ old.mode ≠ c.mode then setLink s p .down
  else if c.on 6 && (s.port p).link == .up then setLink s p .sleeping
  else if !c.on 6 && (s.port p).link == .sleeping then setLink s p .up
  else s

/-- PORT_CONFIG in SW: its payload, accepted or not. -/
def portConfig (s : State) (p : List Byte) : Nat × State :=
  let n := fld p 0 1
  let c := portCfgOf (p.drop 4)
  if 20 ≤ n ∨ !portCfgOk n c (p.drop 36) then (stBadArgument, s) else (stOk, applyPortCfg s n c)

/-- PORT_CONFIG (0x0902). -/
def execPortConfig (r : Route) (tag : Nat) (s : State) : Host.Outcome State Fault Refusal :=
  .next (serve 0x0902 s r tag fun q s =>
    let p := q.payload
    if p.length ≠ 64 then done stBadLength s
    else if fld p 1 3 ≠ 0 then done stBadArgument s
    else toIsland s iSW fun s =>
      let (st, s) := portConfig s p
      done st (if st = stOk then shipConfig s 0x0902 p else s))

/-- PORT_COUNTERS (0x0903): all 128 counters, cleared as an RC read does (R358). -/
def execPortCounters (r : Route) (tag : Nat) (s : State) : Host.Outcome State Fault Refusal :=
  .next (serve 0x0903 s r tag fun q s =>
    let p := q.payload
    let n := fld p 0 1
    if p.length ≠ 4 then done stBadLength s
    else if fld p 1 3 ≠ 0 ∨ 20 ≤ n then done stBadArgument s
    else toIsland s iSW fun s =>
      let b := ((List.range 128).map fun i => leBytes 4 (if i < 40 then s.reg (rMacCnt n i) else 0)).flatten
      ((stOk, b), (List.range 40).foldl (fun s i => s.setReg (rMacCnt n i) 0) s))

/-! ## Gate control lists (R352, R353) -/

/-- The last entry lasts until the cycle ends; what lies past the cycle is cut. -/
def gateCut (left : Nat) : List (Nat × Nat) → List (Nat × Nat)
  | [] => []
  | [(st, _)] => [(st, left)]
  | (st, d) :: rest => if left ≤ d then [(st, left)] else (st, d) :: gateCut (left - d) rest

/-- The entries of one cycle, their intervals summing to the cycle time. -/
def GateList.full (g : GateList) : List (Nat × Nat) := gateCut g.cycle g.entries

/-- The entries from a position in the cycle on, the first cut at its front; and the index of the first. -/
def gateFrom (pos i : Nat) : List (Nat × Nat) → List (Nat × Nat) × Nat
  | [] => ([], 0)
  | (st, d) :: rest => if pos < d then ((st, d - pos) :: rest, i) else gateFrom (pos - d) (i + 1) rest

/-- A class's gate stays open for a time over entries. -/
def openFor (cls : Nat) : List (Nat × Nat) → Nat → Bool
  | [], need => need == 0
  | (st, d) :: rest, need => need == 0 || (bitOf st cls && openFor cls rest (need - d))

/-- Entries repeated over as many cycles as a time takes. -/
def gateRepeat (g : GateList) (need : Nat) : List (Nat × Nat) := (List.replicate (need / g.cycle + 2) g.full).flatten

/-- The position of an instant in the cycle of a list that started at a base; a step may set the time before it (R352). -/
def gatePos (g : GateList) (base t : Nat) : Nat := (t + g.cycle - base % g.cycle) % g.cycle

/-- A class's gate stays open from an instant on for a time. -/
def gateOpen (g : GateList) (base t cls need : Nat) : Bool :=
  openFor cls ((gateFrom (gatePos g base t) 0 g.full).1 ++ gateRepeat g need) need

/-- The list that governs a port: GATE_EN set and a list in effect (R352). -/
def gateList (x : Port) : Option GateList := if x.cfg.on 7 then x.running else none

/-- A frame of a class fits: its gate stays open until its last bit, over a change of list as well (R353). -/
def frameFits (s : State) (x : Port) (cls need : Nat) : Bool :=
  let pre := match x.pendingList with
    | some (_, c) => if x.cfg.on 7 then min need (c - s.tai) else need
    | none => need
  let now := match gateList x with
    | some g => gateOpen g x.runBase s.tai cls pre
    | none => true
  let new := match x.pendingList with
    | some (g, c) => pre == need || gateOpen g c c cls (need - pre)
    | none => true
  now && new

/-- Some window of the running list holds a frame of a class (R353). -/
def someWindow (x : Port) (cls need : Nat) : Bool :=
  match gateList x with
  | none => true
  | some g => (List.range g.full.length).any fun i => openFor cls (g.full.drop i ++ gateRepeat g need) need

/-- The gate states now, and the entry in force. -/
def gateNow (s : State) (x : Port) : Nat × Nat :=
  match gateList x with
  | none => (0xFF, 0)
  | some g =>
    let e := gateFrom (gatePos g x.runBase s.tai) 0 g.full
    ((e.1.headD (0xFF, 0)).1, e.2)

/-- MAC_GATE. -/
def macGateRead (s : State) (p : Nat) : Nat :=
  let e := gateNow s (s.port p)
  e.1 % 256 + e.2 % 256 * 256 + b2n (s.port p).pendingList.isSome * 65536

/-- The list of Table 12.6. -/
def gateListOf (b : List Byte) : GateList :=
  { cycle := fld b 4 4, base := fld b 8 8
    entries := (List.range (fld b 2 2)).map fun i => (fld b (24 + 8 * i) 1, fld b (28 + 8 * i) 4) }

/-- A list keeps the conditions of R352. -/
def gateListOk (b : List Byte) : Bool :=
  let n := fld b 2 2
  decide (fld b 0 1 < 20) && fld b 1 1 == 0 && decide (1 ≤ n) && decide (n ≤ 256) && b.length == 24 + 8 * n &&
    decide (1000 ≤ fld b 4 4) && decide (fld b 4 4 ≤ nsSec) && fld b 16 8 == 0 &&
    (List.range n).all fun i => decide (100 ≤ fld b (28 + 8 * i) 4) && fld b (25 + 8 * i) 3 == 0

/-- The change instant of an accepted list (R352). -/
def changeInstant (s : State) (g : GateList) : Nat :=
  if s.tai < g.base then g.base else g.base + ((s.tai - g.base) / g.cycle + 1) * g.cycle

/-- An accepted list becomes pending. -/
def loadGateList (s : State) (b : List Byte) : Nat × State :=
  if !gateListOk b then (stBadArgument, s)
  else
    let g := gateListOf b
    let p := fld b 0 1
    (stOk, s.setPort p { s.port p with pendingList := some (g, changeInstant s g) })

/-- GATE_LIST_LOAD (0x0904). -/
def execGateListLoad (r : Route) (tag : Nat) (s : State) : Host.Outcome State Fault Refusal :=
  .next (serve 0x0904 s r tag fun q s =>
    let p := q.payload
    if p.length < 8 then done stBadLength s
    else
      match transferPart s q (fld p 0 4) (fld p 4 4) 0 (p.drop 8) with
      | .refused st => done st s
      | .more t => done stOk (putTransfer s t)
      | .whole t =>
        toIsland (endTransfer s 0x0904) iSW fun s =>
          let (st, s) := loadGateList s t.data
          done st (if st = stOk then shipConfig s 0x0904 (leBytes 4 0 ++ leBytes 4 t.data.length ++ t.data) else s))

/-- The change instant of a pending list (R352). -/
def gateListChange (s : State) (p : Nat) : State :=
  let x := s.port p
  match x.pendingList with
  | some (g, c) =>
    if c ≤ s.tai then
      macEvent (s.setPort p { x with running := some g, runBase := c, pendingList := none, gateIndex := 0 }) p 3
    else s
  | none => s

def execGateListChange (port : Nat) (s : State) : Host.Outcome State Fault Refusal := .next (gateListChange s port)

/-- The running list has moved to another entry. -/
def execGateEntryChange (port : Nat) (s : State) : Host.Outcome State Fault Refusal :=
  .next (if (gateList (s.port port)).isNone then s
    else s.setPort port { s.port port with gateIndex := (gateNow s (s.port port)).2 })

/-! ## Transmission (R351, R353, R357) -/

/-- Time a frame takes on the wire, in ns: its length with the FCS and 8 bytes before it. -/
def frameTime (x : Port) (q : QFrame) : Nat := ((q.bytes.length + 4 + 8) * 8 * bitPs x.rate + 999) / 1000

/-- The head of a class's queue. -/
def headOf (x : Port) (cls : Nat) : Option QFrame := x.queue.find? (·.cls == cls)

/-- Takes the head of a class from the queue. -/
def dropHead (cls : Nat) : List QFrame → List QFrame
  | [] => []
  | q :: rest => if q.cls = cls then rest else q :: dropHead cls rest

/-- Head frames that fit in no window are dropped (fuel: the queue). -/
def dropTooLong (s : State) (p cls : Nat) : Nat → State
  | 0 => s
  | f + 1 =>
    let x := s.port p
    match headOf x cls with
    | some q =>
      if someWindow x cls (frameTime x q) then s
      else dropTooLong ((s.setPort p { x with queue := dropHead cls x.queue }).portCount p 29) p cls f
    | none => s

/-- The end of the packet numbers, and how near it PN_LOW is raised (R357; log 47). -/
abbrev pnEnd : Nat := 2 ^ 32
abbrev pnNear : Nat := 2 ^ 24

/-- A SAK derived from a derive-only key of house: one use (R356); the new association. -/
def deriveSak (s : State) (handle sci direction : Nat) : Except Nat SecAssoc × State :=
  match judgeKey s handle house 3 with
  | .error st =>
    let r := kvRefused s st
    (.error r.1, r.2)
  | .ok k =>
    let s := useKey s k
    let sak := Config.kmac (leBytes 32 k.material) (leBytes 8 sci ++ leBytes 1 direction ++ leBytes 8 s.vault.sessNext) 256 "CFM-8420 macsec"
    let h := s.vault.sessNext
    (.ok { key := h, pn := 0 }, { s with vault := { s.vault with
        sessKeys := tabSet s.vault.sessKeys h (leBytes 32 sak), sessNext := h + 1 } })

/-- Steward installs the next transmit association of a port, when its key still serves (R357). -/
def installNext (s : State) (p : Nat) : State :=
  match (s.port p).macsec with
  | some m =>
    if m.txNext.isSome || !stewardReady s || !s.running iVLT then s
    else
      match deriveSak s m.keyHandle m.sci 0 with
      | (.ok a, s) => s.setPort p { s.port p with macsec := some { m with txNext := some a } }
      | (.error _, s) => s
  | none => s

/-- One packet number of the transmitting association is spent; the state after, or none when the port may not send. -/
def spendPn (s : State) (p : Nat) : Option State :=
  match (s.port p).macsec with
  | none => some s
  | some m =>
    let now := match m.txNow with
      | some a => if a.pn < pnEnd then some (a, m.txNext) else m.txNext.map fun b => (b, none)
      | none => none
    match now with
    | none => none
    | some (a, next) =>
      let a := { a with pn := a.pn + 1 }
      let s := s.setPort p { s.port p with macsec := some { m with txNow := some a, txNext := next } }
      if a.pn = pnEnd - pnNear then some (installNext (swEvent (macEvent s p 2) 4) p) else some s

/-- The transmitter of a port is free: the head of the highest class whose gate is open leaves (R351). -/
def transmit (s : State) (p : Nat) : State :=
  if !s.running iSW || (s.port p).link != .up || paused s p || ringBypassed s p then s
  else
    let s := (List.range 8).foldl (fun s c => dropTooLong s p c (s.port p).queue.length) s
    let x := s.port p
    match ([7, 6, 5, 4, 3, 2, 1, 0].filterMap (headOf x)).find? (fun q => frameFits s x q.cls (frameTime x q)) with
    | none => s
    | some q =>
      match spendPn s p with
      | none => s
      | some s =>
        let s := s.setPort p { s.port p with queue := dropHead q.cls x.queue }
        let s := ((s.portCount p 6).portCount p 7 (q.bytes.length + 4)).portCount p (32 + q.cls)
        let (b, s) := stampFrame s p q
        let s := s.sendFrame p b
        if p = 2 then shipPump s.twin.ship.length s else s

def execFrameTransmit (port : Nat) (s : State) : Host.Outcome State Fault Refusal := .next (transmit s port)

/-- A PAUSE received: the time remaining is replaced (R354). -/
def pausePort (s : State) (p quanta : Nat) : State :=
  let x := s.port p
  let ns := (quanta * 512 * bitPs x.rate + 999) / 1000
  (s.setPort p { x with pauseUntil := if quanta = 0 then 0 else s.now + ns }).portCount p 5

/-- MAC_PAUSE_LEFT. -/
def pauseLeft (s : State) (p : Nat) : Nat :=
  let x := s.port p
  let unit := 512 * bitPs x.rate
  ((x.pauseUntil - s.now) * 1000 + unit - 1) / unit

/-- The end of a PAUSE. -/
def execPauseEnd (port : Nat) (s : State) : Host.Outcome State Fault Refusal :=
  .next (if (s.port port).pauseUntil ≤ s.now then s.setPort port { s.port port with pauseUntil := 0 } else s)

/-! ## Addresses (R345 to R348) -/

/-- The bucket of an address (R346). -/
def ucBucket (mac : Nat) : Nat := (crcIscsi (beBytes 6 mac)).toNat % 4096

/-- The index of an address in the unicast table. -/
def ucIndex (s : State) (mac : Nat) : Option Nat := (s.switch.uc.find? fun p => p.2.mac == mac).map Prod.fst

/-- A free place in a bucket: the lowest (log 44). -/
def ucFree (s : State) (bucket : Nat) : Option Nat := tabFree s.switch.uc (4 * bucket) 4

/-- Replaces an entry. -/
def putUc (s : State) (i : Nat) (e : UcEntry) : State := { s with switch := { s.switch with uc := tabSet s.switch.uc i e } }
def delUc (s : State) (i : Nat) : State := { s with switch := { s.switch with uc := tabDel s.switch.uc i } }

/-- One of the module's four addresses (R337). -/
def isOwn (s : State) (mac : Nat) : Bool := (List.range 4).any fun i => mac == (macBase s + i) % 2 ^ 48

/-- A source address is taught (R347), by any frame that causes 1 to 4 of Table 12.4 let in (log 93). -/
def learn (s : State) (p mac : Nat) : State :=
  if !bridged s p || !(s.port p).cfg.on 3 || !isUnicast mac || isOwn s mac then s
  else
    match ucIndex s mac with
    | some i =>
      let e := (tabGet s.switch.uc i).getD { mac := mac, ports := 0, static := true, taught := 0 }
      if e.static then s else putUc s i { e with ports := 2 ^ p, taught := s.now }
    | none =>
      match ucFree s (ucBucket mac) with
      | some i => putUc s i { mac := mac, ports := 2 ^ p, static := false, taught := s.now }
      | none => swEvent (s.portCount p 19) 0

/-- SW_AGE in seconds, in its range. -/
def ageSeconds (s : State) : Nat := max 10 (min 1000000 (s.rfield rSwAge 0 20))

/-- A dynamic entry not taught for SW_AGE seconds is removed (R347). -/
def ageOut (s : State) (mac : Nat) : State :=
  match ucIndex s mac with
  | some i =>
    if (tabGet s.switch.uc i).any fun e => !e.static && decide (e.taught + ageSeconds s * nsSec ≤ s.now) then delUc s i else s
  | none => s

def execAddressAgeOut (mac : Nat) (s : State) : Host.Outcome State Fault Refusal :=
  .next (if s.running iSW then ageOut s mac else s)

/-- SW_UC_DATA of an entry. -/
def UcEntry.data (e : UcEntry) : Nat := e.ports % 2 ^ 20 + b2n e.static * 2 ^ 30 + 2 ^ 31

/-- The entry found stands in the address and data registers (Table 12.10). -/
def ucFound (s : State) (i : Option Nat) : State :=
  match i.bind (tabGet s.switch.uc) with
  | some e =>
    let s := ((s.setReg rSwUcMacLo (e.mac % 2 ^ 32)).setReg rSwUcMacHi (e.mac / 2 ^ 32)).setReg rSwUcData e.data
    { s with switch := { s.switch with ucFound := true } }
  | none => { s with switch := { s.switch with ucFound := false } }

/-- A dynamic place of a full bucket gives way to a written entry; which one the manual leaves open (log 44). -/
def ucVictim (s : State) (bucket : Nat) : Option Nat × State :=
  let dyn := (List.range 4).filterMap fun k =>
    match tabGet s.switch.uc (4 * bucket + k) with
    | some e => if e.static then none else some (4 * bucket + k)
    | none => none
  let (v, s) := s.draw
  (dyn[v % dyn.length]?, s)

/-- Writes SW_UC_DATA for the address (R346). -/
def ucPut (s : State) (mac : Nat) : State :=
  let d := s.reg rSwUcData
  let e : UcEntry := { mac := mac, ports := d % 2 ^ 20, static := bitOf d 30, taught := s.now }
  let full (b : Bool) (s : State) : State := { s with switch := { s.switch with ucFull := b } }
  match ucIndex s mac with
  | some i => full false (putUc s i e)
  | none =>
    match ucFree s (ucBucket mac) with
    | some i => full false (putUc s i e)
    | none =>
      match ucVictim s (ucBucket mac) with
      | (some i, s) => full false (putUc s i e)
      | (none, s) => full true s

/-- A write of SW_UC_CMD. -/
def ucCmdWrite (s : State) (v : Nat) : State :=
  let s := s.setReg rSwUcCmd (v &&& 0xFFFC)
  let mac := s.reg rSwUcMacLo + s.reg rSwUcMacHi % 65536 * 2 ^ 32
  let op := v % 4
  if op = 0 then ucFound s (ucIndex s mac)
  else if op = 1 then ucPut s mac
  else if op = 2 then
    let i := ucIndex s mac
    let s := ucFound s i
    match i with
    | some i => delUc s i
    | none => s
  else ucFound s (some (bitsOf v 2 14))

/-- SW_UC_CMD as it reads. -/
def ucCmdRead (s : State) : Nat := (s.reg rSwUcCmd &&& 0xFFFC) + 65536 + b2n s.switch.ucFound * 131072 + b2n s.switch.ucFull * 262144

/-- A write of SW_CTRL; FLUSH_DYN removes every dynamic entry. -/
def swCtrlWrite (s : State) (v : Nat) : State :=
  let s := s.setReg rSwCtrl (v &&& 3)
  if bitOf v 2 then { s with switch := { s.switch with uc := tabFilter (fun _ e => e.static) s.switch.uc } } else s

/-- SW_STATUS. -/
def swStatusRead (s : State) : Nat := (bufferCells - cellsUsed s fun _ _ => true) + s.switch.nodes.length * 65536

def execUcLookup (by_ : Agent) (value : Word) (s : State) : Host.Outcome State Fault Refusal :=
  .next (writeRow s by_ rSwUcCmd value.toNat fun s => ucCmdWrite s value.toNat)

def execUcWrite (by_ : Agent) (value : Word) (s : State) : Host.Outcome State Fault Refusal :=
  .next (writeRow s by_ rSwUcCmd value.toNat fun s => ucCmdWrite s value.toNat)

def execUcDelete (by_ : Agent) (value : Word) (s : State) : Host.Outcome State Fault Refusal :=
  .next (writeRow s by_ rSwUcCmd value.toNat fun s => ucCmdWrite s value.toNat)

def execUcRead (by_ : Agent) (value : Word) (s : State) : Host.Outcome State Fault Refusal :=
  .next (writeRow s by_ rSwUcCmd value.toNat fun s => ucCmdWrite s value.toNat)

def execFlushDyn (by_ : Agent) (value : Word) (s : State) : Host.Outcome State Fault Refusal :=
  .next (writeRow s by_ rSwCtrl value.toNat fun s => swCtrlWrite s value.toNat)

/-! ## Wake patterns (R349) -/

/-- The mask of a pattern, bit i for frame byte i. -/
def wakeMask (s : State) (p k : Nat) : Nat :=
  ((List.range 4).map fun i => s.reg (rMacWakeMask p k i) * 2 ^ (32 * i)).sum

/-- A frame matches an enabled pattern. -/
def wakeMatch (s : State) (p : Nat) (b : List Byte) : Bool :=
  (List.range 16).any fun k =>
    let m := wakeMask s p k
    let at_ := (List.range 128).filter fun i => bitOf m i
    bitOf (s.port p).cfg.wakeMask k && !at_.isEmpty && at_.all (fun i => decide (i < b.length)) &&
      (crc16 (at_.map fun i => b.getD i 0)).toNat == s.rfield (rMacWakeCrc p k) 0 16

/-- A sleeping port wakes (R350). -/
def wakePort (s : State) (p : Nat) : State :=
  let x := s.port p
  let s := s.setPort p { x with cfg := { x.cfg with enable := putBits x.cfg.enable 6 1 0 } }
  swEvent (macEvent (setLink s p .up) p 1) 3

/-! ## Receiving (R343 to R350, R355) -/

/-- Fields of a frame from its destination address on. -/
def fDst (b : List Byte) : Nat := beNat (b.take 6)
def fSrc (b : List Byte) : Nat := beNat (sub b 6 6)
def fType (b : List Byte) : Nat := beNat (sub b 12 2)

/-- The Ethertype behind a VLAN tag, and the PCP of one. -/
def innerType (b : List Byte) : Nat := if fType b = 0x8100 then beNat (sub b 16 2) else fType b
def framePcp (b : List Byte) : Option Nat := if fType b = 0x8100 then some (beNat (sub b 14 1) / 32) else none

/-- What lies behind the Ethertype. -/
def framePayload (b : List Byte) : List Byte := if fType b = 0x8100 then b.drop 18 else b.drop 14

abbrev etPtp : Nat := 0x88F7
abbrev etMacCtrl : Nat := 0x8808
abbrev etHsr : Nat := 0x892F
abbrev etSupervision : Nat := 0x88FB
/-- The traffic class of a received frame (Table 12.5). -/
def frameClass (s : State) (p : Nat) (b : List Byte) : Nat :=
  let c := (s.port p).cfg
  let t := innerType b
  if t = etPtp ∨ t = etSupervision ∨ t = s.rfield rTwEther 0 16 then 7
  else if t = s.rfield rPfJiosh 0 16 then c.jioshClass
  else c.pcpMap.getD ((framePcp b).getD c.defaultPcp) 0

/-- The bridged ports a frame leaves by (R345, R348). -/
def bridgePorts (s : State) (p : Nat) (b : List Byte) : List Nat :=
  let d := fDst b
  let all := (List.range 20).filter fun k => bridged s k && k != p
  let flood := all.filter fun k => (s.port k).cfg.on 4
  if !bridged s p then []
  else if d = macBroadcast then flood
  else if !isUnicast d then
    if isPtpDst d || isSupervisionDst d || isReservedDst d || !groupAccepted s d then []
    else all.filter fun k => s.rbit rSwGroupFwd k
  else if isOwn s d then []
  else
    match (ucIndex s d).bind (tabGet s.switch.uc) with
    | some e => all.filter fun k => bitOf e.ports k
    | none => flood

/-- A frame goes to the module itself (R345, R348). -/
def toModule (s : State) (d : Nat) : Bool :=
  if isUnicast d then isOwn s d
  else d == macBroadcast || isPtpDst d || isSupervisionDst d || (!isReservedDst d && groupAccepted s d)

/-- Good frames are counted (Table 12.7). -/
def countGood (s : State) (p : Nat) (b : List Byte) : State :=
  let d := fDst b
  let s := (s.portCount p 0).portCount p 1 (b.length + 4)
  s.portCount p (if isUnicast d then 2 else if d = macBroadcast then 4 else 3)

/-- The first of causes 1 to 4 of Table 12.4. -/
def macCause (s : State) (p : Nat) (f : RxFrame) : Option Nat :=
  if f.codeErr then some 11
  else if !f.fcsOk then some 8
  else if f.bytes.length + 4 < 64 then some 9
  else if (s.port p).cfg.maxFrame < f.bytes.length + 4 then some 10
  else none

/-- Cause 5: MACsec in force and the frame unprotected or failing (R357). -/
def macsecCause (s : State) (p : Nat) (f : RxFrame) : Option Nat :=
  match (s.port p).macsec with
  | none => none
  | some m =>
    if fType f.bytes = etMacCtrl then none
    else
      match f.macsec with
      | .plain => some 24
      | .badIcv => some 25
      | .replay => some 26
      | .noSa => some 27
      | .ok => if m.rxNow.isNone then some 27 else none

/-- The stream of a frame cut short ends before its check value: its unit is aborted (20 R542). -/
def cutShort (s : State) (b : List Byte) : State :=
  let t := innerType b
  if t = s.rfield rPfJiosh 0 16 then s.chkAborted 7 else if t = s.rfield rTwEther 0 16 then s.chkAborted 5 else s

/-- SW_HSR_CTRL fields in their ranges, ns. -/
def hsrForget (s : State) : Nat := max 10 (min 10000 (s.rfield rSwHsrCtrl 0 16)) * nsMs
def hsrLife (s : State) : Nat := max 100 (min 60000 (s.rfield rSwHsrCtrl 16 16)) * nsMs

/-- A ring frame without its HSR tag. -/
def untagged (b : List Byte) : List Byte := b.take 12 ++ b.drop 18

/-- The HSR tag is formed: its Ethertype, and a size that the frame holds (IEC 62439-3; log 25). -/
def tagFormed (b : List Byte) : Bool :=
  fType b == etHsr && decide (20 ≤ b.length) && decide (beNat (sub b 14 2) % 4096 ≤ b.length - 14)

/-- The node table learns a source (R355). -/
def hearNode (s : State) (mac : Nat) : State :=
  if (tabGet s.switch.nodes mac).isSome ∨ s.switch.nodes.length < 128 then
    { s with switch := { s.switch with nodes := tabSet s.switch.nodes mac s.now } }
  else s

/-- Whether a source and sequence number is in the duplicate table and not yet forgotten. -/
def isDuplicate (s : State) (mac seq : Nat) : Bool :=
  s.switch.dups.any fun d => d.mac == mac && d.seq == seq && decide (s.now < d.seen + hsrForget s)

/-- Whether it came by this port before: a copy goes on round the ring once in each direction (mode H, R355; 01 R14). -/
def seenBy (s : State) (p mac seq : Nat) : Bool :=
  s.switch.dups.any fun d =>
    d.mac == mac && d.seq == seq && decide (s.now < d.seen + hsrForget s) && (d.port == p || d.matched)

/-- The duplicate table takes a frame, or marks that its duplicate came (R355). -/
def noteFrame (s : State) (p mac seq : Nat) : State :=
  if isDuplicate s mac seq then
    { s with switch := { s.switch with
        dups := s.switch.dups.map fun d => if d.mac == mac && d.seq == seq && d.port != p then { d with matched := true } else d } }
  else
    { s with switch := { s.switch with
        dups := ({ mac := mac, seq := seq, port := p, seen := s.now, matched := false } :: s.switch.dups).take 1024 } }

/-- PTP frames of the ring: Sync is forwarded with its residence time, Follow_Up and Announce unchanged, Pdelay messages
not (13 R371). A frame comes round both ways, so a copy is known by its port as well. -/
def forwardPtp (s : State) (p : Nat) (b : List Byte) : State :=
  let seq := beNat (sub b 16 2)
  if !tagFormed b || fDst b != macPtp || fSrc b == macBase s || seenBy s p (fSrc b) seq then s
  else
    let s := noteFrame s p (fSrc b) seq
    let stamp := if beNat (sub b 20 1) % 16 = ptSync then
        Stamp.residence (s.tai - ingressLatency s p - linkDelay s p - linkAsymmetry s p)
      else .none
    enqueue s (1 - p) 7 b stamp

/-- A frame of the ring under HSR (R355): what goes to the module; miss says that FILTER_EN keeps it from the module
(R350). The copy from the other direction goes on round the ring as well, and only the module discards it. -/
def ringFrame (s : State) (p : Nat) (b : List Byte) (miss : Bool) : Option (List Byte) × State :=
  let d := fDst b
  let mine := toModule s d
  let unheard := !isUnicast d && !mine
  let drop (i : Nat) : Option (List Byte) × State := (none, swDrop s p (if miss && mine then 18 else if unheard then 13 else i))
  if isPtpDst d then (if miss then none else some b, forwardPtp (if miss then swDrop s p 18 else s) p b)
  else if isReservedDst d then (none, swDrop s p 14)
  else if !tagFormed b then drop 22
  else if fSrc b = macBase s then drop 23
  else
    let seq := beNat (sub b 16 2)
    let dup := isDuplicate s (fSrc b) seq
    let again := seenBy s p (fSrc b) seq
    let s := if (miss && mine) || unheard || again || (mine && dup) then (drop 20).2 else s
    let s := hearNode (noteFrame s p (fSrc b) seq) (fSrc b)
    let u := untagged b
    let s := if again || (isUnicast d && isOwn s d) then s else enqueue s (1 - p) (frameClass s p u) b
    (if mine && !miss && !dup then some u else none, s)

/-- A frame on the host port or a field port, or on a ring port without HSR (R338, R345, R348, R350). -/
def bridgeFrame (s : State) (p : Nat) (b : List Byte) (matched : Bool) : Option (List Byte) × State :=
  let d := fDst b
  let out := bridgePorts s p b
  let s := learn s p (fSrc b)
  let mine := toModule s d || (decide (4 ≤ p) && innerType b == s.rfield rPfJiosh 0 16)
  let out := if decide (4 ≤ p) && innerType b == s.rfield rPfJiosh 0 16 then [] else out
  if (s.port p).cfg.on 5 && !matched && out.isEmpty then (none, swDrop s p 18)
  else if isReservedDst d then (none, swDrop s p 14)
  else if !isUnicast d && !toModule s d && !mine then (none, swDrop s p 13)
  else
    let s := out.foldl (fun s k => enqueue s k (frameClass s p b) b) s
    let mine := mine && (!(s.port p).cfg.on 5 || matched)
    if !mine && out.isEmpty then (none, swDrop s p 16) else (if mine then some b else none, s)

/-- The counter of a frame of another protocol on the twin port (R338): the first cause of Table 12.4 from 8 on. -/
def notTwinCause (s : State) (b : List Byte) : Nat :=
  let d := fDst b
  if isReservedDst d then 14 else if !isUnicast d && !toModule s d then 13 else 16

/-- A frame at a port, up to its delivery to the module (Table 12.4). -/
def frameIn (s : State) (p : Nat) (f : RxFrame) : Option (List Byte) × State :=
  let x := s.port p
  if ringBypassed s p then (none, s.sendFrame (1 - p) f.bytes)
  else if !s.running iSW || decide (20 ≤ p) || (x.link != .up && x.link != .sleeping) then (none, s)
  else
    let s := s.wakeIsl iSW
    match macCause s p f with
    | some i => (none, swDrop (if f.codeErr then cutShort s f.bytes else s) p i)
    | none =>
      let s := countGood s p f.bytes
      match macsecCause s p f with
      | some i => (none, swDrop (learn s p (fSrc f.bytes)) p i)
      | none =>
        if fType f.bytes = etMacCtrl then
          let s := learn s p (fSrc f.bytes)
          if fDst f.bytes = macPause ∧ beNat (sub f.bytes 14 2) = 1 ∧ x.cfg.on 1 then
            (none, pausePort s p (beNat (sub f.bytes 16 2)))
          else (none, swDrop s p 12)
        else
          let matched := wakeMatch s p f.bytes
          if x.link == .sleeping && !matched then (none, swDrop (learn s p (fSrc f.bytes)) p 18)
          else
            let s := if x.link == .sleeping then wakePort s p else s
            if p = 2 ∧ x.cfg.on 5 ∧ !matched then (none, swDrop s p 18)
            else if p = 2 then
              if innerType f.bytes = s.rfield rTwEther 0 16 then (some f.bytes, s) else (none, swDrop s p (notTwinCause s f.bytes))
            else if p < 2 ∧ s.rbit rSwCtrl 1 then
              ringFrame s p f.bytes (x.cfg.on 5 && !matched)
            else bridgeFrame s p f.bytes matched

/-! ## HSR supervision and ageing (R355) -/

/-- The payload of a supervision frame (IEC 62439-3; log 25). -/
def supervisionPayload (s : State) : List Byte :=
  beBytes 2 1 ++ beBytes 2 s.switch.hsrSeq ++ beBytes 1 23 ++ beBytes 1 6 ++ beBytes 6 (macBase s) ++ beBytes 2 0 ++
    List.replicate 34 0

/-- A supervision frame every LIFE_MS. -/
def supervise (s : State) : State :=
  if !s.running iSW || !s.rbit rSwCtrl 1 || decide (s.now < s.switch.supervision) then s
  else
    let s := { s with switch := { s.switch with supervision := s.now + hsrLife s } }
    ringSend s 7 (ethFrame 0x01154E000100 (ownMac s 0) etSupervision (supervisionPayload s))

def execHsrSupervision (s : State) : Host.Outcome State Fault Refusal := .next (supervise s)

/-- A frame is forgotten; one whose duplicate never came is counted where it arrived (R358). -/
def expireOne (s : State) (d : HsrDup) : State :=
  if d.matched then s
  else
    let s := swEvent (s.portCount d.port 21) 2
    s.setPort d.port { s.port d.port with missingAt := some s.now }

/-- Entries of the duplicate table older than FORGET_MS. -/
def expireDups (s : State) : State :=
  let old := s.switch.dups.filter fun d => decide (d.seen + hsrForget s ≤ s.now)
  let s := { s with switch := { s.switch with dups := s.switch.dups.filter fun d => decide (s.now < d.seen + hsrForget s) } }
  old.foldl expireOne s

def execHsrDuplicateExpiry (s : State) : Host.Outcome State Fault Refusal := .next (if s.running iSW then expireDups s else s)

/-- A node not heard of for 60 s. -/
def execHsrNodeForget (mac : Nat) (s : State) : Host.Outcome State Fault Refusal :=
  .next (match tabGet s.switch.nodes mac with
    | some t =>
      if s.running iSW && decide (t + 60 * nsSec ≤ s.now) then
        { s with switch := { s.switch with nodes := tabDel s.switch.nodes mac } }
      else s
    | none => s)

/-! ## Links and the bypass -/

/-- A link comes up; a field link needs FLD and a KQ16 that is not shed (17 Table 17.3). The rate of an SGMII host link is the partner's (log 1). -/
def linkUp (s : State) (p : Nat) : State :=
  if !s.running iSW || decide (20 ≤ p) || (decide (4 ≤ p) && (s.power.shed || !s.running iFLD)) || (s.port p).link != .down then s
  else
    let s := s.wakeIsl iSW
    let x := s.port p
    let (v, s) := s.draw
    let rate := if p = 3 ∧ x.cfg.mode = 1 then v % 3 else (Port.factory p).rate
    let auto := decide (p = 3) || (decide (4 ≤ p) && bitOf x.cfg.mode 1)
    let s := s.setPort p { x with rate := rate, autoneg := auto }
    if x.cfg.on 6 then setLink s p .sleeping else setLink s p .up

/-- A link goes down. -/
def linkDown (s : State) (p : Nat) : State :=
  let x := s.port p
  if !s.running iSW || decide (20 ≤ p) || (x.link != .up && x.link != .sleeping) then s
  else
    let s := setLink s p .down
    s.setPort p { s.port p with autoneg := false }

def execLinkUp (port : Nat) (s : State) : Host.Outcome State Fault Refusal := .next (linkUp s port)

def execLinkDown (port : Nat) (s : State) : Host.Outcome State Fault Refusal := .next (linkDown s port)

/-- The bypass closes: reset pin, the switch out of RUN and IDLE, or the ring supply lost (01 R33). -/
def bypassClose (s : State) : State :=
  if s.power.resetPin || !s.running iSW || !s.power.started then { s with switch := { s.switch with bypassClosed := true } } else s

def execBypassClose (s : State) : Host.Outcome State Fault Refusal := .next (bypassClose s)

/-- The bypass opens once the switch runs and both ring lanes are synchronised (01 R34). -/
def bypassOpen (s : State) : State :=
  if s.running iSW && !s.power.resetPin && (s.port 0).link == .up && (s.port 1).link == .up then
    { s with switch := { s.switch with bypassClosed := false } }
  else s

def execBypassOpen (s : State) : Host.Outcome State Fault Refusal := .next (bypassOpen s)

/-! ## MACSEC_CONFIG (0x0907; R356) -/

/-- Both directions' associations are derived and loaded. -/
def macsecConfig (s : State) (p : List Byte) : Nat × State :=
  let port := fld p 0 1
  let h := fld p 4 4
  let sci := fld p 8 8
  match deriveSak s h sci 0 with
  | (.error st, s) => (st, s)
  | (.ok tx, s) =>
    match deriveSak s h sci 1 with
    | (.error st, s) => (st, s)
    | (.ok rx, s) =>
      (stOk, s.setPort port { s.port port with
        macsec := some { sci := sci, keyHandle := h, txNow := some tx, txNext := none, rxNow := some rx, rxNext := none } })

def execMacsecConfig (r : Route) (tag : Nat) (s : State) : Host.Outcome State Fault Refusal :=
  .next (serve 0x0907 s r tag fun q s =>
    let p := q.payload
    if p.length ≠ 16 then done stBadLength s
    else if fld p 1 3 ≠ 0 ∨ 3 < fld p 0 1 then done stBadArgument s
    else
      let (st, s) := reach s iSAGE iSW
      if st ≠ stOk then done st s
      else toIsland s iVLT fun s =>
        let (st, s) := macsecConfig s p
        done st (if st = stOk then shipConfig s 0x0907 p else s))

/-- SW leaves RUN: frames in its buffer are discarded and counted (R359). -/
def swLeave (s : State) : State :=
  (List.range 20).foldl (fun s p =>
    let n := (s.port p).queue.length
    if n = 0 then s else (s.portCount p 28 n).setPort p { s.port p with queue := [] }) s

end Sys2Proof.Machine
end

