-- ==== Sys2Proof/Machine/ThymeLoad.lean ====
section
/-! DEFINITION. Program images (06 R183, R184, R578; 07 R210, R211), the load checks of Table 6.18, PROGRAM_LOAD
(05 R164) and the restart of R198. -/

namespace Sys2Proof.Machine

/-- A failed check: step of Table 6.18 and offset in the image. -/
abbrev Reject := Nat × Nat

/-- The first failure of a list of checks. -/
def firstFail (cs : List (Bool × Reject)) : Except Reject Unit :=
  match cs.find? (!·.1) with
  | some (_, r) => .error r
  | none => .ok ()

/-- Header fields of an image (Table 6.15). -/
def imgId (b : List Byte) : Nat := fld b 4 4
def imgWords (b : List Byte) : Nat := fld b 12 4
def imgCode (b : List Byte) : Nat := fld b 16 4
def imgMask (b : List Byte) : Nat := fld b 36 2

/-- The offset of a task entry. -/
def taskOff (t : Nat) : Nat := 64 + 32 * t

/-- A task entry (Table 6.16). -/
def taskAt (b : List Byte) (t : Nat) : TaskCfg :=
  let o := taskOff t
  { entry := fld b o 4, period := fld b (o + 4) 4, phase := fld b (o + 8) 4, tenant := fld b (o + 12) 2
    priority := fld b (o + 14) 1, ovrLimit := fld b (o + 15) 1, bitSlots := fld b (o + 16) 2 + 1
    wordSlots := fld b (o + 18) 2, authOff := fld b (o + 24) 4, authLen := fld b (o + 28) 2 }

/-- The tasks defined. -/
def tasksIn (b : List Byte) : List Nat := (List.range 16).filter fun t => bitOf (imgMask b) t

/-- A map entry (Table 6.17), its types not yet known. -/
def mapAt (b : List Byte) (o : Nat) : MapEntry :=
  let role := fld b (o + 6) 1
  { pt := fld b o 4, slot := fld b (o + 4) 2, area := bitsOf role 0 1, role := bitsOf role 1 2, task := bitsOf role 4 4
    count := fld b (o + 8) 4, types := [] }

/-- Offsets of the map entries and of the instance table entries. -/
def mapOffs (b : List Byte) : List Nat := (List.range (fld b 24 4)).map fun k => fld b 20 4 + 12 * k
def instOffs (b : List Byte) : List Nat := (List.range (fld b 32 4)).map fun k => fld b 28 4 + 16 * k

/-- An instance table entry (Table 7.1). -/
def instAt (b : List Byte) (o : Nat) : InstEntry :=
  { identity := fld b o 4, source := fld b (o + 4) 4, kind := fld b (o + 8) 1, task := fld b (o + 9) 1
    index := fld b (o + 12) 4 }

/-- Instruction word i. -/
def wordAt (b : List Byte) (i : Nat) : Nat := fld b (imgCode b + 4 * i) 4

/-! ## Steps 1 to 5 -/

def checkHeader (b : List Byte) (check : Nat) : Except Reject Unit :=
  firstFail [((crcIscsi b).toNat == check, (1, 0)), (sub b 0 4 == ascii "THY1", (1, 0)), (imgId b != 0, (1, 4)),
    (fld b 8 4 == b.length, (1, 8)), (fld b 38 2 == 1, (1, 38)), (allZero (sub b 48 16), (1, 48))]

/-- The ranges that must not overlap: code, maps, instance table, authorisations; with the field that names each. -/
def imageRanges (b : List Byte) : List (Nat × Nat × Nat) :=
  [(imgCode b, 4 * imgWords b, 16), (fld b 20 4, 12 * fld b 24 4, 20), (fld b 28 4, 16 * fld b 32 4, 28)] ++
    ((tasksIn b).filter fun t => (taskAt b t).authLen != 0).map fun t =>
      ((taskAt b t).authOff, (taskAt b t).authLen, taskOff t + 24)

/-- Whether each range lies within the image and apart from those before it. -/
def rangesApart (len : Nat) : List (Nat × Nat × Nat) → List (Nat × Nat × Nat) → List (Bool × Reject)
  | _, [] => []
  | seen, r :: rest =>
    (decide (r.1 + r.2.1 ≤ len) && seen.all (fun q => q.2.1 == 0 || r.2.1 == 0 || !rangesMeet q.1 q.2.1 r.1 r.2.1),
      (2, r.2.2)) :: rangesApart len (r :: seen) rest

def checkLayout (b : List Byte) : Except Reject Unit :=
  firstFail ([(decide (576 ≤ b.length), (2, 64)), (decide (1 ≤ imgWords b) && decide (imgWords b ≤ 262144), (2, 12)),
    (imgCode b % 4 == 0, (2, 16))] ++ rangesApart b.length [] (imageRanges b))

/-- Step 3 for one task entry. -/
def taskChecks (b : List Byte) (t : Nat) : List (Bool × Reject) :=
  let o := taskOff t
  let c := taskAt b t
  if bitOf (imgMask b) t then
    [ (decide (c.entry < imgWords b), (3, o)),
      (decide (1000 ≤ c.period) && decide (c.period ≤ 10000000) && c.period % 100 == 0, (3, o + 4)),
      (decide (c.phase < c.period), (3, o + 8)), (decide (c.tenant < 4096), (3, o + 12)),
      (decide (c.priority ≤ 15), (3, o + 14)), (decide (c.wordSlots ≤ 16384), (3, o + 18)),
      (fld b (o + 20) 4 == 0, (3, o + 20)), (c.tenant != house || c.authOff == 0, (3, o + 24)),
      (c.authLen == (if c.tenant = house then 0 else 32), (3, o + 28)), (fld b (o + 30) 2 == 0, (3, o + 30)) ]
  else [(allZero (sub b o 32), (3, o))]

def checkTasks (b : List Byte) : Except Reject Unit := firstFail ((List.range 16).map (taskChecks b)).flatten

def checkWords (b : List Byte) : Except Reject Unit :=
  firstFail ((List.range (imgWords b)).map fun i => (legalWord (wordAt b i), (4, imgCode b + 4 * i)))

/-- Whether a word's jump target or instance index lies within its table. -/
def targetOk (words w : Nat) : Bool :=
  match opFormat (wOpcode w) with
  | some .j => decide (wTarget w < words)
  | some (.i _) => decide (wInst w < if wOpcode w ≤ 0x19 then 32768 else 16384)
  | _ => true

def checkTargets (b : List Byte) : Except Reject Unit :=
  firstFail ((List.range (imgWords b)).map fun i => (targetOk (imgWords b) (wordAt b i), (5, imgCode b + 4 * i)))

/-! ## Reachability (step 6) -/

/-- Where control may go after the word at an index; a CALL also comes back to the next word. -/
def nextIndices (w i : Nat) : List Nat :=
  let op := wOpcode w
  if op = 0x78 then [wTarget w]
  else if op = 0x79 ∨ op = 0x7A ∨ op = 0x7B then [wTarget w, i + 1]
  else if op = 0x7C ∨ op = 0x7D then []
  else [i + 1]

/-- The indices reached from a worklist, with fuel. -/
def reachFrom (code : List Nat) : Nat → List Nat → Tab Unit → Tab Unit
  | 0, _, seen => seen
  | _, [], seen => seen
  | n + 1, i :: work, seen =>
    if (tabGet seen i).isSome then reachFrom code n work seen
    else
      match code[i]? with
      | some w => reachFrom code n (nextIndices w i ++ work) (tabSet seen i ())
      | none => reachFrom code n work seen

/-- The words of the code. -/
def codeOf (b : List Byte) : List Nat := (List.range (imgWords b)).map (wordAt b)

/-- The code a task reaches. -/
def reachOf (code : List Nat) (entry : Nat) : List Nat := tabKeys (reachFrom code (3 * code.length + 1) [entry] [])

/-- Whether a word's direct address lies within slot counts (R174). -/
def directOk (c : TaskCfg) (w : Nat) : Bool :=
  match opFormat (wOpcode w) with
  | some (.b _) => wBitMode w != 0 || decide (wAddr w < c.bitSlots)
  | some (.w _ _ _) =>
    wWordMode w != 0 ||
      (if wideOp (wOpcode w) then wAddr w % 2 == 0 && decide (wAddr w + 1 < c.wordSlots) else decide (wAddr w < c.wordSlots))
  | _ => true

def checkReach (b : List Byte) : Except Reject Unit :=
  let code := codeOf b
  firstFail ((tasksIn b).map fun t =>
    (reachOf code (taskAt b t).entry).map fun i =>
      (directOk (taskAt b t) (code.getD i 0), (6, imgCode b + 4 * i))).flatten

/-! ## Maps (steps 7 and 8) -/

/-- The form of one map entry; PT is ignored for LOCAL. -/
def mapForm (b : List Byte) (o : Nat) : Bool :=
  let e := mapAt b o
  let c := taskAt b e.task
  fld b (o + 7) 1 == 0 && !bitOf (fld b (o + 6) 1) 3 && decide (e.role ≤ 2) && (e.role == 2 || decide (e.pt < 2 ^ 25)) &&
    bitOf (imgMask b) e.task && decide (1 ≤ e.count) && decide (e.count ≤ 65536) &&
    decide (e.slot + e.count ≤ if e.area = 0 then c.bitSlots else c.wordSlots)

/-- Whether two map entries map one slot. -/
def mapsMeet (a b : MapEntry) : Bool := a.task == b.task && a.area == b.area && rangesMeet a.slot a.count b.slot b.count

/-- Checks each map entry against those before it. -/
def mapChecks (b : List Byte) : List MapEntry → List Nat → List (Bool × Reject)
  | _, [] => []
  | seen, o :: rest =>
    (mapForm b o && seen.all (fun e => !mapsMeet e (mapAt b o)), (7, o)) :: mapChecks b (mapAt b o :: seen) rest

def checkMaps (b : List Byte) : Except Reject Unit := firstFail (mapChecks b [] (mapOffs b))

/-- The types of the points an entry binds, from a slot on (R578); none where a point does not fit. -/
def bindTypes (s : State) (area : Nat) : Nat → Nat → Nat → Nat → Option (List Nat)
  | 0, _, _, _ => some []
  | _ + 1, _, _, 0 => some []
  | n + 1, pt, slot, left =>
    if !s.defined pt then none
    else
      let ty := (s.point pt).type
      let k := slotsOf ty
      if (area == 0) != (ty == 0) || decide (left < k) || (k == 2 && slot % 2 == 1) then none
      else (bindTypes s area n (pt + 1) (slot + k) (left - k)).map (ty :: ·)

/-- Step 8: the map entries with their points' types. -/
def bindMaps (s : State) (b : List Byte) : List Nat → Except Reject (List MapEntry)
  | [] => .ok []
  | o :: rest =>
    let e := mapAt b o
    if e.role = 2 then (bindMaps s b rest).map (e :: ·)
    else
      match bindTypes s e.area e.count e.pt e.slot e.count with
      | some ts => (bindMaps s b rest).map ({ e with types := ts } :: ·)
      | none => .error (8, o)

/-! ## Authorisations and rights (steps 9 and 10) -/

/-- The message of a task's authorisation (18 Table 18.4). -/
def authMessage (b : List Byte) (t : Nat) : List Byte :=
  let ms := ((mapOffs b).filter fun o => (mapAt b o).task == t).map fun o => sub b o 12
  serialBytes ++ leBytes 4 (imgId b) ++ leBytes 1 t ++ leBytes 3 0 ++ leBytes 64 (Config.sha3 ms.flatten).toNat

/-- The authorisation of a task is right under its tenant's credential; the vault must run. -/
def taskAuthOk (s : State) (b : List Byte) (t : Nat) : Bool :=
  let c := taskAt b t
  c.tenant == house ||
    (s.running iVLT && tagMatches s c.tenant (authMessage b t) "CFM-8420 task" (sub b c.authOff 32))

def checkAuth (s : State) (b : List Byte) : Except Reject Unit :=
  firstFail ((tasksIn b).map fun t => (taskAuthOk s b t, (9, taskOff t + 24)))

/-- The credentials that step 9 used, up to the first authorisation that failed (18 R495). -/
def authUses (s : State) (b : List Byte) : List Nat → State
  | [] => s
  | t :: ts =>
    let c := (taskAt b t).tenant
    let s' := if c = house ∨ !s.running iVLT then s else useCredential s c
    if taskAuthOk s b t then authUses s' b ts else s'

/-- A point readable, or writable on rights alone, by a tenant (step 10). -/
def rightOk (s : State) (tenant role pt : Nat) : Bool :=
  judge s pt tenant (s.point pt).writer (if role = 0 then .read else .write) == stOk

def checkRights (s : State) (b : List Byte) (maps : List MapEntry) : Except Reject Unit :=
  firstFail ((maps.zip (mapOffs b)).map fun p =>
    (p.1.role == 2 || (mappedFrom p.1.area p.1.slot p.1.pt p.1.types).all fun m =>
      rightOk s (taskAt b p.1.task).tenant p.1.role m.pt, (10, p.2)))

/-! ## The instance table (step 11, 07 R211) -/

/-- The kinds an opcode may name an instance of: TON, TOF, TP; TET; counters; edges. -/
def kindsOf (op : Nat) : List Nat :=
  if op = 0x1A then [1] else if op = 0x1B then [2] else if op = 0x1C then [3] else if op = 0x1D then [1, 2, 3]
  else if op = 0x18 ∨ op = 0x19 then [5] else [4]

/-- The class of instances an opcode or kind indexes: 0 timers, 1 counters, 2 edges. -/
def opClass (op : Nat) : Nat := if op ≤ 0x19 then 2 else if op ≤ 0x1D then 0 else 1

/-- A LOCAL block lies within LOCAL slots of its task. -/
def blockInLocal (maps : List MapEntry) (e : InstEntry) : Bool :=
  (List.range (e.index / 65536 + 1)).all fun k => maps.any fun m =>
    m.task == e.task && m.role == 2 && m.area == e.kind - 6 && decide (m.slot ≤ e.index % 65536 + k) &&
      decide (e.index % 65536 + k < m.slot + m.count)

/-- A word block that a direct 64-bit operand of its task's code names starts at an even slot. -/
def blockAligned (code : List Nat) (reach : List Nat) (e : InstEntry) : Bool :=
  e.kind != 7 || e.index % 2 == 0 ||
    !reach.any fun i =>
      let w := code.getD i 0
      wideOp (wOpcode w) && wWordMode w == 0 && rangesMeet (wAddr w) 2 (e.index % 65536) (e.index / 65536 + 1)

/-- One condition of R211 on each entry and the entries before it. -/
def instPass (b : List Byte) (ok : List InstEntry → Nat → InstEntry → Bool) : List InstEntry → List Nat → List (Bool × Reject)
  | _, [] => []
  | seen, o :: rest => (ok seen o (instAt b o), (11, o)) :: instPass b ok (instAt b o :: seen) rest

/-- KIND is 1 to 7, TASK names a task of the image, and the fields of Table 7.1 have their widths. -/
def kindOk (b : List Byte) (o : Nat) (e : InstEntry) : Bool :=
  decide (1 ≤ e.kind) && decide (e.kind ≤ 7) && decide (e.task < 16) && bitOf (imgMask b) e.task && fld b (o + 10) 2 == 0 &&
    (decide (6 ≤ e.kind) || decide (e.index < if e.kind = 5 then 32768 else 16384))

/-- Two entries name one timer, counter or edge. -/
def sameIndex (a e : InstEntry) : Bool :=
  decide (a.kind ≤ 5) && decide (e.kind ≤ 5) && kindClass a.kind == kindClass e.kind && a.index == e.index

/-- Two LOCAL blocks overlap. -/
def blocksMeet (a e : InstEntry) : Bool :=
  a.kind == e.kind && a.task == e.task && rangesMeet (a.index % 65536) (a.index / 65536 + 1) (e.index % 65536) (e.index / 65536 + 1)

/-- A LOCAL block lies in LOCAL slots of its task, apart from the blocks before it, at an even slot where it must. -/
def blockOk (b : List Byte) (maps : List MapEntry) (code : List Nat) (seen : List InstEntry) (e : InstEntry) : Bool :=
  decide (e.kind ≤ 5) ||
    (blockInLocal maps e && !seen.any (blocksMeet · e) && blockAligned code (reachOf code (taskAt b e.task).entry) e)

/-- The entry of the instance a word names, where it names one. -/
def namedEntry (insts : List InstEntry) (w : Nat) : Option (Option InstEntry) :=
  match opFormat (wOpcode w) with
  | some (.i _) =>
    some (insts.find? fun e => decide (e.kind ≤ 5) && kindClass e.kind == opClass (wOpcode w) && e.index == wInst w)
  | _ => none

/-- The instance a word names is listed under a kind permitted for it. -/
def namedOk (insts : List InstEntry) (w : Nat) : Bool :=
  match namedEntry insts w with
  | some (some e) => (kindsOf (wOpcode w)).contains e.kind
  | some none => false
  | none => true

/-- The tasks that reach the word at i are the named entry's alone. -/
def reachedOk (insts : List InstEntry) (reached : List (Nat × List Nat)) (i w : Nat) : Bool :=
  match namedEntry insts w with
  | some (some e) => reached.all fun r => r.1 == e.task || !r.2.contains i
  | _ => true

/-- The conditions of R211 in their order, each over the whole table or the whole code. -/
def checkInsts (b : List Byte) (maps : List MapEntry) : Except Reject Unit :=
  let code := codeOf b
  let os := instOffs b
  let insts := os.map (instAt b)
  let reached := (tasksIn b).map fun t => (t, reachOf code (taskAt b t).entry)
  let pass (ok : List InstEntry → Nat → InstEntry → Bool) : List (Bool × Reject) := instPass b ok [] os
  let words (ok : Nat → Nat → Bool) : List (Bool × Reject) :=
    (List.range code.length).map fun i => (ok i (code.getD i 0), (11, imgCode b + 4 * i))
  firstFail ([(decide (fld b 32 4 ≤ 65536), (11, 32))] ++
    pass (fun seen _ e => e.identity != 0 && !seen.any fun a => a.identity == e.identity) ++
    pass (fun seen _ e => e.source == 0 || !seen.any fun a => a.source == e.source) ++
    pass (fun _ o e => kindOk b o e) ++
    pass (fun seen _ e => !seen.any (sameIndex · e)) ++
    words (fun _ w => namedOk insts w) ++ words (fun i w => reachedOk insts reached i w) ++
    pass (fun seen _ e => blockOk b maps code seen e))

/-- The load checks of Table 6.18 in order: the program, or the step and offset of the first failure (R184). -/
def checkImage (s : State) (b : List Byte) (check : Nat) : Except Reject Program := do
  checkHeader b check
  checkLayout b
  checkTasks b
  checkWords b
  checkTargets b
  checkReach b
  checkMaps b
  let maps ← bindMaps s b (mapOffs b)
  checkAuth s b
  checkRights s b maps
  checkInsts b maps
  .ok
    { id := imgId b, mask := imgMask b, code := (codeOf b).map (BitVec.ofNat 32)
      tasks := (tasksIn b).map fun t => (t, taskAt b t), maps := maps, insts := (instOffs b).map (instAt b), image := b }

/-- The load checks, with the uses of credentials that reaching step 9 makes. -/
def judgeImage (s : State) (b : List Byte) (check : Nat) : Except Reject Program × State :=
  let r := checkImage s b check
  let reached := match r with
    | .ok _ => true
    | .error e => decide (9 ≤ e.1)
  (r, if reached then authUses s b (tasksIn b) else s)

/-- TH_REJECT takes the step and offset of a rejection. -/
def noteReject (s : State) (r : Reject) : State := s.setReg rThReject (r.1 + r.2 % 2 ^ 21 * 256)

/-! ## PROGRAM_LOAD (05 R164) -/

/-- One segment: the staging area is emptied by offset 0, and the complete image waits for its checks. -/
def loadPart (s : State) (q : Req) : Ans :=
  let p := q.payload
  if s.thyme.exchange.isSome then done stBusy s
  else if s.thyme.checking.isSome then done stBusy s
  else
    let empty (s : State) : State :=
      if fld p 0 4 = 0 then { s with thyme := { s.thyme with staged := none } } else s
    match transferPart s q (fld p 0 4) (fld p 4 4) (fld p 8 4) (p.drop 16) with
    | .refused st => done st s
    | .more t => ((stOk, leBytes 4 t.received), empty (putTransfer s t))
    | .whole t =>
      let s := empty (endTransfer s 0x0301)
      ((stPending, leBytes 4 t.received), { s with thyme := { s.thyme with checking := some (t.data, t.check) } })

/-- PROGRAM_LOAD (0x0301). -/
def execProgramLoad (r : Route) (tag : Nat) (s : State) : Host.Outcome State Fault Refusal :=
  .next (serve 0x0301 s r tag fun q s =>
    let p := q.payload
    if p.length < 16 then done stBadLength s
    else if fld p 12 4 ≠ 0 ∨ fld p 4 4 < 64 ∨ 2097152 < fld p 4 4 then done stBadArgument s
    else toIsland s iTHY fun s => loadPart s q)

/-- PROGRAM_LOAD_CHECKED: the checks of a complete image end, and it is staged or rejected (06 R184). -/
def execProgramLoadChecked (s : State) : Host.Outcome State Fault Refusal :=
  .next (match s.thyme.checking with
    | none => s
    | some (b, check) =>
      let (r, s) := judgeImage { s with thyme := { s.thyme with checking := none } } b check
      match r with
      | .ok p => complete_ { s with thyme := { s.thyme with staged := some p } } 0x0301 stOk (leBytes 4 b.length)
      | .error r =>
        complete_ (noteReject { s with thyme := { s.thyme with staged := none } } r) 0x0301 stImageRejected [])

/-! ## Restart (06 R198) -/

/-- THY enters RUN after RESET or OFF: Steward loads the last exchanged program again. -/
def thyRestart (s : State) : State :=
  match s.thyme.lastProg with
  | none => s
  | some last =>
    let (r, s) := judgeImage s last.image (crcIscsi last.image).toNat
    match r with
    | .error r =>
      let s := noteReject s r
      s.logEvent lvFault iTHY 1 0x20 (s.reg rThReject)
    | .ok p =>
      let ((st, pt), s) := claimOutputs s p
      if st ≠ stOk then (s.logEvent lvFault iTHY 1 0x21 pt).logEvent lvFault iTHY 1 0x22 st
      else
        let s := installProgram s p
        if s.thyme.lastStopped then { s.lower rThCtrl 0 with thyme := { s.thyme with halted := true } } else startProgram s

end Sys2Proof.Machine
end

