-- ==== Sys2Proof/Machine/Islands.lean ====
section
/-! DEFINITION. Islands (02): transitions and drains, what each island keeps and loses, restarts by the sequencer, epochs
and slots, and the clocks. -/

namespace Sys2Proof.Machine

/-! ## Registers across a reset (00 R12) -/

/-- The word of a register once an island reset has gone over it: kept bits stay, the rest take their reset value. -/
def resetWord (a : Nat) (w : Word) : Nat :=
  match regRow a with
  | some r => (w.toNat &&& (r.keep ||| r.keepIsl)) + (r.reset &&& (all32 - (r.keep ||| r.keepIsl)))
  | none => 0

/-- Every register of an island takes its reset value (R12). -/
def resetRegs (s : State) (i : Nat) : State :=
  { s with regs := s.regs.filterMap fun p =>
      if p.1 / 0x10000000 ≠ i then some p
      else if resetWord p.1 p.2 = regReset p.1 then none
      else some (p.1, BitVec.ofNat 32 (resetWord p.1 p.2)) }

/-! ## Slots (R56, R72) -/

/-- An epoch's successor: 0 is skipped (R63). -/
def nextEpoch (e : Nat) : Nat := if e = 0xFFFF then 1 else e + 1

/-- Requests an island has accepted and not replied to: Thyme's image operations in the fabric's queue, the only ones
whose service outlasts the step that accepts them (03 R99; log 85). -/
def inPend (s : State) (i : Nat) : Nat := if i = iPF then s.fabric.imageQueue.length else 0

/-- Requests an island has open at others: its slots, and Thyme's image operations. -/
def outPend (s : State) (i : Nat) : Nat := (s.isl i).slots.length + if i = iTHY then s.fabric.imageQueue.length else 0

/-- Nothing is outstanding at an island (Table 2.8 step 3). -/
def quiet (s : State) (i : Nat) : Bool := inPend s i == 0 && outPend s i == 0 && (s.isl i).waiting.isEmpty

/-- One open slot is abandoned: its generation advances and it rests for 4 ms (R72). -/
def abandonSlot (now : Nat) (x : Island) (o : OutSlot) : Island :=
  { x with
    slots := x.slots.filter (· != o)
    gens := tabSet x.gens (o.target * 32 + o.slot) ((o.gen + 1) % 8)
    dead := x.dead ++ [{ target := o.target, slot := o.slot, since := now }] }

/-- A request withdrawn unsent completes within the requester with ISLAND_ABSENT (R56). -/
def withdrawRequest (s : State) (q : XRequest) : State :=
  let s := s.lastError q.src q.dst q.source stIslandAbsent
  if q.source = 0 then s else settleAccess s (if q.source = 1 then .steward else .core1) stIslandAbsent 0

/-- What an island left open when it leaves RUN is abandoned and withdrawn; whether anything was, or is failed as the
island leaves (Table 2.8 step 3). -/
def cutCrossings (s : State) (i : Nat) : Bool × State :=
  let x := s.isl i
  let hit := !quiet s i
  let s := x.waiting.foldl withdrawRequest s
  let y := x.slots.foldl (abandonSlot s.now) (s.isl i)
  (hit, s.setIsl i { y with waiting := [] })

/-! ## What a subsystem does as its island leaves RUN (R59) -/

/-- SAGE leaves RUN or IDLE: every session closes, nothing in progress is answered, Steward stops (04 R144, R150). -/
def sageLeave (s : State) : State :=
  let s := (tabKeys s.mail.sessions).foldl closeSession s
  let s := s.mail.transfers.foldl abandonTransfer s
  { s with mail := { s.mail with inProgress := [], ready := false } }

/-- Every link at the switch goes down; frames in its buffer are discarded (12 R359; 01 R33). -/
def switchDown (s : State) : State :=
  let s := swLeave s
  let s := (List.range 20).foldl (fun s p =>
    if (s.port p).link == .up || (s.port p).link == .sleeping then setLink s p .down else s) s
  { s with switch := { s.switch with bypassClosed := true } }

/-- The field links go down: FLD or the KQ16 is out (02 Table 2.2). -/
def fieldDown (s : State) : State :=
  (List.range 16).foldl (fun s n =>
    if (s.port (4 + n)).link == .up || (s.port (4 + n)).link == .sleeping then setLink s (4 + n) .down else s) s

/-- VLT loses its session keys and the working key register (18 R500). -/
def vaultLeave (s : State) : State := { eraseSessionKeys s with vault := { (eraseSessionKeys s).vault with ready := false } }

/-- An image operation the fabric accepted and has not performed is answered ISLAND_ABSENT, in a drain's step 3 or on an
abrupt transition (R68, R74; 06 R192). -/
def failImageOp (s : State) (o : ImageOp) : State :=
  if !s.running iTHY then s
  else if o.gather then (if (s.task o.task).state == .gathering then loseCycle s o.task stIslandAbsent else s)
  else if (s.task o.task).state == .scattering then loseScatter s o.task stIslandAbsent
  else s

/-- An island leaves RUN or IDLE. `drained`: queued samples of Harvest have been recorded, else they are lost (11 R332). -/
def leaveIsland (s : State) (i : Nat) (drained : Bool) : State :=
  if i = iSAGE then sageLeave s
  else if i = iPF then
    let s := if drained then drainSamples s s.harvest.queue.length else tearSample s
    let q := s.fabric.imageQueue
    let s := { s with fabric := { s.fabric with imageQueue := [] }, harvest := { s.harvest with queue := [] } }
    q.foldl failImageOp s
  else if i = iTHY then thyLeave s
  else if i = iLOOP then loopLeave s
  else if i = iMTR then meterLeave s
  else if i = iSW then switchDown s
  else if i = iTIME then timeLeave s
  else if i = iBUS then busLeave s
  else if i = iFLD then fieldDown s
  else s

/-- An island loses what it does not keep: it enters RESET or OFF (the chapters of Table 2.2; 20 R537, R544). -/
def loseIsland (s : State) (i : Nat) : State :=
  let s := resetRegs s i
  if i = iMGT then { s with power := { s.power with chervilReady := false, startShown := false } }
  else if i = iVLT then vaultLeave s
  else if i = iSAGE then { s with irq := {} }
  else if i = iPF then { s with chk := {}, fabric := { s.fabric with misses := 0, missStuck := false, cache := [] } }
  else if i = iFLD then { s with power := { s.power with fuses := [] } }
  else if i = iTHY then thyLose s
  else if i = iLOOP then loopLose s
  else if i = iMTR then meterLose s
  else if i = iSW then
    { s with switch := { s.switch with
        uc := [], dups := [], nodes := [], ucFound := false, ucFull := false
        ports := tabMap (fun _ x => { x with macsec := none, linkUps := 0, missingAt := none, pauseUntil := 0 }) s.switch.ports } }
  else if i = iBUS then busLose s
  else s

/-! ## What a subsystem does as its island enters RUN -/

/-- PF takes up its work: no close is due for boundaries passed, and the system points follow. -/
def pfEnter (s : State) : State :=
  let s := { s with harvest := { s.harvest with closeFrom := s.tai } }
  resync s

/-- SAGE enters RUN: every mailbox is IDLE, buffers are undefined, MB_EVENT.RESTARTED is set, Steward accepts requests
(04 R150; log 5). -/
def sageEnter (s : State) : State :=
  let s := { s with mail := { s.mail with
    boxes := tabMap (fun _ x => { x with state := .idle, kept := none }) s.mail.boxes, buf := [], ready := true } }
  (s.setReg rMbRespReady 0).mbEvent 3

/-- The vault serves operations again; it keeps stored keys, and those of a reset came from MRAM (18 R494). -/
def vaultEnter (s : State) : State := { s with vault := { s.vault with ready := true } }

/-- Thyme and loops may be restarted: the store stands and the role does not compute in shadow (06 R198, 08 R254). -/
def mayRestart (s : State) : Bool := s.rbit rPfStatus 0 && !s.shadow

/-- The notice of an island's epoch to one port: it arrives at once, or behind the replies the island sent to that port
before (R55, R64, R75). -/
def noticeTo (s : State) (i j : Nat) : State :=
  let ahead := (s.outs.replies.filter fun p => p.target == i && p.requester == j).length
  if ahead = 0 then s.noteEpoch j i (s.isl i).epoch
  else { s with outs := { s.outs with notices := s.outs.notices ++
    [{ island := i, receiver := j, epoch := (s.isl i).epoch, ahead := ahead }] } }

/-- The notice of an island's epoch to every other port (R64). -/
def sendEpoch (s : State) (i : Nat) : State :=
  (List.range 12).foldl (fun s j => if j = i then s else noticeTo s i j) s

/-- An island enters RUN from BOOT. -/
def enterRunIsland (s : State) (i : Nat) : State :=
  if i = iMGT then { s with power := { s.power with chervilReady := true } }
  else if i = iVLT then vaultEnter s
  else if i = iSAGE then sageEnter s
  else if i = iPF then pfEnter (tornSeries s)
  else if i = iTHY then (if mayRestart s then thyRestart s else s)
  else if i = iLOOP then (if mayRestart s then loopRestart (loopStart s) else loopStart s)
  else if i = iMTR then restoreCalibration (meterEnter s)
  else if i = iTIME then timeEnter s
  else if i = iBUS then busEnter s
  else s

/-! ## Transitions -/

/-- A standby whose own islands are not all in RUN or IDLE is not ready (16 Table 16.3 cause 4); once they are again, it
asks for a full transfer. -/
def standbyFit (s : State) (i : Nat) : State :=
  if s.twin.role ≠ .standby ∨ !selfIslands.contains i then s
  else if !s.running i then (if s.twin.ready then notReady s 4 else s)
  else if s.twin.notReady = 4 ∧ islandsFit s ∧ !s.twin.transfer then
    askResync { s with twin := { s.twin with mute := false } } 4
  else s

/-- No transition of the island is under way. -/
def atRest (x : Island) : Bool := x.state != .reset && x.state != .boot && !x.draining

/-- The ISLAND_CONTROL that waits on an island is answered with its epoch once the island rests (05 Table 5.1; log 54). -/
def settleControl (s : State) (i : Nat) : State :=
  let x := s.isl i
  if !atRest x then s
  else
    match s.mail.inProgress.find? fun q => q.command == 0x0E05 && q.pended && fld q.payload 0 1 == i with
    | some q => respond s q stOk (leBytes 2 x.epoch ++ leBytes 2 0)
    | none => s

/-- An island's state changes: the island's own record, then whoever waits. Its points follow within 10 ms, at the next
idle cycle (R571). -/
def putState (s : State) (i : Nat) (st : IslState) (f : Island → Island) : State :=
  let s := s.setIsl i (f { s.isl i with state := st, target := st, draining := false, since := s.now })
  settleControl (standbyFit s i) i

/-- The state an island leaves is one of those that process. -/
def wasUp (s : State) (i : Nat) : Bool := s.running i

/-- Enters a state from RUN or IDLE, whether after a drain or abruptly: what is open is cut and what is lost is lost. -/
def enterFrom (s : State) (i : Nat) (st : IslState) (drained : Bool) : State :=
  let (hit, s) := cutCrossings s i
  let s := if hit && drained then s.raise (rIslFault i) 2 else s
  let s := leaveIsland s i drained
  let s := if st == .reset || st == .off then loseIsland s i else if st == .update ∧ i = iTHY then thyAbort s else s
  putState s i st fun x => { x with restart := st == .reset, target := if st == .reset then .run else st }

/-- OFF to RESET: the domain is powered and the epoch advances (R59, R63). -/
def powerIsland (s : State) (i : Nat) (restart : Bool) : State :=
  putState s i .reset fun x => { x with epoch := nextEpoch x.epoch, restart := restart, target := .run }

/-- RETAIN to RUN: state is kept. -/
def wakeRetained (s : State) (i : Nat) : State :=
  let s := putState s i .run id
  if i = iTHY then thyReturn s
  else if i = iLOOP then loopReturn s
  else if i = iMTR then meterEnter s
  else if i = iBUS then busReturn s
  else if i = iPF then pfEnter s
  else if i = iSAGE then sageEnter s
  else if i = iVLT then vaultEnter s
  else s

/-- UPDATE to RESET: the part is applied or abandoned (R59). -/
def endUpdateState (s : State) (i : Nat) : State :=
  let s := loseIsland s i
  putState s i .reset fun x => { x with epoch := nextEpoch x.epoch, restart := true, target := .run }

/-- Step 1 of a drain (Table 2.8): MTR ends its blocks and saves its totals (10 R302). -/
def startDrain (s : State) (i : Nat) (target : IslState) : State :=
  let s := s.wakeIsl i
  let s := s.setIsl i { s.isl i with draining := true, drainStart := s.now, target := target }
  let s := if i = iMTR then meterDrain s else s
  if selfIslands.contains i then selfCause s 2 i else s

/-- Steps 3 and 4 of a drain. -/
def endDrain (s : State) (i : Nat) : State := enterFrom s i (s.isl i).target true

/-- DRAIN_END: nothing is outstanding, or 2 ms have passed. -/
def drainEnd (s : State) (i : Nat) : State :=
  let x := s.isl i
  if x.draining && s.mayMove i && (quiet s i || decide (x.drainStart + 2 * nsMs ≤ s.now)) then endDrain s i else s

def execDrainEnd (island : Nat) (s : State) : Host.Outcome State Fault Refusal := .next (drainEnd s island)

/-! ## ISL_CTRL (R60, R61, R70, R574) -/

/-- The state a REQ_STATE code names, for the codes that may be requested. -/
def reqTarget (v : Nat) : Option IslState :=
  if v = 0 then some .off else if v = 1 then some .reset else if v = 3 then some .run
  else if v = 5 then some .retain else if v = 6 then some .update else none

/-- States an island never enters (Table 2.1). -/
def neverEnters (i : Nat) (st : IslState) : Bool :=
  (i == iALM && (st == .idle || st == .retain || st == .update)) || (i == iMGT && st == .retain) ||
    (i == iTIME && (st == .idle || st == .retain))

/-- Who may ask for a state: UPDATE comes from the update path, and MGT moves for Sage core 0 alone (R59, R62). -/
def mayAsk (s : State) (by_ : Agent) (i : Nat) (st : IslState) : Bool :=
  if i = iMGT then (by_ == .steward || by_ == .block) && (st == .reset || st == .update)
  else s.running iMGT && (st != .update || by_ == .chervil)

/-- The transition is listed for the present state (Table 2.7). -/
def listed (x : Island) (st : IslState) : Bool :=
  match x.state with
  | .run => st == .reset || st == .update || st == .retain || st == .off
  | .idle => st == .reset || st == .update || st == .retain || st == .off
  | .retain => st == .run
  | .fault => st == .reset || st == .off
  | .off => st == .reset || st == .run
  | _ => false

/-- Performs a listed request. -/
def requestState (s : State) (i : Nat) (st : IslState) (force : Bool) : State :=
  let x := s.isl i
  if x.draining then
    let s := s.setIsl i { x with target := st }
    if force then endDrain s i else s
  else if s.running i then
    if force then enterFrom (if selfIslands.contains i then selfCause s 2 i else s) i st false else startDrain s i st
  else if x.state == .retain then wakeRetained s i
  else if x.state == .off then powerIsland s i true
  else
    let s := loseIsland s i
    putState s i st fun y => { y with restart := st == .reset, target := if st == .reset then .run else st }

/-- Whether a request to an island is performed. -/
def askable (s : State) (by_ : Agent) (i v : Nat) : Bool :=
  match reqTarget v with
  | some st => mayAsk s by_ i st && !neverEnters i st && listed (s.isl i) st
  | none => false

/-- A write of ISL_CTRL by Chervil or Steward; one from Sage core 1 is an access fault. The register stands with the port
shell and is written in every state of its island (log 55). -/
def islCtrlWrite (s : State) (by_ : Agent) (i v : Nat) : State :=
  if !s.running (agentIsland by_) ∨ 12 ≤ i then s
  else if by_ == .core1 || by_ == .spi then settleAccess s by_ stNotPermitted 0
  else
    let s := settleAccess (s.setField (rIslCtrl i) 4 1 (bitsOf v 4 1)) by_ stOk 0
    match reqTarget (v % 8) with
    | some st =>
      if askable s by_ i (v % 8) then requestState (s.setField (rIslCtrl i) 0 3 (v % 8)) i st (bitOf v 8) else s
    | none => s

/-- A row's write: REQ_STATE holds the row's code. -/
def reqStateRow (s : State) (by_ : Agent) (i code : Nat) (v : Word) : State :=
  if v.toNat % 8 = code then islCtrlWrite s by_ i v.toNat else s

def execIslReqStateOff (by_ : Agent) (island : Nat) (value : Word) (s : State) : Host.Outcome State Fault Refusal :=
  .next (reqStateRow s by_ island 0 value)

def execIslReqStateReset (by_ : Agent) (island : Nat) (value : Word) (s : State) : Host.Outcome State Fault Refusal :=
  .next (reqStateRow s by_ island 1 value)

def execIslReqStateRun (by_ : Agent) (island : Nat) (value : Word) (s : State) : Host.Outcome State Fault Refusal :=
  .next (reqStateRow s by_ island 3 value)

def execIslReqStateRetain (by_ : Agent) (island : Nat) (value : Word) (s : State) : Host.Outcome State Fault Refusal :=
  .next (reqStateRow s by_ island 5 value)

def execIslReqStateUpdate (by_ : Agent) (island : Nat) (value : Word) (s : State) : Host.Outcome State Fault Refusal :=
  .next (reqStateRow s by_ island 6 value)

/-- ISLAND_CONTROL (0x0E05): Chervil makes the write (R478); it pends until the island rests. A request that R61 ignores
answers OK with the present epoch (log 54). -/
def execIslandControl (r : Route) (tag : Nat) (s : State) : Host.Outcome State Fault Refusal :=
  .next (
    serve 0x0E05 s r tag fun q s =>
      let p := q.payload
      let i := fld p 0 1
      if p.length ≠ 4 then done stBadLength s
      else if 11 < i ∨ 7 < fld p 1 1 ∨ 1 < fld p 2 1 ∨ fld p 3 1 ≠ 0 then done stBadArgument s
      else toIsland s iMGT fun s =>
        let s := match reqTarget (fld p 1 1) with
          | some st =>
            if askable s .steward i (fld p 1 1) then
              requestState (s.setField (rIslCtrl i) 0 3 (fld p 1 1)) i st (fld p 2 1 == 1)
            else s
          | none => s
        if atRest (s.isl i) then ((stOk, leBytes 2 (s.isl i).epoch ++ leBytes 2 0), s) else done stPending s)

/-! ## The sequencer (R574; 17 Table 17.5) -/

/-- The islands that run before an island at start-up (17 Table 17.5). -/
def startsAfter (i : Nat) : List Nat :=
  if i = iMGT then []
  else if i = iALM then [iMGT]
  else if i = iVLT ∨ i = iTIME then [iMGT, iALM]
  else if i = iPF then [iVLT, iTIME]
  else if i = iSAGE then [iPF]
  else if i = iMTR then [iSAGE]
  else if i = iSW then [iMTR]
  else if i = iBUS then [iSW]
  else if i = iFLD then [iBUS]
  else if i = iTHY then [iFLD]
  else [iTHY]

/-- Steps of Table 17.5 that wait for VSTORE at 29 V. -/
def waitsForStore (i : Nat) : Bool := [iMTR, iSW, iBUS, iFLD, iTHY, iLOOP].contains i

/-- An island of step 9 has been taken through its boot; one that then failed does not hold up the next (log 65). -/
def pastBoot (s : State) (i : Nat) : Bool := (s.isl i).state != .reset && (s.isl i).state != .boot

/-- An island in RESET may be released: 4 ms after it entered RESET on a restart, or its step of the start-up. -/
def releasable (s : State) (i : Nat) : Bool :=
  let x := s.isl i
  x.state == .reset && !s.power.resetPin && (i == iMGT || s.running iMGT) && (i != iALM || !s.almanac.vaonLow) &&
    (if x.restart then decide (x.since + 4 * nsMs ≤ s.now)
     else s.power.started && !s.power.hot && (startsAfter i).all (fun j => s.running j || (waitsForStore j && pastBoot s j)) &&
       (!waitsForStore i || s.power.storeReady))

/-- RESET_RELEASE: the island enters BOOT with its next epoch and sends the notice (R63, R64). -/
def resetRelease (s : State) (i : Nat) : State :=
  if 12 ≤ i ∨ !releasable s i then s
  else sendEpoch (putState s i .boot fun x => { x with epoch := nextEpoch x.epoch, target := .run }) i

def execResetRelease (island : Nat) (s : State) : Host.Outcome State Fault Refusal := .next (resetRelease s island)

/-- Boot bounds of Table 2.7a, ms. -/
def bootBound (i : Nat) : Nat := ([1, 22, 15, 220, 20, 2, 2, 5, 5, 5, 2, 10])[i]?.getD 0

/-- An island enters FAULT (R59, R62): it is logged and is a cause of self-diagnosis. -/
def faultIsland (s : State) (i bit localCause : Nat) : State :=
  let s := (s.raise (rIslFault i) bit).setField (rIslFault i) 16 8 localCause
  let up := s.running i
  let s := (cutCrossings s i).2
  let s := if up then leaveIsland s i false else s
  let s := if i = iVLT then vaultLeave s else s
  let s := if i = iMGT then { s with power := { s.power with chervilReady := false } } else s
  let s := putState s i .fault fun x => { x with restart := false }
  s.logEvent lvFault i 0 bit localCause

/-- An island enters FAULT; one of Table 16.5 is a cause (16 R436). -/
def enterFault (s : State) (i bit localCause : Nat) : State :=
  let s := faultIsland s i bit localCause
  if selfIslands.contains i then selfCause s 1 i else s

/-- BOOT_TIMEOUT: a restarted island has not booted within its bound. -/
def bootTimeout (s : State) (i : Nat) : State :=
  let x := s.isl i
  if x.state == .boot && x.restart && decide (x.since + bootBound i * nsMs ≤ s.now) then enterFault s i 4 0 else s

def execBootTimeout (island : Nat) (s : State) : Host.Outcome State Fault Refusal := .next (bootTimeout s island)

/-- ISLAND_FAULT_ENTRY: a cause in ISL_FAULT[6:3], in any state but OFF. -/
def islandFault (s : State) (i cause localCause : Nat) : State :=
  if 12 ≤ i ∨ (s.isl i).state == .off ∨ cause < 3 ∨ 6 < cause then s else enterFault s i cause (localCause % 256)

def execIslandFaultEntry (island cause localCause : Nat) (s : State) : Host.Outcome State Fault Refusal :=
  .next (islandFault s island cause localCause)

/-- AUTO_RECOVERY (17 R478). -/
def autoRecovery (s : State) (i : Nat) : State :=
  let x := s.isl i
  if 12 ≤ i ∨ i = iMGT ∨ x.state != .fault ∨ !s.running iMGT ∨ !s.rbit rMgCtrl 0 ∨ s.now < x.since + 100 * nsMs then s
  else
    let recent := x.recoveries.filter fun t => decide (s.now < t + 3600 * nsSec)
    if 3 ≤ recent.length then s.raise rMgEvent 3
    else
      let s := s.setIsl i { x with recoveries := s.now :: recent }
      let s := requestState (s.setField (rIslCtrl i) 0 3 1) i .reset false
      (s.raise rMgEvent 2).logEvent lvWarn iMGT 0xF 0x11 i

def execAutoRecovery (island : Nat) (s : State) : Host.Outcome State Fault Refusal := .next (autoRecovery s island)

/-! ## IDLE (R53) -/

/-- Work that keeps an island's clock: requests open or accepted, and what its subsystem has begun (log 105). -/
def hasWork (s : State) (i : Nat) : Bool :=
  !quiet s i ||
    (i == iSAGE && (!s.mail.inProgress.isEmpty || s.mail.boxes.any fun p => p.2.state == .working)) ||
    (i == iPF && !s.harvest.queue.isEmpty) ||
    (i == iTHY && (s.thyme.tasks.any (fun p => p.2.busy) || s.thyme.exchange.isSome || s.thyme.checking.isSome)) ||
    (i == iLOOP && s.loops.groups.any fun p => p.2.phase != .idle) ||
    (i == iSW && s.switch.ports.any fun p => !p.2.queue.isEmpty) ||
    (i == iBUS && s.bus.chans.any fun c => c.2.objects.any fun o => o.2.state == .pending || o.2.state == .onBus) ||
    (i == iMGT && s.update.stage == 2)

/-- ISLAND_IDLE_ENTRY: an island with no work stops its clock; moderation holds of its targets end (20 R536). -/
def idleEntry (s : State) (i : Nat) : State :=
  let x := s.isl i
  if 12 ≤ i ∨ x.state != .run ∨ x.draining ∨ !s.rbit (rIslCtrl i) 4 ∨ neverEnters i .idle ∨ !s.mayMove i ∨ hasWork s i then s
  else
    let free (s : State) (t : Nat) : State := s.setTarget t { s.target t with holdUntil := none }
    let s := if i = iSAGE then free (free s 0) 1 else if i = iMGT then free s 2 else s
    putState s i .idle id

def execIslandIdleEntry (island : Nat) (s : State) : Host.Outcome State Fault Refusal := .next (idleEntry s island)

/-- ISLAND_WAKE: an internal wake event restarts a stopped clock or takes a retained island to RUN (R53, R59); what the
shedding has stopped stays so until it ends (17 Table 17.3). -/
def islandWake (s : State) (i : Nat) : State :=
  if !s.mayMove i ∨ (s.power.shed ∧ (i = iSAGE ∨ i = iTHY ∨ i = iLOOP)) then s
  else if (s.isl i).state == .idle then putState s i .run id
  else if (s.isl i).state == .retain then wakeRetained s i
  else s

def execIslandWake (island : Nat) (s : State) : Host.Outcome State Fault Refusal := .next (islandWake s island)

/-! ## Epoch notices and replies (R64, R66, R72) -/

/-- A message that is not formed as the handshake gives it: the receiving port reports it (Table 2.16). -/
def malformed (s : State) (i : Nat) : State := if i < 12 then s.raise (rIslFault i) 0 else s

/-- EPOCH_NOTICE: a receiving port sets its record, once the replies sent before the notice have arrived (R55, R64). -/
def execEpochNotice (island receiver epoch : Nat) (s : State) : Host.Outcome State Fault Refusal :=
  .next (
    if 12 ≤ receiver then s
    else if 12 ≤ island ∨ epoch = 0 ∨ 0xFFFF < epoch then malformed s receiver
    else if s.outs.notices.any fun n => n.island == island && n.receiver == receiver then s
    else s.noteEpoch receiver island epoch)

/-- A reply of an island has arrived at a port: the notices behind it come one nearer, and those at the front arrive. -/
def advanceNotices (s : State) (island receiver : Nat) : State :=
  let mine (n : EpochNotice) : Bool := n.island == island && n.receiver == receiver
  let due := s.outs.notices.filter fun n => mine n && n.ahead ≤ 1
  let rest := (s.outs.notices.filter fun n => !(mine n && n.ahead ≤ 1)).map fun n =>
    if mine n then { n with ahead := n.ahead - 1 } else n
  due.foldl (fun s n => s.noteEpoch receiver island n.epoch) { s with outs := { s.outs with notices := rest } }

/-- A reply may arrive: no reply its target sent earlier to the same requester is still on its way (R55). -/
def inTurn (s : State) (p : XReply) : Bool :=
  ((s.outs.replies.find? fun x => x.target == p.target && x.requester == p.requester).map fun x => x == p).getD true

/-- older of R66. -/
def older (a b : Nat) : Bool :=
  if a = 0 ∨ b = 0 then false
  else
    let d := (b + 65535 - a) % 65535
    decide (1 ≤ d) && decide (d ≤ 32767)

/-- The requester's slot completes: its outcome is recorded, and reported to a core that waits (R66, Table 2.22). -/
def completeSlot (s : State) (i : Nat) (o : OutSlot) (status : Nat) (data : Nat) : State :=
  let s := s.setIsl i { s.isl i with slots := (s.isl i).slots.filter (· != o) }
  let s := s.lastError i o.target o.source status
  if o.source = 0 then s else settleAccess s (if o.source = 1 then .steward else .core1) status data

/-- A reply is judged at the requester's port (R66). -/
def judgeReply (s : State) (p : XReply) : State :=
  let i := p.requester
  let x := s.isl i
  let discard (s : State) : State := s.stick (rIslDiscard i) (rIslFault i) 7
  if !s.running i ∨ p.reqEpoch ≠ x.epoch then discard s
  else
    match x.slots.find? fun o => o.target == p.target && o.slot == p.slot && o.gen == p.gen with
    | none => discard s
    | some o =>
      if older p.targetEpoch (s.epochOf i p.target) then completeSlot s i o stStaleEpoch 0
      else
        let s := if p.targetEpoch = 0 then s else s.noteEpoch i p.target p.targetEpoch
        completeSlot s i o p.status p.data.toNat

/-- CROSSING_REPLY: a formed reply whose turn has come arrives, is judged, and lets the notices behind it come nearer. -/
def crossingReply (s : State) (p : XReply) : State :=
  if 12 ≤ p.requester then s
  else if 12 ≤ p.target ∨ 32 ≤ p.slot ∨ 8 ≤ p.gen then malformed s p.requester
  else if !inTurn s p then s
  else
    let sent := s.outs.replies.contains p
    let s := judgeReply { s with outs := { s.outs with replies := s.outs.replies.filter (· != p) } } p
    if sent then advanceNotices s p.target p.requester else s

def execCrossingReply (p : XReply) (s : State) : Host.Outcome State Fault Refusal := .next (crossingReply s p)

/-- SLOT_REUSE_TIMEOUT: 4 ms after the abandonment (R72). -/
def slotReuse (s : State) (i target slot : Nat) : State :=
  let x := s.isl i
  s.setIsl i { x with dead := x.dead.filter fun d => !(d.target == target && d.slot == slot && decide (d.since + 4 * nsMs ≤ s.now)) }

def execSlotReuseTimeout (island target slot : Nat) (s : State) : Host.Outcome State Fault Refusal :=
  .next (slotReuse s island target slot)

/-! ## The supply of ALM (14 Table 14.1) -/

/-- VAON_LOW: the bus interface is locked out and ALM's port answers ISLAND_ABSENT: an abrupt loss of the island's supply.
Table 14.1 names no state code for it; the model takes OFF (log 106). -/
def vaonFalls (s : State) : State :=
  if s.almanac.vaonLow then s
  else
    let s := { s with almanac := { s.almanac with vaonLow := true } }
    if s.running iALM then enterFrom s iALM .off false else putState (loseIsland s iALM) iALM .off id

def execVaonLow (s : State) : Host.Outcome State Fault Refusal := .next (vaonFalls s)

/-- VAON_RETURN: the core returns to VAON, and the sequencer takes ALM through RESET and BOOT with its next epoch (R59,
R63, R574). While the module starts it takes the step of the start-up instead, and without MGT it stays where it is
(R62). -/
def vaonReturn (s : State) : State :=
  if !s.almanac.vaonLow then s
  else
    let s := { s with almanac := { s.almanac with vaonLow := false, onVbat := false } }
    let starting := (s.isl iMGT).state == .reset || (s.isl iMGT).state == .boot
    if !s.power.started ∨ (s.isl iALM).state != .off ∨ !(s.running iMGT || starting) then s
    else powerIsland s iALM (s.running iMGT)

def execVaonReturn (s : State) : Host.Outcome State Fault Refusal := .next (vaonReturn s)

/-! ## Clocks (R47, R52; 17 R479) -/

/-- Nominal local frequencies of Table 2.1, kHz, rounded down. -/
def nominalKHz (i : Nat) : Nat :=
  ([32, 48000, 64000, 1000000, 800000, 400000, 200000, 98304, 312500, 100000, 80000, 125000])[i]?.getD 0

/-- CLK_RANGE: a frequency outside ±2 % of nominal for 1 ms in RUN. -/
def clkRange (s : State) (i kHz : Nat) : State :=
  let n := nominalKHz i
  if 12 ≤ i ∨ (s.isl i).state != .run ∨ (98 * n ≤ 100 * kHz ∧ 100 * kHz ≤ 102 * n) then s
  else (s.setReg (rIslClk i) (kHz % 2 ^ 20)).raise (rIslFault i) 1

def execClkRange (island kHz : Nat) (s : State) : Host.Outcome State Fault Refusal := .next (clkRange s island kHz)

/-- The reference source changes (R52, 17 R479): an event, and a log entry. -/
def switchReference (s : State) (ext : Bool) : State :=
  if s.power.refExt == ext then s
  else ({ s with power := { s.power with refExt := ext } }.raise rPwEvent 6).logEvent lvWarn iMGT 2 6 (b2n ext)

/-- REFCLK_LOST. -/
def execRefclkLost (s : State) : Host.Outcome State Fault Refusal :=
  .next (switchReference { s with power := { s.power with refIn := false } } false)

/-- REFCLK_RETURN: edges without loss for 10 s; under AUTO the module returns to REFCLK_IN. -/
def execRefclkReturn (s : State) : Host.Outcome State Fault Refusal :=
  .next (
    let s := { s with power := { s.power with refIn := true } }
    if s.rfield rPwCtrl 12 2 = 2 ∧ s.running iMGT then switchReference s true else s)

end Sys2Proof.Machine
end

