-- ==== Sys2Proof/Machine/Power.lean ====
section
/-! DEFINITION. Power, start-up and management (17): hold-up and the early warning, the save and the module reset, field
power, Chervil's sensors and the fault log, and the MGT commands. -/

namespace Sys2Proof.Machine

/-! ## The module reset (R481, 00 R12) -/

/-- Registers that keep their bits across a module reset. -/
def keptRegs (s : State) (keep : Nat → Nat) : Tab Word :=
  s.regs.filterMap fun p =>
    let r := (regRow p.1).getD { base := 0 }
    let v := (p.2.toNat &&& (r.keep &&& keep p.1)) + (r.reset &&& (all32 - (r.keep &&& keep p.1)))
    if v = regReset p.1 then none else some (p.1, BitVec.ofNat 32 v)

/-- Registers whose kept value no factory value replaces (log 56). -/
def factoryKeeps : List Nat :=
  [rMgResetCause, rPwSave, rKvDebugCtr, rVgLatch, rVgL3Time, rVgL3Date, rTwCause, rTwTakeLo, rTwTakeHi, rUpStatus, rUpEvent,
   rUpFloor, rUpFormat, rUpRevoked]

/-- The islands right after a reset: RESET, or OFF with the epochs at 0 once the supply is lost (R59, R63; log 58). The
spec does not say whether the records of other islands' epochs and the slots that rest after an abandonment survive it:
the model forgets both (log 107). -/
def resetIslands (s : State) (supplyLost : Bool) : Tab Island :=
  (List.range 12).map fun i =>
    let x := s.isl i
    let gens := (x.slots.foldl (abandonSlot 0) x).gens
    (i, { state := if supplyLost then .off else .reset, target := .run
          epoch := if supplyLost then 0 else x.epoch, gens := if supplyLost then [] else gens : Island })

/-- A port keeps its settings and gate lists (12 Table 12.2). -/
def Port.afterReset (x : Port) : Port :=
  { cfg := x.cfg, rate := x.rate, running := x.running, runBase := x.runBase, pendingList := x.pendingList }

/-- A stored key after a module reset: EXPIRE voids it (18 R492), and one stored under the test root cannot be used
again (18 R490). -/
def StoredKey.afterReset (k : StoredKey) : StoredKey :=
  if k.expire || k.test then { k with void := true, material := 0, operational := none } else k

/-- A key record of MRAM under the stored-record rule (03 R106, 07 R218; 18 R494); a copy that is not there fails. -/
def Vault.stored (v : Vault) (i : Nat) : TwoCopy StoredKey :=
  match tabGet v.copy0 i, tabGet v.copy1 i with
  | some a, some b => twoCopies a.key b.key a.sound b.sound
  | some a, none => if a.sound then .taken a.key false else .lost
  | none, some b => if b.sound then .taken b.key false else .lost
  | none, none => .lost

/-- The slots that hold a record in MRAM. -/
def Vault.recorded (v : Vault) : List Nat := (tabKeys v.copy0 ++ tabKeys v.copy1).eraseDups

/-- The vault after a module reset: the stored keys come from MRAM, a record whose copies both fail is erased, and
everything else is lost (18 R490 to R500). -/
def Vault.afterReset (v : Vault) : Vault :=
  let keys := v.recorded.foldl (fun t i => match v.stored i with
    | .taken k _ => tabSet t i k.afterReset
    | .lost => t) ([] : Tab StoredKey)
  { keys := keys, gens := v.gens, copy0 := keys.map fun p => (p.1, { key := p.2 })
    copy1 := keys.map fun p => (p.1, { key := p.2 })
    seed := v.seed, reseedDue := v.reseedDue, coreLost := v.coreLost, sessNext := v.sessNext }

/-- The events of that restore: a key newly void, a record repaired, a record lost, whose key is void too (18 R492, R494). -/
def vaultEvents (s : State) (was : Vault) : State :=
  let rs := was.recorded.map was.stored
  let lost := rs.contains .lost
  let newly := s.vault.keys.any fun p => p.2.void && !(tabGet was.keys p.1).any StoredKey.void
  let s := if newly || lost then s.raise rKvEvent 0 else s
  let s := if rs.any fun r => (match r with | .taken _ b => b | .lost => false) then s.raise rKvEvent 4 else s
  if lost then s.raise rKvEvent 5 else s

/-- What the metering island keeps: configuration, calibration and the totals area (09 R266; 10 R293, R301). -/
def Meter.afterReset (m : Meter) : Meter :=
  { cal := m.cal, calSaved := m.calSaved, circuits := m.circuits, accs := m.accs, slots := m.slots
    spills := tabMap (fun _ x => { bound := x.bound, acc := x.acc, threshold := x.threshold, width := x.width, fresh := x.fresh })
      m.spills
    totals := m.totals }

/-- What the twin block keeps (16 R429, R441, R455). -/
def Twin.afterReset (w : Twin) : Twin :=
  { role := if w.partnerSerial == List.replicate 12 0 then .single else .pairing, partnerSerial := w.partnerSerial
    formerActive := w.formerActive, silent := w.silent, served := w.served }

/-- The running slot awaits UPDATE_CONFIRM. -/
def Update.trialing (u : Update) : Bool := (if u.active then u.slotB else u.slotA).state == 4

/-- An update slot across a reset: a transfer is abandoned. -/
def UpSlot.afterReset (x : UpSlot) : UpSlot := if x.state = 1 then {} else x

/-- The update record of MRAM under the stored-record rule. Where both copies fail R520 says nothing of the slots: which of
them starts is free, and the other is usable if it holds an image (log 122). -/
def Update.restored (u : Update) (free : Nat) : UpRecord :=
  match twoCopies u.copy0.body u.copy1.body u.copy0.sound u.copy1.sound with
  | .taken r _ => r
  | .lost =>
    let b := decide (free % 2 = 1)
    let spare (x : UpSlot) : Nat := if x.state = 0 ∨ x.state = 1 then 0 else 2
    { stateA := if b then spare u.slotA else 3, stateB := if b then 3 else spare u.slotB, active := b, trials := 0 }

/-- What the update record keeps (19 R520). -/
def Update.afterReset (u : Update) (now free : Nat) : Update :=
  let r := u.restored free
  Update.commit
    { slotA := UpSlot.afterReset { u.slotA with state := r.stateA }
      slotB := UpSlot.afterReset { u.slotB with state := r.stateB }
      active := r.active, trials := r.trials, diverged := u.diverged, frozen := u.frozen
      trialBefore := if u.trialing then u.trialBefore + (now - u.trialFrom) else 0 }

/-- Registers that belong to the firmware's settings: kept ones that no fixed record holds (19 R525; log 60). -/
def settingReg (a : Nat) : Bool :=
  (regRow a).any (fun r => r.keep != 0) && addrBlk a != 0 && a / 0x100000 != 0x103 && a / 0x10000000 != iALM &&
    !([rMgResetCause, rPwSave, rKvDebugCtr, rTwCause, rTwTakeLo, rTwTakeHi].contains a)

/-- The settings in force (19 R525). -/
def settingsOf (s : State) : Settings :=
  { regs := s.regs.filter fun p => settingReg p.1
    netHost := s.mail.netHost, netRing := s.mail.netRing, partition := s.mail.partition, bacObjects := s.mail.bacObjects
    bacHubs := s.mail.bacHubs, slices := s.fabric.slices, shares := s.fabric.shares, defs := s.fabric.defs
    devices := s.fabric.devices.map fun d => { d with heard := 0, stale := false, absent := false }
    enrol := s.fabric.enrol, imports := s.fabric.imports, exports := s.fabric.exports
    series := s.harvest.saved, loops := s.loops.saved, loopsOn := s.loops.savedOn
    program := s.thyme.lastProg, stopped := s.thyme.lastStopped, cal := s.meter.cal
    circuits := tabMap (fun _ x => { cfg := x.cfg : Circuit }) s.meter.circuits
    slots := tabMap (fun _ x =>
      let es := (x.newEntries.getD x.entries).map fun e => { e with residueImp := 0, residueExp := 0, weight := 0 }
      { tenant := x.tenant, entries := es }) s.meter.slots
    spills := tabMap (fun _ x => { bound := x.bound, acc := x.acc, threshold := x.threshold, width := x.width }) s.meter.spills
    ports := tabMap (fun _ x => x.afterReset) s.switch.ports
    busCfg := s.bus.savedCfg, busObj := s.bus.savedObj, partner := s.twin.partnerSerial, served := s.twin.served }

/-- A reset that finds no slot in TRIAL and a frozen copy follows a fall-back: the frozen settings are in force again, and
DIVERGED shows whether others were (19 R525). -/
def thaw (s : State) : State :=
  match s.update.frozen with
  | none => s
  | some f =>
    let diverged := s.update.diverged || decide (settingsOf s ≠ f)
    let s := { s with
      regs := f.regs.foldl (fun (t : Tab Word) (p : Nat × Word) => tabSet t p.1 p.2) (s.regs.filter fun p => !settingReg p.1)
      mail := { s.mail with netHost := f.netHost, netRing := f.netRing, partition := f.partition, bacObjects := f.bacObjects,
                               bacHubs := f.bacHubs }
      fabric := { s.fabric with
        slices := f.slices, shares := f.shares, defs := f.defs, devices := f.devices, enrol := f.enrol, imports := f.imports
        exports := f.exports }
      harvest := { s.harvest with saved := f.series }
      loops := { s.loops with saved := f.loops, savedOn := f.loopsOn }
      thyme := { s.thyme with lastProg := f.program, lastStopped := f.stopped }
      meter := { s.meter with cal := f.cal, calSaved := some (mramPair (calBytes f.cal)), circuits := f.circuits, slots := f.slots, spills := f.spills }
      switch := { s.switch with ports := f.ports }
      bus := { s.bus with savedCfg := f.busCfg, savedObj := f.busObj }
      twin := { s.twin with
        served := f.served, partnerSerial := f.partner
        role := if f.partner == List.replicate 12 0 then TwinRole.single else TwinRole.pairing }
      update := { s.update with frozen := none, diverged := diverged } }
    s.setField rUpFormat 16 16 0

/-- The module reset: every island in RESET, what stands in MRAM, flash, fuses and the backup core kept. -/
def moduleReset (s : State) (cause : Nat) (supplyLost : Bool) : State :=
  let was := s.vault
  let s := thyLeave s
  let s := meterLose (meterLeave s)
  let s := s.mail.transfers.foldl abandonTransfer s
  let s : State :=
    { pending := s.pending, freeCtr := s.freeCtr
      regs := keptRegs s fun a =>
        if supplyLost && (addrBlk a == 0 && (addrOff a == 0x010 || addrOff a == 0x024)) then 0 else all32
      outs := { frames := s.outs.frames, busFrames := s.outs.busFrames }
      clock := { gm := none }
      islands := resetIslands s supplyLost
      fabric :=
        { slices := s.fabric.slices, shares := s.fabric.shares, places := s.fabric.places
          forceCopy0 := s.fabric.forceCopy0, forceCopy1 := s.fabric.forceCopy1
          devices := s.fabric.devices.map fun d => { d with heard := 0, stale := false, absent := false }
          enrol := s.fabric.enrol, imports := s.fabric.imports, exports := s.fabric.exports, defs := s.fabric.defs }
      harvest := { saved := s.harvest.saved }
      mail :=
        { boxes := tabMap (fun _ x => { bind := x.bind }) s.mail.boxes, sent := s.mail.sent
          bacObjects := s.mail.bacObjects, bacHubs := s.mail.bacHubs, bacSent := s.mail.bacSent, partition := s.mail.partition
          netHost := s.mail.netHost, netRing := s.mail.netRing }
      thyme := { lastProg := s.thyme.lastProg, lastStopped := s.thyme.lastStopped }
      loops := { saved := s.loops.saved, savedOn := s.loops.savedOn }
      meter := s.meter.afterReset
      switch :=
        { ports := tabMap (fun _ x => x.afterReset) s.switch.ports }
      almanac := { s.almanac with syncAt := none }
      bus := { savedCfg := s.bus.savedCfg, savedObj := s.bus.savedObj }
      twin := s.twin.afterReset
      power :=
        { log := s.power.log, staged := s.power.staged, resetPin := cause == 2, hot := cause == 6, causeDue := some cause
          vinMv := s.power.vinMv, vstoreMv := if supplyLost then 0 else s.power.vstoreMv }
      vault := s.vault.afterReset
      update := s.update.afterReset s.now (Config.freeNat s.freeCtr) }
  let s := if s.update.trialing then s else thaw s
  vaultEvents s was

/-! ## The save (R468, R469) -/

/-- The save before a module reset, with the load kept: its duration is open, within 3.5 ms (R468; log 1). -/
def resetSave (s : State) : State :=
  let s := saveStore (warnSave s)
  let (v, s) := s.draw
  (s.setReg rPwSave (v % 3501 + 65536)).raise rPwEvent 2

/-- A module reset other than RESET_N and the end of hold-up: an active partner gives up control, the save is made, and
the module resets (R481). -/
def savedReset (s : State) (cause : Nat) : State := moduleReset (resetSave (selfCause s 2 iTHY)) cause false

/-! ## Commands that reset (05; R481, 00 R2) -/

/-- SYSTEM_RESET (0x0104): the reset starts 100 ms after the response; accepted, it is cause 7 of 16 Table 16.5. -/
def execSystemReset (r : Route) (tag : Nat) (s : State) : Host.Outcome State Fault Refusal :=
  .next (serve 0x0104 s r tag fun q s =>
    let p := q.payload
    if p.length ≠ 4 then done stBadLength s
    else if 1 < fld p 0 1 ∨ fld p 1 3 ≠ 0 then done stBadArgument s
    else
      let s := { s with power := { s.power with
        reset := some { cause := 3, at_ := s.now + 100 * nsMs, sage := fld p 0 1 == 1 } } }
      done stOk (selfCause s 7 iSAGE))

/-- SYSTEM_RESET_START: Steward drains the islands, MTR among them, then the save and the reset; or SAGE restarts. -/
def systemResetStart (s : State) : State :=
  match s.power.reset with
  | some d =>
    if s.now < d.at_ then s
    else
      let s := { s with power := { s.power with reset := none } }
      if d.sage then (if askable s .steward iSAGE 1 then requestState (s.setField (rIslCtrl iSAGE) 0 3 1) iSAGE .reset false else s)
      else savedReset (if s.running iMTR then meterDrain s else s) d.cause
  | none => s

def execSystemResetStart (s : State) : Host.Outcome State Fault Refusal := .next (systemResetStart s)

/-- The delivered state (00 R2; 10 R286), apart from the update record, the fuses and the backup core (log 56). -/
def deliver (s : State) : State :=
  let p := s.power
  let s := s.setField rUpFormat 16 16 0
  { s with
    regs := s.regs.filter fun q => factoryKeeps.contains q.1 || (addrBlk q.1 == 0)
    fabric := {}, harvest := {}
    mail := { sent := s.mail.sent, bacSent := s.mail.bacSent }
    thyme := {}, loops := {}, switch := {}, bus := {}
    meter := {}
    twin := {}
    power := { p with log := [], staged := [] }
    vault := { seed := s.vault.seed, gens := s.vault.gens, reseedDue := s.vault.reseedDue, coreLost := s.vault.coreLost }
    update := { s.update with frozen := none, diverged := false } }

/-- FACTORY_RESET (0x0E06): the save, the module reset and the delivered state (log 57). -/
def factoryReset (s : State) : State := deliver (savedReset s 3)

def execFactoryReset (r : Route) (tag : Nat) (s : State) : Host.Outcome State Fault Refusal :=
  .next (
    let ok (q : Req) : Bool := q.payload == [0x4B, 0x57, 0x46, 0x52, 0, 0, 0, 0]
    let due := stewardReady s && (findReq s 0x0E06 r tag).any ok
    let s := serve 0x0E06 s r tag fun q s =>
      if q.payload.length ≠ 8 then done stBadLength s
      else if ok q then done stOk s else done stBadArgument s
    if due then factoryReset s else s)

/-- RESET_N_ASSERT: RESET_N low for 1 µs; abrupt, with no save (R481). -/
def execResetNAssert (s : State) : Host.Outcome State Fault Refusal := .next (moduleReset s 2 false)

/-- UPDATE_RESET: 100 ms after the activation record or a fall-back was committed (19 Table 19.7 step 5, R524). -/
def execUpdateReset (s : State) : Host.Outcome State Fault Refusal :=
  .next (match s.update.resetAt with
    | some t => if s.now < t then s else savedReset s 4
    | none => s)

/-- MGT_FAULT_TIMEOUT: MGT has stayed in FAULT for 1 s (02 R62). -/
def execMgtFaultTimeout (s : State) : Host.Outcome State Fault Refusal :=
  .next (if (s.isl iMGT).state == .fault && decide ((s.isl iMGT).since + nsSec ≤ s.now) then savedReset s 5 else s)

/-! ## Early warning and shedding (R467 to R471) -/

/-- The threshold in mV (R467). -/
def warnThreshold (s : State) : Nat := s.rfield rPwCtrl 0 9 * 100

/-- A fuse. -/
def State.fuse (s : State) (n : Nat) : Fuse := tabGetD s.power.fuses n {}
def State.setFuse (s : State) (n : Nat) (x : Fuse) : State := { s with power := { s.power with fuses := tabSet s.power.fuses n x } }

/-- Opens every fuse; those powered are powered again in turn later (R470, R476). -/
def openFuses (s : State) : State :=
  { s with power := { s.power with fuses := tabMap (fun _ x => { x with state := 0, pdClass := 0, ma := 0 }) s.power.fuses } }

/-- THY or LOOP is drained to RETAIN (Table 17.3). -/
def shedIsland (s : State) (i : Nat) : State :=
  if s.running i && !(s.isl i).draining then startDrain s i .retain else s

/-- The load is shed in the order of Table 17.3. -/
def shedLoad (s : State) : State :=
  let s := { s with power := { s.power with shed := true } }
  let s := if (s.isl iSAGE).state == .run ∧ !(s.isl iSAGE).draining ∧ s.mayMove iSAGE then putState s iSAGE .idle id else s
  let s := { s with mail := { s.mail with ready := false } }
  let s := fieldDown s
  let s := if s.rbit rPwCtrl 16 || !s.power.fieldOk then openFuses s else s
  shedIsland (shedIsland s iTHY) iLOOP

/-- PWR_WARN_N asserts: it is counted, an active partner gives up control, the load is shed and the save begins. -/
def assertWarn (s : State) : State :=
  let s := { s with power := { s.power with warn := true, warnAt := s.now, saving := true } }
  let s := ((s.raise rPwEvent 0).stick rPwWarns rPwEvent 7).setReg rPwSave 0
  warnTotals (shedLoad (selfCause s 3 iMGT))

/-- PWR_WARN_ASSERT: VIN below the threshold for 200 µs. -/
def execPwrWarnAssert (vinMv : Nat) (s : State) : Host.Outcome State Fault Refusal :=
  .next (if s.power.started && !s.power.warn && decide (vinMv < warnThreshold s) then
      assertWarn { s with power := { s.power with vinMv := vinMv } }
    else s)

/-- The warning save is complete, within 3.5 ms: its duration in PW_SAVE (R468). -/
def saveDone (s : State) (us : Nat) : State :=
  if s.power.saving then
    let s := saveStore (if s.meter.warnDue then warnSave s else s)
    ({ s with power := { s.power with saving := false } }.setReg rPwSave (min us 65535 + 65536)).raise rPwEvent 2
  else s

def execWarningSaveDone (us : Nat) (s : State) : Host.Outcome State Fault Refusal := .next (saveDone s us)

/-- THY or LOOP returns from RETAIN; a drain still under way is carried to its end first. -/
def restoreIsland (s : State) (i : Nat) : State :=
  let s := if (s.isl i).draining && (s.isl i).target == .retain && s.mayMove i then endDrain s i else s
  if (s.isl i).state == .retain && s.mayMove i then wakeRetained s i else s

/-- The load is restored (R470). -/
def restoreLoad (s : State) : State :=
  let s := { s with power := { s.power with shed := false, nextPort := s.now } }
  let s := if (s.isl iSAGE).state == .idle && s.mayMove iSAGE then putState s iSAGE .run id else s
  let s := if s.running iSAGE then takeDoorbells { s with mail := { s.mail with ready := true } } else s
  (restoreIsland (restoreIsland s iTHY) iLOOP).raise rPwEvent 1

/-- PWR_WARN_RELEASE: VIN has stayed 1.0 V above the threshold for 10 ms and VSTORE is at least 29 V. -/
def execPwrWarnRelease (vinMv vstoreMv : Nat) (s : State) : Host.Outcome State Fault Refusal :=
  .next (if s.power.started && s.power.warn && decide (warnThreshold s + 1000 ≤ vinMv) && decide (29000 ≤ vstoreMv) then
      let s := saveDone s ((s.now - s.power.warnAt) / nsUs)
      let s := { s with power := { s.power with warn := false, storeReady := true, vinMv := vinMv, vstoreMv := vstoreMv } }
      if s.power.shed then restoreLoad s else s
    else s)

/-- HOLDUP_END: VSTORE below 20 V. The bypass closes and every island enters OFF (R471). -/
def execHoldupEnd (s : State) : Host.Outcome State Fault Refusal :=
  .next (if s.power.started then moduleReset s (if s.power.warn && s.rbit rPwSave 16 then 1 else 0) true else s)

/-- The capacitance and the least hold-up time it gives, in 0.1 ms (R465). -/
def holdupMeasured (s : State) (c : Nat) : State :=
  let h := min 255 ((125 * c - 2940) / 100)
  let s := { s with power := { s.power with measuredAt := s.now } }
  let s := s.setReg rPwHoldup (min c 4095 + h * 65536)
  if h < 80 then (s.raise rPwEvent 3).logEvent lvWarn iMGT 2 3 h else s

/-- HOLDUP_MEASURE: every 24 h. -/
def execHoldupMeasure (microfarad : Nat) (s : State) : Host.Outcome State Fault Refusal :=
  .next (if s.running iMGT && decide (s.power.measuredAt + 86400 * nsSec ≤ s.now) then holdupMeasured s microfarad else s)

/-! ## Start-up (R480) -/

/-- MODULE_START: VIN at the start threshold with RESET_N released. The domains are powered, the time unit starts from the
calendar, Chervil measures the store (the capacitance found is open, log 1). -/
def moduleStart (s : State) (vinMv : Nat) : State :=
  if s.power.started || decide (vinMv < max 21000 (warnThreshold s + 1000)) then s
  else
    let s := { s with power := { s.power with started := true, resetPin := false, vinMv := vinMv } }
    let s := (List.range 12).foldl (fun s i =>
      if (s.isl i).state == .off && !(i == iALM && s.almanac.vaonLow) then powerIsland s i false else s) s
    let (c, s) := s.draw
    startFromCalendar (holdupMeasured s (c % 4096))

def execModuleStart (vinMv : Nat) (s : State) : Host.Outcome State Fault Refusal := .next (moduleStart s vinMv)

/-- Chervil runs for the first time since the reset: the cause is recorded and logged, and the reference is selected;
whether REFCLK_IN shows edges is open (R479, R481; log 1). -/
def chervilStarts (s : State) : State :=
  match s.power.causeDue with
  | none => s
  | some c =>
    let s := { s with power := { s.power with causeDue := none } }
    let s := (s.setField rMgResetCause 0 4 c).raise rMgResetCause (8 + c)
    let s := s.logEvent lvReset iMGT 0xF c 0
    let (v, s) := s.draw
    let found := v % 2 == 1
    { s with power := { s.power with refIn := found, refExt := found && s.rfield rPwCtrl 12 2 != 0 } }

/-- BOOT_COMPLETE: the island enters RUN; a restarted one only within its bound, past which it enters FAULT (02 R574). -/
def bootComplete (s : State) (i : Nat) : State :=
  let x := s.isl i
  if 12 ≤ i ∨ x.state != .boot ∨ !s.mayMove i then s
  else if x.restart && decide (x.since + bootBound i * nsMs < s.now) then enterFault s i 4 0
  else
    let s := putState s i .run fun x => { x with restart := false }
    let s := enterRunIsland s i
    if i = iMGT then chervilStarts s else s

def execBootComplete (island : Nat) (s : State) : Host.Outcome State Fault Refusal := .next (bootComplete s island)

/-- START_COMPLETE: step 15 of Table 17.5; a TRIAL slot's counter returns to 0 (19 R523). -/
def execStartComplete (s : State) : Host.Outcome State Fault Refusal :=
  .next (if s.power.started && !s.power.startDone && s.rbit rPfStatus 0 && s.running iMGT && s.twin.role != .pairing then
      let s := { s with power := { s.power with startDone := true, startShown := true }, update := Update.commit { s.update with trials := 0 } }
      (s.raise rMgEvent 0).logEvent lvInfo iMGT 0xF 0x10 (s.now / nsMs)
    else s)

/-! ## Field power (R472 to R476) -/

/-- Fuse limits of Table 17.4a by class code, mA. -/
def fuseLimit (c : Nat) : Nat := if c = 0 then 350 else if c = 1 then 600 else if c = 2 then 900 else 1250

/-- The class code configured for a port. -/
def portClass (s : State) (n : Nat) : Nat := s.rfield (rPwPCfg n) 0 4

/-- The port is enabled. -/
def portEnabled (s : State) (n : Nat) : Bool := s.rbit rPwFuseEn n

/-- A trip: the port opens in FLD and is counted, and after three trips within 60 s stays open; the event and its log
entry are Chervil's, asked for over a crossing from FLD to MGT (R474; 02 R43). -/
def tripPort (s : State) (n : Nat) : State :=
  let x := s.fuse n
  let recent := s.now :: x.trips.filter fun t => decide (s.now < t + 60 * nsSec)
  let latched := decide (3 ≤ recent.length)
  let s := s.setFuse n { x with
    state := if latched then 0 else 4, latched := latched, pdClass := 0, ma := 0, trips := recent, due := s.now + nsSec }
  let s := s.stick (rPwPTrips n) rPwEvent 7
  (crossStatus s iFLD iMGT 0 fun s => (stOk, (s.raise rPwEvent 5).logEvent lvWarn iMGT 0xF 0x12 n)).2

/-- FUSE_TRIP: over the limit for 5 ms, over twice the limit, or failing detection or classification. -/
def execFuseTrip (n : Nat) (s : State) : Host.Outcome State Fault Refusal :=
  .next (if n < 16 ∧ 1 ≤ (s.fuse n).state ∧ (s.fuse n).state ≤ 3 then tripPort s n else s)

/-- Detection and classification of a port end: power for a PD of the configured class alone (R472). -/
def probePort (s : State) (n : Nat) (found : PowerProbe) : State :=
  match found with
  | .failed => tripPort s n
  | .pdClass c =>
    let ok := c = portClass s n + 10
    s.setFuse n { s.fuse n with state := if ok then 3 else 5, pdClass := if 10 ≤ c ∧ c ≤ 13 then c - 10 else 0xF }

/-- The supply and the module let ports be powered; the fuses stand in FLD (02 Table 2.2). -/
def mayPower (s : State) : Bool := s.running iFLD && s.power.started && s.power.fieldOk && !s.power.shed && s.rbit rPfStatus 0

/-- A port waits for its turn (R476). -/
def portWaits (s : State) (n : Nat) : Bool := portEnabled s n && (s.fuse n).state == 0 && !(s.fuse n).latched

/-- PORT_POWER_UP: one port at a time in port order, 20 ms apart. -/
def execPortPowerUp (n : Nat) (found : PowerProbe) (s : State) : Host.Outcome State Fault Refusal :=
  .next (if n < 16 ∧ mayPower s ∧ portWaits s n ∧ s.power.nextPort ≤ s.now ∧ !(List.range n).any (portWaits s) then
      probePort { s with power := { s.power with nextPort := s.now + 20 * nsMs } } n found
    else s)

/-- FUSE_RETRY: 1 s after a trip. -/
def execFuseRetry (n : Nat) (found : PowerProbe) (s : State) : Host.Outcome State Fault Refusal :=
  .next (if n < 16 ∧ mayPower s ∧ portEnabled s n ∧ (s.fuse n).state = 4 ∧ (s.fuse n).due ≤ s.now then probePort s n found else s)

/-- FIELD_OVERCURRENT: above 12.0 A for 5 ms the highest-numbered powered port trips (R475). -/
def execFieldOvercurrent (s : State) : Host.Outcome State Fault Refusal :=
  .next (match ((List.range 16).filter fun n => (s.fuse n).state == 3).getLast? with
    | some n => tripPort s n
    | none => s)

/-- FIELD_LOST: FIELD_PWR below 20 V opens every fuse. -/
def execFieldLost (s : State) : Host.Outcome State Fault Refusal :=
  .next (if s.power.fieldOk then
      ((openFuses { s with power := { s.power with fieldOk := false } }).raise rPwEvent 4).logEvent lvWarn iMGT 2 4 0
    else s)

/-- FIELD_RETURN: FIELD_PWR above 22 V for 100 ms. -/
def execFieldReturn (s : State) : Host.Outcome State Fault Refusal :=
  .next (if s.power.fieldOk then s else { s with power := { s.power with fieldOk := true, nextPort := s.now } })

/-- The settings of FIELD_POWER are accepted (R473). -/
def fieldPowerOk (p : List Byte) : Bool :=
  let on (n : Nat) : Bool := bitOf (fld p 0 2) n
  let cls (n : Nat) : Nat := fld p (4 + 2 * n) 2
  (List.range 16).all (fun n => !on n || (decide (10 ≤ cls n) && decide (cls n ≤ 13))) &&
    decide (((List.range 16).map fun n => if on n then fuseLimit (cls n - 10) else 0).sum ≤ 12000)

/-- A port's setting in FLD: a port that stays enabled with its class goes on as it is; one disabled, of another class or
latched opens, and a latch ends (R473, R474). -/
def portSetting (p : List Byte) (s : State) (n : Nat) : State :=
  let c := fld p (4 + 2 * n) 2
  let code := if 10 ≤ c ∧ c ≤ 13 then c - 10 else 0
  let x := s.fuse n
  let same := bitOf (fld p 0 2) n && portEnabled s n && portClass s n == code && !x.latched
  let y := if same then x else { x with state := 0, latched := false, pdClass := 0, ma := 0, trips := [] }
  (s.setFuse n y).setReg (rPwPCfg n) (code + fuseLimit code * 65536)

/-- Applies settings of FIELD_POWER: Chervil checks them and asks FLD, over a crossing, to set its ports; ports newly
enabled wait for their turn. Where FLD refuses nothing changes and its status is the command's (02 R43, R71). -/
def fieldPower (s : State) (p : List Byte) : Nat × State :=
  if !fieldPowerOk p then (stBadArgument, s)
  else
    let (st, s) := crossStatus s iMGT iFLD 0 fun s => (stOk, (List.range 16).foldl (portSetting p) s)
    (st, if st = stOk then s.setReg rPwFuseEn (fld p 0 2) else s)

/-- FIELD_POWER (0x0E04). -/
def execFieldPower (r : Route) (tag : Nat) (s : State) : Host.Outcome State Fault Refusal :=
  .next (serve 0x0E04 s r tag fun q s =>
    let p := q.payload
    if p.length ≠ 36 then done stBadLength s
    else if fld p 2 2 ≠ 0 then done stBadArgument s
    else toIsland s iMGT fun s =>
      let (st, s) := fieldPower s p
      done st (if st = stOk then shipConfig s 0x0E04 p else s))

/-! ## Sensors (R482, R483; 22 R571) -/

/-- A reading in tenths or thousandths as a binary32 number. -/
def scaled (v : Int) (unit : Nat) : Word64 := BitVec.ofNat 64 (fdiv fmt32 (fofInt fmt32 v) (fofInt fmt32 unit))

/-- Chervil writes the sensor points, with the quality of each (22 R571). -/
def writeSensorPoints (s : State) (x : SensorReading) : State :=
  if !s.running iPF || !s.rbit rPfStatus 0 then s
  else
    let put (s : State) (pt q : Nat) (v : Word64) : State := sysWrite s iMGT wSensors pt 5 q v s.tai
    let s := (List.range 4).foldl (fun s i => put s (0x100 + i) qGood (scaled (x.dies.getD i 0) 10)) s
    let s := put s 0x104 qGood (scaled x.board 10)
    let s := (List.range 12).foldl (fun s i =>
      put s (0x110 + i) (if x.railFaults.contains i then qOutOfRange else qGood) (scaled (x.rails.getD i 0) 1000)) s
    let s := put s 0x120 qGood (scaled x.vinMv 1000)
    let s := put s 0x121 qGood (scaled x.vinMa 1000)
    let s := put s 0x122 qGood (scaled x.fieldMv 1000)
    let s := put s 0x123 qGood (scaled x.fieldMa 1000)
    put s 0x124 qGood (scaled (s.rfield rPwHoldup 16 8) 10)

/-- A rail outside ±5 % for 100 µs: its islands enter FAULT, and rails 0 and 1 reset the module (R482). -/
def railFault (s : State) (r : Nat) : State :=
  let s := (s.raise rMgEvent 4).logEvent lvFault iMGT 1 4 r
  if r ≤ 1 then s
  else
    ((List.range 12).filter fun i => islandRail i == r && (s.isl i).state != .off && (s.isl i).state != .fault).foldl
      (fun s i => enterFault (if selfIslands.contains i then selfCause s 3 i else s) i 5 0) s

/-- The registers of a sample. -/
def sampleRegs (s : State) (x : SensorReading) : State :=
  let t (i : Nat) : Nat := uNat 16 (x.dies.getD i 0)
  let s := (s.setReg rMgTemp01 (t 0 + t 1 * 65536)).setReg rMgTemp23 (t 2 + t 3 * 65536)
  let s := s.setReg rMgTempBoard (uNat 16 x.board)
  let s := (List.range 12).foldl (fun s r =>
    s.setReg (rMgRail r) (x.rails.getD r 0 % 65536 + b2n (x.railFaults.contains r) * 65536)) s
  let s := (List.range 12).foldl (fun s i =>
    s.setField (rIslPwr i) 16 12 (min 4095 (x.rails.getD (islandRail i) 0))) s
  let s := s.setReg rPwVin (min 65535 x.vinMv + min 65535 x.vinMa * 65536)
  let s := s.setReg rPwField (min 65535 x.fieldMv + min 65535 x.fieldMa * 65536)
  (List.range 16).foldl (fun s n => s.setFuse n { s.fuse n with ma := min 4095 (x.portMa.getD n 0) }) s

/-- SENSOR_SAMPLE. -/
def sensorSample (s : State) (x : SensorReading) : State :=
  if !s.running iMGT then s
  else
    let new := (List.range 12).filter fun r => x.railFaults.contains r && !s.rbit (rMgRail r) 16
    let s := sampleRegs s x
    let s := { s with power := { s.power with
      vinMv := x.vinMv, vstoreMv := x.vstoreMv, storeReady := decide (29000 ≤ x.vstoreMv) } }
    let s := if x.dies.any fun d => decide ((s.rfield rMgCtrl 8 8 : Int) * 10 < d) then s.raise rMgEvent 1 else s
    let s := writeSensorPoints s x
    let s := new.foldl railFault s
    if new.any fun r => decide (r ≤ 1) then savedReset (selfCause s 3 iMGT) 7 else s

def execSensorSample (reading : SensorReading) (s : State) : Host.Outcome State Fault Refusal := .next (sensorSample s reading)

/-- THERMAL_SHUTDOWN: a die above 125 °C for 10 ms; the warning, the shedding and the save, then the reset (R483). -/
def execThermalShutdown (s : State) : Host.Outcome State Fault Refusal :=
  .next (if s.running iMGT && !s.power.hot then
      let s := if s.power.warn then s else assertWarn s
      moduleReset (resetSave s) 6 false
    else s)

/-- DIE_COOLED: every die sensor below 100 °C. -/
def execDieCooled (s : State) : Host.Outcome State Fault Refusal := .next { s with power := { s.power with hot := false } }

/-- SENSORS_READ (0x0E01): the latest sample. -/
def execSensorsRead (r : Route) (tag : Nat) (s : State) : Host.Outcome State Fault Refusal :=
  .next (serve 0x0E01 s r tag fun q s =>
    if q.payload.length ≠ 0 then done stBadLength s
    else toIsland s iMGT fun s =>
      ((stOk, leBytes 4 (s.reg rMgTemp01) ++ leBytes 4 (s.reg rMgTemp23) ++ leBytes 4 (s.rfield rMgTempBoard 0 16) ++
        ((List.range 12).map fun i => leBytes 2 (s.rfield (rMgRail i) 0 16)).flatten ++
        leBytes 4 (s.rfield rPwVin 0 16) ++ leBytes 4 (s.rfield rPwVin 16 16) ++ leBytes 1 (s.rfield rPwHoldup 16 8) ++
        leBytes 3 0), s))

/-! ## The fault log (R484, R485) -/

/-- FAULT_LOG_FLUSH: staged entries reach flash. -/
def execFaultLogFlush (s : State) : Host.Outcome State Fault Refusal :=
  .next { s with power := { s.power with log := (s.power.staged ++ s.power.log).take 16384, staged := [] } }

/-- The bytes of an entry (Table 17.8). -/
def LogEntry.bytes (e : LogEntry) : List Byte :=
  leBytes 6 e.time ++ leBytes 2 e.seq ++ leBytes 1 e.level ++ leBytes 1 e.subMs ++ leBytes 2 e.code ++ leBytes 4 e.detail

/-- The entries held, oldest first. -/
def heldEntries (s : State) : List LogEntry := ((s.power.staged ++ s.power.log).take 16384).reverse

/-- FAULT_LOG_READ (0x0E02). -/
def execFaultLogRead (r : Route) (tag : Nat) (s : State) : Host.Outcome State Fault Refusal :=
  .next (serve 0x0E02 s r tag fun q s =>
    let p := q.payload
    if p.length ≠ 4 then done stBadLength s
    else if fld p 2 2 = 0 ∨ 253 < fld p 2 2 then done stBadArgument s
    else toIsland s iMGT fun s =>
      let first := fld p 0 2
      let es := ((heldEntries s).drop first).take (fld p 2 2)
      let next := if (heldEntries s).length ≤ first + es.length then 0xFFFF else first + es.length
      ((stOk, leBytes 2 es.length ++ leBytes 2 next ++ leBytes 4 0 ++ (es.map LogEntry.bytes).flatten), s))

/-- POWER_CONFIG (0x0E03): threshold and reference source (R467, R479). -/
def execPowerConfig (r : Route) (tag : Nat) (s : State) : Host.Outcome State Fault Refusal :=
  .next (serve 0x0E03 s r tag fun q s =>
    let p := q.payload
    if p.length ≠ 4 then done stBadLength s
    else if fld p 0 2 < 180 ∨ 480 < fld p 0 2 ∨ 2 < fld p 2 1 ∨ fld p 3 1 ≠ 0 then done stBadArgument s
    else toIsland s iMGT fun s =>
      let s := (s.setField rPwCtrl 0 9 (fld p 0 2)).setField rPwCtrl 12 2 (fld p 2 1)
      done stOk (switchReference s (fld p 2 1 != 0 && s.power.refIn)))

end Sys2Proof.Machine
end

