-- ==== Sys2Proof/Machine/TwinCmds.lean ====
section
/-! DEFINITION. The Steward commands of a twin pair (05 Table 5.1 group 0x0B; 16 R427, R454, R455, R460), the health
report, and the start of loops and program at step 14 of 17 Table 17.5. -/

namespace Sys2Proof.Machine

/-! ## Status and health -/

/-- GRANT_LEFT in µs: the grant of an ACTIVE module that holds a lease (R433). -/
def grantLeft (s : State) : Nat :=
  match s.twin.role, s.twin.alone, s.twin.grantEnd with
  | .active, false, some e => (e - s.now) / nsUs
  | _, _, _ => 0

/-- TW_STATUS as Table 16.15 lays it out. -/
def twStatus (s : State) : Nat :=
  let w := s.twin
  w.role.code + w.partner * 8 + b2n w.ready * 32 + b2n w.alone * 64 + b2n w.formerActive * 128 + w.links % 32 * 256 +
    b2n w.silent * 8192 + w.notReady % 16 * 65536

/-- The time of the last role change. -/
def takeTime (s : State) : Nat := s.reg rTwTakeLo + s.reg rTwTakeHi * 2 ^ 32

/-- The TWIN_STATUS response (Table 5.10); PARTNER_SERIAL is 0 when no partner is known. -/
def twinStatus (s : State) : List Byte :=
  leBytes 1 s.twin.role.code ++ leBytes 1 s.twin.partner ++
    leBytes 2 (s.twin.links % 32 + b2n (s.rbit rTwEvent 8) * 2 ^ 15) ++ leBytes 4 (grantLeft s) ++
    leBytes 4 (s.reg rTwCompared) ++ leBytes 4 (s.reg rTwMismatch) ++ padTo 12 s.twin.partnerSerial ++
    leBytes 8 (takeTime s) ++ leBytes 4 0

/-- TWIN_STATUS (0x0B01). -/
def execTwinStatus (r : Route) (tag : Nat) (s : State) : Host.Outcome State Fault Refusal :=
  .next (serve 0x0B01 s r tag fun q s =>
    if q.payload.length ≠ 0 then done stBadLength s else toIsland s iMGT fun s => ((stOk, twinStatus s), s))

/-- The module's own health report (Table 16.13). -/
def healthReport (s : State) : List Byte :=
  let w := s.twin
  let h := w.health
  let body :=
    leBytes 1 1 ++ leBytes 1 w.role.code ++ leBytes 1 (b2n w.ready) ++ leBytes 1 w.notReady ++ leBytes 4 0 ++
      leBytes 8 s.tai ++ serialBytes ++ leBytes 4 (s.reg rTwCompared) ++ leBytes 4 h.mismatchThy ++
      leBytes 4 h.mismatchLoop ++ leBytes 4 h.xcheck ++ leBytes 4 h.shipLost ++ leBytes 4 h.resyncs ++
      leBytes 4 h.testsPassed ++ leBytes 4 h.testsFailed ++ leBytes 4 s.fabric.scrubPasses ++ leBytes 4 h.renewMissed ++
      leBytes 4 h.relayed ++ ((List.range 12).map fun i => leBytes 1 (tabGetD h.islandTest i 0)).flatten ++ leBytes 12 0 ++
      ((List.range 16).map fun t => leBytes 4 (tabGetD h.taskMismatch t 0)).flatten ++
      ((List.range 4).map fun g => leBytes 4 (tabGetD h.groupMismatch g 0)).flatten ++ leBytes 8 h.lastMismatch ++
      leBytes 8 (takeTime s) ++ leBytes 2 (s.reg rTwCause % 4096) ++ leBytes 2 h.shipLatency ++ leBytes 56 0
  body ++ leBytes 4 (crcIscsi body).toNat

/-- TWIN_HEALTH (0x0B02): on the active the standby's latest report, elsewhere the module's own (R453). -/
def execTwinHealth (r : Route) (tag : Nat) (s : State) : Host.Outcome State Fault Refusal :=
  .next (serve 0x0B02 s r tag fun q s =>
    if q.payload.length ≠ 0 then done stBadLength s
    else toIsland s iMGT fun s =>
      ((stOk, if s.twin.role == .active then padTo 256 s.twin.partnerHealth else healthReport s), s))

/-! ## Handover (R454) -/

/-- A task that a release starts. -/
def Task.scheduled (x : Task) : Bool := x.state != .undefined && x.state != .stopped && x.state != .faulted

/-- The configurations of the tasks that run. -/
def runningTasks (s : State) : List TaskCfg :=
  match s.thyme.loaded with
  | some l => if thRun s then (l.prog.tasks.filter fun p => (s.task p.1).scheduled).map Prod.snd else []
  | none => []

/-- The boundary of a handover: the first release instant of the longest running task period at least 20 ms ahead;
20 ms ahead when no task runs (log 63). -/
def handoverBoundary (s : State) : Nat :=
  let longest := ((runningTasks s).map TaskCfg.period).foldl max 0
  let at_ := s.tai + 20 * nsMs
  match (runningTasks s).filter fun c => c.period == longest with
  | [] => at_
  | c :: cs => (cs.map fun c => nextInstant c (at_ - 1)).foldl min (nextInstant c (at_ - 1))

/-- The body of a HANDOVER frame. -/
def handoverBody (accepted : Bool) (boundary : Nat) : List Byte :=
  leBytes 1 (b2n accepted) ++ leBytes 3 0 ++ leBytes 8 boundary

/-- TWIN_HANDOVER (0x0B04): it pends until the new active has completed the cycle of the boundary. A second one meanwhile
is BUSY (log 63). -/
def execTwinHandover (r : Route) (tag : Nat) (s : State) : Host.Outcome State Fault Refusal :=
  .next (serve 0x0B04 s r tag fun q s =>
    if q.payload.length ≠ 0 then done stBadLength s
    else toIsland s iMGT fun s =>
      if s.twin.role != .active || s.twin.alone || !s.twin.ready then done stNotPermitted s
      else if (pendedReq s 0x0B04).isSome then done stBusy s
      else
        let b := handoverBoundary s
        let s := { s with twin := { s.twin with handover := some b, handoverAgreed := false } }
        done stPending (twinSend s 0x06 (handoverBody false b)))

/-! ## WITNESS_CONFIG (R441) -/

/-- WITNESS_CONFIG (0x0B05): the modules served; addresses of modules no longer served are forgotten. -/
def execWitnessConfig (r : Route) (tag : Nat) (s : State) : Host.Outcome State Fault Refusal :=
  .next (serve 0x0B05 s r tag fun q s =>
    let p := q.payload
    if p.length < 4 ∨ p.length ≠ 4 + 12 * fld p 0 1 then done stBadLength s
    else if 16 < fld p 0 1 ∨ fld p 1 3 ≠ 0 then done stBadArgument s
    else toIsland s iMGT fun s =>
      let served := entriesAt p 4 12 (fld p 0 1)
      done stOk { s with twin := { s.twin with
        served := served, servedAt := s.twin.servedAt.filter fun a => served.contains a.serial } })

/-! ## Step 14 of 17 Table 17.5 -/

/-- Loops are enabled and the program started, in the islands that run; an island that is not yet in RUN does so as it
enters RUN. -/
def floorRun (s : State) : State :=
  let s := if s.running iLOOP then loopRestart s else s
  if s.running iTHY then thyRestart s else s

/-! ## Pairing and unpairing (R428, R455) -/

/-- A serial number of another module: 12 ASCII digits. -/
def partnerSerialOk (b : List Byte) : Bool :=
  b.length == 12 && (b.all fun x => decide (0x30 ≤ x.toNat) && decide (x.toNat ≤ 0x39)) && b != serialBytes

/-- A module is paired: it enters PAIRING, and its twin counters start from 0. -/
def pair (s : State) (serial : List Byte) : State :=
  let s := enterRole s .pairing 0 0 false
  let s := (s.setReg rTwCompared 0).setReg rTwMismatch 0
  { s with twin := { s.twin with
      partnerSerial := serial, partner := 0, silent := false, alone := false, ready := false, notReady := 0, mute := false
      transfer := false, agreed := [], consec := [], health := {}, helloHeard := s.now, helloAt := s.now, discardDue := false
      causes := [] } }

/-- The module leaves the pair. -/
def unpair (s : State) (silent : Bool) : State :=
  let s := enterRole s .single 0 0 false
  { s with twin := { s.twin with
      partnerSerial := List.replicate 12 0, partner := 0, silent := silent, alone := false, ready := false, notReady := 0
      mute := false, transfer := false, agreed := [], consec := [], discardDue := false, causes := [] } }

/-- TWIN_CONFIG with the step 14 that a module still in PAIRING at its start has not taken. -/
def twinConfig (s : State) (p : List Byte) (startFloor : State → State) : Nat × State :=
  if p.length ≠ 16 then (stBadLength, s)
  else if 1 < fld p 12 1 ∨ fld p 13 3 ≠ 0 then (stBadArgument, s)
  else if fld p 12 1 = 1 then
    if s.twin.role != .single then (stNotPermitted, s)
    else if !partnerSerialOk (p.take 12) then (stBadArgument, s)
    else (stOk, pair s (p.take 12))
  else
    match s.twin.role with
    | .single => (stOk, { s with twin := { s.twin with silent := false } })
    | .active => (stOk, unpair (twinSend s 0x07 []) false)
    | .standby =>
      if s.twin.partner = 1 then (stNotPermitted, s) else (stOk, startFloor (unpair s false))
    | _ => (stOk, startFloor (unpair s false))

end Sys2Proof.Machine
end

