-- ==== Sys2Proof/Machine/Series.lean ====
section
/-! DEFINITION. The rows of Harvest: series commands (05 Table 5.1, R166; 11 R311 to R313, R330, R331), samples, closes
and windows. -/

namespace Sys2Proof.Machine

/-- Steward keeps a series' configuration for the next start-up (11 R333). -/
def saveSeries (s : State) (k : Nat) (x : Option HvSeries) : State :=
  { s with harvest := { s.harvest with
      saved := match x with
        | some x => tabSet s.harvest.saved k x
        | none => tabDel s.harvest.saved k } }

/-- SERIES_DEFINE in PF, for a tenant: status and number (R311, R312). -/
def seriesDefine (s : State) (tenant : Nat) (p : List Byte) : (Nat × Nat) × State :=
  let ((st, k), s) := defineSeries s tenant (fld p 0 2) (fld p 2 1) (fld p 4 4) (fld p 8 8) (fld p 16 8)
  ((st, k), if st = stOk then saveSeries s k (tabGet s.harvest.series k) else s)

/-- SERIES_DELETE of a series that stands (11 Table 11.2). -/
def seriesDelete (s : State) (k : Nat) : State := saveSeries (deleteSeries s k) k none

/-- Every series of a tenant is deleted (11 Table 11.2, TENANT_REMOVE). -/
def removeSeriesOf (s : State) (tenant : Nat) : State :=
  ((s.harvest.series.filter fun p => p.2.tenant == tenant).map Prod.fst).foldl seriesDelete s

/-- SERIES_DEFINE's payload is formed. -/
def seriesOk (p : List Byte) : Nat :=
  if p.length ≠ 24 then stBadLength else if fld p 3 1 ≠ 0 ∨ pointCount ≤ fld p 4 4 then stBadArgument else stOk

def execSeriesDefine (r : Route) (tag : Nat) (s : State) : Host.Outcome State Fault Refusal :=
  .next (serve 0x0601 s r tag fun q s =>
    let p := q.payload
    if seriesOk p ≠ stOk then done (seriesOk p) s
    else
      let t := routeTenant s q.route
      toIsland s iPF fun s =>
        let ((st, k), s) := seriesDefine s t p
        if st = stOk then
          ((stOk, leBytes 2 k), shipConfig s 0x0601 p)
        else done st s)

/-- A series number and u16 0. -/
def seriesKey (p : List Byte) : Nat := if p.length ≠ 4 then stBadLength else if fld p 2 2 ≠ 0 then stBadArgument else stOk

/-- A command on one series of the route's tenant (R331). -/
def seriesCommand (code : Nat) (s : State) (r : Route) (tag : Nat) (f : State → Nat → State) : State :=
  serve code s r tag fun q s =>
    let p := q.payload
    if seriesKey p ≠ stOk then done (seriesKey p) s
    else
      let t := routeTenant s q.route
      toIsland s iPF fun s =>
        if (ownSeries s t (fld p 0 2)).isNone then done stTenantMismatch s
        else done stOk (shipConfig (f s (fld p 0 2)) code p)

def execSeriesDelete (r : Route) (tag : Nat) (s : State) : Host.Outcome State Fault Refusal :=
  .next (seriesCommand 0x0602 s r tag seriesDelete)

def execSeriesClear (r : Route) (tag : Nat) (s : State) : Host.Outcome State Fault Refusal :=
  .next (seriesCommand 0x0604 s r tag clearSeries)

/-- Steward's reading through window 0 leaves the last series selected, and the cursor behind its record (R329, R330). -/
def windowRead (s : State) (tenant k : Nat) : State :=
  (windowSelect s 0 k).setReg (rHvWCur 0) (((ownSeries s tenant k).map fun x => 18 + x.bins).getD 0)

/-- RECORDER_READ (0x0603; R166, R330): each entry through window 0 with the route's tenant. -/
def execRecorderRead (r : Route) (tag : Nat) (s : State) : Host.Outcome State Fault Refusal :=
  .next (serve 0x0603 s r tag fun q s =>
    let p := q.payload
    let first := fld p 0 2
    let last := fld p 2 2
    if p.length ≠ 4 then done stBadLength s
    else if last < first then done stBadArgument s
    else
      let t := routeTenant s q.route
      toIsland s iPF fun s =>
        let s := s.setReg (rHvWTenant 0) t
        let (es, n, next) := recorderEntries s t last (last - first + 1) first 4056
        let s := if n = 0 then s else windowRead s t (first + n - 1)
        ((stOk, leBytes 2 n ++ leBytes 2 next ++ leBytes 4 0 ++ es.flatten), s))

def execRecorderStatus (r : Route) (tag : Nat) (s : State) : Host.Outcome State Fault Refusal :=
  .next (serve 0x0605 s r tag fun q s =>
    if q.payload ≠ [] then done stBadLength s
    else
      let t := routeTenant s q.route
      toIsland s iPF fun s =>
        ((stOk, leBytes 4 (s.harvest.series.filter fun p => p.2.tenant == t).length ++ leBytes 4 (hvUsed s) ++
          leBytes 1 (b2n (hvFull s)) ++ leBytes 3 0), s))

/-- One queued sample is recorded (R315 to R320). -/
def execHarvestSample (s : State) : Host.Outcome State Fault Refusal :=
  .next (if s.running iPF then takeSample s else s)

/-- The close that the time has reached (R321 to R323); on a standby closes come from the active partner (R334). -/
def execHarvestClose (s : State) : Host.Outcome State Fault Refusal :=
  .next (if !s.running iPF || s.shadow then s
    else match closeDue s with
      | some b => closeAll s b
      | none => s)

def execHvWselWrite (by_ : Agent) (w : Nat) (value : Word) (s : State) : Host.Outcome State Fault Refusal :=
  .next (if w < 2 then writeRow s by_ (rHvWSel w) value.toNat fun s => windowSelect s w value.toNat else s)

def execHvWdataRead (by_ : Agent) (w : Nat) (s : State) : Host.Outcome State Fault Refusal :=
  .next (if w < 2 then readRow s by_ (rHvWData w) fun s => windowData s w else s)

/-- A write of HV_CTRL that discards history (11 Table 11.5). -/
def execDropHistory (by_ : Agent) (value : Word) (s : State) : Host.Outcome State Fault Refusal :=
  .next (writeRow s by_ rHvCtrl value.toNat fun s => hvCtrlWrite s value.toNat)

end Sys2Proof.Machine
end

