-- ==== Sys2Proof/Machine/Vigil.lean ====
section
/-! DEFINITION. Vigil and what hangs on it (18 R503 to R513): sources, levels and latches, the reseeding of the vault,
the loss of the backup core, attestation and the removal of a tenant. -/

namespace Sys2Proof.Machine

/-! ## Sources and levels (Tables 18.6, 18.7) -/

/-- The configured level of a source. -/
def vgLevel (s : State) (k : Nat) : Nat := s.rfield rVgCfg (2 * k) 2

/-- The sources watched on VBAT. -/
def onVbatSource (k : Nat) : Bool := k == 0 || k == 1 || k == 2 || k == 5

/-- The key area and every credential are gone: stored keys, tenants' bindings and sessions (R510). -/
def keysGone (s : State) : State :=
  let tenants := ((s.mail.boxes.filterMap fun p => if p.1 = 0 then none else p.2.bind.map Bind.tenant).filter (· != house)).eraseDups
  let s := (tabVals s.vault.keys).foldl dropKey s
  let s := { s with vault := { s.vault with copy0 := [], copy1 := [], working := 0 } }
  tenants.foldl credentialGone s

/-- Level 2: the working key register and the session keys are erased, the debug port closes. -/
def levelTwo (s : State) : State :=
  let s := eraseSessionKeys s
  { s with vault := { s.vault with debugOpen := false } }

/-- Level 3: the seed is erased and the calendar recorded; an active partner has cause 4. On VBAT the vault itself acts
at the next start-up. -/
def levelThree (s : State) : State :=
  let s := { s with vault := { s.vault with seed := 0, reseedDue := true } }
  let s := (s.setReg rVgL3Time s.almanac.cal.timeWord).setReg rVgL3Date s.almanac.cal.dateWord
  if s.almanac.onVbat then s else selfCause (keysGone s) 4 iVLT

/-- Sources latch together: the highest level among them acts once (R509). -/
def latchSources (s : State) (ks : List Nat) : State :=
  if ks.isEmpty then s
  else
    let level := (ks.map (vgLevel s)).foldl max 0
    let s := ks.foldl (fun s k =>
      let s := s.raise rVgLatch k
      if s.almanac.onVbat then s.raise rVgLatch 16 else s.logEvent lvFault iALM 2 k k) s
    let s := s.setField rVgLatch 8 2 (max level (s.rfield rVgLatch 8 2))
    let s := if 2 ≤ level then levelTwo s else s
    if level = 3 then levelThree s else s

/-- VIGIL_SOURCE: the sources whose condition holds now; those newly active with a level above 0 latch. -/
def vigilSource (s : State) (sources : List Nat) : State :=
  let now := (List.range 6).filter fun k => sources.contains k && (!s.almanac.onVbat || onVbatSource k)
  let new := now.filter fun k => !s.rbit rVgNow k && decide (0 < vgLevel s k)
  latchSources (s.setReg rVgNow (now.map fun k => 2 ^ k).sum) new

def execVigilSource (sources : List Nat) (s : State) : Host.Outcome State Fault Refusal := .next (vigilSource s sources)

/-- A write of VG_LATCH: a source still active latches again and acts again (R512). -/
def latchClear (s : State) (v : Nat) : State :=
  let hit := (List.range 6).filter fun k => bitOf v k && s.rbit rVgLatch k
  let s := hit.foldl (fun s k => s.lower rVgLatch k) s
  let s := if s.rfield rVgLatch 0 6 = 0 then s.setReg rVgLatch 0 else s
  latchSources s (hit.filter fun k => s.rbit rVgNow k && decide (0 < vgLevel s k))

/-- VG_LATCH_CLEAR. -/
def execVgLatchClear (by_ : Agent) (value : Word) (s : State) : Host.Outcome State Fault Refusal :=
  .next (writeRow s by_ rVgLatch value.toNat fun s => latchClear s value.toNat)

/-- Least levels of Table 18.6. -/
def leastLevel (k : Nat) : Nat := if k = 2 then 2 else if k = 3 ∨ k = 4 then 1 else 0

/-- A write of VG_CFG, VG_FILTER or VG_TEMP; ignored once LOCK is 1 (R508). -/
def vgWrite (s : State) (a v : Nat) : State :=
  if s.rbit rVgCfg 31 then s
  else if a = rVgCfg then
    let levels := ((List.range 6).map fun k => max (leastLevel k) (bitsOf v (2 * k) 2) * 4 ^ k).sum
    s.setReg rVgCfg (levels + b2n (bitOf v 31) * 2 ^ 31)
  else if a = rVgFilter then s.setReg a (v % 256)
  else s.setReg a (v % 65536)

/-- VG_CFG_WRITE. -/
def execVgCfgWrite (by_ : Agent) (value : Word) (s : State) : Host.Outcome State Fault Refusal :=
  .next (writeRow s by_ rVgCfg value.toNat fun s => vgWrite s rVgCfg value.toNat)

/-! ## Reseeding (R510, R513) -/

/-- VAULT_RESEED: the key area is erased and a new seed drawn. -/
def vaultReseed (s : State) : State :=
  if !s.running iVLT || !s.vault.reseedDue then s
  else
    let s := keysGone s
    let (v, s) := s.draw
    ({ s with vault := { s.vault with
        seed := v, reseedDue := false, reseeded := true, seedLost := s.vault.seedLost || s.vault.coreLost
        coreLost := false } }).kvEvent 1

def execVaultReseed (s : State) : Host.Outcome State Fault Refusal := .next (vaultReseed s)

/-- CORE_LOST: both supplies lost, or VBAT low while the core relied on it; the values of 14 R385, Vigil's factory values
(R508), the seed lost (R513). -/
def coreLost (s : State) : State :=
  if !s.almanac.vaonLow then s
  else
    let al := (List.range 64).map fun w => rAlCtrl + 4 * w
    let vg := [rVgCfg, rVgFilter, rVgTemp, rVgLatch, rVgNow, rVgL3Time, rVgL3Date]
    let s := (al ++ vg).foldl (fun s a => s.setReg a (regReset a)) s
    let s := (s.setReg rAlStatus 0).setReg rAlEvent 64
    { s with
      almanac := { vaonLow := true, onVbat := s.almanac.onVbat }
      vault := { s.vault with seed := 0, reseedDue := true, coreLost := true } }

def execCoreLost (s : State) : Host.Outcome State Fault Refusal := .next (coreLost s)

/-! ## The slots as attestation and update read them (19 Tables 19.1, 19.2) -/

/-- The image a slot holds; a slot as delivered holds the factory image (log 59). -/
def UpSlot.image (x : UpSlot) : List Byte :=
  if x.state = 0 ∨ x.state = 1 then [] else if x.header = [] then Config.factoryImage else x.data

/-- The number of parts, and a manifest entry. -/
def imgParts (b : List Byte) : Nat := max 1 (min 16 (fld b 36 2))
def imgEntry (b : List Byte) (i : Nat) : List Byte := sub b (128 + 96 * i) 96

/-- The digest of a part as held: for a CARRY entry the one recorded at the final check (R516). -/
def UpSlot.digest (x : UpSlot) (i : Nat) : List Byte :=
  let e := imgEntry x.image i
  if bitOf (fld e 2 1) 0 then padTo 64 (x.digests.getD i []) else sub e 32 64

/-- The active slot. -/
def activeSlot (s : State) : UpSlot := if s.update.active then s.update.slotB else s.update.slotA

/-! ## ATTEST (R505, R506) -/

/-- The measurement of a part (Table 18.5). -/
def measurement (s : State) (i : Nat) : List Byte :=
  let e := imgEntry (activeSlot s).image i
  leBytes 1 (fld e 0 1) ++ leBytes 1 (b2n s.update.active) ++ leBytes 2 0 ++ leBytes 4 (fld e 4 4) ++ (activeSlot s).digest i

/-- The statement (Table 18.5). -/
def attestStatement (s : State) (nonce : List Byte) : List Byte :=
  let n := imgParts (activeSlot s).image
  let m := 128 + 72 * n
  let flags := b2n s.vault.testRoot + b2n (l3Hold s) * 2 + b2n s.vault.reseeded * 4 + b2n s.vault.debugOpen * 8
  let body :=
    [0x41, 0x54, 0x53, 0x54] ++ leBytes 2 1 ++ leBytes 2 flags ++ leBytes 4 (m + 8787) ++ leBytes 2 n ++ leBytes 2 0 ++
      nonce ++ leBytes 8 s.tai ++ systemBytes s ++ leBytes 4 (s.reg rVgLatch) ++ leBytes 2 s.vault.keys.length ++
      leBytes 2 (tenantCount s) ++ leBytes 4 0 ++ leBytes 16 0 ++
      ((List.range n).map (measurement s)).flatten ++ padTo 2592 (Config.dsaPublic (identitySeed s)) ++
      padTo 1568 (Config.kemPublic (importSeed s))
  body ++ padTo 4627 (Config.dsaSign (identitySeed s) body)

/-- Part k of a statement, as a response carries it. -/
def attestPart (b : List Byte) (k : Nat) : List Byte :=
  leBytes 2 k ++ leBytes 2 ((b.length + 4055) / 4056) ++ leBytes 4 b.length ++ sub b (4056 * k) (min 4056 (b.length - 4056 * k))

/-- The statement held for a route. -/
def heldStatement (s : State) (r : Route) : Option Statement := s.vault.statements.find? (·.route == r)

/-- Replaces the statement held for a route. -/
def holdStatement (s : State) (x : Statement) : State :=
  { s with vault := { s.vault with statements := x :: s.vault.statements.filter (·.route != x.route) } }

/-- ATTEST (0x0C06). -/
def execAttest (r : Route) (tag : Nat) (s : State) : Host.Outcome State Fault Refusal :=
  .next (serve 0x0C06 s r tag fun q s =>
    let p := q.payload
    if p.length ≠ 32 then done stBadLength s
    else toIsland s iVLT fun s =>
      if leNat p = 0 then
        match heldStatement s r with
        | some x =>
          if 4056 * x.next < x.bytes.length ∧ s.now < x.made + 60 * nsSec then
            ((stOk, attestPart x.bytes x.next), holdStatement s { x with next := x.next + 1 })
          else done stBadArgument s
        | none => done stBadArgument s
      else
        let b := attestStatement s p
        ((stOk, attestPart b 0), holdStatement s { route := r, bytes := b, next := 1, made := s.now }))

/-- ATTEST_PARTS_EXPIRE: 60 s after a statement was produced. -/
def execAttestPartsExpire (r : Route) (s : State) : Host.Outcome State Fault Refusal :=
  .next { s with vault := { s.vault with
    statements := s.vault.statements.filter fun x => x.route != r || decide (s.now < x.made + 60 * nsSec) } }

/-! ## TENANT_REMOVE (R503) -/

/-- What TENANT_REMOVE does, one crossing after the other: keys and bindings in VLT, the tenant's metering slot in MTR
(10 R294), its series in PF (11 Table 11.2). The first refusal is the command's status, and what was performed before it
stays (log 115). -/
def removeTenant (s : State) (t : Nat) : Ans :=
  let (a, s) := toIsland s iVLT fun s => done stOk (eraseTenant s t)
  if a.1 ≠ stOk then (a, s)
  else
    let (a, s) := toIsland s iMTR fun s => done stOk (freeSlot s t)
    if a.1 ≠ stOk then (a, s) else toIsland s iPF fun s => done stOk (removeSeriesOf s t)

/-- TENANT_REMOVE (0x0C02). -/
def execTenantRemove (r : Route) (tag : Nat) (s : State) : Host.Outcome State Fault Refusal :=
  .next (serve 0x0C02 s r tag fun q s =>
    let p := q.payload
    let t := fld p 0 2
    if p.length ≠ 4 then done stBadLength s
    else if fld p 2 2 ≠ 0 ∨ nobody ≤ t then done stBadArgument s
    else removeTenant s t)

end Sys2Proof.Machine
end

