-- ==== Sys2Proof/Machine/Update.lean ====
section
/-! DEFINITION. Field update (19; 05 R168): headers, segments, the final checks, activation, trial, confirmation and
fall-back. -/

namespace Sys2Proof.Machine

/-! ## Slots -/

/-- The inactive slot. -/
def spareSlot (s : State) : UpSlot := if s.update.active then s.update.slotA else s.update.slotB

/-- Replaces the inactive or the active slot. -/
def setSpare (s : State) (x : UpSlot) : State :=
  { s with update := if s.update.active then { s.update with slotA := x } else { s.update with slotB := x } }
def setActive (s : State) (x : UpSlot) : State :=
  { s with update := if s.update.active then { s.update with slotB := x } else { s.update with slotA := x } }

/-- Sets an event bit of the update block. -/
def State.upEvent (s : State) (bit : Nat) : State := s.raise rUpEvent bit

/-- UP_REJECT takes stage, step, entry and status. -/
def noteUpReject (s : State) (stage step entry status : Nat) : State :=
  s.setReg rUpReject (stage + step * 16 + entry % 256 * 256 + status * 65536)

/-- The 128-byte header of a slot's image; a slot as delivered holds the factory image (log 59). -/
def UpSlot.head (x : UpSlot) : List Byte := if x.header = [] then padTo 128 x.image else x.header

/-- Header fields (Table 19.1). -/
def hdSecurity (h : List Byte) : Nat := fld h 28 4
def hdLength (h : List Byte) : Nat := fld h 32 4
def hdParts (h : List Byte) : Nat := fld h 36 2
def hdFormat (h : List Byte) : Nat := fld h 38 2
def hdVendorKey (h : List Byte) : Nat := fld h 40 1

/-! ## Header checks (Table 19.4) -/

/-- Steps 1 to 7 of Table 19.4, in order. -/
def headerChecks (s : State) (h : List Byte) : List Bool := [
  (crcIscsi (h.take 124)).toNat == fld h 124 4 && h.take 4 == [0x4B, 0x57, 0x55, 0x50] && fld h 4 2 == 1 &&
    fld h 6 2 == 128 && fld h 41 1 / 4 == 0 && fld h 42 2 == 0 && fld h 47 1 == 0 && allZero (sub h 56 68),
  sub h 8 16 == padTo 16 (ascii "CFM-8420"),
  (List.range 3).all fun k => decide (fld h (44 + k) 1 ≤ bitsOf Config.silicon (8 * k) 8),
  decide (4096 ≤ hdLength h) && decide (hdLength h ≤ 67043328) && decide (1 ≤ hdParts h) && decide (hdParts h ≤ 16),
  decide (s.reg rUpFloor ≤ hdSecurity h),
  decide (hdVendorKey h ≤ 3) && !s.rbit rUpRevoked (hdVendorKey h),
  decide (s.rfield rUpFormat 0 16 ≤ hdFormat h) ]

/-- The first failing step of a list of checks, counted from 1. -/
def firstStep (cs : List Bool) : Option Nat := (cs.findIdx? (!·)).map (· + 1)

/-- UPDATE_BEGIN's work in Chervil (R518). A transfer open from another route, or checks that run, make it BUSY. -/
def updateBegin (s : State) (r : Route) (h : List Byte) : Ans :=
  if s.update.trialing then done stNotConfirmed s
  else if s.update.stage = 2 ∨ (s.mail.transfers.any fun t => t.command == 0x0D02 && t.route != r) then done stBusy s
  else
    match firstStep (headerChecks s h) with
    | some k => done stImageRejected ((noteUpReject s 1 k 0 stImageRejected).upEvent 2)
    | none =>
      let s := endTransfer s 0x0D02
      let s := setSpare s { state := 1, header := h }
      let s := { s with update := Update.commit { s.update with stage := 1 } }
      done stOk ((s.setReg rUpReceived 0).upEvent 0)

/-- UPDATE_BEGIN (0x0D01). -/
def execUpdateBegin (r : Route) (tag : Nat) (s : State) : Host.Outcome State Fault Refusal :=
  .next (serve 0x0D01 s r tag fun q s =>
    if q.payload.length ≠ 128 then done stBadLength s else toIsland s iMGT fun s => updateBegin s r q.payload)

/-! ## Segments (R519; 05 R168) -/

/-- The bytes received keep to the accepted header. -/
def headerKept (h data : List Byte) : Bool := data.take 128 == h.take (min 128 data.length)

/-- One segment: it pends while it is written; the last one pends while the image is checked (log 62). -/
def updateSegment (s : State) (q : Req) : Ans :=
  let p := q.payload
  let h := (spareSlot s).header
  let taken (s : State) (t : Transfer) (f : State → Ans) : Ans :=
    if headerKept h t.data then f (s.setReg rUpReceived t.received)
    else done stImageRejected ((abandonTransfer s (transferOf s 0x0D02 |>.getD t)).upEvent 2)
  if s.update.stage ≠ 1 ∨ fld p 4 4 ≠ hdLength h then done stBadArgument s
  else
    match transferPart s q (fld p 0 4) (fld p 4 4) 0 (p.drop 8) with
    | .refused st => done st s
    | .more t => taken s t fun s => ((stPending, leBytes 4 t.received), putTransfer s t)
    | .whole t =>
      taken s t fun s =>
        let s := setSpare (endTransfer s 0x0D02) { spareSlot s with data := t.data }
        ((stPending, leBytes 4 t.received), { s with update := { s.update with stage := 2 } })

/-- UPDATE_SEGMENT (0x0D02). -/
def execUpdateSegment (r : Route) (tag : Nat) (s : State) : Host.Outcome State Fault Refusal :=
  .next (serve 0x0D02 s r tag fun q s =>
    if q.payload.length < 9 then done stBadLength s else toIsland s iMGT fun s => updateSegment s q)

/-- A segment that is not the last has been written to the inactive slot: its request is answered (05 R168; log 62). -/
def segmentWritten (s : State) : State :=
  if s.update.stage = 2 then s
  else complete_ s 0x0D02 (if s.running iMGT then stOk else stIslandAbsent) (if s.running iMGT then leBytes 4 (s.reg rUpReceived) else [])

/-! ## Final checks (Table 19.5) -/

/-- Part types of Table 19.3: origin, whether required, and the limit in bytes. -/
def partType (t : Nat) : Option (Nat × Bool × Nat) :=
  if t = 1 then some (0, true, 1835008) else if t = 2 then some (0, true, 16777216)
  else if t = 3 then some (0, true, 262144) else if t = 4 then some (0, true, 65536)
  else if t = 5 then some (1, false, 16777216) else if t = 6 then some (1, false, 2097152)
  else if t = 7 ∨ t = 8 then some (1, false, 65536) else if t = 9 then some (1, false, 1048576) else none

/-- Manifest fields (Table 19.2). -/
def enType (e : List Byte) : Nat := fld e 0 1
def enOrigin (e : List Byte) : Nat := fld e 1 1
def enCarry (e : List Byte) : Bool := bitOf (fld e 2 1) 0
def enOffset (e : List Byte) : Nat := fld e 8 4
def enLength (e : List Byte) : Nat := fld e 12 4

/-- The manifest entries of an image. -/
def entriesOf (b : List Byte) : List (List Byte) := (List.range (hdParts b)).map (imgEntry b)

/-- The end of header, manifest, signature and tag. -/
def frontEnd (b : List Byte) : Nat := 128 + 96 * hdParts b + 4627 + (if bitOf (fld b 41 1) 0 then 32 else 0)

/-- Step 1 for one entry among those before it. -/
def entryForm (b : List Byte) (seen : List (List Byte)) (e : List Byte) : Bool :=
  match partType (enType e) with
  | none => false
  | some (origin, _, limit) =>
    enOrigin e == origin && fld e 2 1 / 2 == 0 && fld e 3 1 == 0 && allZero (sub e 16 16) &&
      !(seen.any fun x => enType x == enType e) &&
      (if enCarry e then enOffset e == 0 && enLength e == 0 && allZero (sub e 32 64)
       else enOffset e % 4096 == 0 && decide (enLength e ≤ limit) && (enType e != 7 || enLength e % 64 == 0) &&
         decide (frontEnd b ≤ enOffset e) && decide (enOffset e + enLength e ≤ hdLength b) &&
         !(seen.any fun x => !enCarry x && rangesMeet (enOffset x) (enLength x) (enOffset e) (enLength e)))

/-- The first entry that fails step 1. -/
def badEntry (b : List Byte) : Nat → List (List Byte) → List (List Byte) → Option Nat
  | _, _, [] => none
  | k, seen, e :: es => if entryForm b seen e then badEntry b (k + 1) (e :: seen) es else some k

/-- An entry as the vendor signs it: OFFSET taken as 0 (R517). -/
def signedEntry (e : List Byte) : List Byte := overlay e 8 (leBytes 4 0)

/-- The message the vendor signs (R517). -/
def vendorMessage (b : List Byte) : List Byte :=
  sub b 8 24 ++ overlay (sub b 38 18) 3 [BitVec.ofNat 8 (fld b 41 1 / 2 * 2)] ++
    (((entriesOf b).filter fun e => enOrigin e == 0).map signedEntry).flatten

/-- The vendor signature verifies. -/
def vendorOk (b : List Byte) : Bool :=
  Config.dsaVerify (hdVendorKey b) (vendorMessage b) (sub b (128 + 96 * hdParts b) 4627)

/-- The message of the integrator tag (R517). -/
def tagMessage (b : List Byte) : List Byte :=
  leBytes 64 (Config.sha3 (b.take 124 ++ (entriesOf b).flatten)).toNat

/-- The integrator tag under the key of UP_KEY, compared within the vault; the use of the key is counted (R499, R517). -/
def integratorOk (s : State) (b : List Byte) : Bool × State :=
  if !bitOf (fld b 41 1) 0 ∨ !s.running iVLT then (false, s)
  else
    match judgeKey s (s.reg rUpKey) house 3 with
    | .error st => (false, (kvRefused s st).2)
    | .ok k =>
      (sub b (128 + 96 * hdParts b + 4627) 32 ==
        leBytes 32 (Config.kmac (leBytes 32 k.material) (tagMessage b) 256 "CFM-8420 image"), useKey s k)

/-- A digest of a part. -/
def digestOf (p : List Byte) : List Byte := leBytes 64 (Config.sha3 p).toNat

/-- The part of an entry that stands in the image. -/
def ownPart (b e : List Byte) : List Byte := sub b (enOffset e) (enLength e)

/-- The part of a slot's entry i: copied for a CARRY entry. -/
def UpSlot.part (x : UpSlot) (i : Nat) : List Byte :=
  let e := imgEntry x.image i
  if enCarry e then ((x.carried.find? fun p => p.1 == enType e).map (·.2)).getD [] else ownPart x.image e

/-- The entry of a slot that has a type. -/
def UpSlot.entryOf (x : UpSlot) (t : Nat) : Option Nat :=
  (List.range (imgParts x.image)).find? fun i => enType (imgEntry x.image i) == t

/-- The part of a type in the active slot, verified against its digest there (R516). -/
def carriedPart (s : State) (t : Nat) : Option (List Byte) :=
  match (activeSlot s).entryOf t with
  | some i => if digestOf ((activeSlot s).part i) = (activeSlot s).digest i then some ((activeSlot s).part i) else none
  | none => none

/-- A loop table keeps to R246 apart from the tenant rule. -/
def loopTableForm (s : State) : List Nat → List (List Byte) → Bool
  | _, [] => true
  | seen, e :: es =>
    checkLoopEntry { s with loops := {} } (fld e 4 2) seen e == stOk && loopTableForm s (fld e 0 2 :: seen) es

/-- The lists of Table 12.6 that a gate-list part concatenates; none where the bytes do not divide so. -/
def gateLists : Nat → List Byte → Option (List (List Byte))
  | 0, b => if b = [] then some [] else none
  | n + 1, b =>
    if b = [] then some []
    else
      let len := 24 + 8 * fld b 2 2
      if b.length < len then none else (gateLists n (b.drop len)).map (b.take len :: ·)

/-- Step 7 for one part. -/
def partContent (s : State) (t : Nat) (p : List Byte) : Bool :=
  if t = 6 then
    (match (do checkHeader p (crcIscsi p).toNat; checkLayout p; checkTasks p; checkWords p; checkTargets p; checkReach p
               checkMaps p : Except Reject Unit) with
     | .ok _ => true
     | .error _ => false)
  else if t = 7 then loopTableForm s [] (entriesAt p 0 64 (p.length / 64))
  else if t = 8 then ((gateLists p.length p).any fun ls => ls.all gateListOk)
  else true

/-- The checks of Table 19.5 in order on the image of the inactive slot: step, entry and status of the first failure, or
the slot as it stands VERIFIED. -/
def finalChecks (s : State) (x : UpSlot) : (Option (Nat × Nat × Nat) × UpSlot) × State :=
  let b := x.data
  let es := entriesOf b
  let fail (k e st : Nat) (s : State) : (Option (Nat × Nat × Nat) × UpSlot) × State := ((some (k, e, st), {}), s)
  let firstBad (f : List Byte → Bool) : Option Nat := es.findIdx? fun e => !f e
  match badEntry b 0 [] es with
  | some k => fail 1 k stImageRejected s
  | none =>
    if !([1, 2, 3, 4].all fun t => es.any fun e => enType e == t) then fail 2 0 stManifestIncomplete s
    else if !vendorOk b then fail 3 0 stImageRejected s
    else
      let (tagOk, s) := if es.any fun e => enOrigin e == 1 then integratorOk s b else (true, s)
      if !tagOk then fail 4 0 stImageRejected s
      else
        match firstBad fun e => enCarry e || digestOf (ownPart b e) == sub e 32 64 with
        | some k => fail 5 k stImageRejected s
        | none =>
          match firstBad fun e => !enCarry e || (carriedPart s (enType e)).isSome with
          | some k => fail 6 k stManifestIncomplete s
          | none =>
            let part (e : List Byte) : List Byte :=
              if enCarry e then (carriedPart s (enType e)).getD [] else ownPart b e
            match firstBad fun e => partContent s (enType e) (part e) with
            | some k => fail 7 k stImageRejected s
            | none =>
              ((none, { x with
                state := 2, ran := false
                digests := es.map fun e => digestOf (part e)
                carried := (es.filter enCarry).map fun e => (enType e, part e) }), s)

/-- UPDATE_FINAL_CHECKED: the checks of a whole image end (R519). -/
def updateFinal (s : State) : State :=
  if s.update.stage ≠ 2 ∨ !s.running iMGT then s
  else
    let ((bad, x), s) := finalChecks s (spareSlot s)
    let s := { setSpare s x with update := Update.commit { (setSpare s x).update with stage := 0 } }
    match bad with
    | some (k, e, st) => complete_ ((noteUpReject s 2 k e st).upEvent 2) 0x0D02 st []
    | none => complete_ (s.upEvent 1) 0x0D02 stOk (leBytes 4 x.data.length)

def execUpdateFinalChecked (s : State) : Host.Outcome State Fault Refusal := .next (updateFinal s)

/-- ABANDON: a write of UP_CTRL.ABANDON (Table 19.10). -/
def abandonOpen (s : State) : State :=
  match transferOf s 0x0D02 with
  | some t => abandonTransfer s t
  | none => if s.update.stage = 1 then abandonUpdate s else s

/-- A write of UP_CTRL. -/
def upCtrlWrite (s : State) (v : Nat) : State :=
  let s := s.setReg rUpCtrl (v % 256)
  if bitOf v 8 then abandonOpen s else s

def execAbandon (by_ : Agent) (value : Word) (s : State) : Host.Outcome State Fault Refusal :=
  .next (writeRow s by_ rUpCtrl value.toNat fun s => upCtrlWrite s value.toNat)

/-! ## Activation (R521, Table 19.7) -/

/-- An island drains into UPDATE, its part is written, and it returns through RESET; false where it cannot drain. -/
def updateIsland (s : State) (i : Nat) : Bool × State :=
  if !s.running i || (s.isl i).draining then (false, s)
  else (true, endUpdateState (endDrain (startDrain s i .update) i) i)

/-- Step 4: the record is committed, and the settings in force are frozen where DATA_FORMAT rises (R525). -/
def commitActivation (s : State) : State :=
  let new := spareSlot s
  let rises := decide (hdFormat (activeSlot s).head < hdFormat new.head)
  let s := setSpare s { new with state := 4, ran := false }
  let s := setActive s { activeSlot s with state := 2 }
  let frozen := if rises then some (settingsOf s) else none
  let s := { s with update := Update.commit { s.update with
    active := !s.update.active, trials := 0, stage := 0, diverged := false, trialBefore := 0, trialFrom := s.now
    counted := true, frozen := frozen, resetAt := some (s.now + 100 * nsMs) } }
  s.setField rUpFormat 16 16 (if rises then s.rfield rUpFormat 0 16 else 0)

/-- A failure of steps 1 to 3. -/
def activationFails (s : State) (step : Nat) : Ans :=
  done stImageRejected ((noteUpReject { s with update := { s.update with stage := 0 } } 3 step 0 stImageRejected).upEvent 3)

/-- UPDATE_ACTIVATE's work. -/
def updateActivate (s : State) : Ans :=
  if s.update.trialing then done stNotConfirmed s
  else if (spareSlot s).state ≠ 2 then done stBadArgument s
  else if (s.twin.role == .active && s.twin.partner == 2) || s.twin.role == .holding then done stNotPermitted s
  else
    let (ok, s) := updateIsland { s with update := { s.update with stage := 3 } } iFLD
    if !ok then activationFails s 2
    else
      let (ok, s) := updateIsland s iMTR
      if !ok then activationFails s 3 else done stOk (commitActivation s)

/-- UPDATE_ACTIVATE (0x0D03). -/
def execUpdateActivate (r : Route) (tag : Nat) (s : State) : Host.Outcome State Fault Refusal :=
  .next (serve 0x0D03 s r tag fun q s =>
    if q.payload.length ≠ 0 then done stBadLength s else toIsland s iMGT updateActivate)

/-! ## Trial, confirmation and fall-back (R523 to R526) -/

/-- The record is committed with the previous slot ACTIVE and the trial slot VERIFIED, and the module resets. -/
def fallBack (s : State) (auto : Bool) : State :=
  let s := setActive s { activeSlot s with state := 2 }
  let s := setSpare s { spareSlot s with state := 3 }
  let s := { s with update := Update.commit { s.update with active := !s.update.active, resetAt := some s.now } }
  let s := s.upEvent 5
  if auto then (s.upEvent 6).logEvent lvFault iMGT 3 6 0 else s.logEvent lvInfo iMGT 3 5 0

/-- UPDATE_FALLBACK (0x0D05). -/
def execUpdateFallback (r : Route) (tag : Nat) (s : State) : Host.Outcome State Fault Refusal :=
  .next (serve 0x0D05 s r tag fun q s =>
    if q.payload.length ≠ 0 then done stBadLength s
    else toIsland s iMGT fun s =>
      if s.update.trialing then done stOk (fallBack s false) else done stBadArgument s)

/-- The other slot after a confirmation: RETIRED when it fails step 5 or 7 of Table 19.4. -/
def retireSlot (s : State) (x : UpSlot) : UpSlot :=
  if x.state = 0 ∨ x.state = 1 then x
  else
    { x with state :=
        if hdSecurity x.head < s.reg rUpFloor ∨ hdFormat x.head < s.rfield rUpFormat 0 16 then 5 else 2 }

/-- One commit of R526. -/
def confirmTrial (s : State) : State :=
  let x := activeSlot s
  let h := x.head
  let s := setActive s { x with state := 3 }
  let s := s.setReg rUpFloor (max (s.reg rUpFloor) (hdSecurity h))
  let s := if bitOf (fld h 41 1) 1 then
      s.setReg rUpRevoked (s.reg rUpRevoked % 16 ||| (2 ^ min 4 (hdVendorKey h) - 1))
    else s
  let s := s.setReg rUpFormat (hdFormat h)
  let s := { s with update := { s.update with frozen := none, diverged := false } }
  let s := setSpare s (retireSlot s (spareSlot s))
  ({ s with update := s.update.commit } : State).upEvent 4

/-- UPDATE_CONFIRM (0x0D04). -/
def execUpdateConfirm (r : Route) (tag : Nat) (s : State) : Host.Outcome State Fault Refusal :=
  .next (serve 0x0D04 s r tag fun q s =>
    if q.payload.length ≠ 0 then done stBadLength s
    else toIsland s iMGT fun s =>
      if s.update.trialing then done stOk (confirmTrial s) else done stBadArgument s)

/-- Nanoseconds the running slot has spent in TRIAL. -/
def trialTime (s : State) : Nat := s.update.trialBefore + (s.now - s.update.trialFrom)

/-- CONFIRM_TIMEOUT: CONFIRM_MIN minutes in TRIAL. -/
def execConfirmTimeout (s : State) : Host.Outcome State Fault Refusal :=
  .next (let m := s.rfield rUpCtrl 0 8
    if s.update.trialing && s.update.resetAt.isNone && m != 0 && decide (m * 60 * nsSec ≤ trialTime s) then fallBack s true else s)

/-- Every part of a slot matches its digest; the factory image is taken to (log 59). -/
def partsIntact (x : UpSlot) : Bool :=
  x.header == [] || (List.range (imgParts x.image)).all fun i => digestOf (x.part i) == x.digest i

/-- TRIAL_START: a start of a TRIAL slot, once for each start. -/
def trialStart (s : State) : State :=
  if !s.update.trialing || s.update.counted || !s.power.started then s
  else if 3 ≤ s.update.trials || !partsIntact (activeSlot s) then fallBack s true
  else { s with update := Update.commit { s.update with trials := s.update.trials + 1, counted := true } }

def execTrialStart (s : State) : Host.Outcome State Fault Refusal := .next (trialStart s)

/-! ## Status (R527) -/

/-- UP_STATUS.STATE. -/
def upState (s : State) : Nat := if s.update.stage ≠ 0 then s.update.stage else if s.update.trialing then 4 else 0

/-- Settings changed during a trial that froze the old ones (R525). -/
def upDiverged (s : State) : Bool := s.update.diverged || s.update.frozen.any fun f => decide (settingsOf s ≠ f)

/-- UP_STATUS. -/
def upStatus (s : State) : Nat :=
  b2n s.update.active + upState s * 2 + s.update.slotA.state * 16 + s.update.slotB.state * 256 +
    s.update.trials % 4 * 4096 + b2n (upDiverged s) * 65536

/-- The 64-byte summary of a slot (R527). -/
def slotSummary (s : State) (x : UpSlot) : List Byte :=
  if x.state = 0 then leBytes 64 0
  else
    let h := x.head
    leBytes 1 x.state ++ leBytes 1 (hdParts h) ++ leBytes 2 (hdFormat h) ++ leBytes 4 (fld h 24 4) ++
      leBytes 4 (hdSecurity h) ++ leBytes 4 (hdLength h) ++
      leBytes 4 (if x.state = 1 then s.reg rUpReceived else hdLength h) ++ leBytes 1 (hdVendorKey h) ++
      leBytes 1 (fld h 41 1) ++ leBytes 2 0 ++ leBytes 8 (fld h 48 8) ++
      leBytes 32 (Config.sha3 (h.take 124 ++ (entriesOf x.image).flatten)).toNat

/-- UPDATE_STATUS (0x0D06). -/
def execUpdateStatus (r : Route) (tag : Nat) (s : State) : Host.Outcome State Fault Refusal :=
  .next (serve 0x0D06 s r tag fun q s =>
    if q.payload.length ≠ 0 then done stBadLength s
    else toIsland s iMGT fun s =>
      ((stOk, leBytes 1 (b2n s.update.active) ++ leBytes 1 (upState s) ++ leBytes 2 0 ++
        slotSummary s s.update.slotA ++ slotSummary s s.update.slotB), s))

/-! ## Idle cycles -/

/-- An idle cycle (log 2): 10 ns pass, and what waits for no command goes on: Chervil writes the island points that differ
(22 R571), a segment being written and a calibration set being checked are answered (05 R168, 09 R268), and an exchange that
waits for a standby no longer ready starts (07 R233). -/
def idleStep (s : State) : State :=
  standbyHolds (calibrationChecked (segmentWritten (writeAllIslandPoints (idleTick s)))) 0

end Sys2Proof.Machine
end

