-- ==== Sys2Proof/Machine/Regs.lean ====
section
/-! DEFINITION. What a read and a write of every register do (00 R6 to R11; the register sections of 02 to 20), and the
rows that access registers by address: RC_READ, REGISTER_WRITE, the rows of single fields, and the block access commands
(05 R160). A register without a case of its own is stored: its row of Machine/RegMap.lean says which bits a write sets
or clears, and whether a read clears it. -/

namespace Sys2Proof.Machine

/-! ## The common control block (02 Tables 2.12 to 2.22) -/

/-- ISL_CLK: the mean of the last 1 ms while a pausible clock runs is open; within ±0.5 % of nominal once the island has
been in RUN for 1 ms (R47; log 1). The crystal of ALM and the reference of TIME keep their rates (R50, Table 2.4). A
CLK_RANGE fault shows the frequency found. -/
def islClkRead (s : State) (i : Nat) : Nat × State :=
  let x := s.isl i
  let n := nominalKHz i
  let clocked := x.state == .boot || x.state == .run || x.state == .idle || x.state == .update
  if !clocked then (0, s)
  else if i = iALM ∨ i = iTIME then (n + 2 ^ 31, s)
  else if s.rbit (rIslFault i) 1 ∧ s.reg (rIslClk i) ≠ 0 then (s.reg (rIslClk i), s)
  else
    let (v, s) := s.draw
    let f := if x.state = .run ∧ x.since + nsMs ≤ s.now then 995 * n / 1000 + v % (10 * n / 1000 + 1) else v % (1005 * n / 1000 + 1)
    (f + 2 ^ 31, s)

/-- ISL_PWR: 0 off, 1 on, 2 retention, with the rail and its latest voltage. -/
def islPwrRead (s : State) (i : Nat) : Nat :=
  let d := if (s.isl i).state = .off then 0 else if (s.isl i).state = .retain then 2 else 1
  d + islandRail i * 256 + s.rfield (rMgRail (islandRail i)) 0 12 * 65536

/-- ISL_STATE. -/
def islStateRead (s : State) (i : Nat) : Nat :=
  let x := s.isl i
  x.state.code + x.target.code * 16 + b2n x.draining * 256 + b2n (x.state == .idle) * 512

/-- Block 0x00 of island i. IN_PEND counts the image operations the fabric holds, the only requests whose service outlasts
the step that accepts them (log 85). -/
def islRead (s : State) (i off : Nat) : Option (Nat × State) :=
  if off = 0x004 then some (islStateRead s i, s)
  else if off = 0x008 then some ((s.isl i).epoch, s)
  else if off = 0x014 then some (islClkRead s i)
  else if off = 0x018 then some (islPwrRead s i, s)
  else if off = 0x01C then some (inPend s i % 512 + outPend s i % 512 * 65536, s)
  else none

/-! ## ALM -/

/-- AL_ registers that are not stored words. -/
def almRead (s : State) (a : Nat) : Option (Nat × State) :=
  if a = rAlCtrl then some (b2n s.almanac.halt, s)
  else if a = rAlStatus then some (alStatusRead s, s)
  else if a = rAlTime then some (alTimeRead s)
  else if a = rAlDate then some (s.almanac.latchDate.dateWord, s)
  else if a = rAlSubsec then some (s.almanac.latchSub % 32768, s)
  else if a = rAlTrim then some (uNat 16 s.almanac.trimNext, s)
  else if rAlBkp 0 ≤ a ∧ a < rAlBkp 16 then some (bkpWord s ((a - rAlBkp 0) / 4))
  else match alarmOf a with
    | some (k, off) =>
      let x := s.alarm k
      some (if off = 0 then x.time.timeWord else if off = 4 then x.time.dateWord else x.ctrlWord, s)
    | none => none

/-- Writes of AL_ and VG_ registers that do more than store. -/
def almWrite (s : State) (a v : Nat) : Option State :=
  if a = rAlCtrl then some (alCtrlWrite s v)
  else if a = rAlTime then some (calWrite s fun c => c.setTime v)
  else if a = rAlDate then some (calWrite s fun c => c.setDate v)
  else if a = rAlTrim then some (setTrim s (sInt 16 v))
  else if rAlBkp 0 ≤ a ∧ a < rAlBkp 16 then
    some (bkpWrite s ((a - rAlBkp 0) / 4 / 2) ((a - rAlBkp 0) / 4 % 2 * 4) (leBytes 4 v))
  else if a = rVgLatch then some (latchClear s v)
  else if a = rVgCfg ∨ a = rVgFilter ∨ a = rVgTemp then some (vgWrite s a v)
  else (alarmOf a).map fun k => alarmWrite s k.1 k.2 v

/-! ## MGT -/

/-- MG_, PW_, TW_ and UP_ registers that show live state. -/
def mgtRead (s : State) (a : Nat) : Option Nat :=
  if a = rMgStatus then some (b2n s.power.chervilReady + b2n s.power.startShown * 2)
  else if a = rMgChervilVer then some (Config.chervilVersion % 2 ^ 32)
  else if a = rPwStatus then
    some (b2n s.power.warn + b2n s.power.shed * 2 + b2n s.power.storeReady * 4 + b2n s.power.fieldOk * 8 +
      b2n s.power.refExt * 16)
  else if a = rTwStatus then some (twStatus s)
  else if a = rTwGrantLeft then some (grantLeft s % 32768)
  else if a = rUpStatus then some (upStatus s)
  else none

/-- PW_CTRL takes its reference source at once (17 R479); UP_CTRL may abandon. -/
def mgtWrite (s : State) (a v : Nat) : Option State :=
  if a = rUpCtrl then some (upCtrlWrite s v)
  else if a = rPwCtrl then
    some (switchReference (s.setReg rPwCtrl (v &&& 0x131FF)) (bitsOf v 12 2 != 0 && s.power.refIn))
  else none

/-! ## VLT and FLD -/

/-- KV_STATUS; operations are performed in the step that brings them, so that none is queued. -/
def kvStatus (s : State) : Nat :=
  b2n (s.vault.ready && s.running iVLT) + b2n s.vault.testRoot * 2 + b2n s.vault.debugOpen * 4 + b2n s.vault.reseeded * 8 +
    b2n s.vault.seedLost * 16 + b2n (l3Hold s) * 32 + s.vault.keys.length % 512 * 65536

/-- PW_PSTATn. -/
def pwPStat (s : State) (n : Nat) : Nat :=
  let f := s.fuse n
  f.state + b2n f.latched * 8 + f.pdClass % 16 * 16 + f.ma % 4096 * 65536

/-- Registers of VLT and FLD that show live state. -/
def kvFldRead (s : State) (a : Nat) : Option Nat :=
  if a = rKvStatus then some (kvStatus s)
  else if a = rKvWorking then some s.vault.working
  else if rPwPStat 0 ≤ a ∧ a < 0xB0200100 ∧ a % 16 = 4 then some (pwPStat s ((a - rPwPStat 0) / 16))
  else none

/-! ## SAGE -/

/-- Target of an IC_T register: target and offset within it. -/
def icTarget (a : Nat) : Option (Nat × Nat) :=
  if rIcTThresh 0 ≤ a ∧ a < rIcTThresh 3 then some ((a - rIcTThresh 0) / 0x80, (a - rIcTThresh 0) % 0x80) else none

/-- IC_ registers that are not stored words. -/
def icRead (s : State) (a : Nat) : Option (Nat × State) :=
  if a = rIcStatus then some (icStatusRead s, s)
  else if a = rIcSwSet ∨ a = rIcSwClr then some (0, s)
  else if rIcAssert 0 ≤ a ∧ a ≤ rIcAssert 7 then some (bits32 (asserted s) ((a - rIcAssert 0) / 4), s)
  else if rIcActive 0 ≤ a ∧ a ≤ rIcActive 7 then some (bits32 (fun n => s.irq.active.contains n) ((a - rIcActive 0) / 4), s)
  else if rIcSrc 0 ≤ a ∧ a ≤ rIcSrc 255 then some (icSrcRead s ((a - rIcSrc 0) / 4), s)
  else match icTarget a with
    | some (t, off) =>
      if off = 0x04 then some (claim s t)
      else if off = 0x08 ∨ off = 0x18 then some (0, s)
      else if off = 0x0C then some (icTStatRead s t, s)
      else if 0x44 ≤ off ∧ off ≤ 0x7C then some (icTStackRead s t ((off - 0x40) / 4), s)
      else none
    | none => none

/-- IC_ registers whose write does more than store. -/
def icWrite (s : State) (by_ : Agent) (a v : Nat) : Option State :=
  if a = rIcSwSet then some (swSet s (v % 256))
  else if a = rIcSwClr then some (swClear s (v % 256))
  else if rIcSrc 0 ≤ a ∧ a ≤ rIcSrc 255 then some (srcWriteBy s by_ ((a - rIcSrc 0) / 4) v)
  else match icTarget a with
    | some (t, off) =>
      if off = 0x08 then some (complete s t (v % 256)) else if off = 0x18 then some (ctrlWrite s t v) else none
    | none => none

/-! ## PF: fabric, Harvest, check channels -/

/-- PF_ and HV_ registers that are not stored words. -/
def pfRead (s : State) (a : Nat) : Option (Nat × State) :=
  if a = rPfStatus then
    some (s.rfield rPfStatus 0 2 + b2n (!s.fabric.forces.isEmpty) * 4 + s.fabric.imageQueue.length % 64 * 256, s)
  else if a = rPfEvent then some (pfEvent s, s)
  else if a = rPfDefined then some (s.fabric.store.length % 2 ^ 26, s)
  else if a = rPfUsage then some (s.fabric.shares.length + s.fabric.forces.length * 65536, s)
  else if a = rPfCacheMiss then some (s.fabric.misses, { s with fabric := { s.fabric with misses := 0 } })
  else if a = rHvStatus then some (s.rfield rHvStatus 0 1 + b2n s.shadow * 4, s)
  else if a = rHvUsed then some (hvUsed s, s)
  else if a = rHvSeries then some (s.harvest.series.length, s)
  else if a = rHvWTenant 1 then some (s.mail.partition % 4096, s)
  else if a = rHvWData 0 then some (windowData s 0)
  else if a = rHvWData 1 then some (windowData s 1)
  else if a = rHvWSeq 0 then some (windowSeq s 0, s)
  else if a = rHvWSeq 1 then some (windowSeq s 1, s)
  else if a = rHvWStat 0 then some (windowStat s 0, s)
  else if a = rHvWStat 1 then some (windowStat s 1, s)
  else none

/-- PF_ and HV_ registers whose write does more than store. -/
def pfWrite (s : State) (a v : Nat) : Option State :=
  if a = rPfEvent then
    let s := { s with fabric := { s.fabric with missStuck := s.fabric.missStuck && !bitOf v 4 } }
    some (s.setReg rPfEvent (s.reg rPfEvent &&& (all32 - v % 2 ^ 32)))
  else if a = rHvCtrl then some (hvCtrlWrite s v)
  else if a = rHvWSel 0 then some (windowSelect s 0 v)
  else if a = rHvWSel 1 then some (windowSelect s 1 v)
  else none

/-- Channel and offset of a CHK_ register. -/
def chkOf (a : Nat) : Option (Nat × Nat) :=
  if rChkCtrl 0 ≤ a ∧ a < rChkCtrl 16 then some ((a - rChkCtrl 0) / 0x40, (a - rChkCtrl 0) % 0x40) else none

/-- CHK_ registers: all but CHK_EVENT_EN. A counter clears as it is read. -/
def chkRead (s : State) (a : Nat) : Option (Nat × State) :=
  if a = rChkEvent then some (s.chk.event % 2 ^ 17, s)
  else match chkOf a with
    | some (c, off) =>
      let x := s.chkChan c
      if off = 0x00 then some (chkCtrlRead s c, s)
      else if off = 0x10 then some (chkResultRead s c, s)
      else if off = 0x14 then some (chkStatRead s c, s)
      else if off = 0x18 then some (x.units, s.setChkChan c { x with units := 0 })
      else if off = 0x1C then some (x.fails, s.setChkChan c { x with fails := 0 })
      else if off = 0x20 then some (x.aborts, s.setChkChan c { x with aborts := 0 })
      else some (0, s)
    | none => none

def chkWrite (s : State) (a v : Nat) : Option State :=
  if a = rChkEvent then some { s with chk := { s.chk with event := s.chk.event &&& (all32 - v % 2 ^ 32) } }
  else match chkOf a with
    | some (c, off) =>
      if off = 0x00 then some (chkCtrlWrite s c v)
      else if off = 0x04 then some (chkInWrite s c 1 v)
      else if off = 0x08 then some (chkInWrite s c 2 v)
      else if off = 0x0C then some (chkInWrite s c 4 v)
      else some s
    | none => none

/-! ## THY and LOOP -/

/-- The code of a task state (06 Table 6.31). -/
def TaskState.code : TaskState → Nat
  | .undefined => 0 | .waiting => 1 | .gathering => 2 | .ready => 3 | .running => 4 | .scattering => 5 | .stopped => 6
  | .faulted => 7

/-- TH_LOAD: the shares are open while a program runs, MEAN at most PEAK, PEAK at most 1,000 (log 1). -/
def thLoadRead (s : State) : Nat × State :=
  if s.thyme.loaded.isNone ∨ !thRun s then (0, s)
  else
    let (v, s) := s.draw
    let peak := v % 1001
    (v / 1001 % (peak + 1) + peak * 65536, s)

/-- TH_STATUS. -/
def thStatus (s : State) : Nat :=
  thState s + b2n s.thyme.staged.isSome * 4 + b2n s.thyme.exchange.isSome * 8 + b2n s.shadow * 16 +
    (((List.range 16).filter fun t => thRun s && (s.task t).scheduled && !(s.task t).stopping).map fun t => 2 ^ (16 + t)).sum

/-- TH_ registers that show live state. -/
def thyRead (s : State) (a : Nat) : Option (Nat × State) :=
  let off := a - rThTPeriod 0
  let t := off / 0x40
  if a = rThStatus then some (thStatus s, s)
  else if a = rThProgId then some (thProgId s, s)
  else if a = rThStagedId then some (thStagedId s, s)
  else if a = rThLoad then some (thLoadRead s)
  else if a < rThTPeriod 0 ∨ rThTPeriod 16 ≤ a then none
  else if off % 0x40 = 0x00 then some (((cfgOf s t).map TaskCfg.period).getD 0, s)
  else if off % 0x40 = 0x04 then some (((cfgOf s t).map TaskCfg.phase).getD 0, s)
  else if off % 0x40 = 0x08 then
    some (((cfgOf s t).map fun c => c.priority + c.ovrLimit * 256 + c.tenant * 65536).getD 0x0FFF0000, s)
  else if off % 0x40 = 0x0C then
    some ((s.task t).state.code + (s.task t).fault * 256 + min 255 (s.task t).consecOvr * 65536, s)
  else none

/-- LP_ registers that show live state. -/
def loopRegRead (s : State) (a : Nat) : Option Nat :=
  let off := a - rLpTCfg 0
  let x := tabGetD s.loops.traces (off / 0x10) {}
  let st := match x.state with
    | .stopped => 0 | .recording => 1 | .triggered => 2 | .frozen => 3
  if a = rLpStatus then some (b2n s.shadow + (s.loops.loops.filter fun p => p.2.enabled).length * 65536)
  else if rLpTCfg 0 ≤ a ∧ a < rLpTCfg 16 then
    some (if off % 0x10 = 0 then x.node % 65536 + x.mode % 16 * 65536 + x.pre % 4096 * 2 ^ 20
      else if off % 0x10 = 4 then st + x.trigIndex % 4096 * 65536
      else if off % 0x10 = 8 then x.trigTime % 2 ^ 32 else x.trigTime / 2 ^ 32)
  else if rLpLState 0 ≤ a ∧ a < rLpLState 1024 then
    some (match s.loop ((a - rLpLState 0) / 4) with
      | some y => y.state + y.applied * 4 + b2n y.enabled * 16 + b2n y.loss * 32 + b2n y.inhibit * 64 + b2n y.reloaded * 128 +
          y.held % 65536 * 256 + y.lost % 256 * 2 ^ 24
      | none => b2n (s.loops.reloaded.contains ((a - rLpLState 0) / 4)) * 128)
  else none

/-- LP_CTRL: a group enabled again takes the next release of its schedule. -/
def lpCtrlWrite (s : State) (v : Nat) : State :=
  let s1 := s.setReg rLpCtrl (v % 16)
  (List.range 4).foldl (fun s1 g =>
    if bitOf v g && !s.rbit rLpCtrl g then s1.setGroup g { s1.group g with nextRelease := groupNext g s1.tai } else s1) s1

/-! ## MTR -/

/-- ME_ registers that show live state. -/
def meterRead (s : State) (a : Nat) : Option Nat :=
  if a = rMeStatus then some (meStatusRead s)
  else if a = rMeAfeStatus then some (meAfeRead s)
  else if a = rMeFreeLo then some (meFreeRead s false)
  else if a = rMeFreeHi then some (meFreeRead s true)
  else if rMeSpillCfg 0 ≤ a ∧ a ≤ rMeSpillCfg 7 then some (spillCfgRead s ((a - rMeSpillCfg 0) / 4))
  else if rMeSpillThr 0 ≤ a ∧ a ≤ rMeSpillThr 7 then some ((s.spill ((a - rMeSpillThr 0) / 4)).threshold)
  else if rMeSpillStat 0 ≤ a ∧ a ≤ rMeSpillStat 7 then some (spillStatRead s ((a - rMeSpillStat 0) / 4))
  else if rMeTAcc 0 ≤ a ∧ a ≤ rMeTAcc 255 then some (taccRead s ((a - rMeTAcc 0) / 4))
  else none

def meterWrite (s : State) (a v : Nat) : Option State :=
  if a = rMeSaveCtrl then some (saveCtrlWrite s v)
  else if a = rMeAccCtrl then some (accCtrlWrite s v)
  else if a = rMeDmdCtrl then some (dmdCtrlWrite s v)
  else none

/-! ## SW -/

/-- SW_ and MAC_ registers that show live state; of a port, MAC_ registers beside its events and counters. -/
def swRead (s : State) (a : Nat) : Option Nat :=
  let p := (a - rMacCtrl 0) / 0x1000
  let off := (a - rMacCtrl 0) % 0x1000
  if a = rSwStatus then some (swStatusRead s)
  else if a = rSwUcCmd then some (ucCmdRead s)
  else if a = rSwUcCount then some s.switch.uc.length
  else if a < rMacCtrl 0 ∨ rMacCtrl 20 ≤ a then none
  else if off = 0x00 then some (leNat ((portCfgBytes (s.port p).cfg).take 4))
  else if off = 0x04 then some (leNat ((portStatusBytes s p).take 4))
  else if off = 0x0C then some (pauseLeft s p % 2 ^ 24)
  else if off = 0x10 then some (macGateRead s p)
  else if off = 0x14 then some (leNat (sub (portCfgBytes (s.port p).cfg) 4 2))
  else if off = 0x18 then some (leNat (sub (portStatusBytes s p) 4 4))
  else none

/-- SW_ registers whose write does more than store, and wake patterns (Table 12.8). -/
def swWrite (s : State) (a v : Nat) : Option State :=
  if a = rSwCtrl then some (swCtrlWrite s v)
  else if a = rSwUcCmd then some (ucCmdWrite s v)
  else if rMacWakeMask 0 0 0 ≤ a ∧ a < rMacWakeMask 20 0 0 ∧ (a - rMacWakeMask 0 0 0) % 0x1000 < 0x200 then
    some (if a % 0x20 < 0x10 then s.setReg a v else if a % 0x20 = 0x10 then s.setReg a (v % 65536) else s)
  else none

/-! ## TIME -/

/-- TU_ registers that are not stored words. -/
def timeRegRead (s : State) (a : Nat) : Option (Nat × State) :=
  if a = rTuStatus then some (tuStatusRead s, s)
  else if a = rTuTimeSecHi then some (timeLatch s)
  else if a = rTuTimeSecLo then some (s.clock.latchLo, s)
  else if a = rTuTimeNs then some (s.clock.latchNs, s)
  else if a = rTuTimeFrac then some (s.clock.latchFrac, s)
  else if a = rTuGmIdLo then some (tuGmRead s false, s)
  else if a = rTuGmIdHi then some (tuGmRead s true, s)
  else if rTuPState 0 ≤ a ∧ a ≤ rTuPState 19 ∧ (a - rTuPState 0) % 0x20 = 0 then
    some (tuPStateRead s ((a - rTuPState 0) / 0x20), s)
  else none

def timeRegWrite (s : State) (a v : Nat) : Option State :=
  if a = rTuCtrl then some (tuCtrlWrite s v)
  else if a = rTuCmp 0 then some (cmpWrite s 0 v)
  else if a = rTuCmp 1 then some (cmpWrite s 1 v)
  else if a = rTuPpsOffset then
    let s := s.setReg rTuPpsOffset v
    some { s with clock := { s.clock with ppsNext := ppsAfter s s.tai } }
  else none

/-! ## BUS -/

/-- BC_ registers that are not stored words. -/
def busRead (s : State) (a : Nat) : Option (Nat × State) :=
  let off := addrOff a % 0x1000
  if addrBlk a = 1 then
    if addrOff a < 0x8000 ∧ (off < 0x08 ∨ (0x10 ≤ off ∧ off < 0x20)) then some (chanRead s (addrOff a / 0x1000) off, s)
    else none
  else if addrBlk a = 2 then
    if addrOff a < 0x40000 then some (objRead s (objChan a) (objNum a) (addrOff a % 0x80)) else none
  else if addrBlk a = 3 then
    if addrOff a < 0x8000 then some (xlRead s (addrOff a), s) else none
  else none

def busWrite (s : State) (a v : Nat) : Option State :=
  let c := addrOff a / 0x1000
  let off := addrOff a % 0x1000
  if addrBlk a = 1 then
    if 8 ≤ c then none
    else if off = 0x00 then some (if bitOf v 8 then recoverChan s c else s)
    else if off = 0x20 then some (requestObj s c (v % 256))
    else if off = 0x24 then some (txAbort s c (v % 256))
    else if off = 0x28 then some (rxAck s c (v % 256))
    else none
  else if addrBlk a = 2 then
    if addrOff a < 0x40000 then some (objWrite s (objChan a) (objNum a) (addrOff a % 0x80) v) else none
  else if addrBlk a = 3 then
    if addrOff a < 0x8000 then some (xlWrite s (addrOff a) v) else none
  else none

/-! ## Every register -/

/-- A stored register: read, an RC register cleared (R10). -/
def storedRead (s : State) (a : Nat) : Nat × State :=
  match regRow a with
  | some r => if r.rc then rcTake s a else (s.reg a, s)
  | none => (0, s)

/-- A stored register: RW bits take the value, W1C bits written 1 clear (R9, R10). -/
def storedWrite (s : State) (a v : Nat) : State :=
  match regRow a with
  | some r => if r.rc then s else s.setReg a (((s.reg a &&& (all32 - r.rw)) &&& (all32 - (r.w1c &&& v))) ||| (v &&& r.rw))
  | none => s

/-- The registers of an island that are not stored words. -/
def specialRead (s : State) (a : Nat) : Option (Nat × State) :=
  let i := addrIsl a
  if addrBlk a = 0 then islRead s i (addrOff a)
  else if i = iALM then almRead s a
  else if i = iMGT then (mgtRead s a).map fun v => (v, s)
  else if i = iVLT ∨ i = iFLD then (kvFldRead s a).map fun v => (v, s)
  else if i = iSAGE then (if addrBlk a = 1 then icRead s a else some (mbRead s (addrOff a)))
  else if i = iPF then (if addrBlk a = 3 then chkRead s a else pfRead s a)
  else if i = iTHY then thyRead s a
  else if i = iLOOP then (loopRegRead s a).map fun v => (v, s)
  else if i = iMTR then (meterRead s a).map fun v => (v, s)
  else if i = iSW then (swRead s a).map fun v => (v, s)
  else if i = iTIME then timeRegRead s a
  else if i = iBUS then busRead s a
  else none

/-- A performed read: the value, and the state after. -/
def readReg (s : State) (a : Nat) : Nat × State := (specialRead s a).getD (storedRead s a)

/-- The registers of an island whose write does more than store. -/
def specialWrite (s : State) (by_ : Agent) (a v : Nat) : Option State :=
  let i := addrIsl a
  if addrBlk a = 0 then none
  else if i = iALM then almWrite s a v
  else if i = iMGT then mgtWrite s a v
  else if i = iSAGE then (if addrBlk a = 1 then icWrite s by_ a v else some (mbWrite s (addrOff a) v))
  else if i = iPF then (if addrBlk a = 3 then chkWrite s a v else pfWrite s a v)
  else if i = iLOOP then (if a = rLpCtrl then some (lpCtrlWrite s v) else none)
  else if i = iMTR then meterWrite s a v
  else if i = iSW then swWrite s a v
  else if i = iTIME then timeRegWrite s a v
  else if i = iBUS then busWrite s a v
  else none

/-- A performed write: its status, and the state after. A write of TH_CTRL may be refused (06 R194). -/
def writeReg (s : State) (by_ : Agent) (a v : Nat) : Nat × State :=
  if a = rThCtrl then thCtrlWrite s v else (stOk, (specialWrite s by_ a v).getD (storedWrite s a v))

/-! ## Accesses -/

/-- The carrier host reaches registers only while the SPI target answers (04 R150). -/
def reaches (s : State) (by_ : Agent) : Bool := s.running (agentIsland by_) && (by_ != Agent.spi || spiOpen s)

/-- One read: status and value. -/
def regRead (s : State) (by_ : Agent) (a : Nat) : (Nat × Nat) × State := access s by_ a 0 false fun s => readReg s a

/-- One write: its status. ISL_CTRL stands with the port shell (log 55). -/
def regWrite (s : State) (by_ : Agent) (a v : Nat) : Nat × State :=
  let st := gate s by_ a v true
  if st ≠ stOk then (st, noteRefused s by_ a st)
  else if addrBlk a = 0 ∧ addrOff a = 0x00C then (stOk, islCtrlWrite s by_ (addrIsl a) v)
  else crossStatus s (agentIsland by_) (addrIsl a) (agentSource by_) fun s => writeReg s by_ a v

/-- A read as a command. -/
def readCmd (s : State) (by_ : Agent) (a : Nat) : State :=
  if !reaches s by_ then s
  else
    let (r, s) := regRead s by_ a
    settleAccess s by_ r.1 r.2

/-- A write as a command. -/
def writeCmd (s : State) (by_ : Agent) (a v : Nat) : State :=
  if !reaches s by_ then s
  else
    let (st, s) := regWrite s by_ a v
    settleAccess s by_ st 0

/-- An access that is not 32 bits wide is not performed (00 R7). -/
def wrongWidth (s : State) (by_ : Agent) (a : Nat) : State :=
  if !reaches s by_ then s else settleAccess (noteRefused s by_ a stBadArgument) by_ stBadArgument 0

/-- RC_READ: a read of a register, of the width given; one of class RC clears (R7, R10, R11). -/
def execRcRead (by_ : Agent) (addr : RegAt) (s : State) : Host.Outcome State Fault Refusal :=
  .next (if addr.width = 4 then readCmd s by_ addr.addr else wrongWidth s by_ addr.addr)

/-- REGISTER_WRITE, of the width given (R7, R10). -/
def execRegisterWrite (by_ : Agent) (addr : RegAt) (value : Word) (s : State) : Host.Outcome State Fault Refusal :=
  .next (if addr.width = 4 then writeCmd s by_ addr.addr value.toNat else wrongWidth s by_ addr.addr)

/-- TH_CTRL_RUN_WRITE (06 R194). -/
def execThCtrlRunWrite (by_ : Agent) (value : Word) (s : State) : Host.Outcome State Fault Refusal :=
  .next (writeCmd s by_ rThCtrl value.toNat)

/-- SAVE_NOW: a write of ME_SAVE_CTRL with the bit set (10 R302). -/
def execSaveNow (by_ : Agent) (value : Word) (s : State) : Host.Outcome State Fault Refusal :=
  .next (writeCmd s by_ rMeSaveCtrl (value.toNat ||| 0x100))

/-- SNAP: a write of ME_ACC_CTRL with the bit set (10 R287). -/
def execSnap (by_ : Agent) (value : Word) (s : State) : Host.Outcome State Fault Refusal :=
  .next (writeCmd s by_ rMeAccCtrl (value.toNat ||| 0x10000))

/-- ACK_WRAP: a write of ME_ACC_CTRL with the bit set (10 R289). -/
def execAckWrap (by_ : Agent) (value : Word) (s : State) : Host.Outcome State Fault Refusal :=
  .next (writeCmd s by_ rMeAccCtrl (value.toNat ||| 0x20000))

/-- ACK_FAIL: a write of ME_ACC_CTRL with the bit set (10 R303). -/
def execAckFail (by_ : Agent) (value : Word) (s : State) : Host.Outcome State Fault Refusal :=
  .next (writeCmd s by_ rMeAccCtrl (value.toNat ||| 0x40000))

/-! ## Block access (05 R160) -/

/-- Reads registers until one fails: values read, and the status that ended it. -/
def blockReads (s : State) (a : Nat) : Nat → (List Nat × Nat) × State
  | 0 => (([], stOk), s)
  | n + 1 =>
    let (r, s) := regRead s .block a
    if r.1 ≠ stOk then (([], r.1), s)
    else
      let (rest, s) := blockReads s (a + 4) n
      ((r.2 :: rest.1, rest.2), s)

/-- Writes registers until one fails: the number written, and the status that ended it. -/
def blockWrites (s : State) (a : Nat) : List Nat → (Nat × Nat) × State
  | [] => ((0, stOk), s)
  | v :: vs =>
    let (st, s) := regWrite s .block a v
    if st ≠ stOk then ((0, st), s)
    else
      let (rest, s) := blockWrites s (a + 4) vs
      ((rest.1 + 1, rest.2), s)

/-- BLOCK_READ (0x0F01): the values read stand in the response, also before a failure (log 64). -/
def execBlockRead (r : Route) (tag : Nat) (s : State) : Host.Outcome State Fault Refusal :=
  .next (serve 0x0F01 s r tag fun q s =>
    let p := q.payload
    if p.length ≠ 8 then done stBadLength s
    else if fld p 4 2 = 0 ∨ 1014 < fld p 4 2 ∨ fld p 6 2 ≠ 0 then done stBadArgument s
    else
      let (x, s) := blockReads s (fld p 0 4) (fld p 4 2)
      ((x.2, leBytes 2 x.1.length ++ leBytes 2 0 ++ leBytes 4 (fld p 0 4) ++ (x.1.map (leBytes 4)).flatten), s))

/-- BLOCK_WRITE (0x0F02). -/
def execBlockWrite (r : Route) (tag : Nat) (s : State) : Host.Outcome State Fault Refusal :=
  .next (serve 0x0F02 s r tag fun q s =>
    let p := q.payload
    let n := fld p 4 2
    if p.length < 8 ∨ p.length ≠ 8 + 4 * n then done stBadLength s
    else if n = 0 ∨ 1013 < n ∨ fld p 6 2 ≠ 0 then done stBadArgument s
    else
      let (x, s) := blockWrites s (fld p 0 4) ((entriesAt p 8 4 n).map leNat)
      ((x.2, leBytes 2 x.1 ++ leBytes 2 0), s))

/-! ## Crossings port by port (02 R55, R56, R65) -/

/-- The agent an operation on a register stands for: Chervil, or a Sage core; other islands' logic acts as Chervil does. -/
def xAgent (q : XRequest) : Agent :=
  if q.src = iSAGE then (if q.source = 2 then .core1 else .steward) else .chervil

/-- The operation at its target: status and data. -/
def xPerform (s : State) (q : XRequest) : (Nat × Word64) × State :=
  match q.op with
  | .readReg a =>
    let st := if addrIsl a = q.dst then gate s (xAgent q) a 0 false else stBadArgument
    if st ≠ stOk then ((st, 0), s)
    else
      let (v, s) := readReg s a
      ((stOk, BitVec.ofNat 64 v), s)
  | .writeReg a w =>
    let st := if addrIsl a = q.dst then gate s (xAgent q) a w.toNat true else stBadArgument
    if st ≠ stOk then ((st, 0), s)
    else if addrBlk a = 0 ∧ addrOff a = 0x00C then ((stOk, 0), islCtrlWrite s (xAgent q) q.dst w.toNat)
    else
      let (st, s) := writeReg s (xAgent q) a w.toNat
      ((st, 0), s)
  | .readPoint who pt =>
    if q.dst ≠ iPF then ((stBadArgument, 0), s)
    else
      let (x, s) := fabRead s (pathOf s who).tenant pt
      ((x.status, x.value), s)
  | .writePoint who pt type quality value time =>
    if q.dst ≠ iPF then ((stBadArgument, 0), s)
    else
      let (st, s) := fabWrite s (pathOf s who).tenant (pathOf s who).writer pt type quality value time
      ((st, 0), s)

/-- A port sends a reply. -/
def sendReply (s : State) (q : XRequest) (epoch status : Nat) (data : Word64) : State :=
  { s with outs := { s.outs with replies := s.outs.replies ++
    [{ target := q.dst, requester := q.src, slot := q.slot, gen := q.gen, reqEpoch := q.reqEpoch, targetEpoch := epoch
       status := status, data := data }] } }

/-- The target's port judges a request, in this step performs it or answers it, and replies (R65, R71); an arriving
request restarts a stopped clock whatever is answered (R53, Table 2.6). -/
def arrive (s : State) (q : XRequest) : State :=
  let x := s.isl q.dst
  let mgt := (x.state == .boot && q.path == .mgtSequencer) || (x.state == .update && q.path == .mgtUpdate)
  let st := if mgt then stOk else portStatus x q.targetEpoch
  let s := s.wakeIsl q.dst
  if st ≠ stOk then sendReply (s.countRefused q.dst) q (if st = stIslandAbsent then 0 else x.epoch) st 0
  else
    let (r, s) := xPerform s q
    sendReply s q x.epoch r.1 r.2

/-- The requester opens the slot of a request it sends. -/
def openSlot (s : State) (q : XRequest) : State :=
  let x := s.isl q.src
  s.setIsl q.src { x with slots := x.slots ++ [{ target := q.dst, slot := q.slot, gen := q.gen, source := q.source }] }

/-- A slot is free at a target: not open, and not resting after an abandonment (R72). -/
def slotFree (x : Island) (target k : Nat) : Bool :=
  !(x.slots.any fun o => o.target == target && o.slot == k) && !(x.dead.any fun d => d.target == target && d.slot == k)

/-- The lowest free slot at a target. -/
def xFreeSlot (x : Island) (target : Nat) : Option Nat := (List.range 32).find? (slotFree x target)

/-- The request as its requester sends it in slot k: the slot's generation is the one it has reached (R72). -/
def tagged (x : Island) (q : XRequest) (k : Nat) : XRequest :=
  { q with slot := k, gen := tabGetD x.gens (q.dst * 32 + k) 0 }

/-- CROSSING_REQUEST. A running requester sends it in the slot named where that is free, else in the lowest free one; with
none free, as with 32 requests open at the target, it waits inside its requester (R56, R72). A request already on its way
when its requester left RUN has no slot there and arrives as it is; one that is not formed is reported (Table 2.16). -/
def crossingRequest (s : State) (q : XRequest) : State :=
  if 12 ≤ q.src ∨ q.src = q.dst ∨ 32 ≤ q.slot ∨ 8 ≤ q.gen then malformed s q.dst
  else if 12 ≤ q.dst then s
  else if !s.running q.src then arrive s q
  else
    let x := s.isl q.src
    match if slotFree x q.dst q.slot then some q.slot else xFreeSlot x q.dst with
    | some k => arrive (openSlot s (tagged x q k)) (tagged x q k)
    | none => s.setIsl q.src { x with waiting := x.waiting ++ [q] }

def execCrossingRequest (q : XRequest) (s : State) : Host.Outcome State Fault Refusal := .next (crossingRequest s q)

/-- SLOT_FREED_SEND: the request that has waited longest for a target takes a free slot and is sent. -/
def slotFreedSend (s : State) (i target : Nat) : State :=
  let x := s.isl i
  match x.waiting.find? (·.dst == target), xFreeSlot x target with
  | some q, some k =>
    if !s.running i then s
    else
      let s := s.setIsl i { x with waiting := x.waiting.erase q }
      arrive (openSlot s (tagged x q k)) (tagged x q k)
  | _, _ => s

def execSlotFreedSend (island target : Nat) (s : State) : Host.Outcome State Fault Refusal :=
  .next (slotFreedSend s island target)

end Sys2Proof.Machine
end

