-- ==== Sys2Proof/Machine/Ship.lean ====
section
/-! DEFINITION. State shipping (16 R451, R452, R459): the records a standby applies, and the full transfer the active
sends. -/

namespace Sys2Proof.Machine

/-! ## Configuration on a standby (R429, R451; log 37) -/

/-- What an island does with a record while it runs. -/
def inIsland (s : State) (i : Nat) (f : State → State) : State := if s.running i then f s else s

/-- A module that takes the standby role discards its own configuration, points, program and loop table (R429). -/
def discardConfig (s : State) : State :=
  let s : State := { s with
    fabric := { scrubPasses := s.fabric.scrubPasses, misses := s.fabric.misses, missStuck := s.fabric.missStuck
                jioshSeq := s.fabric.jioshSeq, jioshTx := s.fabric.jioshTx }
    harvest := { closeFrom := s.harvest.closeFrom, lastClose := s.harvest.lastClose }
    thyme := { corr := s.thyme.corr }
    loops := { groups := s.loops.groups }
    meter := { s.meter with circuits := [], slots := [], spills := [] }
    bus := { chans := tabMap (fun _ x => { x with objects := [] }) s.bus.chans, xl := s.bus.xl } }
  resync s

/-- A standby asks for a full transfer, its own configuration discarded first where that is still due (R429, R452). -/
def startResync (s : State) (cause : Nat) : State :=
  let s := if s.twin.discardDue then discardConfig { s with twin := { s.twin with discardDue := false } } else s
  askResync s cause

/-- A part of a shipped program image; the whole image is staged if the standby's own load checks hold (07 R233). -/
def shippedImage (s : State) (p : List Byte) : State :=
  let b := if fld p 0 4 = 0 then p.drop 16 else s.twin.imageRx ++ p.drop 16
  if b.length < fld p 4 4 then { s with twin := { s.twin with imageRx := b } }
  else
    let s := { s with twin := { s.twin with imageRx := [] } }
    let (r, s) := judgeImage s b (fld p 8 4)
    match r with
    | .error r => noteReject s r
    | .ok g => { s with thyme := { s.thyme with staged := some g } }

/-- A shipped exchange: the image staged is exchanged, its tasks under the exchange mark (07 R233). -/
def shippedExchange (s : State) (p : List Byte) : State :=
  match s.thyme.staged with
  | some g =>
    if s.thyme.exchange.isSome ∨ fld p 4 4 ≠ g.id then s
    else
      let (st, s) := acceptExchange s (fld p 0 1) g
      if st = stPending then startExchange s else s
  | none => s

/-- A shipped stop or run. -/
def shippedRun (s : State) (run : Bool) : State :=
  if run == thRun s || (run && s.thyme.loaded.isNone) then s
  else if run then startProgram s
  else afterCycles (stopProgram s)

/-- A shipped LOOP_ENABLE: each loop on behalf of its own tenant. -/
def shippedEnable (s : State) (p : List Byte) : State :=
  (List.range (fld p 2 2)).foldl (fun s i =>
    let n := fld p 0 2 + i
    match s.loop n with
    | some x => (enableEntry s x.cfg.tenant n (fld p 4 1 == 1)).2
    | none => s) s

/-- Groups 0x01 to 0x06 of Table 5.1. -/
def applyLow (s : State) (code : Nat) (p : List Byte) : State :=
  let each (k : Nat) (f : List Byte → State → State) (s : State) : State :=
    (entriesAt p 4 k (if code = 0x020C then fld p 2 2 else fld p 0 2)).foldl (fun s e => f e s) s
  if code = 0x0103 then netConfig s p
  else if code = 0x0203 then
    inIsland s iPF (each 8 fun e s => (defineEntry s (shippedTenant s (fld e 0 4)) (fld e 0 4) (fld e 4 1) (fld e 5 1) 0).2)
  else if code = 0x0204 then
    inIsland s iPF (each 4 fun e s => (undefineEntry s (shippedTenant s (fld e 0 4)) (fld e 0 4)).2)
  else if code = 0x020A then
    inIsland s iPF fun s => (shareSet s (fld p 4 2) (fld p 0 2) (shareOfBytes (p.drop 4))).2
  else if code = 0x020B then
    inIsland s iPF fun s => (shareDelete s (((tabGet s.fabric.shares (fld p 0 2)).map Share.owner).getD nobody) (fld p 0 2)).2
  else if code = 0x020C then
    inIsland s iPF (each 4 fun e s => (shareLink s (s.point (fld e 0 4)).owner (fld p 0 2) (fld e 0 4)).2)
  else if code = 0x020D then inIsland s iPF fun s => (sliceSet s (fld p 0 2) (fld p 4 4) (fld p 8 4) (fld p 12 2)).2
  else if code = 0x0301 then inIsland s iTHY fun s => shippedImage s p
  else if code = 0x0303 then inIsland s iTHY fun s => shippedExchange s p
  else if code = 0x0304 then inIsland s iTHY fun s => shippedRun s (fld p 0 1 == 1)
  else if code = 0x0305 then
    inIsland s iTHY fun s =>
      if s.thyme.loaded.isNone then s
      else afterCycles { stopProgram s with thyme := { (stopProgram s).thyme with unloading := true } }
  else if code = 0x0401 then inIsland s iLOOP fun s => (loadLoopTable s (fld p 12 2) (p.drop 8)).2
  else if code = 0x0402 then inIsland s iLOOP fun s => shippedEnable s p
  else if code = 0x0404 then inIsland s iLOOP fun s => traceConfig s p
  else if code = 0x0502 then inIsland s iMTR fun s => (circuitMap s p).2
  else if code = 0x0503 then inIsland s iMTR fun s => (loadCalibration s (p.drop 8)).2
  else if code = 0x0504 then inIsland s iMTR fun s => (accConfig s p).2
  else if code = 0x0505 then inIsland s iMTR fun s => (apportionSet s p).2
  else if code = 0x0506 then inIsland s iMTR fun s => (spillConfig s p).2
  else if code = 0x0601 then inIsland s iPF fun s => (seriesDefine s (s.point (fld p 4 4)).owner p).2
  else if code = 0x0602 then inIsland s iPF fun s => seriesDelete s (fld p 0 2)
  else if code = 0x0604 then inIsland s iPF fun s => clearSeries s (fld p 0 2)
  else s

/-- The tenant of a shipped ring table entry: the owner of its point, or of the entry it removes. -/
def shippedRingTenant (s : State) (kind : Nat) (e : List Byte) : Nat :=
  let i := fld e 0 2
  let old := if kind = 0 then (tabGet s.fabric.imports i).map ImportEntry.tenant else (tabGet s.fabric.exports i).map ExportEntry.tenant
  let pt := if kind = 0 then fld e 12 4 % 2 ^ 25 else fld e 4 4 % 2 ^ 25
  old.getD (s.point pt).owner

/-- A shipped device table entry, whose last bytes carry the address the active gave the device (log 111). -/
def shippedDevice (s : State) (port : Nat) (e : List Byte) : State :=
  let s := (deviceTableEntry s port (e.take 28 ++ leBytes 4 0)).2
  let a := fld e 28 4
  match deviceAt s port (·.serial == fld e 0 8) with
  | some d => if a = 0 then s else putDevice (reclaim s d (deviceWriter port a)) { d with address := a }
  | none => s

/-- Groups 0x07 to 0x0E of Table 5.1. -/
def applyHigh (s : State) (code : Nat) (p : List Byte) : State :=
  if code = 0x0702 then inIsland s iTIME fun s => (ptpConfig s p).2
  else if code = 0x0703 then inIsland s iTIME fun s => (ppsConfig s p).2
  else if code = 0x0902 then inIsland s iSW fun s => (portConfig s p).2
  else if code = 0x0904 then inIsland s iSW fun s => (loadGateList s (p.drop 8)).2
  else if code = 0x0905 then
    inIsland s iPF fun s => (entriesAt p 4 32 (fld p 2 2)).foldl (fun s e => shippedDevice s (fld p 0 1) e) s
  else if code = 0x0906 then
    inIsland s iPF fun s => (entriesAt p 4 16 (fld p 2 2)).foldl (fun s e =>
      let t := shippedRingTenant s (fld p 0 1) e
      if fld p 0 1 = 0 then (importTableEntry s t e).2 else (exportTableEntry s t e).2) s
  else if code = 0x0907 then inIsland s iSW fun s => if s.running iVLT then (macsecConfig s p).2 else s
  else if code = 0x0A01 then inIsland s iBUS fun s => (busConfig s p).2
  else if code = 0x0A02 then inIsland s iBUS fun s => (busObjectSet s (shippedObjTenant s p) p).2
  else if code = 0x0A04 then inIsland s iBUS fun s => (busSleep s (fld p 0 1) (fld p 1 1)).2
  else if code = 0x0E04 then inIsland s iMGT fun s => (fieldPower s p).2
  else s

/-- A CONFIG record: the command is performed as on the active. -/
def applyConfig (s : State) (code : Nat) (p : List Byte) : State :=
  if code < 0x0700 then applyLow s code p else applyHigh s code p

/-! ## The other records (Table 16.12) -/

/-- An item of 16 bytes. -/
def shipItemOf (b : List Byte) : ShipItem :=
  { key := fld b 0 4, status := fld b 4 2, qual := fld b 6 1, flags := fld b 7 1, value := fld b 8 8 }

/-- A FORCE item (R451): placed or set, removed, or its entry written. -/
def applyForce (s : State) (i : ShipItem) : State :=
  let v := BitVec.ofNat 64 i.value
  if !s.defined i.key then s
  else if bitOf i.flags 1 then
    match forceIndex s i.key with
    | some k => removeForce s k
    | none => s
  else
    match forceIndex s i.key, forceOf s i.key with
    | some k, some f =>
      setForce s k (if bitOf i.flags 0 then { f with value := v, time := s.tai }
        else { f with entryValue := v, entryTime := s.tai, entryQuality := bitsOf i.flags 4 3 })
    | _, _ =>
      let r := s.point i.key
      let s := s.putPoint i.key (r.setFlag fForced true)
      setForce s (i.status % 1024)
        { pt := i.key, type := r.type, value := v, time := s.tai, entryValue := r.value, entryTime := r.time
          entryQuality := bitsOf i.flags 4 3 }

/-- A journal write is performed unless the record already holds its TIME from its writer (R451). -/
def applyJournal (s : State) (v t : ShipItem) : State :=
  let pt := v.key % 2 ^ 25
  let w := t.status + t.qual * 2 ^ 16 + t.flags * 2 ^ 24
  let r := s.point pt
  if !s.running iPF || !s.defined pt || s.failedPt pt || (r.time == t.value && r.writer == w) then s
  else performWrite s pt w v.qual (BitVec.ofNat 64 v.value) t.value

/-- Journal items come in pairs, value then time. -/
def applyJournals (s : State) : List ShipItem → State
  | v :: t :: rest => applyJournals (if t.key = v.key + 2 ^ 31 then applyJournal s v t else s) rest
  | _ => s

/-- A cycle shipped under the exchange mark that the standby's task has not been released for is taken up now: the task
entered with the exchange, which the standby started after that release (07 R225, R233). -/
def joinMarked (s : State) (t : Nat) : State :=
  let x := s.task t
  match x.shippedRelease with
  | some r =>
    if bitOf x.shippedFlags 1 && x.state == .waiting && x.lastRelease != r && s.shadow then beginCycle s t r else s
  | none => s

/-- A Thyme record: of a cycle it waits for the task's own results; alone it is adopted at once, as in a full transfer
(07 R231, R232). -/
def applyThyme (s : State) (recs : List ShipRec) (r : ShipRec) : State :=
  let t := r.unit
  if 16 ≤ t then s
  else if recs.any fun x => x.type == 1 && x.unit == t then
    let x := s.task t
    let s := s.setTask t { x with shipped := if r.type = 1 then [r] else x.shipped ++ [r] }
    if s.running iTHY then supplyShadow (joinMarked s t) t else s
  else adoptShipment s t [r]

/-- A loop record, likewise (R253). -/
def applyLoops (s : State) (recs : List ShipRec) (r : ShipRec) : State :=
  let g := r.unit
  if 4 ≤ g then s
  else if recs.any fun x => x.type == 0x10 && x.unit == g then
    let x := s.group g
    s.setGroup g { x with shipped := if r.type = 0x10 then [r] else x.shipped ++ [r] }
  else r.items.foldl adoptResult s

/-- A Harvest close or drop (11 R334). -/
def applyHarvest (s : State) (i : ShipItem) : State :=
  inIsland s iPF fun s => if i.status = 0 then closeAll s i.value else if i.status = 1 then dropHistory s else s

/-- A shipment loss is counted (R452, R457). -/
def shipLost (s : State) : State :=
  let n := stickNat s.twin.health.shipLost 1
  healthCount ({ s with twin := { s.twin with health := { s.twin.health with shipLost := n.1 } } }.stick rTwShipLost rTwEvent 8) n

/-- One record; CONFIG records come apart. An unlisted type is dropped and counted (R459). -/
def applyRecord (s : State) (recs : List ShipRec) (r : ShipRec) : State :=
  if 1 ≤ r.type ∧ r.type ≤ 7 then applyThyme s recs r
  else if r.type = 0x10 ∨ r.type = 0x11 then applyLoops s recs r
  else if 0x20 ≤ r.type ∧ r.type ≤ 0x24 then meterShipped s r
  else if r.type = 0x30 then inIsland s iPF fun s => r.items.foldl applyForce s
  else if r.type = 0x31 then applyJournals s r.items
  else if r.type = 0x41 then r.items.foldl applyHarvest s
  else shipLost s

/-- What a STATE body holds: records of items, and configuring commands in their places. -/
inductive Shipped where
  | record (r : ShipRec)
  | config (code : Nat) (p : List Byte)
  deriving DecidableEq, Repr

/-- The records of a STATE body (R459), with fuel. -/
def shippedOf : Nat → List Byte → List Shipped
  | 0, _ => []
  | k + 1, b =>
    if b.length < 4 then []
    else
      let n := fld b 2 2
      if fld b 0 1 = 0x40 then .config (fld b 4 2) (sub b 8 (n - 4)) :: shippedOf k (b.drop (4 + n))
      else
        .record { type := fld b 0 1, unit := fld b 1 1, items := (entriesAt b 4 16 n).map shipItemOf } ::
          shippedOf k (b.drop (4 + 16 * n))

/-- A whole STATE body is applied record by record (R451). -/
def applyState (s : State) (b : List Byte) : State :=
  let all := shippedOf b.length b
  let recs := all.filterMap fun x => match x with
    | .record r => some r
    | .config _ _ => none
  all.foldl (fun s x => match x with
    | .record r => applyRecord s recs r
    | .config code p => applyConfig s code p) s

/-! ## The journal (R451) -/

/-- The two items of a point: value and time. -/
def journalItems (s : State) (pt : Nat) : List (List Byte) :=
  let r := s.point pt
  let (v, t, q) := match forceOf s pt with
    | some f => (f.entryValue, f.entryTime, f.entryQuality)
    | none => (r.value, r.time, r.quality)
  [shipItem pt 0 q 0 v.toNat,
   shipItem (pt + 2 ^ 31) (r.writer % 2 ^ 16) (r.writer / 2 ^ 16 % 256) (r.writer / 2 ^ 24) t]

/-- Ships the journal of points, at most 1,000 a record. -/
def shipJournal (s : State) (pts : List Nat) : State :=
  (groupsOf 1000 pts.length pts).foldl (fun s g => ship s [shipRecord 0x31 0 (g.flatMap (journalItems s))]) s

/-- JOURNAL_SHIP: every 1 ms. -/
def journalShip (s : State) : State :=
  if s.twin.role != .active || decide (s.now < s.twin.journalAt + nsMs) then s
  else
    let pts := s.twin.journal.filter s.defined
    let s := { s with twin := { s.twin with journal := [], journalAt := s.now } }
    shipJournal s pts

def execJournalShip (s : State) : Host.Outcome State Fault Refusal := .next (journalShip s)

/-! ## The full transfer (R452) -/

/-- The bytes of settings, as their commands carry them. -/
def shareBytes (e : Share) : List Byte :=
  leBytes 2 e.owner ++ padTo 6 (e.grants.map fun g => leBytes 2 (g.1 % 4096 + g.2 % 16 * 4096)).flatten

def gateBytes (p : Nat) (g : GateList) : List Byte :=
  leBytes 1 p ++ leBytes 1 0 ++ leBytes 2 g.entries.length ++ leBytes 4 g.cycle ++ leBytes 8 g.base ++ leBytes 8 0 ++
    (g.entries.map fun e => leBytes 1 e.1 ++ leBytes 3 0 ++ leBytes 4 e.2).flatten

def busCfgBytes (x : BusCfg) : List Byte :=
  leBytes 1 x.mode ++ leBytes 1 0 ++ leBytes 2 x.nbrp ++ leBytes 1 x.ntseg1 ++ leBytes 1 x.ntseg2 ++ leBytes 1 x.nsjw ++
    leBytes 1 0 ++ leBytes 1 x.dbrp ++ leBytes 1 x.dtseg1 ++ leBytes 1 x.dtseg2 ++ leBytes 1 x.dsjw ++ leBytes 1 x.dtdc ++
    leBytes 1 x.xbrp ++ leBytes 1 x.xtseg1 ++ leBytes 1 x.xtseg2 ++ leBytes 1 x.xsjw ++ leBytes 1 x.xtdc ++
    leBytes 1 x.wakeFilter ++ leBytes 9 0

def objCfgBytes (o : ObjCfg) : List Byte :=
  leBytes 1 o.kind ++ leBytes 1 o.flags ++ leBytes 1 o.queue ++ leBytes 1 o.retry ++ leBytes 4 o.id ++ leBytes 4 o.mask ++
    leBytes 4 o.pt ++ leBytes 1 o.offset ++ leBytes 1 o.type ++ leBytes 1 o.count ++ leBytes 1 o.length ++
    leBytes 2 o.period ++ leBytes 2 o.xlLength

def circuitBytes (c : Nat) (x : CircuitCfg) : List Byte :=
  leBytes 1 c ++ leBytes 1 x.kind ++ leBytes 1 x.volt ++ leBytes 1 x.curr ++
    leBytes 1 (flagByte [x.nominal60, x.invA, x.invB, x.invC]) ++ leBytes 3 0

def importBytes (i : Nat) (e : ImportEntry) : List Byte :=
  leBytes 2 i ++ beBytes 6 e.sender ++ leBytes 4 e.remote ++ leBytes 4 e.localPt

def exportBytes (i : Nat) (e : ExportEntry) : List Byte :=
  leBytes 2 i ++ leBytes 2 e.period ++ leBytes 4 e.pt ++ leBytes 2 0 ++ beBytes 6 e.dest

def enrolBytes (e : Enrol) : List Byte :=
  leBytes 8 0 ++ leBytes 1 0 ++ leBytes 3 0 ++ leBytes 2 e.tenant ++ leBytes 2 0 ++ leBytes 4 e.base ++ leBytes 4 e.refresh ++
    leBytes 4 e.range ++ leBytes 4 0

/-- Configuration of the store and Harvest: code and payload of each command. -/
def storeConfig (s : State) : List (Nat × List Byte) :=
  (s.fabric.slices.map fun p =>
    (0x020D, leBytes 2 p.1 ++ leBytes 2 0 ++ leBytes 4 p.2.base ++ leBytes 4 p.2.count ++ leBytes 2 p.2.tenant ++ leBytes 2 0)) ++
  (s.fabric.shares.map fun p => (0x020A, leBytes 2 p.1 ++ leBytes 2 0 ++ shareBytes p.2)) ++
  (s.fabric.defs.map fun p =>
    (0x0203, leBytes 2 1 ++ leBytes 2 0 ++ leBytes 4 p.1 ++ leBytes 1 p.2.type ++ leBytes 1 (b2n p.2.retentive) ++ leBytes 2 0)) ++
  (s.fabric.defs.filterMap fun p => p.2.share.map fun e => (0x020C, leBytes 2 e ++ leBytes 2 1 ++ leBytes 4 p.1)) ++
  (s.fabric.devices.map fun d => (0x0905, leBytes 1 d.port ++ leBytes 1 0 ++ leBytes 2 1 ++ deviceEntry d 0)) ++
  (s.fabric.enrol.map fun p => (0x0905, leBytes 1 p.1 ++ leBytes 1 0 ++ leBytes 2 1 ++ enrolBytes p.2)) ++
  (s.fabric.imports.map fun p => (0x0906, leBytes 1 0 ++ leBytes 1 0 ++ leBytes 2 1 ++ importBytes p.1 p.2)) ++
  (s.fabric.exports.map fun p => (0x0906, leBytes 1 1 ++ leBytes 1 0 ++ leBytes 2 1 ++ exportBytes p.1 p.2)) ++
  (s.harvest.saved.map fun p =>
    (0x0601, leBytes 2 p.1 ++ leBytes 1 p.2.bins ++ leBytes 1 0 ++ leBytes 4 p.2.pt ++ leBytes 8 p.2.low.toNat ++
      leBytes 8 p.2.width.toNat))

/-- Configuration of ports, time, power and buses. -/
def portsConfig (s : State) : List (Nat × List Byte) :=
  [(0x0103, leBytes 1 0 ++ s.mail.netHost.drop 1), (0x0103, leBytes 1 1 ++ s.mail.netRing.drop 1)] ++
  ((List.range 20).map fun p => (0x0902, leBytes 1 p ++ leBytes 3 0 ++ portCfgBytes (s.port p).cfg)) ++
  ((List.range 20).filterMap fun p =>
    (((s.port p).pendingList.map Prod.fst).or (s.port p).running).map fun g =>
      (0x0904, leBytes 4 0 ++ leBytes 4 (gateBytes p g).length ++ gateBytes p g)) ++
  ((List.range 4).filterMap fun p => (s.port p).macsec.map fun m =>
    (0x0907, leBytes 1 p ++ leBytes 3 0 ++ leBytes 4 m.keyHandle ++ leBytes 8 m.sci)) ++
  [(0x0702, leBytes 3 (s.reg rTuPtp) ++ leBytes 1 0 ++
      ([0, 1, 3, 4].map fun p => leBytes 4 (s.reg (rTuPCorr p)) ++ leBytes 2 (s.reg (rTuPAsym p)) ++ leBytes 2 0).flatten),
   (0x0703, leBytes 1 (s.rfield rTuCtrl 1 2) ++ leBytes 3 0 ++ leBytes 4 (s.reg rTuPpsOffset)),
   (0x0E04, leBytes 2 (s.reg rPwFuseEn) ++ leBytes 2 0 ++
      ((List.range 16).map fun n => leBytes 2 (if portEnabled s n then portClass s n + 10 else 0)).flatten)] ++
  (s.bus.savedCfg.map fun p => (0x0A01, leBytes 1 p.1 ++ leBytes 3 0 ++ busCfgBytes p.2)) ++
  (s.bus.savedObj.map fun p =>
    (0x0A02, leBytes 1 (p.1 / 256) ++ leBytes 1 (p.1 % 256) ++ leBytes 2 0 ++ objCfgBytes p.2.2))

/-- Configuration of metering. -/
def meterConfig (s : State) : List (Nat × List Byte) :=
  [(0x0503, leBytes 4 0 ++ leBytes 4 976 ++ calBytes s.meter.cal)] ++
  ((latestMap s).map fun p => (0x0502, leBytes 2 1 ++ leBytes 2 0 ++ circuitBytes p.1 p.2)) ++
  (s.meter.accs.filterMap fun p =>
    let m := p.2.newAbsolute.getD p.2.absolute
    if m then some (0x0504, leBytes 2 p.1 ++ leBytes 1 1 ++ leBytes 1 0) else none) ++
  (s.meter.slots.map fun p =>
    (0x0505, leBytes 2 p.2.tenant ++ leBytes 2 p.2.latest.length ++
      (p.2.latest.map fun e => leBytes 2 e.circuit ++ leBytes 2 e.source ++ leBytes 4 e.value).flatten)) ++
  (s.meter.spills.filterMap fun p =>
    if p.2.bound then
      some (0x0506, leBytes 1 p.1 ++ leBytes 1 0 ++ leBytes 2 p.2.acc ++ leBytes 4 p.2.threshold ++ leBytes 2 p.2.width ++ leBytes 2 0)
    else none)

/-- Configuration of LOOP. -/
def loopConfig (s : State) : List (Nat × List Byte) :=
  (s.loops.saved.map fun p => (0x0401, leBytes 4 0 ++ leBytes 4 64 ++ loopBytes p.1 p.2)) ++
  (s.loops.savedOn.map fun n => (0x0402, leBytes 2 n ++ leBytes 2 1 ++ leBytes 1 1 ++ leBytes 3 0)) ++
  (s.loops.traces.map fun p =>
    (0x0404, leBytes 1 p.1 ++ leBytes 1 0 ++ leBytes 2 p.2.node ++ leBytes 4 (p.2.mode + p.2.pre % 4096 * 65536)))

/-- The present instances and LOCAL slots of a task (R452). -/
def taskRecords (s : State) (t : Nat) : List ShipRec :=
  let x := s.task t
  match progOf s t with
  | some l =>
    let loc (off : Nat) (m : Tab Slot) : List ShipItem :=
      (m.filter fun q => localSlot l.prog t (q.1 + off)).map fun q => { key := q.1 + off, value := q.2.value }
    [ { type := 4, unit := t, items := ((l.timers.filter fun p => ownsInst l.prog t 1 3 p.1).map timerItems).flatten },
      { type := 5, unit := t, items := (l.counters.filter fun p => ownsInst l.prog t 4 4 p.1).map counterItem },
      { type := 6, unit := t, items := (l.edges.filter fun p => ownsInst l.prog t 5 5 p.1).map edgeItem },
      { type := 7, unit := t, items := loc 0 x.bits ++ loc 65536 x.words } ]
  | none => []

/-- The present loop and metering state. -/
def liveRecords (s : State) : List (List Byte) :=
  ((List.range 4).filterMap fun g =>
    let items := (s.loops.loops.filter fun p => p.2.cfg.group == g && p.2.enabled).map fun p =>
      shipItem p.1 0 0 p.2.state (p.2.held + p.2.lost * 65536)
    if items.isEmpty then none else some (shipRecord 0x11 g items)) ++
  (groupsOf 1000 s.meter.accs.length (tabKeys s.meter.accs)).map (fun ns => shipRecord 0x21 0 (accItems s ns)) ++
  ((List.range 48).filterMap fun c =>
    let items := (entriesOn s c).flatMap fun p =>
      [shipItem p.1 0 0 0 p.2.residueImp, shipItem (p.1 + 256) 0 0 0 p.2.residueExp, shipItem (p.1 + 512) 0 0 0 p.2.weight.toNat]
    if items.isEmpty then none else some (shipRecord 0x22 c items)) ++
  (tabKeys s.meter.spills).map (fun o => shipRecord 0x23 0 [spillItem s o]) ++
  (tabKeys s.meter.demands).map fun n => shipRecord 0x24 0 [demandItem s n]

/-- The program that runs, its exchange, and whether it runs. -/
def shipProgram (s : State) : State :=
  match s.thyme.loaded with
  | none => s
  | some l =>
    let s := shipConfig (shipImage s l.prog) 0x0303 (leBytes 1 1 ++ leBytes 3 0 ++ leBytes 4 l.prog.id)
    let s := if thRun s then s else shipConfig s 0x0304 (leBytes 4 0)
    (tabKeys l.prog.tasks).foldl (fun s t =>
      ship s (((taskRecords s t).filter fun r => !r.items.isEmpty).map ShipRec.bytes)) s

/-- The whole transfer, in one step (R452): configuration, forces, a JOURNAL record for every defined point, program,
loops, and the present state. -/
def fullTransfer (s : State) : State :=
  let cfg (s : State) (cs : List (Nat × List Byte)) : State := cs.foldl (fun s c => shipConfig s c.1 c.2) s
  let s := cfg s (portsConfig s ++ storeConfig s ++ meterConfig s)
  let s := s.fabric.forces.foldl (fun s p => shipForce s p.1 p.2 1 p.2.value) s
  let s := shipJournal s (tabKeys s.fabric.store)
  let s := shipProgram (cfg s (loopConfig s))
  (liveRecords s).foldl (fun s r => ship s [r]) s

end Sys2Proof.Machine
end

