-- ==== Sys2Proof/Machine/Start.lean ====
section
/-! DEFINITION. Step 14 of 17 Table 17.5 with the integrator parts of a slot's first start (19 R522), the restore of the
store, and TWIN_CONFIG, which may start the floor. -/

namespace Sys2Proof.Machine

/-! ## Commands of the configuration part -/

/-- The meaning of a Steward command on a route with a tag. -/
abbrev StewardCmd := Route → Nat → State → Host.Outcome State Fault Refusal

/-- TWIN_CONFIG inside a configuration part: step 14 is under way there already. -/
def twinConfigIn (r : Route) (tag : Nat) (s : State) : Host.Outcome State Fault Refusal :=
  .next (serve 0x0B03 s r tag fun q s => toIsland s iMGT fun s =>
    let (st, s) := twinConfig s q.payload id
    done st s)

/-- The commands of 05 Table 5.1 by code, in four parts. -/
def stewardCmds0 : List (Nat × StewardCmd) := [
  (0x0101, execSystemInfo), (0x0102, execMailboxBind), (0x0103, execNetConfig), (0x0104, execSystemReset),
  (0x0201, execPointRead), (0x0202, execPointWrite), (0x0203, execPointDefine), (0x0204, execPointUndefine),
  (0x0205, execPointClaim), (0x0206, execPointRelease), (0x0207, execForceSet), (0x0208, execForceClear),
  (0x0209, execForceList), (0x020A, execShareSet), (0x020B, execShareDelete), (0x020C, execShareLink),
  (0x020D, execSliceSet), (0x020E, execSliceList), (0x0301, execProgramLoad), (0x0302, execProgramStatus),
  (0x0303, execProgramExchange), (0x0304, execProgramRun), (0x0305, execProgramUnload),
  (0x0401, execLoopTableLoad) ]

def stewardCmds1 : List (Nat × StewardCmd) := [
  (0x0402, execLoopEnable), (0x0403, execLoopStatus), (0x0404, execTraceConfig), (0x0405, execTraceRead),
  (0x0501, execMeterRead), (0x0502, execCircuitMap), (0x0503, execCalibrationLoad), (0x0504, execAccConfig),
  (0x0505, execApportionSet), (0x0506, execSpillConfig), (0x0507, execDemandRead), (0x0508, execInstantRead),
  (0x0601, execSeriesDefine), (0x0602, execSeriesDelete), (0x0603, execRecorderRead), (0x0604, execSeriesClear),
  (0x0605, execRecorderStatus), (0x0701, execTimeRead), (0x0702, execPtpConfig), (0x0703, execPpsConfig),
  (0x0801, execCalRead), (0x0802, execCalSet), (0x0803, execAlarmSet), (0x0804, execTrimSet) ]

def stewardCmds2 : List (Nat × StewardCmd) := [
  (0x0805, execBackupRead), (0x0806, execBackupWrite), (0x0901, execPortStatus), (0x0902, execPortConfig),
  (0x0903, execPortCounters), (0x0904, execGateListLoad), (0x0905, execDeviceTable), (0x0906, execRingTables),
  (0x0907, execMacsecConfig), (0x0A01, execBusConfig), (0x0A02, execBusObjectSet), (0x0A03, execBusStatus),
  (0x0A04, execBusSleep), (0x0B01, execTwinStatus), (0x0B02, execTwinHealth), (0x0B03, twinConfigIn),
  (0x0B04, execTwinHandover), (0x0B05, execWitnessConfig), (0x0C01, execTenantEnrol), (0x0C02, execTenantRemove),
  (0x0C03, execKeyImport), (0x0C04, execKeyDelete), (0x0C05, execKeyList), (0x0C06, execAttest) ]

def stewardCmds3 : List (Nat × StewardCmd) := [
  (0x0C07, execDebugEnable), (0x0C08, execKeyEncrypt), (0x0C09, execKeyDecrypt), (0x0C0A, execKeyWrap),
  (0x0C0B, execKeyUnwrap), (0x0C0C, execKeyDerive), (0x0D01, execUpdateBegin), (0x0D02, execUpdateSegment),
  (0x0D03, execUpdateActivate), (0x0D04, execUpdateConfirm), (0x0D05, execUpdateFallback),
  (0x0D06, execUpdateStatus), (0x0E01, execSensorsRead), (0x0E02, execFaultLogRead), (0x0E03, execPowerConfig),
  (0x0E04, execFieldPower), (0x0E05, execIslandControl), (0x0E06, execFactoryReset), (0x0F01, execBlockRead),
  (0x0F02, execBlockWrite) ]

/-- The command of a code. -/
def stewardCmd (code : Nat) : Option StewardCmd :=
  ((stewardCmds0 ++ stewardCmds1 ++ stewardCmds2 ++ stewardCmds3).find? fun p => p.1 == code).map Prod.snd

/-- Steward performs a command of its own as a house ADMINISTRATOR on mailbox 0, whose buffers and kept response stay as
they were; the status it ended with (R522). -/
def runCommand (s : State) (code : Nat) (payload : List Byte) : Nat × State :=
  let q : Req :=
    { route := .mailbox 0, command := code, seq := 0, tag := 2 ^ 32, session := 0, more := false, payload := payload, pended := false }
  let box := s.box 0
  let buf := s.mail.buf
  let ready := s.rfield rMbRespReady 0 1
  let s1 := { s with mail := { s.mail with
    inProgress := s.mail.inProgress ++ [q], buf := memWriteList s.mail.buf (respBuf 0) (List.replicate 32 0xFF) } }
  match stewardCmd code with
  | none => (stBadCommand, s)
  | some f =>
    match f (.mailbox 0) (2 ^ 32) s1 with
    | .next s2 =>
      let st := leNat (memReadList s2.mail.buf (respBuf 0 + 4) 2)
      let s3 := { s2 with mail := { s2.mail with
        inProgress := s2.mail.inProgress.filter fun x => x.tag != 2 ^ 32, buf := buf } }
      (st, (s3.setBox 0 box).setField rMbRespReady 0 1 ready)
    | _ => (stBadCommand, s)

/-! ## The first start of a slot (R522) -/

/-- The records of a configuration part: command and payload. -/
def configRecords : Nat → List Byte → List (Nat × List Byte)
  | 0, _ => []
  | n + 1, b =>
    if b.length < 8 then [] else (fld b 0 2, sub b 8 (fld b 4 4)) :: configRecords n (b.drop (8 + fld b 4 4))

/-- One record; one that fails is logged and skipped. -/
def configRecord (s : State) (r : Nat × List Byte) : State :=
  let (st, s) := runCommand s r.1 r.2
  if st = stOk ∨ st = stPending then s else s.logEvent lvWarn iSAGE 0xF 0x30 (r.1 + st * 65536)

/-- The part of a type in the active slot. -/
def slotPart (s : State) (t : Nat) : Option (List Byte) := ((activeSlot s).entryOf t).map fun i => (activeSlot s).part i

/-- The loop table of the slot. -/
def firstLoops (s : State) (p : List Byte) : State :=
  let es := entriesAt p 0 64 (p.length / 64)
  if s.running iLOOP ∧ loopTableForm s [] es then resync (es.foldl putLoopEntry s)
  else s.logEvent lvWarn iSAGE 0xF 0x31 0

/-- The gate lists of the slot. -/
def firstGates (s : State) (p : List Byte) : State :=
  ((gateLists p.length p).getD []).foldl (fun s g => if s.running iSW then (loadGateList s g).2 else s) s

/-- The program of the slot takes the place of the last exchanged one, every instance new. -/
def firstProgram (s : State) (p : List Byte) : State :=
  let (r, s) := judgeImage s p (crcIscsi p).toNat
  match r with
  | .ok g => { s with thyme := { s.thyme with lastProg := some g, lastStopped := false } }
  | .error r => noteReject s r

/-- The integrator parts, once for a slot. -/
def applyParts (s : State) : State :=
  if (activeSlot s).ran then s
  else
    let slot := activeSlot s
    let s := setActive s { slot with ran := true }
    let take (s : State) (t : Nat) (f : State → List Byte → State) : State :=
      match slotPart s t with
      | some p => f s p
      | none => s
    let s := take s 9 fun s p => (configRecords p.length p).foldl configRecord s
    take (take (take s 7 firstLoops) 8 firstGates) 6 firstProgram

/-- Step 14 for SINGLE and ACTIVE, where it has not been taken: the parts of a first start, loops and program. -/
def startFloor (s : State) : State :=
  if s.power.floor || !s.rbit rPfStatus 0 then s
  else floorRun (applyParts { s with power := { s.power with floor := true } })

/-- Step 14 for STANDBY: the configuration comes by full transfer, and the parts of the slot are not applied (R522). -/
def standbyFloor (s : State) : State :=
  setActive { s with power := { s.power with floor := true } } { activeSlot s with ran := true }

/-! ## Rows -/

/-- STORE_RESTORE: after step 9 of Table 17.5; an unpaired module then takes step 14. -/
def storeStart (s : State) : State :=
  if !([iMTR, iSW, iBUS, iFLD, iTHY, iLOOP].all fun i => pastBoot s i) then s
  else
    let s := storeRestore s
    if s.twin.role == .single || s.twin.role == .active then startFloor s else s

def execStoreRestore (s : State) : Host.Outcome State Fault Refusal := .next (storeStart s)

/-- TWIN_CONFIG (0x0B03). -/
def execTwinConfig (r : Route) (tag : Nat) (s : State) : Host.Outcome State Fault Refusal :=
  .next (serve 0x0B03 s r tag fun q s => toIsland s iMGT fun s =>
    let (st, s) := twinConfig s q.payload startFloor
    done st s)

end Sys2Proof.Machine
end

