-- ==== Sys2Proof/Machine/Twin.lean ====
section
/-! DEFINITION. The twin partner's events (16): the lease, the role changes, pairing, handover, received STATE frames and
verdicts, health and known-answer tests, relayed frames, and the witnesses. -/

namespace Sys2Proof.Machine

/-! ## Twin frames received (R457, R458) -/

/-- Header and body of a received twin frame, which its check value covers. -/
def rxCovered (kind : Nat) (f : TwinRx) : List Byte := twinHeader kind f.seq f.body.length f.frag f.time f.last ++ f.body

/-- The check of a received frame on channel 5; a STATE frame that fails is a shipment loss (R457). -/
def twinCheck (s : State) (kind : Nat) (f : TwinRx) : State :=
  let p := rxCovered kind f
  let s := s.chkUnit 5 p.length (crcIscsi p) f.checkOk
  if !f.checkOk && kind == 0x10 then shipLost s else s

/-- A frame of a kind on the twin link reaches the twin block, under MACsec or TWIN_PLAIN. -/
def twinIn (s : State) (kind : Nat) (f : TwinRx) (g : State → State) : State :=
  if !s.running iSW || (s.port 2).link != .up || !(f.secured || s.rbit rTwCtrl 0) || decide (2000 < f.body.length) then s
  else
    let s := twinCheck s kind f
    if f.checkOk && paired s then g s else s

/-- A frame of a kind on the ring reaches the twin block, under MACsec or WITNESS_PLAIN (R441). -/
def ringIn (s : State) (kind : Nat) (f : TwinRx) (g : State → State) : State :=
  if !s.running iSW || ((s.port 0).link != .up && (s.port 1).link != .up) || !(f.secured || s.rbit rTwCtrl 1) ||
      decide (2000 < f.body.length) then s
  else
    let s := twinCheck s kind f
    if f.checkOk then g s else s

/-! ## Witness queries sent (R442, R444) -/

/-- Both links to the partner are down. -/
def linksDown (s : State) : Bool := s.twin.links % 4 == 0

/-- No HELLO for 5 s in PAIRING (R430), once the store stands (17 Table 17.5). -/
def helloLate (s : State) : Bool :=
  s.twin.role == .pairing && s.rbit rPfStatus 0 && decide (s.twin.helloHeard + 5 * nsSec ≤ s.now)

/-- A module that asks its witnesses: in HOLDING, detached with both links down, or in PAIRING without a HELLO. -/
def asking (s : State) : Bool :=
  s.twin.role == .holding || (s.twin.role == .standby && s.twin.notReady == 6 && linksDown s) || helloLate s

/-- A round of QUERY frames to the witnesses. -/
def sendQuery (s : State) : State :=
  let n := (s.twin.queryNo + 1) % 2 ^ 32
  let gap := if s.twin.role == .standby then 50 * nsMs else 10 * nsMs
  let s := { s with twin := { s.twin with queryNo := n, queryAt := s.now + gap, answers := [] } }
  s.twin.witnesses.foldl (fun s w =>
    (twinRing s 0x31 w.addr (leBytes 4 n ++ serialBytes ++ padTo 12 s.twin.partnerSerial)).stick rTwQueries rTwEvent 8) s

/-- QUERY_SEND: every 10 ms, or every 50 ms when detached (R442, R444). -/
def execQuerySend (s : State) : Host.Outcome State Fault Refusal :=
  .next (if asking s && decide (s.twin.queryAt ≤ s.now) then sendQuery s else s)

/-! ## Entering roles -/

/-- HOLDING: the lease is lost, commands marked S end, the witnesses are asked (R428, R442). -/
def enterHolding (s : State) : State :=
  let s := leaseLost s false
  let s := setReady ((enterRole s .holding 0 0 false).twEvent 2) false s.twin.notReady
  sendQuery { s with twin := { s.twin with alone := false } }

/-- The module becomes ACTIVE with ALONE = 1 (Table 16.8 steps 3 and 4): a former standby that was not ready starts
anew (R447), and every bound device is sent its output points. A module that has not taken step 14 of 17 Table 17.5
takes it. -/
def becomeActive (s : State) (cause island partner : Nat) (cold : Bool) : State :=
  let s := setReady (enterRole s .active cause island cold) false 0
  let s := { s with twin := { s.twin with
    alone := true, mute := false, partner := partner, discardDue := false, causes := [] } }
  let s := if cold then floorRun s else s
  commandAll (startFloor s)

/-- The module becomes STANDBY, not ready (R429, Table 16.6). -/
def becomeStandby (s : State) (cause notReadyCause partner : Nat) : State :=
  let s := if s.twin.role == .active then leaseLost s false else s
  let pairing := s.twin.role == .pairing
  let s := setReady (enterRole s .standby cause 0 false) false notReadyCause
  let s := { s with twin := { s.twin with
    alone := false, partner := partner
    discardDue := s.twin.discardDue || pairing, causes := [] } }
  if pairing then standbyFloor s else s

/-! ## The lease (R431 to R435) -/

/-- A renewal left unanswered is counted. -/
def renewMissed (s : State) : State :=
  let n := stickNat s.twin.health.renewMissed 1
  let s := { s with twin := { s.twin with answered := true, health := { s.twin.health with renewMissed := n.1 } } }
  (healthCount s n).stick rTwRenewMissed rTwEvent 8

/-- RENEW_SEND: every 5 ms, by frame and by wire (R432). -/
def renewSend (s : State) : State :=
  let w := s.twin
  if w.role != .active || w.partner != 2 || !w.renewing || decide (s.now < w.renewAt + 5 * nsMs) then s
  else
    let s := if w.answered then s else renewMissed s
    let n := (w.renewNo + 1) % 2 ^ 32
    let wire := wireOn s
    let s := { s with twin := { s.twin with
      renewNo := n, renewAt := s.now, answered := false, leaseOut := s.twin.leaseOut != wire } }
    twinSend s 0x01 (leBytes 4 n ++ leBytes 4 0)

def execRenewSend (s : State) : Host.Outcome State Fault Refusal := .next (renewSend s)

/-- The grantor's view: its grant ends 20 ms from now (R434). -/
def grantGiven (s : State) : State := { s with twin := { s.twin with grantorEnd := some (s.now + 20 * nsMs) } }

/-- A received RENEW is answered (R432). -/
def renewHeard (s : State) (b : List Byte) : State :=
  if s.twin.role == .standby && !s.twin.mute && b.length == 8 then
    grantGiven (twinSend s 0x02
      (leBytes 4 (fld b 0 4) ++ leBytes 4 20000 ++ leBytes 1 (b2n s.twin.ready) ++ leBytes 1 s.twin.notReady ++ leBytes 2 0))
  else s

def execRenew (f : TwinRx) (s : State) : Host.Outcome State Fault Refusal :=
  .next (twinIn s 0x01 f fun s => renewHeard s f.body)

/-- An answer counts within 3 ms of the latest request (R433). -/
def grantInTime (s : State) : Bool :=
  s.twin.role == .active && s.twin.renewing && decide (s.now ≤ s.twin.renewAt + 3 * nsMs)

/-- The holder's grant is renewed: it ends 20 ms after the request; ALONE clears (R433, R452). -/
def acceptGrant (s : State) : State :=
  { s with twin := { s.twin with
      grantEnd := some (s.twin.renewAt + 20 * nsMs), answered := true, alone := false, withdrawn := false } }

/-- The partner is known to be ready while a cause noted alone is present: control is given up (R438). -/
def afterGrant (s : State) : State := if s.twin.ready && !s.twin.alone && !s.twin.causes.isEmpty then giveUpNoted s else s

/-- A received GRANT (R433). -/
def grantHeard (s : State) (b : List Byte) : State :=
  if b.length == 12 && grantInTime s && fld b 0 4 == s.twin.renewNo then
    afterGrant (setReady (acceptGrant s) (fld b 8 1 == 1) (fld b 9 1))
  else s

def execGrant (f : TwinRx) (s : State) : Host.Outcome State Fault Refusal :=
  .next (twinIn s 0x02 f fun s => grantHeard s f.body)

/-- An edge on LEASE_IN: the standby answers it, the holder takes it as a grant (R432, R433). -/
def leaseEdge (s : State) : State :=
  let s := setTwinLink { s with twin := { s.twin with
    leaseIn := !s.twin.leaseIn, edges := (s.now :: s.twin.edges).take 4 } } 1 true
  if s.twin.role == .standby && !s.twin.mute && s.twin.released.isNone then
    grantGiven { s with twin := { s.twin with leaseOut := !s.twin.leaseOut } }
  else if grantInTime s then afterGrant (acceptGrant s)
  else s

def execLeaseInEdge (s : State) : Host.Outcome State Fault Refusal := .next (leaseEdge s)

/-- A RELEASE was received, or its burst recognised: the grant ends at once (R434). -/
def releaseHeard (s : State) (cause island : Nat) : State :=
  if s.twin.role == .standby then
    { s with twin := { s.twin with
        released := some (s.twin.released.getD s.now), grantorEnd := none, relCause := cause, relIsland := island } }
  else s

/-- A WITHDRAW was received, or its burst recognised: the holder goes on alone (R440). -/
def withdrawHeard (s : State) : State :=
  if s.twin.role == .active then
    let s := setReady s false s.twin.notReady
    { s with twin := { s.twin with alone := true, withdrawn := true, renewing := false, grantEnd := none } }
  else s

/-- Four edges 80 to 120 µs apart, newest first (R435). -/
def isBurst : List Nat → Bool
  | [a, b, c, d] => [a - b, b - c, c - d].all fun g => decide (80 * nsUs ≤ g) && decide (g ≤ 120 * nsUs)
  | _ => false

/-- LEASE_BURST: a burst carries no cause, so a cause already received stays (log 68). -/
def leaseBurst (s : State) : State :=
  if !isBurst s.twin.edges then s
  else
    let s := { s with twin := { s.twin with edges := s.twin.edges.take 1 } }
    if s.twin.released.isSome then s else withdrawHeard (releaseHeard s 0 0)

def execLeaseBurst (s : State) : Host.Outcome State Fault Refusal := .next (leaseBurst s)

/-- LEASE_WIRE_QUIET: no edge for 15 ms clears LINKS[1] (R435). -/
def execLeaseWireQuiet (s : State) : Host.Outcome State Fault Refusal :=
  .next (if s.twin.edges.all fun t => decide (t + 15 * nsMs ≤ s.now) then setTwinLink s 1 false else s)

/-- GRANT_LOW: GRANT_LEFT has fallen to 2 ms (R428, Table 16.2). -/
def grantLow (s : State) : State :=
  let w := s.twin
  if w.role == .active && !w.alone && !w.withdrawn && w.grantEnd.any fun e => decide (e ≤ s.now + 2 * nsMs) then
    enterHolding (if w.answered then s else renewMissed s)
  else s

def execGrantLow (s : State) : Host.Outcome State Fault Refusal := .next (grantLow s)

/-- GRANT_GUARD_END: 2 ms after the grantor's own grant ended with no RELEASE (R428). -/
def grantGuardEnd (s : State) : State :=
  let w := s.twin
  if w.role == .standby && w.released.isNone && w.grantorEnd.any fun e => decide (e + 2 * nsMs ≤ s.now) then enterHolding s
  else s

def execGrantGuardEnd (s : State) : Host.Outcome State Fault Refusal := .next (grantGuardEnd s)

/-- RELEASE (R437, R446). -/
def execRelease (f : TwinRx) (s : State) : Host.Outcome State Fault Refusal :=
  .next (twinIn s 0x03 f fun s => if f.body.length = 4 then releaseHeard s (fld f.body 0 1) (fld f.body 1 1) else s)

/-- TAKEOVER: 2 ms after the RELEASE (Table 16.8 step 3). -/
def takeover (s : State) : State :=
  let w := s.twin
  if w.role == .standby && w.released.any fun t => decide (t + 2 * nsMs ≤ s.now) then
    becomeActive s w.relCause w.relIsland 2 !w.ready
  else s

def execTakeover (s : State) : Host.Outcome State Fault Refusal := .next (takeover s)

/-- WITHDRAW (R440). -/
def execWithdraw (f : TwinRx) (s : State) : Host.Outcome State Fault Refusal :=
  .next (twinIn s 0x04 f fun s => if f.body.length = 4 then withdrawHeard s else s)

/-! ## Pairing (R429, R430) and handover (R454) -/

/-- The body of a HELLO frame. -/
def helloBody (s : State) : List Byte :=
  serialBytes ++ leBytes 1 s.twin.role.code ++ leBytes 1 (b2n s.twin.formerActive) ++ leBytes 2 0 ++ leBytes 4 stewardVersion ++
    leBytes 4 (thProgId s)

/-- HELLO_SEND: every 100 ms, in every role of a pair (log 53). -/
def execHelloSend (s : State) : Host.Outcome State Fault Refusal :=
  .next (if paired s && decide (s.twin.helloAt ≤ s.now) then
      twinSend { s with twin := { s.twin with helloAt := s.now + 100 * nsMs } } 0x05 (helloBody s)
    else s)

/-- TWIN_STATUS PARTNER from a partner's role (Table 5.10). -/
def partnerCode (role : Nat) : Nat := if role = 1 then 1 else if role = 2 then 2 else 0

/-- The decision rules of Table 16.6 on what is known of the partner: the roles of ALIVE answers, and how many answers
say ABSENT. -/
def decide6 (s : State) (alive : List Nat) (absent : Nat) : State :=
  let former := s.twin.formerActive
  if (if former then alive.contains 1 else !alive.isEmpty) then
    if s.twin.role == .standby then s else becomeStandby s 0 6 (partnerCode (alive.headD 0))
  else if (if former then decide (0 < alive.length + absent) else decide (2 ≤ absent)) then
    if s.twin.role == .active then s
    else
      becomeActive s 0 0 (if alive.isEmpty then 3 else partnerCode (alive.headD 0))
        (!former && s.power.floor && decide (s.twin.notReady ≠ 0))
  else s

/-- Both partners are in PAIRING: this one is chosen (R429). -/
def chosen (s : State) (serial : List Byte) (former : Bool) : Bool :=
  if s.twin.formerActive != former then s.twin.formerActive else decide (beNat serialBytes < beNat serial)

/-- A HELLO of the partner is judged by role (R428, R429, R445, R452). -/
def helloJudged (s : State) (role : Nat) (former : Bool) : State :=
  match s.twin.role with
  | .pairing =>
    if !s.rbit rPfStatus 0 then s
    else if role = 1 then startResync (becomeStandby s 0 1 1) 1
    else if role = 4 then
      if chosen s s.twin.partnerSerial former then becomeActive s 0 0 2 false
      else startResync (becomeStandby s 0 1 1) 1
    else s
  | .holding => decide6 s [role] 0
  | .standby =>
    if role = 1 && decide (s.twin.notReady ≠ 0) && !s.twin.transfer && islandsFit s then
      startResync { s with twin := { s.twin with mute := false } } s.twin.notReady
    else s
  | _ => s

/-- With no program, a handover's command completes when the partner shows itself ACTIVE (log 63). -/
def handoverDone (s : State) : State := if s.twin.role == .standby then complete_ s 0x0B04 stOk [] else s

/-- A received HELLO. -/
def helloHeard (s : State) (b : List Byte) : State :=
  if b.length ≠ 24 ∨ b.take 12 ≠ s.twin.partnerSerial then s
  else
    let role := fld b 12 1
    let partner := if s.twin.role == .active && role != 2 && s.twin.renewing then s.twin.partner else partnerCode role
    let s := setTwinLink { s with twin := { s.twin with helloHeard := s.now, partner := partner } } 0 true
    let s := if role = 1 ∧ s.thyme.loaded.isNone then handoverDone s else s
    helloJudged s role (bitOf (fld b 13 1) 0)

def execHello (f : TwinRx) (s : State) : Host.Outcome State Fault Refusal :=
  .next (twinIn s 0x05 f fun s => helloHeard s f.body)

/-- HELLO_TIMEOUT (R430): the partner counts as absent, the witnesses are asked. -/
def execHelloTimeout (s : State) : Host.Outcome State Fault Refusal :=
  .next (if helloLate s && decide (s.twin.queryAt ≤ s.now) then
      sendQuery (setTwinLink { s with twin := { s.twin with partner := 3 } } 0 false)
    else s)

/-- A received HANDOVER: a ready standby accepts a proposal, the active notes the acceptance (R454). -/
def handoverHeard (s : State) (b : List Byte) : State :=
  if b.length ≠ 12 then s
  else if s.twin.role == .standby && s.twin.ready && fld b 0 1 == 0 then
    let s := { s with twin := { s.twin with handover := some (fld b 4 8), handoverAgreed := true } }
    twinSend s 0x06 (handoverBody true (fld b 4 8))
  else if s.twin.role == .active && fld b 0 1 == 1 && s.twin.handover == some (fld b 4 8) then
    { s with twin := { s.twin with handoverAgreed := true } }
  else s

def execHandover (f : TwinRx) (s : State) : Host.Outcome State Fault Refusal :=
  .next (twinIn s 0x06 f fun s => handoverHeard s f.body)

/-- HANDOVER_BOUNDARY: the active gives up control with cause 6, the standby becomes ACTIVE without the guard (R454). A
boundary nobody agreed to passes, and the command ends as for a standby that is not ready (log 63). -/
def boundary (s : State) : State :=
  match s.twin.handover with
  | none => s
  | some b =>
    if s.tai < b then s
    else
      let agreed := s.twin.handoverAgreed
      let s' := { s with twin := { s.twin with handover := none, handoverAgreed := false } }
      if s.twin.role == .active then
        if agreed && !s.twin.alone then giveUp s' 6 0 else complete_ s' 0x0B04 stNotPermitted []
      else if s.twin.role == .standby && agreed then becomeActive s' 6 0 2 !s.twin.ready
      else s'

def execHandoverBoundary (s : State) : Host.Outcome State Fault Refusal := .next (boundary s)

/-- UNPAIR: the partner becomes SINGLE and keeps the floor silent (R455). -/
def execUnpair (f : TwinRx) (s : State) : Host.Outcome State Fault Refusal :=
  .next (twinIn s 0x07 f fun s => if s.twin.role == .active then s else unpair s true)

/-! ## Shipped state (R451, R452) -/

/-- The releases a STATE body names. -/
def shippedReleases (b : List Byte) : List Nat :=
  (shippedOf b.length b).filterMap fun x => match x with
    | .record r => if r.type = 1 then (r.items.find? (·.key == 0)).map ShipItem.value else none
    | .config _ _ => none

/-- A task that still waits for the shipment of an earlier release than the one shipped goes on to its next (log 67). -/
def skipLost (s : State) : State :=
  let run := thRun s
  afterCycles { s with thyme := { s.thyme with
    tasks := tabMap (fun _ (x : Task) =>
      if x.state == TaskState.gathering && x.gathered.isNone && x.shippedRelease.any (fun r => decide (x.release < r)) then
        x.abandoned run
      else x) s.thyme.tasks } }

/-- A whole STATE body: applied; the largest time from a release to its last fragment is kept (Table 16.13), and the first
cycle of a new active completes the handover (R454). -/
def stateWhole (s : State) (b : List Byte) (time : Nat) : State :=
  let rs := shippedReleases b
  let us := rs.foldl (fun m r => max m ((time - r) / 1000)) s.twin.health.shipLatency
  let s := { s with twin := { s.twin with health := { s.twin.health with shipLatency := min 65535 us } } }
  let s := applyState s b
  let s := if rs.isEmpty then s else handoverDone s
  skipLost s

/-- A gap in the SEQ of STATE frames (R452). -/
def stateGap (s : State) : State :=
  startResync (notReady { shipLost s with twin := { (shipLost s).twin with stateRx := none, stateFrag := [], fragNext := 0 } } 2) 2

/-- A STATE frame taken in its place. -/
def stateTake (s : State) (f : TwinRx) : State :=
  let b := s.twin.stateFrag ++ f.body
  if f.last then
    stateWhole { s with twin := { s.twin with stateRx := some f.seq, stateFrag := [], fragNext := 0 } } b f.time
  else { s with twin := { s.twin with stateFrag := b, fragNext := f.frag + 1 } }

/-- A first fragment begins the sequence anew. -/
def stateStart (s : State) (f : TwinRx) : State :=
  if f.frag = 0 then
    stateTake { s with twin := { s.twin with stateRx := some ((f.seq + 65535) % 65536), stateFrag := [], fragNext := 0 } } f
  else s

/-- A received STATE frame (R451, R452, R457): the next of its sequence is taken; any other is a gap. -/
def stateHeard (s : State) (f : TwinRx) : State :=
  if s.twin.role != .standby then s
  else
    match s.twin.stateRx with
    | none => stateStart s f
    | some q => if f.seq = (q + 1) % 65536 ∧ f.frag = s.twin.fragNext then stateTake s f else stateStart (stateGap s) f

def execState (f : TwinRx) (s : State) : Host.Outcome State Fault Refusal :=
  .next (twinIn s 0x10 f fun s => stateHeard s f)

/-- A received VERDICT is counted; a mismatch makes both partners test (R439). -/
def verdictHeard (s : State) (b : List Byte) : State :=
  let kind := fld b 0 1
  let unit := fld b 1 1
  if b.length ≠ 12 ∨ s.twin.role ≠ .active ∨ kind = 0 ∨ 2 < kind ∨ (if kind = 1 then 16 else 4) ≤ unit then s
  else standbyHolds (noteVerdict s kind unit (fld b 4 8) (fld b 2 1 == 1)) (fld b 4 8)

def execVerdict (f : TwinRx) (s : State) : Host.Outcome State Fault Refusal :=
  .next (twinIn s 0x11 f fun s => verdictHeard s f.body)

/-- A received RESYNC: the active makes a full transfer (R452). -/
def resyncHeard (s : State) (b : List Byte) : State :=
  if b.length ≠ 4 ∨ s.twin.role ≠ .active then s
  else fullTransfer { s with twin := { s.twin with partner := 2, transfer := true } }

def execResync (f : TwinRx) (s : State) : Host.Outcome State Fault Refusal :=
  .next (twinIn s 0x12 f fun s => resyncHeard s f.body)

/-- Keys of the running tasks and loop groups. -/
def runningUnits (s : State) : List Nat :=
  let tasks := match s.thyme.loaded with
    | some l => if thRun s then (tabKeys l.prog.tasks).filter fun t => (s.task t).scheduled else []
    | none => []
  let groups := (List.range 4).filter fun g =>
    s.rbit rLpCtrl g && s.loops.loops.any fun p => p.2.enabled && p.2.cfg.group == g
  tasks ++ groups.map (16 + ·)

/-- FULL_TRANSFER_DONE: the active renews again once all is sent; the standby is ready once every running task and group
has agreed and its islands are fit (R452, R437). -/
def transferDone (s : State) : State :=
  let w := s.twin
  if !w.transfer then s
  else if w.role == .active && w.ship.isEmpty then
    { s with twin := { w with transfer := false, renewing := true } }
  else if w.role == .standby && (runningUnits s).all w.agreed.contains && islandsFit s && bitOf w.links 0 then
    { s with twin := { w with transfer := false, ready := true, notReady := 0, mute := false } }.twEvent 7
  else s

def execFullTransferDone (s : State) : Host.Outcome State Fault Refusal := .next (transferDone s)

/-! ## Health and tests (R439, R453) -/

/-- HEALTH_SEND: every 1 s, the standby's report. -/
def healthSend (s : State) : State :=
  if s.twin.role == .standby && decide (s.twin.healthAt ≤ s.now) then
    let s := twinSend s 0x13 (healthReport s)
    { s with twin := { s.twin with healthAt := s.now + nsSec, health := { s.twin.health with shipLatency := 0 } } }
  else s

def execHealthSend (s : State) : Host.Outcome State Fault Refusal := .next (healthSend s)

/-- HEALTH: the partner's latest report is kept. -/
def execHealth (f : TwinRx) (s : State) : Host.Outcome State Fault Refusal :=
  .next (twinIn s 0x13 f fun s =>
    if f.body.length = 256 then standbyHolds { s with twin := { s.twin with partnerHealth := f.body } } (fld f.body 8 8) else s)

/-- The islands of a known-answer test, in the order of the row's results. -/
def testIslands : List Nat := [iTHY, iLOOP, iMTR, iPF]

/-- One island's test counted; a failure faults the island, after a mismatch with cause 5 (R436, R439). -/
def testIsland (s : State) (i : Nat) (passed after : Bool) : State :=
  let h := s.twin.health
  let n := stickNat (if passed then h.testsPassed else h.testsFailed) 1
  let h := { h with islandTest := tabSet h.islandTest i (if passed then 1 else 2) }
  let h := if passed then { h with testsPassed := n.1 } else { h with testsFailed := n.1 }
  let s := healthCount { s with twin := { s.twin with health := h } } n
  if passed then s
  else if after then faultIsland (selfCause s 5 i) i 4 0
  else enterFault s i 4 0

/-- KNOWN_ANSWER_TEST: due every TEST_PERIOD on the standby for THY, LOOP, MTR and PF, and after a mismatch on both
partners for THY or LOOP. -/
def knownAnswer (s : State) (passed : List Bool) : State :=
  let due := s.twin.testDue
  let periodic := s.twin.role == .standby && decide (s.twin.testAt ≤ s.now)
  let after (i : Nat) : Bool := due.any fun m => (if m.1 = 1 then iTHY else iLOOP) == i
  let hit := (testIslands.zip passed).filter fun p => s.running p.1 && (periodic || after p.1)
  if passed.length ≠ 4 ∨ (due.isEmpty ∧ !periodic) then s
  else
    let s := { s with twin := { s.twin with testDue := [], testAt := if periodic then s.now + testPeriod s else s.twin.testAt } }
    let s := hit.foldl (fun s p => testIsland s p.1 p.2 (after p.1)) s
    let explained (m : Nat × Nat × Nat) : Bool := hit.any fun p => p.1 == (if m.1 = 1 then iTHY else iLOOP) && !p.2
    (due.filter fun m => !explained m).foldl unexplained s

def execKnownAnswerTest (passed : List Bool) (s : State) : Host.Outcome State Fault Refusal := .next (knownAnswer s passed)

/-- TWIN_LINK_DOWN: the twin link has been down for more than 15 ms (R452). -/
def twinLinkDown (s : State) : State :=
  if !paired s || (s.port 2).link == .up || decide (s.now ≤ (s.port 2).since + 15 * nsMs) || !bitOf s.twin.links 0 then s
  else
    let s := setTwinLink s 0 false
    if s.twin.role == .standby then
      notReady { s with twin := { s.twin with transfer := false, stateRx := none, stateFrag := [], fragNext := 0 } } 3
    else s

def execTwinLinkDown (s : State) : Host.Outcome State Fault Refusal := .next (twinLinkDown s)

/-! ## Relayed frames (R448) -/

/-- The frame a relay body holds, with its port. -/
def relayed (b : List Byte) : Option (Nat × List Byte) :=
  let p := fld b 0 1
  if b.length < 4 ∨ p < 4 ∨ 20 ≤ p ∨ fld b 2 2 ≠ b.length - 4 then none else some (p, b.drop 4)

/-- RELAY_DOWN: the standby transmits it out of the port named. -/
def execRelayDown (f : TwinRx) (s : State) : Host.Outcome State Fault Refusal :=
  .next (twinIn s 0x20 f fun s =>
    match relayed f.body with
    | some (p, b) => if s.twin.role == .standby then (enqueue s p (s.port p).cfg.jioshClass b).countRelayed else s
    | none => s)

/-- RELAY_UP: the active takes it as arriving at the B end of the chain. -/
def execRelayUp (f : TwinRx) (s : State) : Host.Outcome State Fault Refusal :=
  .next (twinIn s 0x21 f fun s =>
    match relayed f.body with
    | some (p, b) =>
      if s.twin.role == .active && innerType b == s.rfield rPfJiosh 0 16 then
        jField s.countRelayed p (framePayload b) true
      else s
    | none => s)

/-! ## Witnesses (R441 to R444) -/

/-- OFFER_SEND: every 1 s, an OFFER for each module served. -/
def offerSend (s : State) : State :=
  if s.twin.served.isEmpty || decide (s.now < s.twin.offersAt) then s
  else
    let s := { s with twin := { s.twin with offersAt := s.now + nsSec } }
    s.twin.served.foldl (fun s m => twinRing s 0x30 macBroadcast (serialBytes ++ padTo 12 m)) s

def execOfferSend (s : State) : Host.Outcome State Fault Refusal := .next (offerSend s)

/-- A witness has been heard within 3 s. -/
def witnessReachable (s : State) (w : Witness) : Bool := decide (s.now < w.heard + 3 * nsSec)

/-- LINKS[3] and LINKS[4] follow the witnesses kept. -/
def witnessLinks (s : State) : State :=
  let up (k : Nat) : Bool := (s.twin.witnesses[k]?).any (witnessReachable s)
  setTwinLink (setTwinLink s 3 (up 0)) 4 (up 1)

/-- Puts a witness into its place by serial number. -/
def placeWitness (w : Witness) : List Witness → List Witness
  | [] => [w]
  | x :: rest => if beNat w.serial ≤ beNat x.serial then w :: x :: rest else x :: placeWitness w rest

/-- The two witnesses kept: the offering modules with the lowest serial numbers; one that no longer offers gives way
(log 69). -/
def keepTwo (s : State) (ws : List Witness) : List Witness :=
  let live := ws.filter (witnessReachable s)
  let pick := (live ++ ws.filter fun w => !witnessReachable s w).take 2
  pick.foldr placeWitness []

/-- The body of a PROBE_REPLY frame. -/
def probeReplyBody (s : State) (number : Nat) : List Byte :=
  leBytes 4 number ++ leBytes 1 s.twin.role.code ++ leBytes 1 (b2n s.twin.formerActive) ++ leBytes 2 0

/-- A received OFFER that serves this module. -/
def offerHeard (s : State) (sender : Nat) (b : List Byte) : State :=
  if b.length ≠ 24 ∨ b.drop 12 ≠ serialBytes then s
  else
    let w : Witness := { serial := b.take 12, addr := sender, heard := s.now }
    let ws := placeWitness w (s.twin.witnesses.filter fun x => x.serial != w.serial)
    let s := witnessLinks { s with twin := { s.twin with witnesses := keepTwo s ws } }
    twinRing s 0x33 sender (probeReplyBody s 0)

def execOffer (f : TwinRx) (s : State) : Host.Outcome State Fault Refusal :=
  .next (ringIn s 0x30 f fun s => offerHeard s f.sender f.body)

/-- WITNESS_UNREACHABLE: no OFFER for 3 s clears the witness's LINKS bit. -/
def execWitnessUnreachable (index : Nat) (s : State) : Host.Outcome State Fault Refusal :=
  .next (if index < 2 && !((s.twin.witnesses[index]?).any (witnessReachable s)) then setTwinLink s (3 + index) false else s)

/-- The address of a served module. -/
def servedAddr (s : State) (serial : List Byte) : Option Nat := (s.twin.servedAt.find? (·.serial == serial)).map ServedAt.addr

/-- A served module's address is learned. -/
def learnServed (s : State) (serial : List Byte) (addr : Nat) : State :=
  { s with twin := { s.twin with
      servedAt := s.twin.servedAt.filter (fun a => a.serial != serial && a.addr != addr) ++ [{ serial := serial, addr := addr }] } }

/-- A received QUERY of a pair this witness serves: the other partner is probed (R443). -/
def queryHeard (s : State) (sender : Nat) (b : List Byte) : State :=
  let asker := sub b 4 12
  let target := sub b 16 12
  if b.length ≠ 28 ∨ !s.twin.served.contains asker ∨ !s.twin.served.contains target then s
  else
    let s := learnServed s asker sender
    let n := s.twin.probeNo % (2 ^ 32 - 1) + 1
    let p : Probe := { number := n, addr := sender, asker := asker, query := fld b 0 4, target := target, sent := s.now }
    let s := { s with twin := { s.twin with
      probeNo := n, probes := s.twin.probes.filter (fun x => x.number != n) ++ [p] } }
    match servedAddr s target with
    | some a => twinRing s 0x32 a (leBytes 4 n ++ asker)
    | none => s

def execQuery (f : TwinRx) (s : State) : Host.Outcome State Fault Refusal :=
  .next (ringIn s 0x31 f fun s => queryHeard s f.sender f.body)

/-- PROBE: answered in every role (R443). -/
def execProbe (f : TwinRx) (s : State) : Host.Outcome State Fault Refusal :=
  .next (ringIn s 0x32 f fun s =>
    if f.body.length = 16 then twinRing s 0x33 f.sender (probeReplyBody s (fld f.body 0 4)) else s)

/-- A witness answers a query and forgets its probe. -/
def witnessAnswer (s : State) (p : Probe) (alive : Bool) (role former : Nat) : State :=
  let s := { s with twin := { s.twin with probes := s.twin.probes.filter fun x => x.number != p.number } }
  twinRing s 0x34 p.addr (leBytes 4 p.query ++ leBytes 1 (b2n alive) ++ leBytes 1 role ++ leBytes 1 former ++ leBytes 1 0)

/-- A PROBE_REPLY to an OFFER carries no serial: which of the served modules not yet known sent it is left open
(R441; log 70). -/
def learnReply (s : State) (sender : Nat) : State :=
  let left := s.twin.served.filter fun m => (servedAddr s m).isNone
  if s.twin.servedAt.any (·.addr == sender) then s
  else
    let (k, s) := s.draw
    match left[k % left.length]? with
    | some m => learnServed s m sender
    | none => s

/-- A received PROBE_REPLY (R441, R443). -/
def probeReplyHeard (s : State) (sender : Nat) (b : List Byte) : State :=
  let n := fld b 0 4
  if b.length ≠ 8 then s
  else if n = 0 then learnReply s sender
  else
    match s.twin.probes.find? fun p => p.number == n && servedAddr s p.target == some sender with
    | some p => if s.now ≤ p.sent + 5 * nsMs then witnessAnswer s p true (fld b 4 1) (fld b 5 1 % 2) else s
    | none => s

def execProbeReply (f : TwinRx) (s : State) : Host.Outcome State Fault Refusal :=
  .next (ringIn s 0x33 f fun s => probeReplyHeard s f.sender f.body)

/-- PROBE_TIMEOUT: no PROBE_REPLY within 5 ms (R443). -/
def execProbeTimeout (number : Nat) (s : State) : Host.Outcome State Fault Refusal :=
  .next (match s.twin.probes.find? fun p => p.number == number && decide (p.sent + 5 * nsMs ≤ s.now) with
    | some p => witnessAnswer s p false 0 0
    | none => s)

/-- Two answers of a round disagree (R445). -/
def disagree (as_ : List WAnswer) : Bool := as_.any fun a => as_.any fun b => a.alive != b.alive || a.role != b.role

/-- A received ANSWER to the latest query, from one of the witnesses (R444, R445, Table 16.6). -/
def answerHeard (s : State) (sender : Nat) (b : List Byte) : State :=
  if b.length ≠ 8 ∨ fld b 0 4 ≠ s.twin.queryNo ∨ !(s.twin.witnesses.any fun w => w.addr == sender) ∨
      !(asking s || s.twin.role == .active) then s
  else
    let a : WAnswer := { addr := sender, alive := fld b 4 1 == 1, role := fld b 5 1, former := fld b 6 1 == 1 }
    let as_ := s.twin.answers.filter (fun x => x.addr != sender) ++ [a]
    let s := { s with twin := { s.twin with answers := as_ } }
    let s := if disagree as_ then s.twEvent 5 else s
    decide6 s ((as_.filter WAnswer.alive).map WAnswer.role) (as_.filter fun x => !x.alive).length

def execAnswer (f : TwinRx) (s : State) : Host.Outcome State Fault Refusal :=
  .next (ringIn s 0x34 f fun s => answerHeard s f.sender f.body)

end Sys2Proof.Machine
end

