-- ==== Sys2Proof/Machine/Receive.lean ====
section
/-! DEFINITION. FRAME_RECEIVE (12 R343): a frame goes through Machine/Switch.lean, and one that is delivered and carries
Jiosh or a twin frame does what that frame does. Frames of PTP and IP come as commands of their own (log 45). -/

namespace Sys2Proof.Machine

/-- What a row answers, as a state. -/
def nextOr (s : State) : Host.Outcome State Fault Refusal → State
  | .next t => t
  | _ => s

/-- A received twin frame from what lies behind its Ethertype, with its kind (16 Table 16.10). -/
def twinRxOf (p : List Byte) (sender : Nat) (secured : Bool) : Option (Nat × TwinRx) :=
  let n := fld p 4 2
  if p.length < 20 + n ∨ fld p 0 1 ≠ 1 ∨ 2000 < n then none
  else some (fld p 1 1,
    { seq := fld p 2 2, last := bitOf (fld p 6 1) 0, frag := fld p 7 1, time := fld p 8 8, body := sub p 16 n
      checkOk := decide ((crcIscsi (p.take (16 + n))).toNat = fld p (16 + n) 4), sender := sender, secured := secured })

/-- A twin frame on the twin link, by kind (16 Table 16.11). -/
def twinKind (s : State) (kind : Nat) (f : TwinRx) : State :=
  nextOr s (
    if kind = 0x01 then execRenew f s
    else if kind = 0x02 then execGrant f s
    else if kind = 0x03 then execRelease f s
    else if kind = 0x04 then execWithdraw f s
    else if kind = 0x05 then execHello f s
    else if kind = 0x06 then execHandover f s
    else if kind = 0x07 then execUnpair f s
    else if kind = 0x10 then execState f s
    else if kind = 0x11 then execVerdict f s
    else if kind = 0x12 then execResync f s
    else if kind = 0x13 then execHealth f s
    else if kind = 0x20 then execRelayDown f s
    else if kind = 0x21 then execRelayUp f s
    else .next s)

/-- A twin frame on the ring. -/
def witnessKind (s : State) (kind : Nat) (f : TwinRx) : State :=
  nextOr s (
    if kind = 0x30 then execOffer f s
    else if kind = 0x31 then execQuery f s
    else if kind = 0x32 then execProbe f s
    else if kind = 0x33 then execProbeReply f s
    else if kind = 0x34 then execAnswer f s
    else .next s)

/-- A frame delivered to the module. -/
def deliverFrame (s : State) (p : Nat) (secured : Bool) (b : List Byte) : State :=
  let t := innerType b
  if t = s.rfield rTwEther 0 16 ∧ p < 3 then
    match twinRxOf (framePayload b) (fSrc b) secured with
    | some (k, f) => if p = 2 then twinKind s k f else witnessKind s k f
    | none => s
  else if t = s.rfield rPfJiosh 0 16 then
    if 4 ≤ p then (if fieldOpen s p then jField s p (framePayload b) false else s)
    else if p < 2 then jRing s (fSrc b) (secured && securedWith s p (fSrc b)) (framePayload b)
    else s
  else s

/-- FRAME_RECEIVE (R343). -/
def execFrameReceive (port : Nat) (f : RxFrame) (s : State) : Host.Outcome State Fault Refusal :=
  .next (
    let secured := (s.port port).macsec.isSome && f.macsec == .ok
    match frameIn s port f with
    | (some b, s) => deliverFrame s port secured b
    | (none, s) => s)

end Sys2Proof.Machine
end

