-- ==== Sys2Proof/Machine/Thyme.lean ====
section
/-! DEFINITION. Thyme's instructions as commands: the running task executes the word at its PC (06 Tables 6.5 to 6.12;
07 R202 to R209). Each meaning is the shared step of Machine/ThymeRun.lean at its opcode and its operation. -/

namespace Sys2Proof.Machine

/-- NOP (0x00). -/
def execThNop (s : State) : Host.Outcome State Fault Refusal := .next (execWord 0x00 opNop s)

/-- LD (0x01). -/
def execThLd (s : State) : Host.Outcome State Fault Refusal := .next (execWord 0x01 opLd s)

/-- LDN (0x02). -/
def execThLdn (s : State) : Host.Outcome State Fault Refusal := .next (execWord 0x02 opLdn s)

/-- AND (0x03). -/
def execThAnd (s : State) : Host.Outcome State Fault Refusal := .next (execWord 0x03 opAnd s)

/-- ANDN (0x04). -/
def execThAndn (s : State) : Host.Outcome State Fault Refusal := .next (execWord 0x04 opAndn s)

/-- OR (0x05). -/
def execThOr (s : State) : Host.Outcome State Fault Refusal := .next (execWord 0x05 opOr s)

/-- ORN (0x06). -/
def execThOrn (s : State) : Host.Outcome State Fault Refusal := .next (execWord 0x06 opOrn s)

/-- XOR (0x07). -/
def execThXor (s : State) : Host.Outcome State Fault Refusal := .next (execWord 0x07 opXor s)

/-- XORN (0x08). -/
def execThXorn (s : State) : Host.Outcome State Fault Refusal := .next (execWord 0x08 opXorn s)

/-- ST (0x09). -/
def execThSt (s : State) : Host.Outcome State Fault Refusal := .next (execWord 0x09 opSt s)

/-- STN (0x0A). -/
def execThStn (s : State) : Host.Outcome State Fault Refusal := .next (execWord 0x0A opStn s)

/-- SET (0x0B). -/
def execThSet (s : State) : Host.Outcome State Fault Refusal := .next (execWord 0x0B opSet s)

/-- RST (0x0C). -/
def execThRst (s : State) : Host.Outcome State Fault Refusal := .next (execWord 0x0C opRst s)

/-- NOTA (0x0D). -/
def execThNota (s : State) : Host.Outcome State Fault Refusal := .next (execWord 0x0D opNota s)

/-- SETA (0x0E). -/
def execThSeta (s : State) : Host.Outcome State Fault Refusal := .next (execWord 0x0E opSeta s)

/-- CLRA (0x0F). -/
def execThClra (s : State) : Host.Outcome State Fault Refusal := .next (execWord 0x0F opClra s)

/-- ANDB (0x10). -/
def execThAndb (s : State) : Host.Outcome State Fault Refusal := .next (execWord 0x10 opAndb s)

/-- ORB (0x11). -/
def execThOrb (s : State) : Host.Outcome State Fault Refusal := .next (execWord 0x11 opOrb s)

/-- XORB (0x12). -/
def execThXorb (s : State) : Host.Outcome State Fault Refusal := .next (execWord 0x12 opXorb s)

/-- CLOSE (0x13). -/
def execThClose (s : State) : Host.Outcome State Fault Refusal := .next (execWord 0x13 opClose s)

/-- PUSH (0x14). -/
def execThPush (s : State) : Host.Outcome State Fault Refusal := .next (execWord 0x14 opPush s)

/-- READ (0x15). -/
def execThRead (s : State) : Host.Outcome State Fault Refusal := .next (execWord 0x15 opRead s)

/-- POP (0x16). -/
def execThPop (s : State) : Host.Outcome State Fault Refusal := .next (execWord 0x16 opPop s)

/-- EDGP (0x18). -/
def execThEdgp (s : State) : Host.Outcome State Fault Refusal := .next (execWord 0x18 opEdgp s)

/-- EDGN (0x19). -/
def execThEdgn (s : State) : Host.Outcome State Fault Refusal := .next (execWord 0x19 opEdgn s)

/-- TON (0x1A). -/
def execThTon (s : State) : Host.Outcome State Fault Refusal := .next (execWord 0x1A opTon s)

/-- TOF (0x1B). -/
def execThTof (s : State) : Host.Outcome State Fault Refusal := .next (execWord 0x1B opTof s)

/-- TP (0x1C). -/
def execThTp (s : State) : Host.Outcome State Fault Refusal := .next (execWord 0x1C opTp s)

/-- TET (0x1D). -/
def execThTet (s : State) : Host.Outcome State Fault Refusal := .next (execWord 0x1D opTet s)

/-- CTU (0x1E). -/
def execThCtu (s : State) : Host.Outcome State Fault Refusal := .next (execWord 0x1E opCtu s)

/-- CTD (0x1F). -/
def execThCtd (s : State) : Host.Outcome State Fault Refusal := .next (execWord 0x1F opCtd s)

/-- CRST (0x20). -/
def execThCrst (s : State) : Host.Outcome State Fault Refusal := .next (execWord 0x20 opCrst s)

/-- CLD (0x21). -/
def execThCld (s : State) : Host.Outcome State Fault Refusal := .next (execWord 0x21 opCld s)

/-- TCV (0x22). -/
def execThTcv (s : State) : Host.Outcome State Fault Refusal := .next (execWord 0x22 opTcv s)

/-- LDW (0x28). -/
def execThLdw (s : State) : Host.Outcome State Fault Refusal := .next (execWord 0x28 opLdw s)

/-- LDB (0x29). -/
def execThLdb (s : State) : Host.Outcome State Fault Refusal := .next (execWord 0x29 opLdb s)

/-- LDWH (0x2A). -/
def execThLdwh (s : State) : Host.Outcome State Fault Refusal := .next (execWord 0x2A opLdwh s)

/-- STW (0x2B). -/
def execThStw (s : State) : Host.Outcome State Fault Refusal := .next (execWord 0x2B opStw s)

/-- STWC (0x2C). -/
def execThStwc (s : State) : Host.Outcome State Fault Refusal := .next (execWord 0x2C opStwc s)

/-- LDQ (0x2D). -/
def execThLdq (s : State) : Host.Outcome State Fault Refusal := .next (execWord 0x2D opLdq s)

/-- LDQB (0x2E). -/
def execThLdqb (s : State) : Host.Outcome State Fault Refusal := .next (execWord 0x2E opLdqb s)

/-- LDIX (0x2F). -/
def execThLdix (s : State) : Host.Outcome State Fault Refusal := .next (execWord 0x2F opLdix s)

/-- LDW64 (0x30). -/
def execThLdw64 (s : State) : Host.Outcome State Fault Refusal := .next (execWord 0x30 opLdw64 s)

/-- STW64 (0x31). -/
def execThStw64 (s : State) : Host.Outcome State Fault Refusal := .next (execWord 0x31 opStw64 s)

/-- XCH (0x32). -/
def execThXch (s : State) : Host.Outcome State Fault Refusal := .next (execWord 0x32 opXch s)

/-- STNZ (0x33). -/
def execThStnz (s : State) : Host.Outcome State Fault Refusal := .next (execWord 0x33 opStnz s)

/-- ADD (0x38). -/
def execThAdd (s : State) : Host.Outcome State Fault Refusal := .next (execWord 0x38 opAdd s)

/-- SUB (0x39). -/
def execThSub (s : State) : Host.Outcome State Fault Refusal := .next (execWord 0x39 opSub s)

/-- MUL (0x3A). -/
def execThMul (s : State) : Host.Outcome State Fault Refusal := .next (execWord 0x3A opMul s)

/-- DIV (0x3B). -/
def execThDiv (s : State) : Host.Outcome State Fault Refusal := .next (execWord 0x3B opDiv s)

/-- MOD (0x3C). -/
def execThMod (s : State) : Host.Outcome State Fault Refusal := .next (execWord 0x3C opMod s)

/-- DIVU (0x3D). -/
def execThDivu (s : State) : Host.Outcome State Fault Refusal := .next (execWord 0x3D opDivu s)

/-- MODU (0x3E). -/
def execThModu (s : State) : Host.Outcome State Fault Refusal := .next (execWord 0x3E opModu s)

/-- NEG (0x3F). -/
def execThNeg (s : State) : Host.Outcome State Fault Refusal := .next (execWord 0x3F opNeg s)

/-- ABS (0x40). -/
def execThAbs (s : State) : Host.Outcome State Fault Refusal := .next (execWord 0x40 opAbs s)

/-- ANDW (0x41). -/
def execThAndw (s : State) : Host.Outcome State Fault Refusal := .next (execWord 0x41 opAndw s)

/-- ORW (0x42). -/
def execThOrw (s : State) : Host.Outcome State Fault Refusal := .next (execWord 0x42 opOrw s)

/-- XORW (0x43). -/
def execThXorw (s : State) : Host.Outcome State Fault Refusal := .next (execWord 0x43 opXorw s)

/-- NOTW (0x44). -/
def execThNotw (s : State) : Host.Outcome State Fault Refusal := .next (execWord 0x44 opNotw s)

/-- SHL (0x45). -/
def execThShl (s : State) : Host.Outcome State Fault Refusal := .next (execWord 0x45 opShl s)

/-- SHR (0x46). -/
def execThShr (s : State) : Host.Outcome State Fault Refusal := .next (execWord 0x46 opShr s)

/-- SAR (0x47). -/
def execThSar (s : State) : Host.Outcome State Fault Refusal := .next (execWord 0x47 opSar s)

/-- ROL (0x48). -/
def execThRol (s : State) : Host.Outcome State Fault Refusal := .next (execWord 0x48 opRol s)

/-- ADD64 (0x50). -/
def execThAdd64 (s : State) : Host.Outcome State Fault Refusal := .next (execWord 0x50 opAdd64 s)

/-- SUB64 (0x51). -/
def execThSub64 (s : State) : Host.Outcome State Fault Refusal := .next (execWord 0x51 opSub64 s)

/-- MUL64 (0x52). -/
def execThMul64 (s : State) : Host.Outcome State Fault Refusal := .next (execWord 0x52 opMul64 s)

/-- DIV64 (0x53). -/
def execThDiv64 (s : State) : Host.Outcome State Fault Refusal := .next (execWord 0x53 opDiv64 s)

/-- MOD64 (0x54). -/
def execThMod64 (s : State) : Host.Outcome State Fault Refusal := .next (execWord 0x54 opMod64 s)

/-- ADDF (0x58). -/
def execThAddf (s : State) : Host.Outcome State Fault Refusal := .next (execWord 0x58 opAddf s)

/-- SUBF (0x59). -/
def execThSubf (s : State) : Host.Outcome State Fault Refusal := .next (execWord 0x59 opSubf s)

/-- MULF (0x5A). -/
def execThMulf (s : State) : Host.Outcome State Fault Refusal := .next (execWord 0x5A opMulf s)

/-- DIVF (0x5B). -/
def execThDivf (s : State) : Host.Outcome State Fault Refusal := .next (execWord 0x5B opDivf s)

/-- SQRTF (0x5C). -/
def execThSqrtf (s : State) : Host.Outcome State Fault Refusal := .next (execWord 0x5C opSqrtf s)

/-- ABSF (0x5D). -/
def execThAbsf (s : State) : Host.Outcome State Fault Refusal := .next (execWord 0x5D opAbsf s)

/-- NEGF (0x5E). -/
def execThNegf (s : State) : Host.Outcome State Fault Refusal := .next (execWord 0x5E opNegf s)

/-- ADDD (0x60). -/
def execThAddd (s : State) : Host.Outcome State Fault Refusal := .next (execWord 0x60 opAddd s)

/-- SUBD (0x61). -/
def execThSubd (s : State) : Host.Outcome State Fault Refusal := .next (execWord 0x61 opSubd s)

/-- MULD (0x62). -/
def execThMuld (s : State) : Host.Outcome State Fault Refusal := .next (execWord 0x62 opMuld s)

/-- DIVD (0x63). -/
def execThDivd (s : State) : Host.Outcome State Fault Refusal := .next (execWord 0x63 opDivd s)

/-- SQRTD (0x64). -/
def execThSqrtd (s : State) : Host.Outcome State Fault Refusal := .next (execWord 0x64 opSqrtd s)

/-- ITOF (0x68). -/
def execThItof (s : State) : Host.Outcome State Fault Refusal := .next (execWord 0x68 opItof s)

/-- UTOF (0x69). -/
def execThUtof (s : State) : Host.Outcome State Fault Refusal := .next (execWord 0x69 opUtof s)

/-- FTOI (0x6A). -/
def execThFtoi (s : State) : Host.Outcome State Fault Refusal := .next (execWord 0x6A opFtoi s)

/-- FTOD (0x6B). -/
def execThFtod (s : State) : Host.Outcome State Fault Refusal := .next (execWord 0x6B opFtod s)

/-- DTOF (0x6C). -/
def execThDtof (s : State) : Host.Outcome State Fault Refusal := .next (execWord 0x6C opDtof s)

/-- ITOL (0x6D). -/
def execThItol (s : State) : Host.Outcome State Fault Refusal := .next (execWord 0x6D opItol s)

/-- LTOD (0x6E). -/
def execThLtod (s : State) : Host.Outcome State Fault Refusal := .next (execWord 0x6E opLtod s)

/-- DTOL (0x6F). -/
def execThDtol (s : State) : Host.Outcome State Fault Refusal := .next (execWord 0x6F opDtol s)

/-- CMPI (0x70). -/
def execThCmpi (s : State) : Host.Outcome State Fault Refusal := .next (execWord 0x70 opCmpi s)

/-- CMPU (0x71). -/
def execThCmpu (s : State) : Host.Outcome State Fault Refusal := .next (execWord 0x71 opCmpu s)

/-- CMPF (0x72). -/
def execThCmpf (s : State) : Host.Outcome State Fault Refusal := .next (execWord 0x72 opCmpf s)

/-- CMPL (0x73). -/
def execThCmpl (s : State) : Host.Outcome State Fault Refusal := .next (execWord 0x73 opCmpl s)

/-- CMPD (0x74). -/
def execThCmpd (s : State) : Host.Outcome State Fault Refusal := .next (execWord 0x74 opCmpd s)

/-- JMP (0x78). -/
def execThJmp (s : State) : Host.Outcome State Fault Refusal := .next (execWord 0x78 opJmp s)

/-- JT (0x79). -/
def execThJt (s : State) : Host.Outcome State Fault Refusal := .next (execWord 0x79 opJt s)

/-- JF (0x7A). -/
def execThJf (s : State) : Host.Outcome State Fault Refusal := .next (execWord 0x7A opJf s)

/-- CALL (0x7B). -/
def execThCall (s : State) : Host.Outcome State Fault Refusal := .next (execWord 0x7B opCall s)

/-- RET (0x7C). -/
def execThRet (s : State) : Host.Outcome State Fault Refusal := .next (execWord 0x7C opRet s)

/-- END (0x7D): the cycle ends and its scatter follows (06 R189). -/
def execThEnd (s : State) : Host.Outcome State Fault Refusal :=
  let s := if s.running iTHY then dispatch s else s
  .next (match fetch s 0x7D with
    | some (t, l, _, _) => endCycle s t l
    | none => s)

/-- CLRV (0x7F). -/
def execThClrv (s : State) : Host.Outcome State Fault Refusal := .next (execWord 0x7F opClrv s)

end Sys2Proof.Machine
end

