-- ==== Sys2Proof/Machine/Dispatch.lean ====
section
/-! DEFINITION. The dispatch: one arm per command, in the table's order, each one direct call of that command's
meaning. -/

namespace Sys2Proof.Machine

/-- What a command does to everything but the queue. -/
def exec (i : Instr) (s : State) : Host.Outcome State Fault Refusal :=
  match i with
  | .systemInfo r tag => Sys2Proof.Machine.execSystemInfo r tag s
  | .mailboxBind r tag => Sys2Proof.Machine.execMailboxBind r tag s
  | .netConfig r tag => Sys2Proof.Machine.execNetConfig r tag s
  | .systemReset r tag => Sys2Proof.Machine.execSystemReset r tag s
  | .systemResetStart => Sys2Proof.Machine.execSystemResetStart s
  | .pointRead r tag => Sys2Proof.Machine.execPointRead r tag s
  | .pointWrite r tag => Sys2Proof.Machine.execPointWrite r tag s
  | .pointDefine r tag => Sys2Proof.Machine.execPointDefine r tag s
  | .pointUndefine r tag => Sys2Proof.Machine.execPointUndefine r tag s
  | .pointClaim r tag => Sys2Proof.Machine.execPointClaim r tag s
  | .pointRelease r tag => Sys2Proof.Machine.execPointRelease r tag s
  | .forceSet r tag => Sys2Proof.Machine.execForceSet r tag s
  | .forceClear r tag => Sys2Proof.Machine.execForceClear r tag s
  | .forceList r tag => Sys2Proof.Machine.execForceList r tag s
  | .shareSet r tag => Sys2Proof.Machine.execShareSet r tag s
  | .shareDelete r tag => Sys2Proof.Machine.execShareDelete r tag s
  | .shareLink r tag => Sys2Proof.Machine.execShareLink r tag s
  | .sliceSet r tag => Sys2Proof.Machine.execSliceSet r tag s
  | .sliceList r tag => Sys2Proof.Machine.execSliceList r tag s
  | .programLoad r tag => Sys2Proof.Machine.execProgramLoad r tag s
  | .programLoadChecked => Sys2Proof.Machine.execProgramLoadChecked s
  | .programStatus r tag => Sys2Proof.Machine.execProgramStatus r tag s
  | .programExchange r tag => Sys2Proof.Machine.execProgramExchange r tag s
  | .programRun r tag => Sys2Proof.Machine.execProgramRun r tag s
  | .programUnload r tag => Sys2Proof.Machine.execProgramUnload r tag s
  | .loopTableLoad r tag => Sys2Proof.Machine.execLoopTableLoad r tag s
  | .loopEnable r tag => Sys2Proof.Machine.execLoopEnable r tag s
  | .loopStatus r tag => Sys2Proof.Machine.execLoopStatus r tag s
  | .traceConfig r tag => Sys2Proof.Machine.execTraceConfig r tag s
  | .traceRead r tag => Sys2Proof.Machine.execTraceRead r tag s
  | .meterRead r tag => Sys2Proof.Machine.execMeterRead r tag s
  | .circuitMap r tag => Sys2Proof.Machine.execCircuitMap r tag s
  | .calibrationLoad r tag => Sys2Proof.Machine.execCalibrationLoad r tag s
  | .accConfig r tag => Sys2Proof.Machine.execAccConfig r tag s
  | .apportionSet r tag => Sys2Proof.Machine.execApportionSet r tag s
  | .spillConfig r tag => Sys2Proof.Machine.execSpillConfig r tag s
  | .demandRead r tag => Sys2Proof.Machine.execDemandRead r tag s
  | .instantRead r tag => Sys2Proof.Machine.execInstantRead r tag s
  | .seriesDefine r tag => Sys2Proof.Machine.execSeriesDefine r tag s
  | .seriesDelete r tag => Sys2Proof.Machine.execSeriesDelete r tag s
  | .recorderRead r tag => Sys2Proof.Machine.execRecorderRead r tag s
  | .seriesClear r tag => Sys2Proof.Machine.execSeriesClear r tag s
  | .recorderStatus r tag => Sys2Proof.Machine.execRecorderStatus r tag s
  | .timeRead r tag => Sys2Proof.Machine.execTimeRead r tag s
  | .ptpConfig r tag => Sys2Proof.Machine.execPtpConfig r tag s
  | .ppsConfig r tag => Sys2Proof.Machine.execPpsConfig r tag s
  | .calRead r tag => Sys2Proof.Machine.execCalRead r tag s
  | .calSet r tag => Sys2Proof.Machine.execCalSet r tag s
  | .alarmSet r tag => Sys2Proof.Machine.execAlarmSet r tag s
  | .trimSet r tag => Sys2Proof.Machine.execTrimSet r tag s
  | .backupRead r tag => Sys2Proof.Machine.execBackupRead r tag s
  | .backupWrite r tag => Sys2Proof.Machine.execBackupWrite r tag s
  | .portStatus r tag => Sys2Proof.Machine.execPortStatus r tag s
  | .portConfig r tag => Sys2Proof.Machine.execPortConfig r tag s
  | .portCounters r tag => Sys2Proof.Machine.execPortCounters r tag s
  | .gateListLoad r tag => Sys2Proof.Machine.execGateListLoad r tag s
  | .deviceTable r tag => Sys2Proof.Machine.execDeviceTable r tag s
  | .ringTables r tag => Sys2Proof.Machine.execRingTables r tag s
  | .macsecConfig r tag => Sys2Proof.Machine.execMacsecConfig r tag s
  | .busConfig r tag => Sys2Proof.Machine.execBusConfig r tag s
  | .busConfigApply ch => Sys2Proof.Machine.execBusConfigApply ch s
  | .busObjectSet r tag => Sys2Proof.Machine.execBusObjectSet r tag s
  | .busStatus r tag => Sys2Proof.Machine.execBusStatus r tag s
  | .busSleep r tag => Sys2Proof.Machine.execBusSleep r tag s
  | .busSleepEntry ch => Sys2Proof.Machine.execBusSleepEntry ch s
  | .twinStatus r tag => Sys2Proof.Machine.execTwinStatus r tag s
  | .twinHealth r tag => Sys2Proof.Machine.execTwinHealth r tag s
  | .twinConfig r tag => Sys2Proof.Machine.execTwinConfig r tag s
  | .twinHandover r tag => Sys2Proof.Machine.execTwinHandover r tag s
  | .witnessConfig r tag => Sys2Proof.Machine.execWitnessConfig r tag s
  | .tenantEnrol r tag => Sys2Proof.Machine.execTenantEnrol r tag s
  | .tenantRemove r tag => Sys2Proof.Machine.execTenantRemove r tag s
  | .keyImport r tag => Sys2Proof.Machine.execKeyImport r tag s
  | .keyDelete r tag => Sys2Proof.Machine.execKeyDelete r tag s
  | .keyList r tag => Sys2Proof.Machine.execKeyList r tag s
  | .attest r tag => Sys2Proof.Machine.execAttest r tag s
  | .debugEnable r tag => Sys2Proof.Machine.execDebugEnable r tag s
  | .keyEncrypt r tag => Sys2Proof.Machine.execKeyEncrypt r tag s
  | .keyDecrypt r tag => Sys2Proof.Machine.execKeyDecrypt r tag s
  | .keyWrap r tag => Sys2Proof.Machine.execKeyWrap r tag s
  | .keyUnwrap r tag => Sys2Proof.Machine.execKeyUnwrap r tag s
  | .keyDerive r tag => Sys2Proof.Machine.execKeyDerive r tag s
  | .updateBegin r tag => Sys2Proof.Machine.execUpdateBegin r tag s
  | .updateSegment r tag => Sys2Proof.Machine.execUpdateSegment r tag s
  | .updateFinalChecked => Sys2Proof.Machine.execUpdateFinalChecked s
  | .updateActivate r tag => Sys2Proof.Machine.execUpdateActivate r tag s
  | .updateConfirm r tag => Sys2Proof.Machine.execUpdateConfirm r tag s
  | .updateFallback r tag => Sys2Proof.Machine.execUpdateFallback r tag s
  | .updateStatus r tag => Sys2Proof.Machine.execUpdateStatus r tag s
  | .sensorsRead r tag => Sys2Proof.Machine.execSensorsRead r tag s
  | .faultLogRead r tag => Sys2Proof.Machine.execFaultLogRead r tag s
  | .powerConfig r tag => Sys2Proof.Machine.execPowerConfig r tag s
  | .fieldPower r tag => Sys2Proof.Machine.execFieldPower r tag s
  | .islandControl r tag => Sys2Proof.Machine.execIslandControl r tag s
  | .factoryReset r tag => Sys2Proof.Machine.execFactoryReset r tag s
  | .blockRead r tag => Sys2Proof.Machine.execBlockRead r tag s
  | .blockWrite r tag => Sys2Proof.Machine.execBlockWrite r tag s
  | .transferTimeout code => Sys2Proof.Machine.execTransferTimeout code s
  | .spiWrite addr data => Sys2Proof.Machine.execSpiWrite addr data s
  | .spiRead addr n => Sys2Proof.Machine.execSpiRead addr n s
  | .writeQuad addr data => Sys2Proof.Machine.execWriteQuad addr data s
  | .readQuad addr n => Sys2Proof.Machine.execReadQuad addr n s
  | .spiStatus n => Sys2Proof.Machine.execSpiStatus n s
  | .spiIdent => Sys2Proof.Machine.execSpiIdent s
  | .mbDoorbellWrite by_ value => Sys2Proof.Machine.execMbDoorbellWrite by_ value s
  | .sessionHello n body => Sys2Proof.Machine.execSessionHello n body s
  | .sessionAccept n body => Sys2Proof.Machine.execSessionAccept n body s
  | .sessionProof n body => Sys2Proof.Machine.execSessionProof n body s
  | .sessionRecord n body => Sys2Proof.Machine.execSessionRecord n body s
  | .sessionIdleTimeout n => Sys2Proof.Machine.execSessionIdleTimeout n s
  | .sessionTcpClose n => Sys2Proof.Machine.execSessionTcpClose n s
  | .bacnetService n svc => Sys2Proof.Machine.execBacnetService n svc s
  | .crossingRequest q => Sys2Proof.Machine.execCrossingRequest q s
  | .crossingReply p => Sys2Proof.Machine.execCrossingReply p s
  | .epochNotice island receiver epoch => Sys2Proof.Machine.execEpochNotice island receiver epoch s
  | .slotFreedSend island target => Sys2Proof.Machine.execSlotFreedSend island target s
  | .slotReuseTimeout island target slot => Sys2Proof.Machine.execSlotReuseTimeout island target slot s
  | .islReqStateOff by_ island value => Sys2Proof.Machine.execIslReqStateOff by_ island value s
  | .islReqStateReset by_ island value => Sys2Proof.Machine.execIslReqStateReset by_ island value s
  | .islReqStateRun by_ island value => Sys2Proof.Machine.execIslReqStateRun by_ island value s
  | .islReqStateRetain by_ island value => Sys2Proof.Machine.execIslReqStateRetain by_ island value s
  | .islReqStateUpdate by_ island value => Sys2Proof.Machine.execIslReqStateUpdate by_ island value s
  | .drainEnd island => Sys2Proof.Machine.execDrainEnd island s
  | .resetRelease island => Sys2Proof.Machine.execResetRelease island s
  | .bootComplete island => Sys2Proof.Machine.execBootComplete island s
  | .bootTimeout island => Sys2Proof.Machine.execBootTimeout island s
  | .islandIdleEntry island => Sys2Proof.Machine.execIslandIdleEntry island s
  | .islandWake island => Sys2Proof.Machine.execIslandWake island s
  | .islandFaultEntry island cause localCause => Sys2Proof.Machine.execIslandFaultEntry island cause localCause s
  | .mgtFaultTimeout => Sys2Proof.Machine.execMgtFaultTimeout s
  | .autoRecovery island => Sys2Proof.Machine.execAutoRecovery island s
  | .clkRange island kHz => Sys2Proof.Machine.execClkRange island kHz s
  | .refclkLost => Sys2Proof.Machine.execRefclkLost s
  | .refclkReturn => Sys2Proof.Machine.execRefclkReturn s
  | .rcRead by_ addr => Sys2Proof.Machine.execRcRead by_ addr s
  | .registerWrite by_ addr value => Sys2Proof.Machine.execRegisterWrite by_ addr value s
  | .jioshReport port frame => Sys2Proof.Machine.execJioshReport port frame s
  | .jioshAnnounce port frame => Sys2Proof.Machine.execJioshAnnounce port frame s
  | .jioshAck port frame => Sys2Proof.Machine.execJioshAck port frame s
  | .jioshPeer port sender secured frame => Sys2Proof.Machine.execJioshPeer port sender secured frame s
  | .deviceStale port serial => Sys2Proof.Machine.execDeviceStale port serial s
  | .deviceAbsent port serial => Sys2Proof.Machine.execDeviceAbsent port serial s
  | .exportSend => Sys2Proof.Machine.execExportSend s
  | .fabricRead who pt => Sys2Proof.Machine.execFabricRead who pt s
  | .fabricWrite who pt type quality value time => Sys2Proof.Machine.execFabricWrite who pt type quality value time s
  | .imageGather => Sys2Proof.Machine.execImageGather s
  | .imageScatter => Sys2Proof.Machine.execImageScatter s
  | .scrubRead => Sys2Proof.Machine.execScrubRead s
  | .retentiveSave => Sys2Proof.Machine.execRetentiveSave s
  | .storeRestore => Sys2Proof.Machine.execStoreRestore s
  | .taskRelease t => Sys2Proof.Machine.execTaskRelease t s
  | .gatherComplete t status => Sys2Proof.Machine.execGatherComplete t status s
  | .scatterComplete t status => Sys2Proof.Machine.execScatterComplete t status s
  | .thNop => Sys2Proof.Machine.execThNop s
  | .thLd => Sys2Proof.Machine.execThLd s
  | .thLdn => Sys2Proof.Machine.execThLdn s
  | .thAnd => Sys2Proof.Machine.execThAnd s
  | .thAndn => Sys2Proof.Machine.execThAndn s
  | .thOr => Sys2Proof.Machine.execThOr s
  | .thOrn => Sys2Proof.Machine.execThOrn s
  | .thXor => Sys2Proof.Machine.execThXor s
  | .thXorn => Sys2Proof.Machine.execThXorn s
  | .thSt => Sys2Proof.Machine.execThSt s
  | .thStn => Sys2Proof.Machine.execThStn s
  | .thSet => Sys2Proof.Machine.execThSet s
  | .thRst => Sys2Proof.Machine.execThRst s
  | .thNota => Sys2Proof.Machine.execThNota s
  | .thSeta => Sys2Proof.Machine.execThSeta s
  | .thClra => Sys2Proof.Machine.execThClra s
  | .thAndb => Sys2Proof.Machine.execThAndb s
  | .thOrb => Sys2Proof.Machine.execThOrb s
  | .thXorb => Sys2Proof.Machine.execThXorb s
  | .thClose => Sys2Proof.Machine.execThClose s
  | .thPush => Sys2Proof.Machine.execThPush s
  | .thRead => Sys2Proof.Machine.execThRead s
  | .thPop => Sys2Proof.Machine.execThPop s
  | .thEdgp => Sys2Proof.Machine.execThEdgp s
  | .thEdgn => Sys2Proof.Machine.execThEdgn s
  | .thTon => Sys2Proof.Machine.execThTon s
  | .thTof => Sys2Proof.Machine.execThTof s
  | .thTp => Sys2Proof.Machine.execThTp s
  | .thTet => Sys2Proof.Machine.execThTet s
  | .thCtu => Sys2Proof.Machine.execThCtu s
  | .thCtd => Sys2Proof.Machine.execThCtd s
  | .thCrst => Sys2Proof.Machine.execThCrst s
  | .thCld => Sys2Proof.Machine.execThCld s
  | .thTcv => Sys2Proof.Machine.execThTcv s
  | .thLdw => Sys2Proof.Machine.execThLdw s
  | .thLdb => Sys2Proof.Machine.execThLdb s
  | .thLdwh => Sys2Proof.Machine.execThLdwh s
  | .thStw => Sys2Proof.Machine.execThStw s
  | .thStwc => Sys2Proof.Machine.execThStwc s
  | .thLdq => Sys2Proof.Machine.execThLdq s
  | .thLdqb => Sys2Proof.Machine.execThLdqb s
  | .thLdix => Sys2Proof.Machine.execThLdix s
  | .thLdw64 => Sys2Proof.Machine.execThLdw64 s
  | .thStw64 => Sys2Proof.Machine.execThStw64 s
  | .thXch => Sys2Proof.Machine.execThXch s
  | .thStnz => Sys2Proof.Machine.execThStnz s
  | .thAdd => Sys2Proof.Machine.execThAdd s
  | .thSub => Sys2Proof.Machine.execThSub s
  | .thMul => Sys2Proof.Machine.execThMul s
  | .thDiv => Sys2Proof.Machine.execThDiv s
  | .thMod => Sys2Proof.Machine.execThMod s
  | .thDivu => Sys2Proof.Machine.execThDivu s
  | .thModu => Sys2Proof.Machine.execThModu s
  | .thNeg => Sys2Proof.Machine.execThNeg s
  | .thAbs => Sys2Proof.Machine.execThAbs s
  | .thAndw => Sys2Proof.Machine.execThAndw s
  | .thOrw => Sys2Proof.Machine.execThOrw s
  | .thXorw => Sys2Proof.Machine.execThXorw s
  | .thNotw => Sys2Proof.Machine.execThNotw s
  | .thShl => Sys2Proof.Machine.execThShl s
  | .thShr => Sys2Proof.Machine.execThShr s
  | .thSar => Sys2Proof.Machine.execThSar s
  | .thRol => Sys2Proof.Machine.execThRol s
  | .thAdd64 => Sys2Proof.Machine.execThAdd64 s
  | .thSub64 => Sys2Proof.Machine.execThSub64 s
  | .thMul64 => Sys2Proof.Machine.execThMul64 s
  | .thDiv64 => Sys2Proof.Machine.execThDiv64 s
  | .thMod64 => Sys2Proof.Machine.execThMod64 s
  | .thAddf => Sys2Proof.Machine.execThAddf s
  | .thSubf => Sys2Proof.Machine.execThSubf s
  | .thMulf => Sys2Proof.Machine.execThMulf s
  | .thDivf => Sys2Proof.Machine.execThDivf s
  | .thSqrtf => Sys2Proof.Machine.execThSqrtf s
  | .thAbsf => Sys2Proof.Machine.execThAbsf s
  | .thNegf => Sys2Proof.Machine.execThNegf s
  | .thAddd => Sys2Proof.Machine.execThAddd s
  | .thSubd => Sys2Proof.Machine.execThSubd s
  | .thMuld => Sys2Proof.Machine.execThMuld s
  | .thDivd => Sys2Proof.Machine.execThDivd s
  | .thSqrtd => Sys2Proof.Machine.execThSqrtd s
  | .thItof => Sys2Proof.Machine.execThItof s
  | .thUtof => Sys2Proof.Machine.execThUtof s
  | .thFtoi => Sys2Proof.Machine.execThFtoi s
  | .thFtod => Sys2Proof.Machine.execThFtod s
  | .thDtof => Sys2Proof.Machine.execThDtof s
  | .thItol => Sys2Proof.Machine.execThItol s
  | .thLtod => Sys2Proof.Machine.execThLtod s
  | .thDtol => Sys2Proof.Machine.execThDtol s
  | .thCmpi => Sys2Proof.Machine.execThCmpi s
  | .thCmpu => Sys2Proof.Machine.execThCmpu s
  | .thCmpf => Sys2Proof.Machine.execThCmpf s
  | .thCmpl => Sys2Proof.Machine.execThCmpl s
  | .thCmpd => Sys2Proof.Machine.execThCmpd s
  | .thJmp => Sys2Proof.Machine.execThJmp s
  | .thJt => Sys2Proof.Machine.execThJt s
  | .thJf => Sys2Proof.Machine.execThJf s
  | .thCall => Sys2Proof.Machine.execThCall s
  | .thRet => Sys2Proof.Machine.execThRet s
  | .thEnd => Sys2Proof.Machine.execThEnd s
  | .thClrv => Sys2Proof.Machine.execThClrv s
  | .thCtrlRunWrite by_ value => Sys2Proof.Machine.execThCtrlRunWrite by_ value s
  | .groupRelease g => Sys2Proof.Machine.execGroupRelease g s
  | .loopSample g => Sys2Proof.Machine.execLoopSample g s
  | .loopEvaluate g => Sys2Proof.Machine.execLoopEvaluate g s
  | .loopSecondBitWrite loop => Sys2Proof.Machine.execLoopSecondBitWrite loop s
  | .afeFrame bytes => Sys2Proof.Machine.execAfeFrame bytes s
  | .afeLinkTimeout => Sys2Proof.Machine.execAfeLinkTimeout s
  | .totalsSave => Sys2Proof.Machine.execTotalsSave s
  | .saveNow by_ value => Sys2Proof.Machine.execSaveNow by_ value s
  | .snap by_ value => Sys2Proof.Machine.execSnap by_ value s
  | .ackWrap by_ value => Sys2Proof.Machine.execAckWrap by_ value s
  | .ackFail by_ value => Sys2Proof.Machine.execAckFail by_ value s
  | .demandBoundary => Sys2Proof.Machine.execDemandBoundary s
  | .spillPulseStart o => Sys2Proof.Machine.execSpillPulseStart o s
  | .spillPulseEnd o => Sys2Proof.Machine.execSpillPulseEnd o s
  | .pulseAccepted k level => Sys2Proof.Machine.execPulseAccepted k level s
  | .pulsePointWrite => Sys2Proof.Machine.execPulsePointWrite s
  | .totalsRestore => Sys2Proof.Machine.execTotalsRestore s
  | .harvestSample => Sys2Proof.Machine.execHarvestSample s
  | .harvestClose => Sys2Proof.Machine.execHarvestClose s
  | .hvWselWrite by_ w value => Sys2Proof.Machine.execHvWselWrite by_ w value s
  | .hvWdataRead by_ w => Sys2Proof.Machine.execHvWdataRead by_ w s
  | .dropHistory by_ value => Sys2Proof.Machine.execDropHistory by_ value s
  | .frameReceive port f => Sys2Proof.Machine.execFrameReceive port f s
  | .frameTransmit port => Sys2Proof.Machine.execFrameTransmit port s
  | .addressAgeOut mac => Sys2Proof.Machine.execAddressAgeOut mac s
  | .ucLookup by_ value => Sys2Proof.Machine.execUcLookup by_ value s
  | .ucWrite by_ value => Sys2Proof.Machine.execUcWrite by_ value s
  | .ucDelete by_ value => Sys2Proof.Machine.execUcDelete by_ value s
  | .ucRead by_ value => Sys2Proof.Machine.execUcRead by_ value s
  | .flushDyn by_ value => Sys2Proof.Machine.execFlushDyn by_ value s
  | .gateListChange port => Sys2Proof.Machine.execGateListChange port s
  | .gateEntryChange port => Sys2Proof.Machine.execGateEntryChange port s
  | .pauseEnd port => Sys2Proof.Machine.execPauseEnd port s
  | .hsrSupervision => Sys2Proof.Machine.execHsrSupervision s
  | .hsrDuplicateExpiry => Sys2Proof.Machine.execHsrDuplicateExpiry s
  | .hsrNodeForget mac => Sys2Proof.Machine.execHsrNodeForget mac s
  | .linkUp port => Sys2Proof.Machine.execLinkUp port s
  | .linkDown port => Sys2Proof.Machine.execLinkDown port s
  | .bypassClose => Sys2Proof.Machine.execBypassClose s
  | .bypassOpen => Sys2Proof.Machine.execBypassOpen s
  | .sync m => Sys2Proof.Machine.execSync m s
  | .followUp m => Sys2Proof.Machine.execFollowUp m s
  | .pdelayReq m => Sys2Proof.Machine.execPdelayReq m s
  | .pdelayResp m => Sys2Proof.Machine.execPdelayResp m s
  | .pdelayRespFollowUp m => Sys2Proof.Machine.execPdelayRespFollowUp m s
  | .announce m => Sys2Proof.Machine.execAnnounce m s
  | .signaling m => Sys2Proof.Machine.execSignaling m s
  | .syncSend port => Sys2Proof.Machine.execSyncSend port s
  | .announceSend port => Sys2Proof.Machine.execAnnounceSend port s
  | .pdelayReqSend port => Sys2Proof.Machine.execPdelayReqSend port s
  | .syncTimeout => Sys2Proof.Machine.execSyncTimeout s
  | .announceTimeout => Sys2Proof.Machine.execAnnounceTimeout s
  | .ppsInEdge stamp widthNs => Sys2Proof.Machine.execPpsInEdge stamp widthNs s
  | .ppsInLost => Sys2Proof.Machine.execPpsInLost s
  | .ppsOutRise => Sys2Proof.Machine.execPpsOutRise s
  | .ppsOutFall => Sys2Proof.Machine.execPpsOutFall s
  | .tuCmpWrite by_ k value => Sys2Proof.Machine.execTuCmpWrite by_ k value s
  | .compareFire k => Sys2Proof.Machine.execCompareFire k s
  | .timeLatchRead by_ => Sys2Proof.Machine.execTimeLatchRead by_ s
  | .calendarTick => Sys2Proof.Machine.execCalendarTick s
  | .trimWindow => Sys2Proof.Machine.execTrimWindow s
  | .trimCorrection => Sys2Proof.Machine.execTrimCorrection s
  | .haltSet by_ value => Sys2Proof.Machine.execHaltSet by_ value s
  | .haltRelease by_ value => Sys2Proof.Machine.execHaltRelease by_ value s
  | .alTimeWrite by_ value => Sys2Proof.Machine.execAlTimeWrite by_ value s
  | .alDateWrite by_ value => Sys2Proof.Machine.execAlDateWrite by_ value s
  | .alTimeRead by_ => Sys2Proof.Machine.execAlTimeRead by_ s
  | .alAlarmWrite by_ addr value => Sys2Proof.Machine.execAlAlarmWrite by_ addr value s
  | .alBkpWrite by_ w value => Sys2Proof.Machine.execAlBkpWrite by_ w value s
  | .backupCheck => Sys2Proof.Machine.execBackupCheck s
  | .calendarSync => Sys2Proof.Machine.execCalendarSync s
  | .vaonLow => Sys2Proof.Machine.execVaonLow s
  | .vbatSwitch => Sys2Proof.Machine.execVbatSwitch s
  | .vaonReturn => Sys2Proof.Machine.execVaonReturn s
  | .coreLost => Sys2Proof.Machine.execCoreLost s
  | .busFrameReceive ch f => Sys2Proof.Machine.execBusFrameReceive ch f s
  | .busTxAttemptEnd ch object outcome => Sys2Proof.Machine.execBusTxAttemptEnd ch object outcome s
  | .busPeriodRequest ch object => Sys2Proof.Machine.execBusPeriodRequest ch object s
  | .bcTxreqWrite by_ ch value => Sys2Proof.Machine.execBcTxreqWrite by_ ch value s
  | .bcTxabortWrite by_ ch value => Sys2Proof.Machine.execBcTxabortWrite by_ ch value s
  | .bcRxackWrite by_ ch value => Sys2Proof.Machine.execBcRxackWrite by_ ch value s
  | .recover by_ ch value => Sys2Proof.Machine.execRecover by_ ch value s
  | .busOffRecovered ch => Sys2Proof.Machine.execBusOffRecovered ch s
  | .busWakeEdge ch => Sys2Proof.Machine.execBusWakeEdge ch s
  | .busWakeFrame ch seen => Sys2Proof.Machine.execBusWakeFrame ch seen s
  | .renewSend => Sys2Proof.Machine.execRenewSend s
  | .renew f => Sys2Proof.Machine.execRenew f s
  | .grant f => Sys2Proof.Machine.execGrant f s
  | .leaseInEdge => Sys2Proof.Machine.execLeaseInEdge s
  | .leaseBurst => Sys2Proof.Machine.execLeaseBurst s
  | .grantLow => Sys2Proof.Machine.execGrantLow s
  | .grantGuardEnd => Sys2Proof.Machine.execGrantGuardEnd s
  | .release f => Sys2Proof.Machine.execRelease f s
  | .takeover => Sys2Proof.Machine.execTakeover s
  | .withdraw f => Sys2Proof.Machine.execWithdraw f s
  | .selfDiagnosis cause island => Sys2Proof.Machine.execSelfDiagnosis cause island s
  | .helloSend => Sys2Proof.Machine.execHelloSend s
  | .hello f => Sys2Proof.Machine.execHello f s
  | .helloTimeout => Sys2Proof.Machine.execHelloTimeout s
  | .handover f => Sys2Proof.Machine.execHandover f s
  | .handoverBoundary => Sys2Proof.Machine.execHandoverBoundary s
  | .unpair f => Sys2Proof.Machine.execUnpair f s
  | .state f => Sys2Proof.Machine.execState f s
  | .journalShip => Sys2Proof.Machine.execJournalShip s
  | .verdict f => Sys2Proof.Machine.execVerdict f s
  | .resync f => Sys2Proof.Machine.execResync f s
  | .fullTransferDone => Sys2Proof.Machine.execFullTransferDone s
  | .healthSend => Sys2Proof.Machine.execHealthSend s
  | .health f => Sys2Proof.Machine.execHealth f s
  | .knownAnswerTest passed => Sys2Proof.Machine.execKnownAnswerTest passed s
  | .twinLinkDown => Sys2Proof.Machine.execTwinLinkDown s
  | .relayDown f => Sys2Proof.Machine.execRelayDown f s
  | .relayUp f => Sys2Proof.Machine.execRelayUp f s
  | .offerSend => Sys2Proof.Machine.execOfferSend s
  | .offer f => Sys2Proof.Machine.execOffer f s
  | .querySend => Sys2Proof.Machine.execQuerySend s
  | .query f => Sys2Proof.Machine.execQuery f s
  | .probe f => Sys2Proof.Machine.execProbe f s
  | .probeReply f => Sys2Proof.Machine.execProbeReply f s
  | .probeTimeout number => Sys2Proof.Machine.execProbeTimeout number s
  | .answer f => Sys2Proof.Machine.execAnswer f s
  | .moduleStart vinMv => Sys2Proof.Machine.execModuleStart vinMv s
  | .startComplete => Sys2Proof.Machine.execStartComplete s
  | .resetNAssert => Sys2Proof.Machine.execResetNAssert s
  | .pwrWarnAssert vinMv => Sys2Proof.Machine.execPwrWarnAssert vinMv s
  | .warningSaveDone us => Sys2Proof.Machine.execWarningSaveDone us s
  | .pwrWarnRelease vinMv vstoreMv => Sys2Proof.Machine.execPwrWarnRelease vinMv vstoreMv s
  | .holdupEnd => Sys2Proof.Machine.execHoldupEnd s
  | .holdupMeasure microfarad => Sys2Proof.Machine.execHoldupMeasure microfarad s
  | .fuseTrip n => Sys2Proof.Machine.execFuseTrip n s
  | .fuseRetry n found => Sys2Proof.Machine.execFuseRetry n found s
  | .fieldOvercurrent => Sys2Proof.Machine.execFieldOvercurrent s
  | .portPowerUp n found => Sys2Proof.Machine.execPortPowerUp n found s
  | .fieldLost => Sys2Proof.Machine.execFieldLost s
  | .fieldReturn => Sys2Proof.Machine.execFieldReturn s
  | .sensorSample reading => Sys2Proof.Machine.execSensorSample reading s
  | .thermalShutdown => Sys2Proof.Machine.execThermalShutdown s
  | .faultLogFlush => Sys2Proof.Machine.execFaultLogFlush s
  | .vigilSource sources => Sys2Proof.Machine.execVigilSource sources s
  | .vgLatchClear by_ value => Sys2Proof.Machine.execVgLatchClear by_ value s
  | .vgCfgWrite by_ value => Sys2Proof.Machine.execVgCfgWrite by_ value s
  | .vaultReseed => Sys2Proof.Machine.execVaultReseed s
  | .confirmTimeout => Sys2Proof.Machine.execConfirmTimeout s
  | .trialStart => Sys2Proof.Machine.execTrialStart s
  | .abandon by_ value => Sys2Proof.Machine.execAbandon by_ value s
  | .icTclaimRead by_ t => Sys2Proof.Machine.execIcTclaimRead by_ t s
  | .icTcompleteWrite by_ t value => Sys2Proof.Machine.execIcTcompleteWrite by_ t value s
  | .unfreeze by_ t value => Sys2Proof.Machine.execUnfreeze by_ t value s
  | .icSwsetWrite by_ value => Sys2Proof.Machine.execIcSwsetWrite by_ value s
  | .icSwclrWrite by_ value => Sys2Proof.Machine.execIcSwclrWrite by_ value s
  | .icSrcWrite by_ n value => Sys2Proof.Machine.execIcSrcWrite by_ n value s
  | .moderationEnd t => Sys2Proof.Machine.execModerationEnd t s
  | .chkStart by_ c value => Sys2Proof.Machine.execChkStart by_ c value s
  | .chkFinish by_ c value => Sys2Proof.Machine.execChkFinish by_ c value s
  | .chkIn8Write by_ c value => Sys2Proof.Machine.execChkIn8Write by_ c value s
  | .chkIn16Write by_ c value => Sys2Proof.Machine.execChkIn16Write by_ c value s
  | .chkIn32Write by_ c value => Sys2Proof.Machine.execChkIn32Write by_ c value s
  | .busReceiveError ch kind byProtocolException => Sys2Proof.Machine.execBusReceiveError ch kind byProtocolException s
  | .busIntegrated ch => Sys2Proof.Machine.execBusIntegrated ch s
  | .leaseWireQuiet => Sys2Proof.Machine.execLeaseWireQuiet s
  | .witnessUnreachable index => Sys2Proof.Machine.execWitnessUnreachable index s
  | .dieCooled => Sys2Proof.Machine.execDieCooled s
  | .attestPartsExpire r => Sys2Proof.Machine.execAttestPartsExpire r s
  | .updateReset => Sys2Proof.Machine.execUpdateReset s

end Sys2Proof.Machine
end

