-- ==== Sys2Proof/Machine/Pins.lean ====
section
/-! DEFINITION. The output pins whose level follows from the state (21 Tables 21.1 and 21.2); HOST_IRQ_N is `hostIrq`. -/

namespace Sys2Proof.Machine

/-- LANTERN_N is asserted: the force table holds at least one force (03 R98, 07 R214). -/
def lantern (s : State) : Bool := !s.fabric.forces.isEmpty

/-- PWR_WARN_N is asserted: from the warning to its release, and at start-up (17 R467, R470, Table 17.5). -/
def pwrWarnLow (s : State) : Bool := s.power.warn

/-- SPILL output k conducts: a pulse is under way (10 R298). -/
def spillDriven (s : State) (k : Nat) : Bool :=
  (tabGetD s.meter.spills k {}).driving && !(tabGetD s.meter.spills k {}).quiet

/-- PPS_OUT is high (13 R378). -/
def ppsOutHigh (s : State) : Bool := s.clock.ppsOut

/-- LEASE_OUT is high (16 R432, R435). -/
def leaseOutHigh (s : State) : Bool := s.twin.leaseOut

end Sys2Proof.Machine
end

