-- ==== Sys2Proof/WellFormed.lean ====
section
/-! DEFINITION. Well-formed commands: every index, number and length an operand carries lies in the range the manual
gives the thing it names. Nothing else is asked of a command: what it carries inside (a payload, a frame, a record) is
judged by its meaning. -/

namespace Sys2Proof

/-- A mailbox 0 to 15 or a session 0 to 63 (04 Tables 4.1 and 4.9). -/
def Route.wf : Route → Bool
  | .mailbox m => decide (m < 16)
  | .session n => decide (n < 64)

/-- Tenant, writer id and island of an access (03 Tables 3.6 and 3.7). -/
def Requester.wf (x : Requester) : Bool := decide (x.tenant < 2 ^ 12) && decide (x.writer < 2 ^ 32) && decide (x.island < 12)

/-- The operation of a crossing. -/
def XOp.wf : XOp → Bool
  | .readReg a => decide (a < 2 ^ 32)
  | .writeReg a _ => decide (a < 2 ^ 32)
  | .readPoint who pt => who.wf && decide (pt < 2 ^ 25)
  | .writePoint who pt type quality _ time =>
    who.wf && decide (pt < 2 ^ 25) && decide (type < 16) && decide (quality < 8) && decide (time < 2 ^ 64)

/-- A crossing request between two islands (02, "Crossings"). -/
def XRequest.wf (x : XRequest) : Bool :=
  decide (x.src < 12) && decide (x.dst < 12) && decide (x.source < 3) && x.op.wf

/-- A crossing reply. -/
def XReply.wf (x : XReply) : Bool := decide (x.target < 12) && decide (x.requester < 12) && decide (x.status < 2 ^ 16)

/-- A frame at a port holds at least its two addresses and its Ethertype. -/
def RxFrame.wf (f : RxFrame) : Bool := decide (14 ≤ f.bytes.length)

/-- A frame on a bus: identifier and data in their formats' ranges (15). -/
def BusFrame.wf (f : BusFrame) : Bool :=
  decide (f.id < 2 ^ (if f.ide then 29 else 11)) && decide (f.data.length ≤ (if f.xl then 2048 else if f.fd then 64 else 8))

/-- The end of an attempt. -/
def BusTxEnd.wf : BusTxEnd → Bool
  | .sent t => decide (t < 2 ^ 64)
  | .lostArbitration => true
  | .error k => decide (k < 8)

/-- What the wake decoder saw. -/
def BusWake.wf : BusWake → Bool
  | .frame f => f.wf
  | .erroneous => true

/-- A PTP message at a ring or host port (13). -/
def PtpMsg.wf (m : PtpMsg) : Bool := decide (m.port < 20) && decide (m.domain < 256) && decide (m.seq < 2 ^ 16)

/-- A BACnet service: priorities 1 to 16, 32-bit object identifiers, points that exist (04 R146, R147). -/
def BacnetService.wf : BacnetService → Bool
  | .writeProperty _ _ p _ => decide (1 ≤ p) && decide (p ≤ 16)
  | .map t o _ pt _ => decide (t < 0xFFF) && decide (o < 2 ^ 32) && decide (pt < 2 ^ 20)
  | .other s => decide (s < 256)
  | _ => true

/-- A twin frame: header fields in their widths, a body of at most 2,000 bytes (16 Table 16.10). -/
def TwinRx.wf (f : TwinRx) : Bool :=
  decide (f.seq < 2 ^ 16) && decide (f.frag < 256) && decide (f.time < 2 ^ 64) && decide (f.body.length ≤ 2000) &&
    decide (f.sender < 2 ^ 48)

/-- A set of readings names only rails and ports that exist (17 Table 17.7). -/
def SensorReading.wf (x : SensorReading) : Bool := x.railFaults.all (fun r => decide (r < 12)) && decide (x.portMa.length ≤ 16)

/-- A class of 17 R472. -/
def PowerProbe.wf : PowerProbe → Bool
  | .failed => true
  | .pdClass c => decide (c < 16)

/-- A well-formed command. -/
def Instr.wf : Instr → Bool
  | .systemInfo r tag | .mailboxBind r tag | .netConfig r tag | .systemReset r tag | .pointRead r tag
  | .pointWrite r tag | .pointDefine r tag | .pointUndefine r tag | .pointClaim r tag | .pointRelease r tag
  | .forceSet r tag | .forceClear r tag | .forceList r tag | .shareSet r tag | .shareDelete r tag
  | .shareLink r tag | .sliceSet r tag | .sliceList r tag | .programLoad r tag | .programStatus r tag
  | .programExchange r tag | .programRun r tag | .programUnload r tag | .loopTableLoad r tag | .loopEnable r tag
  | .loopStatus r tag | .traceConfig r tag | .traceRead r tag | .meterRead r tag | .circuitMap r tag
  | .calibrationLoad r tag | .accConfig r tag | .apportionSet r tag | .spillConfig r tag | .demandRead r tag
  | .instantRead r tag | .seriesDefine r tag | .seriesDelete r tag | .recorderRead r tag | .seriesClear r tag
  | .recorderStatus r tag | .timeRead r tag | .ptpConfig r tag | .ppsConfig r tag | .calRead r tag | .calSet r tag
  | .alarmSet r tag | .trimSet r tag | .backupRead r tag | .backupWrite r tag | .portStatus r tag
  | .portConfig r tag | .portCounters r tag | .gateListLoad r tag | .deviceTable r tag | .ringTables r tag
  | .macsecConfig r tag | .busConfig r tag | .busObjectSet r tag | .busStatus r tag | .busSleep r tag
  | .twinStatus r tag | .twinHealth r tag | .twinConfig r tag | .twinHandover r tag | .witnessConfig r tag
  | .tenantEnrol r tag | .tenantRemove r tag | .keyImport r tag | .keyDelete r tag | .keyList r tag | .attest r tag
  | .debugEnable r tag | .keyEncrypt r tag | .keyDecrypt r tag | .keyWrap r tag | .keyUnwrap r tag
  | .keyDerive r tag | .updateBegin r tag | .updateSegment r tag | .updateActivate r tag | .updateConfirm r tag
  | .updateFallback r tag | .updateStatus r tag | .sensorsRead r tag | .faultLogRead r tag | .powerConfig r tag
  | .fieldPower r tag | .islandControl r tag | .factoryReset r tag | .blockRead r tag | .blockWrite r tag => r.wf && decide (tag < 2 ^ 32)
  | .busConfigApply ch | .busSleepEntry ch | .busOffRecovered ch | .busWakeEdge ch | .busIntegrated ch => decide (ch < 8)
  | .transferTimeout code => decide (code < 2 ^ 16)
  | .spiWrite addr _ | .spiRead addr _ | .writeQuad addr _ | .readQuad addr _ => decide (addr < 2 ^ 24)
  | .spiStatus n => decide (n < 2 ^ 16)
  | .sessionHello n _ | .sessionAccept n _ | .sessionProof n _ | .sessionRecord n _ => decide (n < 64)
  | .sessionIdleTimeout n | .sessionTcpClose n => decide (n < 64)
  | .bacnetService _ svc => svc.wf
  | .crossingRequest q => q.wf
  | .crossingReply p => p.wf
  | .epochNotice island receiver epoch => decide (island < 12) && decide (receiver < 12) && decide (epoch < 2 ^ 32)
  | .slotFreedSend island target => decide (island < 12) && decide (target < 12)
  | .slotReuseTimeout island target slot => decide (island < 12) && decide (target < 12) && decide (slot < 256)
  | .islReqStateOff _ island _ | .islReqStateReset _ island _ | .islReqStateRun _ island _
  | .islReqStateRetain _ island _ | .islReqStateUpdate _ island _ => decide (island < 12)
  | .drainEnd island | .resetRelease island | .bootComplete island | .bootTimeout island | .islandIdleEntry island
  | .islandWake island | .autoRecovery island => decide (island < 12)
  | .islandFaultEntry island cause localCause => decide (island < 12) && decide (cause < 16) && decide (localCause < 256)
  | .clkRange island _ => decide (island < 12)
  | .rcRead _ x | .registerWrite _ x _ => decide (x.addr < 2 ^ 32) && [1, 2, 4, 8].contains x.width
  | .alAlarmWrite _ addr _ => decide (addr < 2 ^ 32)
  | .jioshReport port _ | .jioshAnnounce port _ | .jioshAck port _ => decide (4 ≤ port) && decide (port < 20)
  | .jioshPeer port sender _ _ => decide (port < 2) && decide (sender < 2 ^ 48)
  | .deviceStale port serial | .deviceAbsent port serial => decide (4 ≤ port) && decide (port < 20) && decide (serial < 2 ^ 64)
  | .fabricRead who pt => who.wf && decide (pt < 2 ^ 25)
  | .fabricWrite who pt type quality _ time => who.wf && decide (pt < 2 ^ 25) && decide (type < 16) && decide (quality < 8) && decide (time < 2 ^ 64)
  | .taskRelease t => decide (t < 16)
  | .gatherComplete t status | .scatterComplete t status => decide (t < 16) && decide (status < 2 ^ 16)
  | .groupRelease g | .loopSample g | .loopEvaluate g => decide (g < 4)
  | .loopSecondBitWrite loop => decide (loop < 1024)
  | .spillPulseStart o | .spillPulseEnd o => decide (o < 8)
  | .pulseAccepted k _ => decide (k < 8)
  | .hvWselWrite _ w _ => decide (w < 2)
  | .hvWdataRead _ w => decide (w < 2)
  | .frameReceive port f => decide (port < 20) && f.wf
  | .frameTransmit port | .gateListChange port | .gateEntryChange port | .pauseEnd port | .linkUp port
  | .linkDown port | .syncSend port | .announceSend port | .pdelayReqSend port => decide (port < 20)
  | .addressAgeOut mac | .hsrNodeForget mac => decide (mac < 2 ^ 48)
  | .sync m | .followUp m | .pdelayReq m | .pdelayResp m | .pdelayRespFollowUp m | .announce m | .signaling m => m.wf
  | .tuCmpWrite _ k _ => decide (k < 2)
  | .compareFire k => decide (k < 2)
  | .alBkpWrite _ w _ => decide (w < 16)
  | .busFrameReceive ch f => decide (ch < 8) && f.wf
  | .busTxAttemptEnd ch object outcome => decide (ch < 8) && decide (object < 256) && outcome.wf
  | .busPeriodRequest ch object => decide (ch < 8) && decide (object < 256)
  | .bcTxreqWrite _ ch _ | .bcTxabortWrite _ ch _ | .bcRxackWrite _ ch _ | .recover _ ch _ => decide (ch < 8)
  | .busWakeFrame ch seen => decide (ch < 8) && seen.wf
  | .renew f | .grant f | .release f | .withdraw f | .hello f | .handover f | .unpair f | .state f | .verdict f
  | .resync f | .health f | .relayDown f | .relayUp f | .offer f | .query f | .probe f | .probeReply f | .answer f => f.wf
  | .selfDiagnosis cause island => decide (1 ≤ cause) && decide (cause ≤ 7) && decide (island < 12)
  | .knownAnswerTest passed => passed.length == 4
  | .probeTimeout number => decide (number < 2 ^ 32)
  | .fuseTrip n => decide (n < 16)
  | .fuseRetry n found | .portPowerUp n found => decide (n < 16) && found.wf
  | .sensorSample reading => reading.wf
  | .vigilSource sources => (sources.all fun k => decide (k < 6))
  | .icTclaimRead _ t => decide (t < 3)
  | .icTcompleteWrite _ t _ | .unfreeze _ t _ => decide (t < 3)
  | .icSrcWrite _ n _ => decide (n < 256)
  | .moderationEnd t => decide (t < 3)
  | .chkStart _ c _ | .chkFinish _ c _ | .chkIn8Write _ c _ | .chkIn16Write _ c _ | .chkIn32Write _ c _ => decide (c < 16)
  | .busReceiveError ch kind _ => decide (ch < 8) && decide (kind < 8)
  | .witnessUnreachable index => decide (index < 2)
  | .attestPartsExpire r => r.wf
  | .systemResetStart | .programLoadChecked | .updateFinalChecked | .spiIdent | .mbDoorbellWrite _ _
  | .mgtFaultTimeout | .refclkLost | .refclkReturn | .exportSend | .imageGather | .imageScatter | .scrubRead
  | .retentiveSave | .storeRestore | .thNop | .thLd | .thLdn | .thAnd | .thAndn | .thOr | .thOrn | .thXor | .thXorn
  | .thSt | .thStn | .thSet | .thRst | .thNota | .thSeta | .thClra | .thAndb | .thOrb | .thXorb | .thClose
  | .thPush | .thRead | .thPop | .thEdgp | .thEdgn | .thTon | .thTof | .thTp | .thTet | .thCtu | .thCtd | .thCrst
  | .thCld | .thTcv | .thLdw | .thLdb | .thLdwh | .thStw | .thStwc | .thLdq | .thLdqb | .thLdix | .thLdw64
  | .thStw64 | .thXch | .thStnz | .thAdd | .thSub | .thMul | .thDiv | .thMod | .thDivu | .thModu | .thNeg | .thAbs
  | .thAndw | .thOrw | .thXorw | .thNotw | .thShl | .thShr | .thSar | .thRol | .thAdd64 | .thSub64 | .thMul64
  | .thDiv64 | .thMod64 | .thAddf | .thSubf | .thMulf | .thDivf | .thSqrtf | .thAbsf | .thNegf | .thAddd | .thSubd
  | .thMuld | .thDivd | .thSqrtd | .thItof | .thUtof | .thFtoi | .thFtod | .thDtof | .thItol | .thLtod | .thDtol
  | .thCmpi | .thCmpu | .thCmpf | .thCmpl | .thCmpd | .thJmp | .thJt | .thJf | .thCall | .thRet | .thEnd | .thClrv
  | .thCtrlRunWrite _ _ | .afeFrame _ | .afeLinkTimeout | .totalsSave | .saveNow _ _ | .snap _ _ | .ackWrap _ _
  | .ackFail _ _ | .demandBoundary | .pulsePointWrite | .totalsRestore | .harvestSample | .harvestClose
  | .dropHistory _ _ | .ucLookup _ _ | .ucWrite _ _ | .ucDelete _ _ | .ucRead _ _ | .flushDyn _ _ | .hsrSupervision
  | .hsrDuplicateExpiry | .bypassClose | .bypassOpen | .syncTimeout | .announceTimeout | .ppsInEdge _ _
  | .ppsInLost | .ppsOutRise | .ppsOutFall | .timeLatchRead _ | .calendarTick | .trimWindow | .trimCorrection
  | .haltSet _ _ | .haltRelease _ _ | .alTimeWrite _ _ | .alDateWrite _ _ | .alTimeRead _ | .backupCheck
  | .calendarSync | .vaonLow | .vbatSwitch | .vaonReturn | .coreLost | .renewSend | .leaseInEdge | .leaseBurst
  | .grantLow | .grantGuardEnd | .takeover | .helloSend | .helloTimeout | .handoverBoundary | .journalShip
  | .fullTransferDone | .healthSend | .twinLinkDown | .offerSend | .querySend | .moduleStart _ | .startComplete
  | .resetNAssert | .pwrWarnAssert _ | .warningSaveDone _ | .pwrWarnRelease _ _ | .holdupEnd | .holdupMeasure _
  | .fieldOvercurrent | .fieldLost | .fieldReturn | .thermalShutdown | .faultLogFlush | .vgLatchClear _ _
  | .vgCfgWrite _ _ | .vaultReseed | .confirmTimeout | .trialStart | .abandon _ _ | .icSwsetWrite _ _
  | .icSwclrWrite _ _ | .leaseWireQuiet | .dieCooled | .updateReset => true

end Sys2Proof
end

