-- ==== Sys2Proof/Safety.lean ====
section
/-! DEFINITION. The terms in which claims speak: a request that Steward takes, an island that is open to a crossing, and
what one command or event leads to. -/

namespace Sys2Proof.Safety

open Sys2Proof.Machine

/-- Steward takes the request q that waits on a route for a command; the module does not hold the standby role (05 R155). -/
abbrev Served (s : State) (r : Route) (tag code : Nat) (q : Req) : Prop :=
  stewardReady s = true ∧ findReq s code r tag = some q ∧ onStandby s = false

/-- An island performs a request of Sage core 0: it is in RUN, does not drain, and the epoch known of it is its own or none
(02 R65). -/
abbrev Open (s : State) (i : Nat) : Prop :=
  i ≠ iSAGE ∧ (s.isl i).state = .run ∧ (s.isl i).draining = false ∧
    (s.epochOf iSAGE i = 0 ∨ s.epochOf iSAGE i = (s.isl i).epoch)

/-- The state in which such an island performs it: Sage has noted the island's epoch (02 R66). -/
abbrev crossed (s : State) (i : Nat) : State := s.noteEpoch iSAGE i (s.isl i).epoch

/-- A command ends with OK and a payload in a state that holds all its effects but the response itself. -/
abbrev Answers (i : Instr) (s : State) (q : Req) (w : State) (p : List Byte) : Prop :=
  exec i s = .next (respond w q stOk p)

/-- A command is answered PENDING, to be completed later (R122). -/
abbrev Pends (i : Instr) (s : State) (q : Req) (w : State) (p : List Byte) : Prop :=
  exec i s = .next (respond w q stPending p)

/-- A command ends with a status other than OK, and no payload. -/
abbrev Refuses (i : Instr) (s : State) (q : Req) (w : State) (st : Nat) : Prop :=
  exec i s = .next (respond w q st [])

/-- The parts of the state. -/
inductive StatePart where
  | pending | freeCtr | regs | outs | clock | islands | fabric | harvest | mail | thyme | loops | meter | switch | almanac
  | bus | twin | power | vault | update | irq | chk
  deriving DecidableEq, Repr

/-- A part is the same in two states. -/
def StatePart.same : StatePart → State → State → Prop
  | .pending, s, w => w.pending = s.pending
  | .freeCtr, s, w => w.freeCtr = s.freeCtr
  | .regs, s, w => w.regs = s.regs
  | .outs, s, w => w.outs = s.outs
  | .clock, s, w => w.clock = s.clock
  | .islands, s, w => w.islands = s.islands
  | .fabric, s, w => w.fabric = s.fabric
  | .harvest, s, w => w.harvest = s.harvest
  | .mail, s, w => w.mail = s.mail
  | .thyme, s, w => w.thyme = s.thyme
  | .loops, s, w => w.loops = s.loops
  | .meter, s, w => w.meter = s.meter
  | .switch, s, w => w.switch = s.switch
  | .almanac, s, w => w.almanac = s.almanac
  | .bus, s, w => w.bus = s.bus
  | .twin, s, w => w.twin = s.twin
  | .power, s, w => w.power = s.power
  | .vault, s, w => w.vault = s.vault
  | .update, s, w => w.update = s.update
  | .irq, s, w => w.irq = s.irq
  | .chk, s, w => w.chk = s.chk

/-- Every part but those of a list is the same in both states. -/
abbrev Only (ps : List StatePart) (s w : State) : Prop := ∀ p, p ∉ ps → p.same s w

/-- A defined record whose check value is right and that is not marked failed. -/
abbrev Sound (s : State) (pt : Nat) : Prop :=
  pt < pointCount ∧ s.defined pt = true ∧ s.failedPt pt = false ∧ (s.point pt).check = (s.point pt).right ∧
    (s.point pt).owner ≠ nobody

/-- Thyme runs, and at its next dispatch the running task t has at its PC the legal word w of an opcode, in the program l
and the task entry c (06 R171, R181). -/
abbrev Executes (s : State) (op t : Nat) (l : Loaded) (c : TaskCfg) (w : Nat) : Prop :=
  s.running iTHY = true ∧ fetch (dispatch s) op = some (t, l, c, w)

/-- What that instruction works on: PC already names the next word (06 R171). -/
abbrev workOf (s : State) (t : Nat) (l : Loaded) : ThMem := memOf ((dispatch s).task t) l

/-- The cycle's context of that instruction (06 Table 6.4). -/
abbrev around (s : State) (t : Nat) (c : TaskCfg) : ThCtx := ctxOf (dispatch s) t c

/-- The instruction leaves its task with the contents r, and every other task, point and register alone; a PC at the end
of the code is the fault RUN_OFF (06 R181). -/
abbrev Leaves (i : Instr) (s : State) (t : Nat) (l : Loaded) (r : ThMem) : Prop :=
  exec i s = .next (
    let d := putProg (dispatch s) t { l with timers := r.timers, counters := r.counters, edges := r.edges }
    let d := d.setTask t { d.task t with mach := r.m, bits := r.bits, words := r.words }
    if l.prog.code.length ≤ r.m.pc then endFault d t tfRunOff else d)

/-- The instruction faults its task and changes nothing else of it (06 R181, R182). -/
abbrev Faults (i : Instr) (s : State) (t code : Nat) : Prop := exec i s = .next (endFault (dispatch s) t code)

/-- An agent's register access is performed: it is permitted (00 R7, R8, 02 R76), the agent's island runs, the SPI target
answers where the carrier host asks (04 R150), and another island that holds the register is in RUN, does not drain and
has the epoch the requester knows, if it knows one (02 R65). -/
abbrev Reaches (s : State) (by_ : Agent) (a v : Nat) (write : Bool) : Prop :=
  gate s by_ a v write = stOk ∧ s.running (agentIsland by_) = true ∧ (by_ = .spi → spiOpen s = true) ∧
    (addrIsl a ≠ agentIsland by_ → (s.isl (addrIsl a)).state = .run ∧ (s.isl (addrIsl a)).draining = false ∧
      (s.epochOf (agentIsland by_) (addrIsl a) = 0 ∨
        s.epochOf (agentIsland by_) (addrIsl a) = (s.isl (addrIsl a)).epoch))

/-- The state in which it is performed: the requester has noted the other island's epoch (02 R66). -/
abbrev met (s : State) (by_ : Agent) (a : Nat) : State :=
  if addrIsl a = agentIsland by_ then s else s.noteEpoch (agentIsland by_) (addrIsl a) (s.isl (addrIsl a)).epoch

/-- A command is one register access that ends OK with a value, in the state w. -/
abbrev Performs (i : Instr) (s w : State) (v : Nat) : Prop :=
  exec i s = .next { w with outs := { w.outs with readOut := v, readStatus := stOk } }

end Sys2Proof.Safety
end

