-- ==== Sys2Proof/Certificates/Slice0/Obligations.lean ====
section
/-! DEFINITION. What is stated about the block. Statements about a Steward command begin from a request that Steward takes
(`Served`) and islands open to a crossing (`Open`), and give the response with the state that holds the command's other
effects. -/

open Sys2Proof Sys2Proof.Machine Sys2Proof.Safety

/-- 05 R159, Table 5.1; 05 Tables 5.2 and 5.10; 06 R576; 16 R453, R460; 13 R373; 19 R527; 17 R482; 11 R331: commands
without a payload that read status answer OK with the bytes of their tables, and change nothing but the record of the
crossing. -/
def Obligations.StatusReadsAnswer : Prop :=
  ∀ (s : State) (r : Route) (tag : Nat) (q : Req), q.payload = [] →
    (Served s r tag 0x0101 q → Answers (.systemInfo r tag) s q s (orderingBytes ++ serialBytes ++ leBytes 4
      stewardVersion ++ leBytes 4 Config.chervilVersion ++ leBytes 4 (Config.silicon % 2 ^ 24) ++ leBytes 1 (b2n
      s.update.active) ++ leBytes 1 s.twin.role.code ++ leBytes 2 (tenantCount s) ++ leBytes 8 s.now ++ leBytes 4
      0)) ∧
    (Served s r tag 0x0302 q → Open s iTHY → Answers (.programStatus r tag) s q (crossed s iTHY) (leBytes 1 (if
      s.thyme.loaded.isNone then 0 else if s.rbit rThCtrl 0 then 1 else 2) ++ leBytes 1 (b2n s.thyme.staged.isSome)
      ++ leBytes 2 0 ++ leBytes 4 (thProgId s) ++ leBytes 4 (thStagedId s) ++ ((List.range 16).map (taskStatus
      s)).flatten)) ∧
    (Served s r tag 0x0B01 q → Open s iMGT → Answers (.twinStatus r tag) s q (crossed s iMGT) (leBytes 1
      s.twin.role.code ++ leBytes 1 s.twin.partner ++ leBytes 2 (s.twin.links % 32 + b2n (s.rbit rTwEvent 8) * 2 ^
      15) ++ leBytes 4 (grantLeft s) ++ leBytes 4 (s.reg rTwCompared) ++ leBytes 4 (s.reg rTwMismatch) ++ padTo 12
      s.twin.partnerSerial ++ leBytes 8 (s.reg rTwTakeLo + s.reg rTwTakeHi * 2 ^ 32) ++ leBytes 4 0)) ∧
    (Served s r tag 0x0B02 q → Open s iMGT → Answers (.twinHealth r tag) s q (crossed s iMGT) (if s.twin.role =
      .active then padTo 256 s.twin.partnerHealth else healthReport s)) ∧
    (Served s r tag 0x0701 q → Open s iTIME → Answers (.timeRead r tag) s q (crossed s iTIME) (leBytes 8 s.tai ++
      leBytes 2 s.clock.time16 ++ leBytes 1 s.clock.state.code ++ leBytes 1 0 ++ leBytes 4 (s.reg rTuOffset))) ∧
    (Served s r tag 0x0D06 q → Open s iMGT → Answers (.updateStatus r tag) s q (crossed s iMGT) (leBytes 1 (b2n
      s.update.active) ++ leBytes 1 (upState s) ++ leBytes 2 0 ++ slotSummary s s.update.slotA ++ slotSummary s
      s.update.slotB)) ∧
    (Served s r tag 0x0E01 q → Open s iMGT → Answers (.sensorsRead r tag) s q (crossed s iMGT) (leBytes 4 (s.reg
      rMgTemp01) ++ leBytes 4 (s.reg rMgTemp23) ++ leBytes 4 (s.rfield rMgTempBoard 0 16) ++ ((List.range 12).map
      fun i => leBytes 2 (s.rfield (rMgRail i) 0 16)).flatten ++ leBytes 4 (s.rfield rPwVin 0 16) ++ leBytes 4
      (s.rfield rPwVin 16 16) ++ leBytes 1 (s.rfield rPwHoldup 16 8) ++ leBytes 3 0)) ∧
    (Served s r tag 0x0605 q → Open s iPF → Answers (.recorderStatus r tag) s q (crossed s iPF) (leBytes 4
      (s.harvest.series.filter fun p => p.2.tenant == routeTenant s q.route).length ++ leBytes 4 (hvUsed s) ++
      leBytes 1 (b2n (hvFull s)) ++ leBytes 3 0))

/-- 05 R156: a command that carries a list answers OK once its own length and argument checks pass, with one entry of
its own shape for each entry of the list, whatever becomes of the entries and whatever state the island is in that
judges them; it leaves every part of the state but the named ones alone. A list of identifiers holds at most 507 (log
71). -/
def Obligations.ListCommandsAnswer : Prop :=
  ∀ (s : State) (r : Route) (tag : Nat) (q : Req) (n : Nat),
    (Served s r tag 0x0201 q → q.payload.length = 4 + 4 * n → fld q.payload 0 2 = n → fld q.payload 2 2 = 0 → 1 ≤ n
      → n ≤ 169 → ∃ w p, Answers (.pointRead r tag) s q w p ∧ p.length = 8 + 24 * n ∧ p.take 2 = leBytes 2 n ∧ Only
      [.freeCtr, .regs, .islands, .fabric, .chk] s w ∧ w.fabric.store = s.fabric.store ∧ w.fabric.forces =
      s.fabric.forces) ∧
    (Served s r tag 0x0202 q → q.payload.length = 8 + 24 * n → fld q.payload 0 2 = n → allZero (sub q.payload 2 6) =
      true → (∀ e ∈ entriesAt q.payload 8 24 n, fld e 6 2 = 0) → 1 ≤ n → n ≤ 169 → ∃ w p, Answers (.pointWrite r
      tag) s q w p ∧ p.length = 8 + 8 * n ∧ p.take 2 = leBytes 2 n ∧ Only [.freeCtr, .regs, .islands, .fabric,
      .harvest, .switch, .twin, .chk] s w) ∧
    (Served s r tag 0x0203 q → q.payload.length = 4 + 8 * n → fld q.payload 0 2 = n → fld q.payload 2 2 = 0 → (∀ e ∈
      entriesAt q.payload 4 8 n, fld e 6 2 = 0) → ∃ w p es, Answers (.pointDefine r tag) s q (shipList w 0x0203
      listHead es) p ∧ es.Sublist (entriesAt q.payload 4 8 n) ∧ p.length = 8 + 8 * n ∧ p.take 2 = leBytes 2 n ∧ Only [.freeCtr, .regs, .islands, .fabric, .chk]
      s w) ∧
    (Served s r tag 0x0204 q → q.payload.length = 4 + 4 * n → fld q.payload 0 2 = n → fld q.payload 2 2 = 0 → n ≤
      507 → ∃ w p es, Answers (.pointUndefine r tag) s q (shipList w 0x0204 listHead es) p ∧ es.Sublist (entriesAt q.payload 4 4 n) ∧ p.length = 8 + 8 * n ∧
      p.take 2 = leBytes 2 n ∧ Only [.regs, .islands, .fabric, .harvest, .switch, .twin, .chk] s w) ∧
    (Served s r tag 0x0205 q → q.payload.length = 4 + 4 * n → fld q.payload 0 2 = n → fld q.payload 2 2 = 0 → n ≤
      507 → ∃ w p, Answers (.pointClaim r tag) s q w p ∧ p.length = 8 + 8 * n ∧ p.take 2 = leBytes 2 n ∧ Only
      [.freeCtr, .regs, .islands, .fabric, .chk] s w) ∧
    (Served s r tag 0x0206 q → q.payload.length = 4 + 4 * n → fld q.payload 0 2 = n → fld q.payload 2 2 = 0 → n ≤
      507 → ∃ w p, Answers (.pointRelease r tag) s q w p ∧ p.length = 8 + 8 * n ∧ p.take 2 = leBytes 2 n ∧ Only
      [.freeCtr, .regs, .islands, .fabric, .chk] s w) ∧
    (Served s r tag 0x020C q → q.payload.length = 4 + 4 * n → fld q.payload 2 2 = n → n ≤ 507 → ∃ w p es, Answers
      (.shareLink r tag) s q (shipList w 0x020C (fun m => leBytes 2 (fld q.payload 0 2) ++ leBytes 2 m) es) p ∧ es.Sublist
      (entriesAt q.payload 4 4 n) ∧ p.length = 8 + 8 * n ∧ p.take 2 = leBytes 2 n ∧
      Only [.freeCtr, .regs, .islands, .fabric, .chk] s w) ∧
    (Served s r tag 0x0905 q → q.payload.length = 4 + 32 * n → fld q.payload 2 2 = n → fld q.payload 1 1 = 0 → 4 ≤
      fld q.payload 0 1 → fld q.payload 0 1 < 20 → ∃ w p es, Answers (.deviceTable r tag) s q (shipList w 0x0905
      (deviceHead (fld q.payload 0 1)) es) p ∧ es.Sublist (entriesAt q.payload 4 32 n) ∧ p.length = 8 + 8 * n ∧ p.take 2 = leBytes 2 n ∧ Only [.regs, .islands, .fabric, .chk] s w) ∧
    (Served s r tag 0x0906 q → q.payload.length = 4 + 16 * n → fld q.payload 2 2 = n → fld q.payload 1 1 = 0 → fld
      q.payload 0 1 < 2 → ∃ w p es, Answers (.ringTables r tag) s q (shipList w 0x0906 (deviceHead (fld q.payload 0 1)) es) p ∧ es.Sublist
      (entriesAt q.payload 4 16 n) ∧ p.length = 8 +
      8 * n ∧ p.take 2 = leBytes 2 n ∧ Only [.regs, .islands, .fabric, .chk] s w) ∧
    (Served s r tag 0x0402 q → q.payload.length = 8 → fld q.payload 2 2 = n → 1 ≤ n → n ≤ 1016 → fld q.payload 0 2 +
      n ≤ 1024 → fld q.payload 4 1 ≤ 1 → allZero (q.payload.drop 5) = true → ∃ w p, Answers (.loopEnable r tag) s q
      (shipConfig w 0x0402 q.payload) p ∧ p.length = 4 * n ∧ Only [.freeCtr, .regs, .islands, .fabric, .loops, .chk]
      s w) ∧
    (Served s r tag 0x0403 q → q.payload.length = 4 → fld q.payload 2 2 = n → 1 ≤ n → n ≤ 252 → fld q.payload 0 2 +
      n ≤ 1024 → ∃ w p, Answers (.loopStatus r tag) s q w p ∧ p.length = 4 + 16 * n ∧ p.take 2 = leBytes 2 n ∧ Only
      [.regs, .islands] s w) ∧
    (Served s r tag 0x0501 q → q.payload.length = 4 → fld q.payload 2 2 = n → 1 ≤ n → n ≤ 126 → ∃ w p, Answers
      (.meterRead r tag) s q w p ∧ p.length = 8 + 32 * n ∧ p.take 2 = leBytes 2 n ∧ Only [.freeCtr, .regs, .islands,
      .fabric, .chk] s w) ∧
    (Served s r tag 0x0508 q → q.payload.length = 4 → fld q.payload 2 2 = n → 1 ≤ n → n ≤ 127 → ∃ w p, Answers
      (.instantRead r tag) s q w p ∧ p.length = 32 * n ∧ Only [.freeCtr, .regs, .islands, .fabric, .chk] s w)

/-- 03 R84, R85, R90, R96; 05 R161, R162, Tables 5.3 and 5.4: one entry of POINT_READ and of POINT_WRITE on a sound
record that the route may read or write. The writer id stored with a write is log 28. -/
def Obligations.PointAccessEffect : Prop :=
  ∀ (s : State) (r : Route) (tag : Nat) (q : Req) (pt : Nat),
    (Served s r tag 0x0201 q → Open s iPF → q.payload = (leBytes 2 1 ++ leBytes 2 0 ++ leBytes 4 pt) → Sound s pt →
      bitOf (rightsOf s (s.point pt) (routeTenant s q.route)) 0 = true → forceOf s pt = none → ∃ w, Answers
      (.pointRead r tag) s q w (leBytes 2 1 ++ leBytes 2 0 ++ leBytes 4 0 ++ (leBytes 4 pt ++ leBytes 2 0 ++ leBytes
      1 (s.point pt).type ++ leBytes 1 (s.point pt).quality ++ leBytes 8 (s.point pt).value.toNat ++ leBytes 8
      (s.point pt).time)) ∧ Only [.freeCtr, .regs, .islands, .fabric, .chk] s w ∧ w.fabric.store = s.fabric.store ∧
      w.fabric.forces = s.fabric.forces) ∧
    (∀ (f : Force), Served s r tag 0x0201 q → Open s iPF → q.payload = (leBytes 2 1 ++ leBytes 2 0 ++ leBytes 4 pt)
      → Sound s pt → bitOf (rightsOf s (s.point pt) (routeTenant s q.route)) 0 = true → forceOf s pt = some f → ∃ w,
      Answers (.pointRead r tag) s q w (leBytes 2 1 ++ leBytes 2 0 ++ leBytes 4 0 ++ (leBytes 4 pt ++ leBytes 2 0 ++
      leBytes 1 (s.point pt).type ++ leBytes 1 qForced ++ leBytes 8 f.value.toNat ++ leBytes 8 f.time)) ∧ Only
      [.freeCtr, .regs, .islands, .fabric, .chk] s w ∧ w.fabric.store = s.fabric.store ∧ w.fabric.forces =
      s.fabric.forces) ∧
    (∀ (ql v tm : Nat), Served s r tag 0x0202 q → Open s iPF → q.payload = (leBytes 2 1 ++ leBytes 6 0 ++ leBytes 4
      pt ++ leBytes 1 (s.point pt).type ++ leBytes 1 ql ++ leBytes 2 0 ++ leBytes 8 v ++ leBytes 8 tm) → Sound s pt
      → bitOf (rightsOf s (s.point pt) (routeTenant s q.route)) 1 = true → ((s.point pt).flag fLocked = false ∨
      (s.point pt).writer = routeWriter q.route) → (s.point pt).type < 8 → (ql = qGood ∨ ql = qSubstituted ∨ ql =
      qOutOfRange) → tm < 2 ^ 64 → forceIndex s pt = none → forceOf s pt = none → ∃ w, Answers (.pointWrite r tag) s
      q w (leBytes 2 1 ++ leBytes 2 0 ++ leBytes 4 0 ++ (leBytes 4 pt ++ leBytes 2 0 ++ leBytes 2 0)) ∧ w.point pt =
      PointRec.sealed
      { s.point pt with value := typed (s.point pt).type (BitVec.ofNat 64 v), time := (if tm = 0 then s.tai else tm), quality := ql, writer := routeWriter q.route }
      ∧ Only [.freeCtr, .regs, .islands, .fabric, .harvest, .twin, .chk] s w ∧ w.fabric.forces = s.fabric.forces ∧
      (∀ x, x ≠ pt → w.point x = s.point x)) ∧
    (∀ (ql v tm i : Nat) (f : Force), Served s r tag 0x0202 q → Open s iPF → q.payload = (leBytes 2 1 ++ leBytes 6 0
      ++ leBytes 4 pt ++ leBytes 1 (s.point pt).type ++ leBytes 1 ql ++ leBytes 2 0 ++ leBytes 8 v ++ leBytes 8 tm)
      → Sound s pt → bitOf (rightsOf s (s.point pt) (routeTenant s q.route)) 1 = true → ((s.point pt).flag fLocked =
      false ∨ (s.point pt).writer = routeWriter q.route) → (s.point pt).type < 8 → (ql = qGood ∨ ql = qSubstituted ∨
      ql = qOutOfRange) → tm < 2 ^ 64 → forceIndex s pt = some i → forceOf s pt = some f → ∃ w, Answers (.pointWrite
      r tag) s q w (leBytes 2 1 ++ leBytes 2 0 ++ leBytes 4 0 ++ (leBytes 4 pt ++ leBytes 2 0 ++ leBytes 2 0)) ∧
      tabGet w.fabric.forces i = some
      { f with entryValue := typed (s.point pt).type (BitVec.ofNat 64 v), entryTime := (if tm = 0 then s.tai else tm), entryQuality := ql }
      ∧ Only [.freeCtr, .regs, .islands, .fabric, .harvest, .switch, .twin, .chk] s w ∧ w.fabric.store =
      s.fabric.store)

/-- 03 R82, R83, R88, R89, R94, R572, R573: one entry of the commands that define, undefine, claim, release and link
points. -/
def Obligations.PointDefinitionEffect : Prop :=
  ∀ (s : State) (r : Route) (tag : Nat) (q : Req) (pt : Nat),
    (∀ (ty ret : Nat), Served s r tag 0x0203 q → Open s iPF → q.payload = (leBytes 2 1 ++ leBytes 2 0 ++ leBytes 4
      pt ++ leBytes 1 ty ++ leBytes 1 ret ++ leBytes 2 0) → firstAssignable ≤ pt → pt < pointCount → sliceTenant s
      pt = some (routeTenant s q.route) → s.defined pt = false → s.failedPt pt = false → ty < 8 → ret < 2 → (ret = 1
      → placesFull s pt = false) → (∀ d ∈ s.fabric.devices, pt < d.base ∨ d.base + d.count ≤ pt) → ∃ w, Answers
      (.pointDefine r tag) s q (shipConfig w 0x0203 q.payload) (leBytes 2 1 ++ leBytes 2 0 ++ leBytes 4 0 ++
      (leBytes 4 pt ++ leBytes 2 0 ++ leBytes 2 0)) ∧ w.point pt = PointRec.sealed
      { value := 0, time := 0, owner := routeTenant s q.route, type := ty, quality := qUninit, flags := ret, writer := 0, share := 0, series := 0, check := 0 }
      ∧ Only [.freeCtr, .regs, .islands, .fabric, .chk] s w ∧ (∀ x, x ≠ pt → w.point x = s.point x)) ∧
    (Served s r tag 0x0204 q → Open s iPF → q.payload = (leBytes 2 1 ++ leBytes 2 0 ++ leBytes 4 pt) →
      firstAssignable ≤ pt → pt < pointCount → sliceTenant s pt = some (routeTenant s q.route) → s.defined pt = true
      → ∃ w, Answers (.pointUndefine r tag) s q (shipConfig w 0x0204 q.payload) (leBytes 2 1 ++ leBytes 2 0 ++
      leBytes 4 0 ++ (leBytes 4 pt ++ leBytes 2 0 ++ leBytes 2 0)) ∧ w.fabric.store = tabDel s.fabric.store pt ∧
      w.fabric.defs = tabDel s.fabric.defs pt ∧ Only [.regs, .islands, .fabric, .harvest, .switch, .twin, .chk] s w)
      ∧
    (Served s r tag 0x0205 q → Open s iPF → q.payload = (leBytes 2 1 ++ leBytes 2 0 ++ leBytes 4 pt) → Sound s pt →
      firstAssignable ≤ pt → bitOf (rightsOf s (s.point pt) (routeTenant s q.route)) 1 = true → (s.point pt).flag
      fLocked = false → ∃ w, Answers (.pointClaim r tag) s q w (leBytes 2 1 ++ leBytes 2 0 ++ leBytes 4 0 ++
      (leBytes 4 pt ++ leBytes 2 0 ++ leBytes 2 0)) ∧ w.point pt = PointRec.sealed
      ({ s.point pt with writer := routeWriter r }.setFlag fLocked true) ∧ Only [.freeCtr, .regs, .islands, .fabric,
      .chk] s w ∧ (∀ x, x ≠ pt → w.point x = s.point x)) ∧
    (Served s r tag 0x0206 q → Open s iPF → q.payload = (leBytes 2 1 ++ leBytes 2 0 ++ leBytes 4 pt) → Sound s pt →
      firstAssignable ≤ pt → bitOf (rightsOf s (s.point pt) (routeTenant s q.route)) 1 = true → (s.point pt).flag
      fLocked = true → (s.point pt).writer = routeWriter r → ∃ w, Answers (.pointRelease r tag) s q w (leBytes 2 1
      ++ leBytes 2 0 ++ leBytes 4 0 ++ (leBytes 4 pt ++ leBytes 2 0 ++ leBytes 2 0)) ∧ w.point pt = PointRec.sealed
      ((s.point pt).setFlag fLocked false) ∧ Only [.freeCtr, .regs, .islands, .fabric, .chk] s w ∧ (∀ x, x ≠ pt →
      w.point x = s.point x)) ∧
    (∀ (k : Nat) (e : Share), Served s r tag 0x020C q → Open s iPF → q.payload = (leBytes 2 k ++ leBytes 2 1 ++
      leBytes 4 pt) → Sound s pt → (s.point pt).owner = routeTenant s q.route → k < 4096 → tabGet s.fabric.shares k
      = some e → e.owner = routeTenant s q.route → ∃ w, Answers (.shareLink r tag) s q (shipConfig w 0x020C
      q.payload) (leBytes 2 1 ++ leBytes 2 0 ++ leBytes 4 0 ++ (leBytes 4 pt ++ leBytes 2 0 ++ leBytes 2 0)) ∧
      w.point pt = PointRec.sealed ({ s.point pt with share := k }.setFlag fShared true) ∧ Only [.freeCtr, .regs,
      .islands, .fabric, .chk] s w ∧ (∀ x, x ≠ pt → w.point x = s.point x))

/-- 03 R96, R97; 05 R163, Table 5.5: the force commands. The lowest free index is the model's choice (log 29), and so
is the shape of a full list (log 38). -/
def Obligations.ForceEffect : Prop :=
  ∀ (s : State) (r : Route) (tag : Nat) (q : Req) (pt : Nat),
    (∀ (v i : Nat), Served s r tag 0x0207 q → Open s iPF → q.payload = (leBytes 4 pt ++ leBytes 1 (s.point pt).type
      ++ leBytes 3 0 ++ leBytes 8 v) → Sound s pt → bitOf (rightsOf s (s.point pt) (routeTenant s q.route)) 2 = true
      → (s.point pt).type < 8 → forceIndex s pt = none → forceOf s pt = none → tabFree s.fabric.forces 0 1024 = some
      i → ∃ w, Answers (.forceSet r tag) s q w (leBytes 2 i ++ leBytes 2 w.fabric.forces.length) ∧ tabGet
      w.fabric.forces i = some
      { pt := pt, type := (s.point pt).type, value := typed (s.point pt).type (BitVec.ofNat 64 v), time := s.tai, entryValue := (s.point pt).value, entryTime := (s.point pt).time, entryQuality := (s.point pt).quality }
      ∧ lantern w = true ∧ w.point pt = PointRec.sealed ((s.point pt).setFlag fForced true) ∧ Only [.freeCtr, .regs,
      .islands, .fabric, .switch, .twin, .chk] s w ∧ (∀ x, x ≠ pt → w.point x = s.point x)) ∧
    (∀ (v i : Nat) (f : Force), Served s r tag 0x0207 q → Open s iPF → q.payload = (leBytes 4 pt ++ leBytes 1
      (s.point pt).type ++ leBytes 3 0 ++ leBytes 8 v) → Sound s pt → bitOf (rightsOf s (s.point pt) (routeTenant s
      q.route)) 2 = true → (s.point pt).type < 8 → forceIndex s pt = some i → forceOf s pt = some f → ∃ w, Answers
      (.forceSet r tag) s q w (leBytes 2 i ++ leBytes 2 w.fabric.forces.length) ∧ tabGet w.fabric.forces i = some
      { f with value := typed (s.point pt).type (BitVec.ofNat 64 v), time := s.tai } ∧ w.fabric.store =
      s.fabric.store ∧ Only [.freeCtr, .regs, .islands, .fabric, .switch, .twin, .chk] s w) ∧
    (∀ (i : Nat) (f : Force), Served s r tag 0x0208 q → Open s iPF → q.payload = (leBytes 4 pt) → Sound s pt → bitOf
      (rightsOf s (s.point pt) (routeTenant s q.route)) 2 = true → forceIndex s pt = some i → tabGet s.fabric.forces
      i = some f → f.pt = pt → ∃ w, Answers (.forceClear r tag) s q w (leBytes 2 1 ++ leBytes 2
      w.fabric.forces.length) ∧ w.fabric.forces = tabDel s.fabric.forces i ∧ w.point pt = PointRec.sealed
      ({ s.point pt with value := f.entryValue, time := f.entryTime, quality := f.entryQuality }.setFlag fForced
      false) ∧ Only [.freeCtr, .regs, .islands, .fabric, .switch, .twin, .chk] s w ∧ (∀ x, x ≠ pt → w.point x =
      s.point x)) ∧
    (Served s r tag 0x0208 q → Open s iPF → q.payload = (leBytes 4 pt) → Sound s pt → bitOf (rightsOf s (s.point pt)
      (routeTenant s q.route)) 2 = true → forceIndex s pt = none → ∃ w, Answers (.forceClear r tag) s q w (leBytes 2
      0 ++ leBytes 2 s.fabric.forces.length) ∧ w.fabric.forces = s.fabric.forces ∧ w.fabric.store = s.fabric.store ∧
      Only [.freeCtr, .regs, .islands, .fabric, .chk] s w) ∧
    (Served s r tag 0x0208 q → Open s iPF → q.payload = (leBytes 4 0xFFFFFFFF) → ∃ w n, Answers (.forceClear r tag)
      s q w (leBytes 2 n ++ leBytes 2 w.fabric.forces.length) ∧ n ≤ s.fabric.forces.length ∧ Only [.regs, .islands,
      .fabric, .switch, .twin, .chk] s w) ∧
    (∀ (n : Nat), Served s r tag 0x0209 q → Open s iPF → q.payload = (leBytes 2 n ++ leBytes 2 0) → n < 65536 →
      Answers (.forceList r tag) s q (crossed s iPF) (leBytes 2 ((s.fabric.forces.filter fun x => decide (n ≤ x.1)
      && judge s x.2.pt (routeTenant s q.route) 0 .read == stOk).take 169).length ++ leBytes 2 (match
      (s.fabric.forces.filter fun x => decide (n ≤ x.1) && judge s x.2.pt (routeTenant s q.route) 0 .read ==
      stOk).drop 169 with | [] => 0xFFFF | x :: _ => x.1) ++ leBytes 4 0 ++ (((s.fabric.forces.filter fun x =>
      decide (n ≤ x.1) && judge s x.2.pt (routeTenant s q.route) 0 .read == stOk).take 169).map fun x => leBytes 4
      x.2.pt ++ leBytes 1 x.2.type ++ leBytes 1 x.2.entryQuality ++ leBytes 2 0 ++ leBytes 8 x.2.value.toNat ++
      leBytes 8 x.2.time).flatten))

/-- 03 R87, R88, R89, Table 3.5; 05 Table 5.1: the share and slice tables. An index given by SHARE_SET is shipped with
the accepted configuration (log 37). -/
def Obligations.ShareAndSliceEffect : Prop :=
  ∀ (s : State) (r : Route) (tag : Nat) (q : Req),
    (∀ (e k o g0 g1 g2 : Nat), Served s r tag 0x020A q → Open s iPF → q.payload = (leBytes 2 e ++ leBytes 2 0 ++
      leBytes 2 o ++ leBytes 2 g0 ++ leBytes 2 g1 ++ leBytes 2 g2) → o = routeTenant s q.route → o < 4096 → g0 <
      65536 → g1 < 65536 → g2 < 65536 → ((e = 0xFFFF ∧ tabFree s.fabric.shares 0 4096 = some k) ∨ (e = k ∧ k < 4096
      ∧ (tabGet s.fabric.shares k).all (·.owner == o) = true)) → Answers (.shareSet r tag) s q (shipConfig
      { crossed s iPF with fabric := { s.fabric with shares := tabSet s.fabric.shares k { owner := o, grants := [(g0 % 4096, g0 / 4096), (g1 % 4096, g1 / 4096), (g2 % 4096, g2 / 4096)] } } }
      0x020A (leBytes 2 k ++ q.payload.drop 2)) (leBytes 2 k)) ∧
    (∀ (k : Nat) (e : Share), Served s r tag 0x020B q → Open s iPF → q.payload = (leBytes 2 k ++ leBytes 2 0) → k <
      65536 → tabGet s.fabric.shares k = some e → e.owner = routeTenant s q.route → ∃ w, Answers (.shareDelete r
      tag) s q (shipConfig w 0x020B q.payload) ([]) ∧ w.fabric.shares = tabDel s.fabric.shares k ∧ Only [.regs,
      .islands, .fabric, .chk] s w ∧ (∀ x, ¬ ((s.point x).flag fShared = true ∧ (s.point x).share = k) → w.point x =
      s.point x) ∧ (∀ x, tabWf s.fabric.store = true → Sound s x → (s.point x).flag fShared = true →
      (s.point x).share = k → w.point x = PointRec.sealed ({ s.point x with share := 0 }.setFlag fShared false))) ∧
    (∀ (k base count t : Nat), Served s r tag 0x020D q → Open s iPF → q.payload = (leBytes 2 k ++ leBytes 2 0 ++
      leBytes 4 base ++ leBytes 4 count ++ leBytes 2 t ++ leBytes 2 0) → k < 1024 → t < nobody → 0 < count →
      firstAssignable ≤ base → base + count ≤ pointCount → (∀ y ∈ s.fabric.slices, y.1 ≠ k → base + count ≤ y.2.base
      ∨ y.2.base + y.2.count ≤ base) → tabGet s.fabric.slices k = none → Answers (.sliceSet r tag) s q (shipConfig
      { crossed s iPF with fabric := { s.fabric with slices := tabSet s.fabric.slices k { base := base, count := count, tenant := t } } }
      0x020D q.payload) []) ∧
    (∀ (k base t : Nat) (x : Slice), Served s r tag 0x020D q → Open s iPF → q.payload = (leBytes 2 k ++ leBytes 2 0
      ++ leBytes 4 base ++ leBytes 4 0 ++ leBytes 2 t ++ leBytes 2 0) → k < 1024 → t < nobody → tabGet
      s.fabric.slices k = some x → definedIn s x.base x.count = false → Answers (.sliceSet r tag) s q (shipConfig
      { crossed s iPF with fabric := { s.fabric with slices := tabDel s.fabric.slices k } } 0x020D q.payload) []) ∧
    (∀ (n : Nat), Served s r tag 0x020E q → Open s iPF → q.payload = (leBytes 2 n ++ leBytes 2 0) → n < 65536 →
      Answers (.sliceList r tag) s q (crossed s iPF) (leBytes 2 ((s.fabric.slices.filter fun x => decide (n ≤ x.1)
      && (routeTenant s q.route == house || x.2.tenant == routeTenant s q.route)).take 338).length ++ leBytes 2
      (match (s.fabric.slices.filter fun x => decide (n ≤ x.1) && (routeTenant s q.route == house || x.2.tenant ==
      routeTenant s q.route)).drop 338 with | [] => 0xFFFF | x :: _ => x.1) ++ (((s.fabric.slices.filter fun x =>
      decide (n ≤ x.1) && (routeTenant s q.route == house || x.2.tenant == routeTenant s q.route)).take 338).map fun
      x => leBytes 2 x.1 ++ leBytes 2 x.2.tenant ++ leBytes 4 x.2.base ++ leBytes 4 x.2.count).flatten))

/-- 05 R158, R164, Table 5.6; 06 R183, R184, Table 6.18: PROGRAM_LOAD and the end of its checks. -/
def Obligations.ProgramLoadEffect : Prop :=
  ∀ (s : State) (r : Route) (tag : Nat) (q : Req),
    (∀ (total c : Nat) (d : List Byte), Served s r tag 0x0301 q → Open s iTHY → s.thyme.exchange = none →
      s.thyme.checking = none → q.payload = leBytes 4 0 ++ leBytes 4 total ++ leBytes 4 c ++ leBytes 4 0 ++ d → 64 ≤
      total → total ≤ 2097152 → c < 2 ^ 32 → transferOf s 0x0301 = none → q.more = true → d.length < total →
      q.command = 0x0301 → Answers (.programLoad r tag) s q
      { crossed s iTHY with mail := { s.mail with transfers := (s.mail.transfers.filter (·.command != 0x0301)) ++ [{ command := 0x0301, route := q.route, tag := q.tag, total := total, data := d, received := d.length, last := s.now, check := c }] }, thyme := { s.thyme with staged := none } }
      (leBytes 4 d.length)) ∧
    (∀ (c : Nat) (d : List Byte), Served s r tag 0x0301 q → Open s iTHY → s.thyme.exchange = none → s.thyme.checking
      = none → q.payload = leBytes 4 0 ++ leBytes 4 d.length ++ leBytes 4 c ++ leBytes 4 0 ++ d → 64 ≤ d.length →
      d.length ≤ 2097152 → c < 2 ^ 32 → transferOf s 0x0301 = none → q.more = false → q.command = 0x0301 → Pends
      (.programLoad r tag) s q
      { crossed s iTHY with mail := { s.mail with transfers := (s.mail.transfers.filter (·.command != 0x0301)) }, thyme := { s.thyme with staged := none, checking := some (d, c) } }
      (leBytes 4 d.length)) ∧
    (∀ (c : Nat) (d : List Byte) (t : Transfer), Served s r tag 0x0301 q → Open s iTHY → s.thyme.exchange = none →
      s.thyme.checking = none → q.payload = leBytes 4 t.received ++ leBytes 4 t.total ++ leBytes 4 c ++ leBytes 4 0
      ++ d → 64 ≤ t.total → t.total ≤ 2097152 → c < 2 ^ 32 → transferOf s 0x0301 = some t → t.route = q.route →
      t.tag = q.tag → t.check = c → 0 < t.received → t.received + d.length = t.total → q.more = false → q.command =
      0x0301 → Pends (.programLoad r tag) s q
      { crossed s iTHY with mail := { s.mail with transfers := (s.mail.transfers.filter (·.command != 0x0301)) }, thyme := { s.thyme with checking := some (t.data ++ d, c) } }
      (leBytes 4 t.total)) ∧
    (∀ (b : List Byte) (c : Nat) (p : Program), s.thyme.checking = some (b, c) → (checkImage
      { s with thyme := { s.thyme with checking := none } } b c).toOption = some p → pendedReq s 0x0301 = some q → (tasksIn b).all (fun t => (taskAt b t).tenant == house) = true →
      exec .programLoadChecked s = .next (respond
      { s with thyme := { s.thyme with checking := none, staged := some p } } q stOk (leBytes 4 b.length))) ∧
    (∀ (b : List Byte) (c : Nat) (p : Program), s.thyme.checking = some (b, c) → (checkImage
      { s with thyme := { s.thyme with checking := none } } b c).toOption = some p → pendedReq s 0x0301 = some q →
      ∃ w, exec .programLoadChecked s = .next (respond w q stOk (leBytes 4 b.length)) ∧ w.thyme =
      { s.thyme with checking := none, staged := some p } ∧ Only [.regs, .thyme, .vault, .chk, .power] s w) ∧
    (∀ (b : List Byte) (c : Nat) (e : Nat × Nat), s.thyme.checking = some (b, c) → (match checkImage
      { s with thyme := { s.thyme with checking := none } } b c with | .ok _ => none | .error x => some x) = some e
      → pendedReq s 0x0301 = some q → e.1 < 9 → exec .programLoadChecked s = .next (respond (State.setReg
      { s with thyme := { s.thyme with checking := none, staged := none } } rThReject (e.1 + e.2 % 2 ^ 21 * 256)) q
      stImageRejected []))

/-- 06 R194, R575; 05 R164; 07 R229: starting, stopping, exchanging and unloading a program. The frame names the parts
that may differ; a standby is excluded by R155. -/
def Obligations.ProgramRunEffect : Prop :=
  ∀ (s : State) (r : Route) (tag : Nat) (q : Req),
    (∀ (p : Program) (m : Nat), Served s r tag 0x0303 q → Open s iTHY → s.mail.inProgress = [q] → s.thyme.staged =
      some p → s.thyme.loaded = none → s.thyme.exchange = none → s.thyme.unloading = false → anyBusy s = false →
      outputsOf p = [] → pairShips s = false → q.payload = leBytes 1 m ++ leBytes 3 0 ++ leBytes 4 p.id → m < 2 → p.id < 2 ^ 32 → ∃ t,
      exec (.programExchange r tag) s = .next t ∧ t.thyme.loaded = some { prog := p } ∧ t.thyme.staged = none ∧
      t.thyme.exchange = none ∧ t.rbit rThCtrl 0 = true ∧ t.thyme.lastProg = some p ∧ t.thyme.corr = 0 ∧ t.mail.inProgress = [] ∧ Only
      [.freeCtr, .regs, .outs, .islands, .fabric, .mail, .thyme, .switch, .twin, .chk, .vault, .update] s t ∧ (∀ k ∈ tabKeys p.tasks,
      (t.task k).state = .waiting ∧ (t.task k).first = true)) ∧
    (∀ (p : Program) (m : Nat), Served s r tag 0x0303 q → Open s iTHY → s.thyme.staged = some p → s.thyme.loaded = none →
      s.thyme.exchange = none → outputsOf p = [] → pairShips s = true → q.payload = leBytes 1 m ++ leBytes 3 0 ++ leBytes
      4 p.id → m < 2 → p.id < 2 ^ 32 → ∃ t e, exec (.programExchange r tag) s = .next t ∧ t.thyme.exchange = some e ∧
      e.waiting = some s.tai ∧ t.thyme.loaded = none ∧ t.thyme.staged = some p) ∧
    (Served s r tag 0x0304 q → Open s iTHY → q.payload = leBytes 4 0 → s.rbit rThCtrl 0 = true → s.thyme.unloading =
      false → s.thyme.exchange = none → ∃ w, Answers (.programRun r tag) s q (shipConfig w 0x0304 (leBytes 4 0)) []
      ∧ w.rbit rThCtrl 0 = false ∧ Only [.regs, .islands, .thyme] s w ∧ (∀ k x, tabGet s.thyme.tasks k = some x → ∃
      y, tabGet w.thyme.tasks k = some y ∧ (x.busy = true → y = { x with stopping := true }) ∧ (x.state = .waiting →
      y = { x with state := .stopped }))) ∧
    (∀ (l : Loaded), Served s r tag 0x0304 q → Open s iTHY → q.payload = leBytes 4 1 → s.rbit rThCtrl 0 = false →
      s.thyme.loaded = some l → ∃ w, Answers (.programRun r tag) s q (shipConfig w 0x0304 (leBytes 4 1)) [] ∧ w.rbit
      rThCtrl 0 = true ∧ Only [.regs, .islands, .thyme] s w ∧ (∀ k ∈ tabKeys l.prog.tasks, ((s.task k).busy = false →
      (w.task k).state = .waiting ∧ (w.task k).first = true ∧ (w.task k).fault = 0 ∧ (w.task k).bits = ((s.task
      k).zeroed l.prog k).bits ∧ (w.task k).words = ((s.task k).zeroed l.prog k).words) ∧ ((s.task k).busy = true →
      (w.task k).renew = true ∧ (w.task k).state = (s.task k).state ∧ (w.task k).first = (s.task k).first)) ∧ (s.thyme.fresh = true → w.thyme.corr = 0) ∧
      (s.thyme.fresh = false → w.thyme.corr = s.thyme.corr)) ∧
    (∀ (b : Bool), Served s r tag 0x0304 q → Open s iTHY → q.payload = leBytes 4 (b2n b) → s.rbit rThCtrl 0 = b →
      s.thyme.loaded.isSome = true → Answers (.programRun r tag) s q (crossed s iTHY) []) ∧
    (Served s r tag 0x0305 q → Open s iTHY → q.payload = [] → s.thyme.exchange = none → s.thyme.loaded = none →
      s.thyme.unloading = false → Answers (.programUnload r tag) s q (crossed s iTHY) []) ∧
    (Served s r tag 0x0305 q → Open s iTHY → q.payload = [] → s.mail.inProgress = [q] → s.thyme.exchange = none →
      s.thyme.loaded.isSome = true → anyBusy s = false → ∃ t, exec (.programUnload r tag) s = .next t ∧
      t.thyme.loaded = none ∧ t.thyme.tasks = [] ∧ t.thyme.unloading = false ∧ t.thyme.lastProg = none ∧ t.rbit
      rThCtrl 0 = false ∧ t.mail.inProgress = [] ∧ t.thyme.staged = s.thyme.staged ∧ Only [.regs, .islands, .fabric,
      .mail, .thyme, .switch, .twin, .chk] s t)

/-- 05 Table 5.1; 08 R246, R248 to R252, R577, Tables 8.5 and 8.18: the loop and trace commands. A loop whose start
state is adopted reads it through the fabric; the clause on enabling names the loops that start in state 0. -/
def Obligations.LoopCommandEffect : Prop :=
  ∀ (s : State) (r : Route) (tag : Nat) (q : Req),
    (∀ (e : List Byte), Served s r tag 0x0401 q → Open s iLOOP → q.payload = leBytes 4 0 ++ leBytes 4 64 ++ e →
      e.length = 64 → q.more = false → q.command = 0x0401 → transferOf s 0x0401 = none → checkLoopEntry s
      (routeTenant s q.route) [] e = stOk → (loopCfgOf e).kind ≠ 0 → s.loop (fld e 0 2) = none → ∃ w, Answers
      (.loopTableLoad r tag) s q (shipConfig w 0x0401 q.payload) (leBytes 2 w.loops.loops.length ++ leBytes 2 0) ∧
      w.loop (fld e 0 2) = some { cfg := loopCfgOf e, reloaded := s.loops.reloaded.contains (fld e 0 2) } ∧ tabGet w.loops.saved (fld e 0 2) = some (loopCfgOf e) ∧
      Only [.regs, .islands, .fabric, .harvest, .mail, .loops, .switch, .twin, .chk] s w) ∧
    (∀ (e : List Byte) (st : Nat), Served s r tag 0x0401 q → Open s iLOOP → q.payload = leBytes 4 0 ++ leBytes 4 64
      ++ e → e.length = 64 → q.more = false → q.command = 0x0401 → transferOf s 0x0401 = none → checkLoopEntry s
      (routeTenant s q.route) [] e = st → st ≠ stOk → Refuses (.loopTableLoad r tag) s q (State.lastError
      (State.raise (State.setReg
      { crossed s iLOOP with mail := { s.mail with transfers := s.mail.transfers.filter (·.command != 0x0401) } }
      rLpReject st) rLpEvent 3) iSAGE iLOOP 1 st) st) ∧
    (∀ (n : Nat) (x : Loop), Served s r tag 0x0402 q → Open s iLOOP → q.payload = (leBytes 2 n ++ leBytes 2 1 ++
      leBytes 1 1 ++ leBytes 3 0) → n < 1024 → s.loop n = some x → x.enabled = false → x.cfg.tenant = routeTenant s
      q.route → x.cfg.initAdopt = false → (judgeEnable (crossed s iLOOP) n x.cfg).1 = stOk → ∃ w, Answers
      (.loopEnable r tag) s q (shipConfig w 0x0402 q.payload) (leBytes 2 n ++ leBytes 2 0) ∧ w.loop n = some
      { x with enabled := true, joined := false, state := 0, held := 65535, lost := 0, lossTaken := false, written := none, bitRaise := none, bitLower := none, pending := none, errValid := false, err := 0, loss := false, inhibit := false, reloaded := false, disableDue := false, appliedNow := false }
      ∧ Only [.freeCtr, .regs, .islands, .fabric, .loops, .chk] s w) ∧
    (∀ (n : Nat) (x : Loop) (b : Bool), Served s r tag 0x0402 q → Open s iLOOP → q.payload = (leBytes 2 n ++ leBytes
      2 1 ++ leBytes 1 (b2n b) ++ leBytes 3 0) → n < 1024 → s.loop n = some x → x.enabled = true → x.cfg.tenant =
      routeTenant s q.route → Answers (.loopEnable r tag) s q (shipConfig (State.setLoop (crossed s iLOOP) n
      { x with disableDue := !b }) 0x0402 q.payload) (leBytes 2 n ++ leBytes 2 0)) ∧
    (∀ (n : Nat) (x : Loop), Served s r tag 0x0403 q → Open s iLOOP → q.payload = (leBytes 2 n ++ leBytes 2 1) → n <
      1024 → s.loop n = some x → x.cfg.tenant = routeTenant s q.route → Answers (.loopStatus r tag) s q (crossed s
      iLOOP) (leBytes 2 1 ++ leBytes 2 0 ++ (leBytes 2 n ++ leBytes 2 0 ++ leBytes 1 x.applied ++ leBytes 1 (b2n
      x.enabled + b2n x.loss * 2 + b2n x.inhibit * 4 + b2n x.reloaded * 8) ++ leBytes 2 0 ++ leBytes 4 (dwellLeft x)
      ++ leBytes 4 (if x.errValid then x.err.toNat else 0)))) ∧
    (∀ (c nd m pr : Nat), Served s r tag 0x0404 q → Open s iLOOP → q.payload = (leBytes 1 c ++ leBytes 1 0 ++
      leBytes 2 nd ++ leBytes 4 (m + pr * 65536)) → c < 16 → nd / 1024 ≤ 8 → m ≤ 4 → pr < 4096 → mayTrace s
      (routeTenant s q.route) nd = true → Answers (.traceConfig r tag) s q (shipConfig
      { crossed s iLOOP with loops := { s.loops with traces := tabSet s.loops.traces c { node := nd, mode := m, pre := pr, state := if m = 0 then .stopped else .recording } } }
      0x0404 q.payload) []) ∧
    (∀ (c off : Nat), Served s r tag 0x0405 q → Open s iLOOP → q.payload = (leBytes 4 off ++ leBytes 4 16384 ++
      leBytes 1 c) → off < 16384 → c < 16 → mayTrace s (routeTenant s q.route) (s.trace c).node = true
      → Answers (.traceRead r tag) s q (crossed s iLOOP) (leBytes 4 off ++ ((s.trace c).buffer.drop off).take 4060))

/-- 09 R264, R265, R268, R269; 10 R288, R294, R295, R297; 05 R167, Table 5.9: the metering commands. -/
def Obligations.MeteringCommandEffect : Prop :=
  ∀ (s : State) (r : Route) (tag : Nat) (q : Req),
    (Served s r tag 0x0502 q → Open s iMTR → q.payload.length = 12 → fld q.payload 0 2 = 1 → fld q.payload 2 2 = 0 →
      circuitFormed (sub q.payload 4 8) = true → (circuitOf (sub q.payload 4 8)).2.kind ≠ 0 → mapSound (tabSet
      (latestMap s) (circuitOf (sub q.payload 4 8)).1 (circuitOf (sub q.payload 4 8)).2) s.meter.cal = true → tabGet
      s.meter.circuits (circuitOf (sub q.payload 4 8)).1 = none → ∃ w, Answers (.circuitMap r tag) s q (shipConfig w
      0x0502 q.payload) ([]) ∧ tabGet w.meter.circuits (circuitOf (sub q.payload 4 8)).1 = some
      { cfg := (circuitOf (sub q.payload 4 8)).2, cal := s.meter.cal, lastEnd := s.meter.lastSample } ∧ Only [.regs,
      .islands, .fabric, .harvest, .meter, .switch, .twin, .chk] s w) ∧
    (∀ (d : List Byte), Served s r tag 0x0503 q → Open s iMTR → q.payload = leBytes 4 0 ++ leBytes 4 976 ++ d →
      d.length = 976 → q.more = false → q.command = 0x0503 → transferOf s 0x0503 = none →
            s.meter.calDue = none → Pends (.calibrationLoad r tag) s q
      { crossed s iMTR with mail := { s.mail with transfers := s.mail.transfers.filter (·.command != 0x0503) }, meter := { s.meter with calDue := some d } }
      []) ∧
    (∀ (d : List Byte), s.meter.calDue = some d → s.running iMTR = true → pendedReq s 0x0503 = some q → s.twin.role =
      .single → calibrationChecked s = (if calSound s d = true then respond
      { s with meter := { s.meter with calDue := none, cal := calOf d, calSaved := some (mramPair d) } } q stOk []
      else respond { s with meter := { s.meter with calDue := none } } q stBadArgument [])) ∧
    (∀ (n m : Nat), Served s r tag 0x0504 q → Open s iMTR → q.payload = (leBytes 2 n ++ leBytes 1 m ++ leBytes 1 0)
      → n < 65536 → m < 2 → accAssigned n = true → accCombined n = true → Answers (.accConfig r tag) s q (shipConfig
      { crossed s iMTR with meter := { s.meter with accs := tabSet s.meter.accs n { s.acc n with newAbsolute := some (m == 1) } } }
      0x0504 q.payload) []) ∧
    (∀ (te c v k : Nat), Served s r tag 0x0505 q → Open s iMTR → q.payload = (leBytes 2 te ++ leBytes 2 1 ++ leBytes
      2 c ++ leBytes 2 0 ++ leBytes 4 v) → te ≠ house → te < nobody → enrolled s te = true → c < 48 → v ≤ wholeShare
      → s.meter.slots = [] → k = 0 → (tabGet s.meter.circuits c).isSome = true → ∃ w, Answers (.apportionSet r tag)
      s q (shipConfig w 0x0505 q.payload) ([]) ∧ tabGet w.meter.slots k = some
      { tenant := te, entries := [], newEntries := some [{ circuit := c, source := 0, value := v }], newLeft := [c] }
      ∧ Only [.regs, .islands, .fabric, .harvest, .meter, .switch, .twin, .chk] s w) ∧
    (∀ (o n th wd : Nat), Served s r tag 0x0506 q → Open s iMTR → q.payload = (leBytes 1 o ++ leBytes 1 0 ++ leBytes
      2 n ++ leBytes 4 th ++ leBytes 2 wd ++ leBytes 2 0) → o < 8 → n < 65536 → th < 2 ^ 32 → 10 ≤ wd → wd ≤ 100 →
      accAssigned n = true → Answers (.spillConfig r tag) s q (shipConfig
      { crossed s iMTR with meter := { s.meter with spills := tabSet s.meter.spills o { s.spill o with bound := th != 0, acc := n, threshold := th, width := wd, residue := 0, backlog := 0, fresh := true } } }
      0x0506 q.payload) []) ∧
    (∀ (n : Nat), Served s r tag 0x0501 q → Open s iMTR → q.payload = (leBytes 2 n ++ leBytes 2 1) → n < 65536 →
      accAssigned n = true → (accReadable (crossed s iMTR) (routeTenant s q.route) n).1 = stOk → (s.acc n).failed =
      false → Answers (.meterRead r tag) s q (accReadable (crossed s iMTR) (routeTenant s q.route) n).2 (leBytes 2 1
      ++ leBytes 6 0 ++ (leBytes 2 n ++ leBytes 2 0 ++ leBytes 1 (s.acc n).wraps ++ leBytes 1 ((s.acc n).reported /
      2 ^ 48 % 256) ++ leBytes 1 (b2n (s.acc n).wrapPending + b2n (s.acc n).absolute * 2) ++ leBytes 1 0 ++ leBytes
      8 (s.acc n).reported ++ leBytes 4 ((s.acc n).reported / 2 ^ 16 % 2 ^ 32) ++ leBytes 4 0 ++ leBytes 8 (s.acc
      n).time))) ∧
    (∀ (c : Nat) (x : Circuit), Served s r tag 0x0508 q → Open s iMTR → q.payload = (leBytes 2 c ++ leBytes 2 1) → c
      < 65536 → tabGet s.meter.circuits c = some x → (crossStatus (crossed s iMTR) iMTR iPF 0 fun s => judged s
      (circuitBase c + 0xC) (routeTenant s q.route) 0 .read).1 = stOk → x.out.valid = true → x.cfg.kind = 1 → ∃ w,
      Answers (.instantRead r tag) s q w (leBytes 2 c ++ leBytes 2 0 ++ ([2, 5, 0xC, 0x10, 0x14, 1, 0x15].map fun o
      => leBytes 4 (x.out.values.getD o 0).toNat).flatten) ∧ Only [.freeCtr, .regs, .islands, .fabric, .chk] s w) ∧
    (∀ (n m : Nat), Served s r tag 0x0507 q → Open s iMTR → q.payload = (leBytes 2 n ++ leBytes 2 m) → n < 65536 → 1
      ≤ m → m ≤ 126 → accAssigned n = true → accDemand n = true → s.defined (accPoint n) = true → (accReadable
      (crossed s iMTR) (routeTenant s q.route) n).1 = stOk → Answers (.demandRead r tag) s q (accReadable (crossed s
      iMTR) (routeTenant s q.route) n).2 (((((tabGetD s.meter.demands n {}).history.take m).reverse.map fun x =>
      leBytes 8 x.start ++ leBytes 4 x.imp ++ leBytes 4 x.exp ++ leBytes 8 0)).flatten))

/-- 11 R311 to R314, R318, R331, Table 11.2; 05 R166, Table 5.8: the recorder commands. -/
def Obligations.SeriesCommandEffect : Prop :=
  ∀ (s : State) (r : Route) (tag : Nat) (q : Req),
    (∀ (bins pt lo wd k : Nat), Served s r tag 0x0601 q → Open s iPF → q.payload = (leBytes 2 0xFFFF ++ leBytes 1
      bins ++ leBytes 1 0 ++ leBytes 4 pt ++ leBytes 8 lo ++ leBytes 8 wd) → 1 ≤ bins → bins ≤ 64 → Sound s pt →
      bitOf (rightsOf s (s.point pt) (routeTenant s q.route)) 3 = true → lo < 2 ^ 64 → wd < 2 ^ 64 → fisFin fmt64 lo
      = true → fisFin fmt64 wd = true → flt fmt64 0 wd = true → hvUsed s + 32 + recordBytes bins ≤ regionBytes →
      tabFree s.harvest.series 0 65536 = some k → tabGet s.harvest.series k = none → ∃ w, Answers (.seriesDefine r
      tag) s q (shipConfig w 0x0601 q.payload) (leBytes 2 k) ∧ tabGet w.harvest.series k = some
      { tenant := routeTenant s q.route, pt := pt, bins := bins, low := BitVec.ofNat 64 lo, width := BitVec.ofNat 64 wd, linked := true, next := (if (s.point pt).flag fRecorder then some (s.point pt).series else none), current := HvRecord.empty bins s.tai, closed := [], seq := 0 }
      ∧ w.point pt = PointRec.sealed ({ s.point pt with series := k }.setFlag fRecorder true) ∧ Only [.freeCtr,
      .regs, .islands, .fabric, .harvest, .chk] s w ∧ (∀ x, x ≠ pt → w.point x = s.point x)) ∧
    (∀ (k : Nat) (x : HvSeries), Served s r tag 0x0602 q → Open s iPF → q.payload = (leBytes 2 k ++ leBytes 2 0) → k
      < 65536 → tabGet s.harvest.series k = some x → x.tenant = routeTenant s q.route → x.linked = false → ∃ w,
      Answers (.seriesDelete r tag) s q (shipConfig w 0x0602 q.payload) [] ∧ w.harvest.series = tabDel
      s.harvest.series k ∧ w.harvest.saved = tabDel s.harvest.saved k ∧ Only [.regs, .islands, .fabric, .harvest,
      .chk] s w) ∧
    (∀ (k : Nat) (x : HvSeries), Served s r tag 0x0604 q → Open s iPF → q.payload = (leBytes 2 k ++ leBytes 2 0) → k
      < 65536 → tabGet s.harvest.series k = some x → x.tenant = routeTenant s q.route → ∃ w, Answers (.seriesClear r
      tag) s q (shipConfig w 0x0604 q.payload) [] ∧ tabGet w.harvest.series k = some
      { x with current := HvRecord.empty x.bins s.tai, closed := [], seq := (x.seq + 2) % 2 ^ 32 } ∧ Only [.regs,
      .islands, .harvest] s w) ∧
    (∀ (k : Nat) (x : HvSeries), Served s r tag 0x0603 q → Open s iPF → q.payload = (leBytes 2 k ++ leBytes 2 k) → k
      < 65536 → tabGet s.harvest.series k = some x → x.tenant = routeTenant s q.route → x.current.bins.length ≤ 64 →
      (recordingChanges s k = true → ∃ w, Answers (.recorderRead r tag) s q w (leBytes 2 1 ++ leBytes 2 0xFFFF ++
      leBytes 4 0 ++ (leBytes 2 k ++ leBytes 2 stBusy ++ List.replicate 60 0)) ∧ Only [.regs, .islands] s w) ∧
      (recordingChanges s k = false → ∃ w, Answers (.recorderRead r tag) s q w (leBytes 2 1 ++ leBytes 2 0xFFFF ++ leBytes 4 0 ++ (leBytes 2 k ++
      leBytes 2 0 ++ leBytes 1 x.bins ++ leBytes 1 (b2n x.current.stuck + b2n (hvFull s) * 2) ++ leBytes 2 0 ++
      leBytes 4 x.seq ++ leBytes 4 x.current.count ++ leBytes 8 x.current.sum.toNat ++ leBytes 8 x.current.min.toNat
      ++ leBytes 8 x.current.minTime ++ leBytes 8 x.current.max.toNat ++ leBytes 8 x.current.maxTime ++ leBytes 8 0
      ++ (x.current.bins.map (leBytes 4)).flatten)) ∧ Only [.regs, .islands] s w))

/-- 05 Table 5.1, R154; 04 R136, R138; 16 Table 16.5, cause 7: the system commands. The parts a new or an ended
binding may touch are named. -/
def Obligations.SystemCommandEffect : Prop :=
  ∀ (s : State) (r : Route) (tag : Nat) (q : Req),
    (∀ (m ro : Nat), Served s r tag 0x0102 q → q.payload = (leBytes 1 m ++ leBytes 1 ro ++ leBytes 2 0 ++ leBytes 2
      0 ++ leBytes 2 0) → 1 ≤ m → m ≤ 15 → ro ≤ 3 → ∃ w, Answers (.mailboxBind r tag) s q w [] ∧ (w.box m).bind =
      some { tenant := 0, role := ro } ∧ Only [.regs, .fabric, .mail, .vault, .update, .chk] s w ∧ (∀ k, k ≠ m →
      (w.box k).bind = (s.box k).bind)) ∧
    (∀ (m ro : Nat), Served s r tag 0x0102 q → q.payload = (leBytes 1 m ++ leBytes 1 ro ++ leBytes 2 0xFFF ++
      leBytes 2 0 ++ leBytes 2 0) → 1 ≤ m → m ≤ 15 → ro ≤ 3 → routeTenant s q.route = house → ∃ w, Answers
      (.mailboxBind r tag) s q w [] ∧ (w.box m).bind = none ∧ Only [.regs, .fabric, .mail, .vault, .update, .chk] s
      w) ∧
    (∀ (i l : Nat) (a : List Byte), Served s r tag 0x0103 q → q.payload = leBytes 1 i ++ leBytes 1 l ++ leBytes 2 0
      ++ a → i < 2 → l ≤ 128 → a.length = 32 → Answers (.netConfig r tag) s q (shipConfig
      { s with mail := if i = 0 then { s.mail with netHost := q.payload } else { s.mail with netRing := q.payload } }
      0x0103 q.payload) []) ∧
    (∀ (k : Nat), Served s r tag 0x0104 q → q.payload = (leBytes 1 k ++ leBytes 3 0) → k < 2 → s.twin.role = .single
      → Answers (.systemReset r tag) s q
      { s with power := { s.power with reset := some { cause := 3, at_ := s.now + 100 * nsMs, sage := k == 1 } } }
      []) ∧
    (∀ (k : Nat), Served s r tag 0x0104 q → q.payload = (leBytes 1 k ++ leBytes 3 0) → k < 2 → ∃ w, Answers
      (.systemReset r tag) s q w [] ∧ w.power.reset = some
      { cause := 3, at_ := s.now + 100 * nsMs, sage := k == 1 })

/-- 13 R370, R378; 14 R386, R387, R393, R396, R397, R401, Tables 14.8 and 5.1: the commands of the time unit and the
Almanac. What the prescaler holds between its bounds is free (log 51). -/
def Obligations.TimeCommandEffect : Prop :=
  ∀ (s : State) (r : Route) (tag : Nat) (q : Req),
    (∀ (d p1 p2 : Nat) (a : List Byte), Served s r tag 0x0702 q → Open s iTIME → q.payload = leBytes 1 d ++ leBytes
      1 p1 ++ leBytes 1 p2 ++ leBytes 1 0 ++ a → a.length = 32 → d < 256 → p1 < 256 → p2 < 256 → (∀ g ∈ [0, 1, 2,
      3], fld q.payload (4 + 8 * g + 6) 2 = 0) → ∃ w, Answers (.ptpConfig r tag) s q (shipConfig w 0x0702 q.payload)
      ([]) ∧ w.reg rTuPtp = d + p1 * 256 + p2 * 65536 ∧ Only [.regs, .islands] s w) ∧
    (∀ (e o : Nat), Served s r tag 0x0703 q → Open s iTIME → q.payload = (leBytes 1 e ++ leBytes 3 0 ++ leBytes 4 o)
      → e < 4 → o < 2 ^ 32 → -500000000 ≤ sInt 32 o → sInt 32 o ≤ 499999999 → ∃ w, Answers (.ppsConfig r tag) s q
      (shipConfig w 0x0703 q.payload) ([]) ∧ w.reg rTuPpsOffset = o ∧ w.rfield rTuCtrl 1 2 = e ∧ w.clock.ppsNext =
      ppsAfter w s.tai ∧ w.tai = s.tai ∧ Only [.regs, .islands, .clock] s w) ∧
    (Served s r tag 0x0801 q → Open s iALM → q.payload = [] → ∃ w, Answers (.calRead r tag) s q w (leBytes 4
      s.almanac.cal.timeWord ++ leBytes 4 s.almanac.cal.dateWord) ∧ w.almanac.latchDate = s.almanac.cal ∧
      w.almanac.cal = s.almanac.cal ∧ Only [.freeCtr, .islands, .almanac] s w) ∧
    (∀ (t d : Nat), Served s r tag 0x0802 q → Open s iALM → q.payload = (leBytes 4 t ++ leBytes 4 d) → calReserved t
      d = false → t < 2 ^ 32 → d < 2 ^ 32 → ∃ w, Answers (.calSet r tag) s q w [] ∧ w.almanac.cal =
      (s.almanac.cal.setTime t).setDate d ∧ w.almanac.halt = false ∧ Only [.freeCtr, .regs, .islands, .almanac] s w)
      ∧
    (∀ (k m ra t d : Nat), Served s r tag 0x0803 q → Open s iALM → q.payload = (leBytes 1 k ++ leBytes 1 m ++
      leBytes 1 ra ++ leBytes 1 0 ++ leBytes 4 t ++ leBytes 4 d) → k < 2 → m < 128 → ra < 2 → calReserved t d =
      false → t < 2 ^ 32 → d < 2 ^ 32 → Answers (.alarmSet r tag) s q (State.setAlarm (crossed s iALM) k
      { s.alarm k with time := ((s.alarm k).time.setTime t).setDate d, mask := m, rearm := ra == 1, fired := none })
      []) ∧
    (∀ (v : Nat), Served s r tag 0x0804 q → Open s iALM → q.payload = (leBytes 2 v ++ leBytes 2 0) → v < 65536 →
      -8192 ≤ sInt 16 v → sInt 16 v ≤ 8192 → Answers (.trimSet r tag) s q
      { crossed s iALM with almanac := { s.almanac with trimNext := sInt 16 v } } []) ∧
    (Served s r tag 0x0805 q → Open s iALM → q.payload = [] → s.rfield rAlStatus 8 8 = 0 → (∀ k ∈ List.range 8,
      (bkpRec s k).copy1 = (bkpRec s k).copy0 ∧ (bkpRec s k).check0 = crc8 (bkpRec s k).copy0 ∧ (bkpRec s k).check1
      = crc8 (bkpRec s k).copy1) → Answers (.backupRead r tag) s q (crossed s iALM) (((List.range 8).map fun k =>
      (bkpRec s k).copy0).flatten)) ∧
    (∀ (k : Nat) (d : List Byte), Served s r tag 0x0806 q → Open s iALM → q.payload = leBytes 1 (8 * k) ++ leBytes 1
      8 ++ leBytes 2 0 ++ d → d.length = 8 → k < 8 → ∃ w, Answers (.backupWrite r tag) s q w [] ∧ bkpRec w k =
      { copy0 := d, check0 := crc8 d, copy1 := d, check1 := crc8 d } ∧ w.rbit rAlStatus (8 + k) = false ∧ Only
      [.regs, .islands, .almanac] s w ∧ (∀ j, j ≠ k → bkpRec w j = bkpRec s j))

/-- 12 R341, R342, R352, R356, Tables 12.2, 12.3, 12.6; 03 R116 to R118, Tables 3.26 and 3.27: the commands of the
ports and of the field and ring tables. -/
def Obligations.PortCommandEffect : Prop :=
  ∀ (s : State) (r : Route) (tag : Nat) (q : Req),
    (∀ (f n : Nat), Served s r tag 0x0901 q → Open s iSW → q.payload = (leBytes 1 f ++ leBytes 1 n) → f + n ≤ 20 →
      Answers (.portStatus r tag) s q (crossed s iSW) (((List.range n).map fun k => portStatusBytes s (f +
      k)).flatten)) ∧
    (∀ (n : Nat), Served s r tag 0x0902 q → Open s iSW → q.payload.length = 64 → fld q.payload 0 1 = n → fld
      q.payload 1 3 = 0 → n < 20 → portCfgOk n (portCfgOf (q.payload.drop 4)) (q.payload.drop 36) = true → ∃ w,
      Answers (.portConfig r tag) s q (shipConfig w 0x0902 q.payload) [] ∧ (w.port n).cfg = portCfgOf
      (q.payload.drop 4) ∧ Only [.regs, .islands, .switch] s w ∧ (∀ k, k ≠ n → w.port k = s.port k)) ∧
    (∀ (n : Nat), Served s r tag 0x0903 q → Open s iSW → q.payload = (leBytes 1 n ++ leBytes 3 0) → n < 20 → ∃ w,
      Answers (.portCounters r tag) s q w (((List.range 128).map fun i => leBytes 4 (if i < 40 then s.reg (rMacCnt n
      i) else 0)).flatten) ∧ Only [.regs, .islands] s w ∧ (∀ i, i < 40 → w.reg (rMacCnt n i) = 0)) ∧
    (∀ (d : List Byte), Served s r tag 0x0904 q → Open s iSW → q.payload = leBytes 4 0 ++ leBytes 4 d.length ++ d →
      q.more = false → q.command = 0x0904 → transferOf s 0x0904 = none → gateListOk d = true → Answers
      (.gateListLoad r tag) s q (shipConfig (State.setPort
      { crossed s iSW with mail := { s.mail with transfers := s.mail.transfers.filter (·.command != 0x0904) } } (fld
      d 0 1) { s.port (fld d 0 1) with pendingList := some (gateListOf d, changeInstant s (gateListOf d)) }) 0x0904
      q.payload) []) ∧
    (∀ (n h sci : Nat) (k : StoredKey), Served s r tag 0x0907 q → Open s iSW → Open s iVLT → q.payload = (leBytes 1
      n ++ leBytes 3 0 ++ leBytes 4 h ++ leBytes 8 sci) → n < 4 → h < 2 ^ 32 → sci < 2 ^ 64 → (judgeKey s h house
      3).toOption = some k → k.uses = none → ∃ w, Answers (.macsecConfig r tag) s q (shipConfig w 0x0907 q.payload)
      [] ∧ ((w.port n).macsec.map fun m => (m.sci, m.keyHandle)) = some (sci, h) ∧ ((w.port n).macsec.map fun m =>
      (m.txNow.map SecAssoc.pn, m.rxNow.map SecAssoc.pn)) = some (some 0, some 0) ∧ ((w.port n).macsec.map fun m =>
      (m.txNext.isNone, m.rxNext.isNone)) = some (true, true) ∧ Only [.regs, .islands, .switch, .vault] s w) ∧
    (∀ (n sn te ct bs rf : Nat), Served s r tag 0x0905 q → Open s iPF → q.payload = leBytes 1 n ++ leBytes 1 0 ++
      leBytes 2 1 ++ (leBytes 8 sn ++ leBytes 4 0 ++ leBytes 2 te ++ leBytes 2 ct ++ leBytes 4 bs ++ leBytes 4 rf ++
      leBytes 8 0) → 4 ≤ n → n < 20 → 0 < sn → sn < 2 ^ 64 → te < nobody → 1 ≤ ct → ct ≤ 4095 → bs < pointCount → 10
      ≤ rf → rf ≤ 60000 → withinSlices s te bs ct = true → (∀ d ∈ s.fabric.devices, d.port ≠ n) → (∀ x ∈
      s.fabric.store, bs ≤ x.1 → x.1 < bs + ct → x.2.flag fLocked = false) → ∃ w, Answers (.deviceTable r tag) s q
      (shipConfig w 0x0905 q.payload) (leBytes 2 1 ++ leBytes 2 0 ++ leBytes 4 0 ++ (leBytes 4 sn ++ leBytes 2 0 ++
      leBytes 2 0)) ∧ w.fabric.devices = s.fabric.devices ++
      [{ port := n, serial := sn, tenant := te, address := 0, base := bs, count := ct, refresh := rf, heard := s.now, stale := false, absent := false }]
      ∧ Only [.regs, .islands, .fabric, .chk] s w) ∧
    (∀ (i rm pt : Nat) (a : List Byte), Served s r tag 0x0906 q → Open s iPF → q.payload = leBytes 1 0 ++ leBytes 1
      0 ++ leBytes 2 1 ++ (leBytes 2 i ++ a ++ leBytes 4 rm ++ leBytes 4 pt) → a.length = 6 → isUnicast (beNat a) = true → i < 65536 → rm <
      pointCount → pt < pointCount → tabGet s.fabric.imports i = none → Sound s pt → (s.point pt).owner =
      routeTenant s q.route → (s.point pt).flag fLocked = false → ∃ w, Answers (.ringTables r tag) s q (shipConfig w
      0x0906 q.payload) (leBytes 2 1 ++ leBytes 2 0 ++ leBytes 4 0 ++ (leBytes 4 i ++ leBytes 2 0 ++ leBytes 2 0)) ∧
      tabGet w.fabric.imports i = some
      { sender := beNat a, remote := rm, localPt := pt, tenant := routeTenant s q.route } ∧ w.point pt =
      PointRec.sealed ({ s.point pt with writer := importWriter i }.setFlag fLocked true) ∧ Only [.islands, .fabric,
      .chk] s w)

/-- 15 R405 to R409, R420, R422, Tables 15.2, 15.3 and 15.5: the bus commands. -/
def Obligations.BusCommandEffect : Prop :=
  ∀ (s : State) (r : Route) (tag : Nat) (q : Req),
    (∀ (c : Nat), Served s r tag 0x0A01 q → Open s iBUS → q.payload.length = 32 → fld q.payload 0 1 = c → c < 8 →
      fld q.payload 1 3 = 0 → fld q.payload 5 1 = 0 → fld q.payload 11 1 = 0 → allZero (q.payload.drop 23) = true →
      busCfgOk c (busCfgOf (q.payload.drop 4)) = true → Answers (.busConfig r tag) s q (shipConfig
      { State.setChan (crossed s iBUS) c { s.chan c with newCfg := some (busCfgOf (q.payload.drop 4)) } with bus := { (State.setChan (crossed s iBUS) c { s.chan c with newCfg := some (busCfgOf (q.payload.drop 4)) }).bus with savedCfg := tabSet s.bus.savedCfg c (busCfgOf (q.payload.drop 4)) } }
      0x0A01 q.payload) []) ∧
    (∀ (c n : Nat), Served s r tag 0x0A02 q → Open s iBUS → q.payload.length = 28 → fld q.payload 0 1 = c → c < 8 →
      fld q.payload 1 1 = n → fld q.payload 2 2 = 0 → objCfgOk c (objCfgOf (q.payload.drop 4)) = true → (objCfgOf
      (q.payload.drop 4)).kind = 4 → (objCfgOf (q.payload.drop 4)).flag 3 = false → routeTenant s q.route =
      s.mail.partition → s.obj c n = none → ∃ w, Answers (.busObjectSet r tag) s q (shipConfig w 0x0A02 q.payload)
      [] ∧ w.obj c n = some { newObj s (objCfgOf (q.payload.drop 4)) (routeTenant s q.route) with next := n } ∧
      tabGet w.bus.savedObj (c * 256 + n) = some (routeTenant s q.route, objCfgOf (q.payload.drop 4)) ∧ Only
      [.islands, .bus] s w) ∧
    (∀ (c : Nat), Served s r tag 0x0A03 q → Open s iBUS → q.payload = (leBytes 1 c ++ leBytes 3 0) → c < 8 → ∃ w p,
      Answers (.busStatus r tag) s q w p ∧ p.length = 32 ∧ p.take 4 = [BitVec.ofNat 8 c, BitVec.ofNat 8 (s.chan
      c).state.code, BitVec.ofNat 8 (min 255 (s.chan c).txErr), BitVec.ofNat 8 (min 255 (s.chan c).rxErr)] ∧ p.drop
      8 = ([rBcRxf c, rBcTxf c, rBcNoMatch c, rBcRxLost c, rBcBusOff c].map fun a => leBytes 4 (s.reg a)).flatten ++
      leBytes 4 (busStamp s.tai) ∧ Only [.freeCtr, .islands] s w) ∧
    (∀ (c m : Nat), Served s r tag 0x0A04 q → Open s iBUS → q.payload = (leBytes 1 c ++ leBytes 1 m ++ leBytes 2 0)
      → c < 8 → (m = 1 ∨ (m = 2 ∧ (s.chan c).objects.any (fun x => x.2.cfg.kind == 5) = true) ∨ (m = 0 ∧ (s.chan
      c).state ≠ .asleep)) → Answers (.busSleep r tag) s q (shipConfig (State.setChan (crossed s iBUS) c
      { s.chan c with sleepDue := m }) 0x0A04 q.payload) []) ∧
    (∀ (c : Nat), Served s r tag 0x0A04 q → Open s iBUS → q.payload = (leBytes 1 c ++ leBytes 1 0 ++ leBytes 2 0) →
      c < 8 → (s.chan c).state = .asleep → ∃ w, Answers (.busSleep r tag) s q (shipConfig w 0x0A04 q.payload) [] ∧
      w.chan c =
      { s.chan c with state := .integrating, wakeCause := 4, sleepMode := 0, sleepDue := 0, wakeErr := 0 } ∧ Only
      [.regs, .islands, .bus] s w)

/-- 16 R427 to R429, R441, R454, Table 5.1: the twin commands. The boundary when no task runs is the model's choice
(log 63). -/
def Obligations.TwinCommandEffect : Prop :=
  ∀ (s : State) (r : Route) (tag : Nat) (q : Req),
    (∀ (sn : List Byte), Served s r tag 0x0B03 q → Open s iMGT → q.payload = sn ++ leBytes 1 1 ++ leBytes 3 0 →
      s.twin.role = .single → sn.length = 12 → sn.all (fun x => decide (0x30 ≤ x.toNat) && decide (x.toNat ≤ 0x39))
      = true → sn ≠ serialBytes → ∃ w, Answers (.twinConfig r tag) s q w [] ∧ w.twin.role = .pairing ∧
      w.twin.partnerSerial = sn ∧ w.reg rTwCompared = 0 ∧ w.reg rTwMismatch = 0 ∧ w.twin.partner = 0 ∧ w.clock =
      s.clock ∧ w.almanac = s.almanac ∧ w.power = s.power) ∧
    (∀ (sn : List Byte), Served s r tag 0x0B03 q → Open s iMGT → q.payload = sn ++ leBytes 1 0 ++ leBytes 3 0 →
      s.twin.role = .pairing → sn.length = 12 → ∃ w, Answers (.twinConfig r tag) s q w [] ∧ w.twin.role = .single ∧
      w.twin.partnerSerial = List.replicate 12 0 ∧ w.almanac = s.almanac) ∧
    (∀ (sn : List Byte), Served s r tag 0x0B03 q → Open s iMGT → q.payload = sn ++ leBytes 1 0 ++ leBytes 3 0 →
      s.twin.role = .single → sn.length = 12 → Answers (.twinConfig r tag) s q
      { crossed s iMGT with twin := { s.twin with silent := false } } []) ∧
    (Served s r tag 0x0B04 q → Open s iMGT → q.payload = [] → s.twin.role = .active → s.twin.alone = false →
      s.twin.ready = true → pendedReq s 0x0B04 = none → Pends (.twinHandover r tag) s q (twinSend
      { crossed s iMGT with twin := { s.twin with handover := some (handoverBoundary s), handoverAgreed := false } }
      0x06 (leBytes 4 0 ++ leBytes 8 (handoverBoundary s))) []) ∧
    (Served s r tag 0x0B04 q → Open s iMGT → q.payload = [] → (s.twin.role ≠ .active ∨ s.twin.alone = true ∨
      s.twin.ready = false) → Refuses (.twinHandover r tag) s q (State.lastError (crossed s iMGT) iSAGE iMGT 1
      stNotPermitted) stNotPermitted) ∧
    (∀ (n : Nat), Served s r tag 0x0B05 q → Open s iMGT → q.payload.length = 4 + 12 * n → fld q.payload 0 1 = n → n
      ≤ 16 → fld q.payload 1 3 = 0 → Answers (.witnessConfig r tag) s q
      { crossed s iMGT with twin := { s.twin with served := entriesAt q.payload 4 12 n, servedAt := s.twin.servedAt.filter fun a => (entriesAt q.payload 4 12 n).contains a.serial } }
      [])

/-- 18 R491 to R497, Tables 18.2 and 18.3: operations with stored keys. What the ciphers compute is uninterpreted (log
16). -/
def Obligations.KeyCommandEffect : Prop :=
  ∀ (s : State) (r : Route) (tag : Nat) (q : Req),
    (∀ (h : Nat) (a d n : List Byte) (k : StoredKey), Served s r tag 0x0C08 q → Open s iVLT → q.payload = leBytes 4
      h ++ leBytes 2 a.length ++ leBytes 2 d.length ++ a ++ d → h < 2 ^ 32 → a.length + d.length ≤ 4028 → (judgeKey
      s h (routeTenant s q.route) 0).toOption = some k → n = (State.drawBytes s 12).1 → Answers (.keyEncrypt r tag)
      s q (useKey (State.drawBytes (crossed s iVLT) 12).2 k) (n ++ padTo d.length (Config.gcmSeal k.material n a d)
      ++ padTo 16 (Config.gcmTag k.material n a (padTo d.length (Config.gcmSeal k.material n a d))))) ∧
    (∀ (h : Nat) (n a d t : List Byte) (k : StoredKey), Served s r tag 0x0C09 q → Open s iVLT → q.payload = leBytes
      4 h ++ leBytes 2 a.length ++ leBytes 2 d.length ++ n ++ a ++ d ++ t → h < 2 ^ 32 → n.length = 12 → t.length =
      16 → a.length + d.length ≤ 4028 → (judgeKey s h (routeTenant s q.route) 1).toOption = some k → (gcmOpen?
      k.material n a d t = none → Refuses (.keyDecrypt r tag) s q (State.lastError (useKey (crossed s iVLT) k) iSAGE
      iVLT 1 stBadCheck) stBadCheck) ∧ (∀ x, gcmOpen? k.material n a d t = some x → Answers (.keyDecrypt r tag) s q
      (useKey (crossed s iVLT) k) x)) ∧
    (∀ (h g : Nat) (n : List Byte) (k x : StoredKey), Served s r tag 0x0C0A q → Open s iVLT → q.payload = (leBytes 4
      h ++ leBytes 4 g) → h < 2 ^ 32 → g < 2 ^ 32 → (judgeKey s h (routeTenant s q.route) 2).toOption = some k →
      (judgeKey s g (routeTenant s q.route) 0).toOption = some x → x.expire = false → n = (State.drawBytes s 12).1 →
      Answers (.keyWrap r tag) s q (useKey (State.drawBytes (crossed s iVLT) 12).2 k) (exportHead x ++ n ++ padTo 32
      (Config.gcmSeal k.material n (exportHead x) (leBytes 32 x.material)) ++ padTo 16 (Config.gcmTag k.material n
      (exportHead x) (padTo 32 (Config.gcmSeal k.material n (exportHead x) (leBytes 32 x.material)))))) ∧
    (∀ (h i : Nat) (u : List Byte) (k : StoredKey), Served s r tag 0x0C0B q → Open s iVLT → q.payload = leBytes 4 h
      ++ u → u.length = 68 → h < 2 ^ 32 → wrappedForm u [32] = true → (judgeKey s h (routeTenant s q.route)
      2).toOption = some k → fld u 4 2 = k.tenant → bitsOf (fld u 1 1) 0 2 ≤ 1 → k.uses = none → tabFree
      s.vault.keys 0 256 = some i → (gcmOpen? k.material (sub u 8 12) (sub u 0 8) (sub u 20 32) (sub u 52 16) = none
      → Refuses (.keyUnwrap r tag) s q (State.lastError (useKey (crossed s iVLT) k) iSAGE iVLT 1 stBadCheck)
      stBadCheck) ∧ (∀ m, gcmOpen? k.material (sub u 8 12) (sub u 0 8) (sub u 20 32) (sub u 52 16) = some m → ∃ w,
      Answers (.keyUnwrap r tag) s q w (leBytes 4 (i + nextGen (tabGetD s.vault.gens i 0) * 256)) ∧ ((keyOf w (i +
      nextGen (tabGetD s.vault.gens i 0) * 256)).map fun y => (y.tenant, y.purpose, y.material)) = some (k.tenant,
      fld u 1 1 % 4, leNat m) ∧ Only [.regs, .islands, .vault, .chk] s w)) ∧
    (∀ (h i pu us : Nat) (c : List Byte) (k : StoredKey), Served s r tag 0x0C0C q → Open s iVLT → q.payload =
      leBytes 4 h ++ leBytes 1 pu ++ leBytes 1 c.length ++ leBytes 2 us ++ c → h < 2 ^ 32 → pu < 4 → us < 65536 → 1
      ≤ c.length → c.length ≤ 64 → (judgeKey s h (routeTenant s q.route) 3).toOption = some k → k.uses = none →
      tabFree s.vault.keys 0 256 = some i → ∃ w, Answers (.keyDerive r tag) s q w (leBytes 4 (i + nextGen (tabGetD
      s.vault.gens i 0) * 256)) ∧ ((keyOf w (i + nextGen (tabGetD s.vault.gens i 0) * 256)).map fun y => (y.tenant,
      y.purpose, y.material)) = some (k.tenant, pu, Config.kmac (leBytes 32 k.material) c 256 "CFM-8420 derive" % 2
      ^ 256) ∧ Only [.regs, .islands, .vault, .chk] s w) ∧
    (∀ (h : Nat) (a d : List Byte) (k : StoredKey), Served s r tag 0x0C08 q → Open s iVLT → q.payload = leBytes 4 h
      ++ leBytes 2 a.length ++ leBytes 2 d.length ++ a ++ d → h < 2 ^ 32 → a.length + d.length ≤ 4028 → keyOf s h =
      some k → k.tenant = routeTenant s q.route → usable s k = true → k.purpose ≠ 0 → Refuses (.keyEncrypt r tag) s
      q (State.lastError (State.stick (crossed s iVLT) rKvRefused rKvEvent 6) iSAGE iVLT 1 stKeyPurpose)
      stKeyPurpose)

/-- 18 R490, R491, R500 to R506, R509, Tables 18.3, 18.5 and 18.6: the commands of tenants, keys and attestation. What
the wrapping opens to is uninterpreted (log 16). -/
def Obligations.VaultCommandEffect : Prop :=
  ∀ (s : State) (r : Route) (tag : Nat) (q : Req),
    (∀ (t i : Nat) (u : List Byte), Served s r tag 0x0C01 q → Open s iVLT → q.payload = leBytes 2 t ++ leBytes 2 0
      ++ u → u.length = wrappedSize (fld u 6 2) → t < nobody → wrappedForm u [32, 64] = true → fld u 1 1 = 3 → fld u
      2 2 = 0 → fld u 4 2 = t → l3Hold s = false → credentialOf s t = none → tabFree s.vault.keys 0 256 = some i →
      (unwrapKey s u = none → Refuses (.tenantEnrol r tag) s q (State.lastError (crossed s iVLT) iSAGE iVLT 1
      stBadCheck) stBadCheck) ∧ (∀ m, unwrapKey s u = some m → ∃ w, Answers (.tenantEnrol r tag) s q w (leBytes 4 (i
      + nextGen (tabGetD s.vault.gens i 0) * 256)) ∧ ((keyOf w (i + nextGen (tabGetD s.vault.gens i 0) * 256)).map
      fun y => (y.tenant, y.credential, y.material)) = some (t, true, leNat (m.take 32)) ∧ Only [.islands, .vault, .chk] s
      w)) ∧
    (∀ (t : Nat), Served s r tag 0x0C02 q → Open s iVLT → q.payload = (leBytes 2 t ++ leBytes 2 0) → t < nobody → t
      ≠ house → (s.isl iMTR).state = .run → (s.isl iMTR).draining = false → (s.epochOf iSAGE iMTR = 0 ∨ s.epochOf iSAGE
      iMTR = (s.isl iMTR).epoch) → (s.isl iPF).state = .run → (s.isl iPF).draining = false → (s.epochOf iSAGE iPF = 0 ∨
      s.epochOf iSAGE iPF = (s.isl iPF).epoch) → s.vault.keys.all (fun p => p.2.handle % 256 == p.1) = true → tabWf s.vault.keys = true → ∃ w,
      Answers (.tenantRemove r tag) s q w [] ∧ w.vault.keys.all (fun p => p.2.tenant != t) = true ∧ w.almanac =
      s.almanac ∧ w.clock = s.clock ∧ w.power = s.power) ∧
    (∀ (i : Nat) (u : List Byte), Served s r tag 0x0C03 q → Open s iVLT → q.payload = leBytes 1 (fld u 1 1) ++
      leBytes 1 0 ++ leBytes 2 (fld u 2 2) ++ u → u.length = wrappedSize (fld u 6 2) → wrappedForm u [32] = true →
      fld u 4 2 = 0 → l3Hold s = false → tabFree s.vault.keys 0 256 = some i → (unwrapKey s u = none → Refuses
      (.keyImport r tag) s q (State.lastError (crossed s iVLT) iSAGE iVLT 1 stBadCheck) stBadCheck) ∧ (∀ m,
      unwrapKey s u = some m → ∃ w, Answers (.keyImport r tag) s q w (leBytes 4 (i + nextGen (tabGetD s.vault.gens i
      0) * 256)) ∧ ((keyOf w (i + nextGen (tabGetD s.vault.gens i 0) * 256)).map fun y => (y.tenant, y.purpose,
      y.material)) = some (house, fld u 1 1 % 4, leNat m) ∧ Only [.islands, .vault, .chk] s w)) ∧
    (∀ (h : Nat) (k : StoredKey), Served s r tag 0x0C04 q → Open s iVLT → q.payload = (leBytes 4 h) → h < 2 ^ 32 →
      keyOf s h = some k → k.credential = false → ∃ w, Answers (.keyDelete r tag) s q w [] ∧ w.vault.keys = tabDel
      s.vault.keys (h % 256) ∧ Only [.islands, .vault] s w) ∧
    (∀ (n : Nat), Served s r tag 0x0C05 q → Open s iVLT → q.payload = (leBytes 2 n ++ leBytes 2 0) → n < 65536 →
      Answers (.keyList r tag) s q (crossed s iVLT) (((s.vault.keys.filter fun e => decide (n ≤ e.1) && (routeTenant
      s q.route == house || e.2.tenant == routeTenant s q.route)).map fun e => leBytes 4 e.2.handle ++ leBytes 2
      e.2.tenant ++ leBytes 1 e.2.purpose ++ leBytes 1 (b2n e.2.void * 2) ++ leBytes 2 (e.2.uses.getD 0) ++ leBytes
      2 0).flatten)) ∧
    (Served s r tag 0x0C06 q → Open s iVLT → q.payload.length = 32 → leNat q.payload ≠ 0 → Answers (.attest r tag) s
      q (holdStatement (crossed s iVLT)
      { route := r, bytes := attestStatement s q.payload, next := 1, made := s.now }) (attestPart (attestStatement s
      q.payload) 0)) ∧
    (∀ (x : Statement), Served s r tag 0x0C06 q → Open s iVLT → q.payload = leBytes 32 0 → heldStatement s r = some
      x → 4056 * x.next < x.bytes.length → s.now < x.made + 60 * nsSec → Answers (.attest r tag) s q (holdStatement (crossed s iVLT)
      { x with next := x.next + 1 }) (attestPart x.bytes x.next)) ∧
    (∀ (c e : Nat) (a : List Byte), Served s r tag 0x0C07 q → Open s iVLT → a = leBytes 1 1 ++ leBytes 3 0 ++
      serialBytes ++ leBytes 4 c ++ leBytes 8 e ++ leBytes 4 0 → q.payload = a ++ leBytes 32 (Config.kmac (leBytes
      32 Config.debugKey) a 256 "CFM-8420 debug") → s.reg rKvDebugCtr < c → s.tai < e → c < 2 ^ 32 → e < 2 ^ 64 →
      l3Hold s = false → s.mail.sessions = [] → ∃ w, Answers (.debugEnable r tag) s q w [] ∧ w.vault.testRoot = true
      ∧ w.vault.debugOpen = true ∧ w.reg rKvDebugCtr = c ∧ w.rbit rKvEvent 2 = true ∧ w.clock = s.clock ∧
      w.fabric.store = s.fabric.store) ∧
    (Served s r tag 0x0C07 q → Open s iVLT → q.payload.length = 64 → fld q.payload 1 3 = 0 → fld q.payload 28 4 = 0
      → (fld q.payload 0 1 ≠ 1 ∨ fld q.payload 16 4 ≤ s.reg rKvDebugCtr ∨ fld q.payload 20 8 ≤ s.tai ∨ l3Hold s =
      true) → Refuses (.debugEnable r tag) s q (State.lastError (State.raise (crossed s iVLT) rKvEvent 3) iSAGE iVLT
      1 stNotPermitted) stNotPermitted)

/-- 19 R518, R519, R522 to R527, Tables 19.1 and 19.4: the update commands. The reset of a fall-back is due at once
(log 74). -/
def Obligations.UpdateCommandEffect : Prop :=
  ∀ (s : State) (r : Route) (tag : Nat) (q : Req),
    (Served s r tag 0x0D01 q → Open s iMGT → q.payload.length = 128 → s.update.trialing = false → s.update.stage ≠ 2
      → s.mail.transfers.all (fun t => t.command != 0x0D02 || t.route == r) = true → firstStep (headerChecks s
      q.payload) = none → Answers (.updateBegin r tag) s q (State.raise (State.setReg
      { crossed s iMGT with mail := { s.mail with transfers := s.mail.transfers.filter (·.command != 0x0D02) }, update := { s.update with slotA := (if s.update.active then { state := 1, header := q.payload } else s.update.slotA), slotB := (if s.update.active then s.update.slotB else { state := 1, header := q.payload }), stage := 1, copy0 := { body := { stateA := (if s.update.active then 1 else s.update.slotA.state), stateB := (if s.update.active then s.update.slotB.state else 1), active := s.update.active, trials := s.update.trials } }, copy1 := { body := { stateA := (if s.update.active then 1 else s.update.slotA.state), stateB := (if s.update.active then s.update.slotB.state else 1), active := s.update.active, trials := s.update.trials } } } }
      rUpReceived 0) rUpEvent 0) []) ∧
    (∀ (k : Nat), Served s r tag 0x0D01 q → Open s iMGT → q.payload.length = 128 → s.update.trialing = false →
      s.update.stage ≠ 2 → s.mail.transfers.all (fun t => t.command != 0x0D02 || t.route == r) = true → firstStep
      (headerChecks s q.payload) = some k → Refuses (.updateBegin r tag) s q (State.lastError (State.raise
      (State.setReg (crossed s iMGT) rUpReject (1 + k * 16 + 0 % 256 * 256 + stImageRejected * 65536)) rUpEvent 2)
      iSAGE iMGT 1 stImageRejected) stImageRejected) ∧
    (∀ (total : Nat) (d : List Byte), Served s r tag 0x0D02 q → Open s iMGT → q.payload = leBytes 4 0 ++ leBytes 4
      total ++ d → s.update.stage = 1 → total < 2 ^ 32 → fld (spareSlot s).header 32 4 = total → q.command = 0x0D02
      → q.more = true → 0 < d.length → d.length < total → transferOf s 0x0D02 = none → headerKept (spareSlot
      s).header d = true → Pends (.updateSegment r tag) s q (putTransfer (State.setReg (crossed s iMGT)
      rUpReceived d.length)
      { command := 0x0D02, route := q.route, tag := q.tag, total := total, data := d, received := d.length, last := s.now, check := 0 })
      (leBytes 4 d.length)) ∧
    (∀ (total : Nat) (d : List Byte), Served s r tag 0x0D02 q → Open s iMGT → q.payload = leBytes 4 0 ++ leBytes 4
      total ++ d → s.update.stage = 1 → total < 2 ^ 32 → fld (spareSlot s).header 32 4 = total → q.command = 0x0D02
      → q.more = false → 0 < d.length → d.length = total → transferOf s 0x0D02 = none → headerKept (spareSlot
      s).header d = true → ∃ w, Pends (.updateSegment r tag) s q w (leBytes 4 total) ∧ w.update.stage = 2 ∧
      (spareSlot w).data = d ∧ (spareSlot w).header = (spareSlot s).header ∧ Only [.regs, .islands, .mail, .update]
      s w) ∧
    (Served s r tag 0x0D03 q → Open s iMGT → q.payload = [] → s.update.trialing = false → (spareSlot s).state = 2 →
      s.twin.role = .single → s.running iFLD = true → s.running iMTR = true → (s.isl iFLD).draining = false → (s.isl
      iMTR).draining = false → ∃ w, Answers (.updateActivate r tag) s q w [] ∧ w.update.active = !s.update.active ∧
      (activeSlot w).state = 4 ∧ (spareSlot w).state = 2 ∧ w.update.resetAt = some (s.now + 100 * nsMs) ∧
      w.update.trials = 0) ∧
    (Served s r tag 0x0D04 q → Open s iMGT → q.payload = [] → s.update.trialing = true → ∃ w, Answers
      (.updateConfirm r tag) s q w [] ∧ (activeSlot w).state = 3 ∧ w.update.trialing = false ∧ w.update.active =
      s.update.active ∧ w.rbit rUpEvent 4 = true ∧ (spareSlot w).state = (if (spareSlot s).state ≤ 1 then (spareSlot
      s).state else if hdSecurity (spareSlot s).head < w.reg rUpFloor ∨ hdFormat (spareSlot s).head < w.rfield
      rUpFormat 0 16 then 5 else 2) ∧ Only [.regs, .islands, .update] s w) ∧
    (Served s r tag 0x0D05 q → Open s iMGT → q.payload = [] → s.update.trialing = true → ∃ w, Answers
      (.updateFallback r tag) s q w [] ∧ w.update.active = !s.update.active ∧ (activeSlot w).state = 3 ∧ (spareSlot
      w).state = 2 ∧ w.update.resetAt = some s.now ∧ w.rbit rUpEvent 5 = true ∧ Only [.regs, .islands, .power,
      .update] s w) ∧
    (Served s r tag 0x0D04 q → Open s iMGT → q.payload = [] → s.update.trialing = false → Refuses (.updateConfirm r
      tag) s q (State.lastError (crossed s iMGT) iSAGE iMGT 1 stBadArgument) stBadArgument)

/-- 17 R471 to R473, R482, R484; 02 R59 to R62, R68; 00 R2; 05 Table 5.1: the platform commands. A request that an
island ignores answers OK with its present epoch (log 54). -/
def Obligations.PlatformCommandEffect : Prop :=
  ∀ (s : State) (r : Route) (tag : Nat) (q : Req),
    (∀ (f n : Nat), Served s r tag 0x0E02 q → Open s iMGT → q.payload = (leBytes 2 f ++ leBytes 2 n) → f < 65536 → 1
      ≤ n → n ≤ 253 → Answers (.faultLogRead r tag) s q (crossed s iMGT) (leBytes 2 (((heldEntries s).drop f).take
      n).length ++ leBytes 2 (if (heldEntries s).length ≤ f + (((heldEntries s).drop f).take n).length then 0xFFFF
      else f + (((heldEntries s).drop f).take n).length) ++ leBytes 4 0 ++ ((((heldEntries s).drop f).take n).map
      LogEntry.bytes).flatten)) ∧
    (∀ (l rf : Nat), Served s r tag 0x0E03 q → Open s iMGT → q.payload = (leBytes 2 l ++ leBytes 1 rf ++ leBytes 1
      0) → 180 ≤ l → l ≤ 480 → rf ≤ 2 → ∃ w, Answers (.powerConfig r tag) s q w [] ∧ w.rfield rPwCtrl 0 9 = l ∧
      w.rfield rPwCtrl 12 2 = rf ∧ w.power.refExt = (rf != 0 && s.power.refIn) ∧ Only [.regs, .islands, .power] s w)
      ∧
    (∀ (m : Nat), Served s r tag 0x0E04 q → Open s iMGT → q.payload.length = 36 → fld q.payload 0 2 = m → fld
      q.payload 2 2 = 0 → fieldPowerOk q.payload = true → (s.isl iFLD).state = .run → (s.isl iFLD).draining = false → (s.epochOf iMGT iFLD = 0 ∨ s.epochOf iMGT iFLD = (s.isl iFLD).epoch) → ∃ w, Answers (.fieldPower r tag) s q (shipConfig w 0x0E04
      q.payload) [] ∧ w.reg rPwFuseEn = m ∧ Only [.regs, .islands, .power] s w) ∧
    (∀ (i v : Nat) (st : IslState), Served s r tag 0x0E05 q → Open s iMGT → q.payload = (leBytes 1 i ++ leBytes 1 v
      ++ leBytes 2 0) → i ≤ 11 → i ≠ iMTR → i ≠ iSAGE → v < 8 → reqTarget v = some st → askable (crossed s iMGT)
      .steward i v = true → (s.isl i).state = .run → (s.isl i).draining = false → s.twin.role = .single → ∃ w, Pends
      (.islandControl r tag) s q w [] ∧ (w.isl i).draining = true ∧ (w.isl i).target = st ∧ (w.isl i).state = .run ∧
      (w.isl i).epoch = (s.isl i).epoch ∧ w.rfield (rIslCtrl i) 0 3 = v ∧ Only [.regs, .islands] s w ∧ (∀ k, k ≠ i →
      k ≠ iSAGE → w.isl k = s.isl k)) ∧
    (∀ (i v f : Nat), Served s r tag 0x0E05 q → Open s iMGT → q.payload = (leBytes 1 i ++ leBytes 1 v ++ leBytes 1 f
      ++ leBytes 1 0) → i ≤ 11 → v < 8 → f < 2 → askable (crossed s iMGT) .steward i v = false → atRest (s.isl i) =
      true → Answers (.islandControl r tag) s q (crossed s iMGT) (leBytes 2 (s.isl i).epoch ++ leBytes 2 0)) ∧
    (Served s r tag 0x0E06 q → q.payload = [0x4B, 0x57, 0x46, 0x52, 0, 0, 0, 0] → s.mail.transfers = [] →
      s.update = s.update.commit → s.update.slotA.state ≠ 1 → s.update.slotB.state ≠ 1 → ∃ t, exec
      (.factoryReset r tag) s = .next t ∧ t = factoryReset (respond s q stOk []) ∧ t.fabric.slices = [] ∧
      t.fabric.store = [] ∧ t.twin.role = .single ∧ t.almanac.cal = s.almanac.cal ∧ t.almanac.backup =
      s.almanac.backup ∧ t.update.slotA = s.update.slotA ∧ t.update.slotB = s.update.slotB ∧ t.thyme.lastProg = none
      ∧ t.mail.sessions = [] ∧ t.power.log = []) ∧
    (∀ (a : Nat), Served s r tag 0x0F01 q → Open s (addrIsl a) → q.payload = (leBytes 4 a ++ leBytes 2 1 ++ leBytes
      2 0) → a < 2 ^ 32 → gate s .block a 0 false = stOk → Answers (.blockRead r tag) s q (readReg (crossed s
      (addrIsl a)) a).2 (leBytes 2 1 ++ leBytes 2 0 ++ leBytes 4 a ++ leBytes 4 (readReg (crossed s (addrIsl a))
      a).1)) ∧
    (∀ (a v : Nat), Served s r tag 0x0F02 q → Open s (addrIsl a) → q.payload = (leBytes 4 a ++ leBytes 2 1 ++
      leBytes 2 0 ++ leBytes 4 v) → a < 2 ^ 32 → v < 2 ^ 32 → gate s .block a v true = stOk → addrBlk a ≠ 0 →
      (writeReg (crossed s (addrIsl a)) .block a v).1 = stOk → Answers (.blockWrite r tag) s q (writeReg (crossed s
      (addrIsl a)) .block a v).2 (leBytes 2 1 ++ leBytes 2 0))

/-- The block takes its waiting commands first in, first out, one a step. -/
def Obligations.StepRunsFront : Prop :=
  ∀ (s : State) (c : Instr) (rest : List Instr),
    step { s with pending := c :: rest } = exec c { s with pending := rest }

/-- The model's choice (log 2): with no command waiting a step is one cycle of the 100 MHz reference (13 R361, R364),
in which Chervil also brings the island points up to date (22 R571). -/
def Obligations.StepIdles : Prop :=
  ∀ (s : State),
    (s.pending = [] → s.rbit rPfStatus 0 = false → pendedReq s 0x0D02 = none → s.meter.calDue = none →
      s.thyme.exchange = none → ∃ t, step s = .next t ∧ t.now = s.now + 10 ∧ Only [.clock] s t) ∧
    (∀ (q : Req), s.pending = [] → s.rbit rPfStatus 0 = false → pendedReq s 0x0D02 = some q → s.update.stage ≠ 2 →
      s.running iMGT = true → s.meter.calDue = none → s.thyme.exchange = none → step s = .next (respond (idleTick s) q
      stOk (leBytes 4 (s.reg rUpReceived)))) ∧
    (∀ (d : List Byte), s.pending = [] → s.rbit rPfStatus 0 = false → pendedReq s 0x0D02 = none → s.meter.calDue =
      some d → s.thyme.exchange = none → step s = .next (calibrationChecked (idleTick s))) ∧
    (s.pending = [] → s.rbit rPfStatus 0 = true → pendedReq s 0x0D02 = none → s.meter.calDue = none →
      s.thyme.exchange = none → ∃ t, step s = .next t ∧ t.now = s.now + 10 ∧ Only [.clock,
      .freeCtr, .regs, .islands, .fabric, .harvest, .switch, .twin, .chk] s t) ∧
    (∀ (i : Nat), (s.point (16 * i)).value.toNat = (s.isl i).state.code → (s.point (16 * i + 1)).value.toNat =
      (s.isl i).epoch → (s.point (16 * i + 2)).value.toNat = s.reg (rIslFault i) → (s.point (16 * i)).quality =
      qGood → (s.point (16 * i + 1)).quality = qGood → (s.point (16 * i + 2)).quality = qGood → writeIslandPoints s
      i = s)

/-- An invariant of every step: the queue loses the command that ran and nothing else, so that commands waiting in it
stay well formed. Every command, in every state and with any operands, completes: no step of the spec's table (95) stops
the block. The queue is the model's, not the spec's (the row's cut). -/
def Obligations.QueueKept : Prop :=
  ∀ (s t : State),
    (step s = .next t → t.pending = s.pending.drop 1) ∧
        ((∀ c ∈ s.pending, c.wf = true) → step s = .next t → (∀ c ∈ t.pending, c.wf = true)) ∧
    (∀ (c : Instr) (rest : List Instr), ∃ u, exec c { s with pending := rest } = .next u ∧
      step { s with pending := c :: rest } = .next u ∧ u.pending = rest)

/-- 00 R12, 02 R64, 04 R136, R150, 16 R433: the state after a module reset in the delivered state. Values the spec
does not give are the model's (log 4, log 5); the epoch 1 is log 7. -/
def Obligations.ResetState : Prop :=
  (State.reset.pending = []) ∧
  ((∀ i, i < 12 → (State.reset.isl i).state = .reset ∧ (State.reset.isl i).target = .run ∧ (State.reset.isl i).slots
    = [] ∧ (State.reset.isl i).records = [])) ∧
  ((∀ a, State.reset.reg a = regReset a)) ∧
  ((State.reset.box 0).bind = some { tenant := 0, role := 3 }) ∧
  ((∀ m, 1 ≤ m → m < 16 → (State.reset.box m).bind = none)) ∧
  ((∀ m, m < 16 → (State.reset.box m).state = .idle ∧ (State.reset.box m).kept = none)) ∧
  (State.reset.mail.sessions = [] ∧ State.reset.mail.inProgress = [] ∧ State.reset.mail.ready = false) ∧
  (State.reset.thyme.loaded = none ∧ State.reset.twin.role = .single ∧ State.reset.now = 0)

/-- 16 Table 16.10, R457: header, body and check value of a twin frame. No bit of the encoding is dropped or read at
another place than it is written. -/
def Obligations.TwinFrameRoundTrip : Prop :=
  ∀ (s : State) (kind seq frag : Nat) (last : Bool) (body pad : List Byte) (sender : Nat) (secured : Bool),
    kind < 256 → seq < 65536 → frag < 256 → body.length ≤ 2000 → twinRxOf (twinBody s kind seq frag last body ++
      pad) sender secured = some (kind,
      { seq := seq, last := last, frag := frag, time := s.tai % 2 ^ 64, body := body, checkOk := true, sender := sender, secured := secured })

/-- 05 R153 with 04 R121 and Table 4.3: the assigned codes, and what any other code returns. -/
def Obligations.UnassignedCommand : Prop :=
  (∀ (code : Nat), ((cmdOf code).isSome = true ↔ code ∈ ([0x0101, 0x0102, 0x0103, 0x0104, 0x0201, 0x0202, 0x0203,
    0x0204, 0x0205, 0x0206, 0x0207, 0x0208, 0x0209, 0x020A, 0x020B, 0x020C, 0x020D, 0x020E, 0x0301, 0x0302, 0x0303,
    0x0304, 0x0305, 0x0401, 0x0402, 0x0403, 0x0404, 0x0405, 0x0501, 0x0502, 0x0503, 0x0504, 0x0505, 0x0506, 0x0507,
    0x0508, 0x0601, 0x0602, 0x0603, 0x0604, 0x0605, 0x0701, 0x0702, 0x0703, 0x0801, 0x0802, 0x0803, 0x0804, 0x0805,
    0x0806, 0x0901, 0x0902, 0x0903, 0x0904, 0x0905, 0x0906, 0x0907, 0x0A01, 0x0A02, 0x0A03, 0x0A04, 0x0B01, 0x0B02,
    0x0B03, 0x0B04, 0x0B05, 0x0C01, 0x0C02, 0x0C03, 0x0C04, 0x0C05, 0x0C06, 0x0C07, 0x0C08, 0x0C09, 0x0C0A, 0x0C0B,
    0x0C0C, 0x0D01, 0x0D02, 0x0D03, 0x0D04, 0x0D05, 0x0D06, 0x0E01, 0x0E02, 0x0E03, 0x0E04, 0x0E05, 0x0E06, 0x0F01,
    0x0F02] : List Nat))) ∧
  (∀ (s a : State) (r : Route) (p payload : List Byte) (carried : Option Nat) (q : Req), p.length = 32 → fld p 16 4
    = payload.length → payload.length ≤ 4064 → (carried = none ∨ carried = some payload.length) → (crcIscsi (p.take
    24 ++ payload)).toNat = fld p 24 4 → (keptOf s r).find? (·.seq == fld p 2 2) = none → (s.mail.inProgress.any fun
    x => x.route == r && x.seq == fld p 2 2 && x.command == fld p 0 2 && x.tag == fld p 20 4) = false → cmdOf (fld p
    0 2) = none → q =
    { route := r, command := fld p 0 2, seq := fld p 2 2, tag := fld p 20 4, session := fld p 8 4, more := bitOf (fld p 6 2) 1, payload := payload, pended := false }
    → a = abandonWhere (s.chkUnit 0 (24 + payload.length) (crcIscsi (p.take 24 ++ payload)) true) r fun t =>
    t.command != q.command || t.tag != q.tag → letIn s r p payload carried = putMessage a r true (responseOf a
    q 0x0101 []) ∧ (∀ x ∈ (letIn s r p payload carried).mail.inProgress, x ∈ s.mail.inProgress))

/-- 05 R155, the refusal. No payload is looked at. The premises on pended requests and an unload rule out states in
which a standby still holds work of its active time, which R155 ends. -/
def Obligations.StandbyRefusesMarked : Prop :=
  ∀ (s : State) (r : Route) (tag : Nat) (q : Req),
    ∀ (p : Instr × Nat), p ∈ ([(.netConfig r tag, 0x0103), (.pointWrite r tag, 0x0202), (.pointDefine r tag,
      0x0203), (.pointUndefine r tag, 0x0204), (.pointClaim r tag, 0x0205), (.pointRelease r tag, 0x0206),
      (.forceSet r tag, 0x0207), (.forceClear r tag, 0x0208), (.shareSet r tag, 0x020A), (.shareDelete r tag,
      0x020B), (.shareLink r tag, 0x020C), (.sliceSet r tag, 0x020D), (.programLoad r tag, 0x0301),
      (.programExchange r tag, 0x0303), (.programRun r tag, 0x0304), (.programUnload r tag, 0x0305), (.loopTableLoad
      r tag, 0x0401), (.loopEnable r tag, 0x0402), (.traceConfig r tag, 0x0404), (.circuitMap r tag, 0x0502),
      (.calibrationLoad r tag, 0x0503), (.accConfig r tag, 0x0504), (.apportionSet r tag, 0x0505), (.spillConfig r
      tag, 0x0506), (.seriesDefine r tag, 0x0601), (.seriesDelete r tag, 0x0602), (.seriesClear r tag, 0x0604),
      (.ptpConfig r tag, 0x0702), (.ppsConfig r tag, 0x0703), (.portConfig r tag, 0x0902), (.gateListLoad r tag,
      0x0904), (.deviceTable r tag, 0x0905), (.ringTables r tag, 0x0906), (.macsecConfig r tag, 0x0907), (.busConfig
      r tag, 0x0A01), (.busObjectSet r tag, 0x0A02), (.busSleep r tag, 0x0A04), (.twinHandover r tag, 0x0B04),
      (.fieldPower r tag, 0x0E04)] : List (Instr × Nat)) → stewardReady s = true → findReq s p.2 r tag = some q →
      s.twin.role = .standby → (∀ x ∈ s.mail.inProgress, x.pended = false) → s.thyme.unloading = false → Refuses p.1
      s q s 0x0401

/-- 04 R121, R133: only requests that waited and passed their checks reach a command. The model names a command with
its route and tag; without that request nothing happens. -/
def Obligations.NoRequestNoEffect : Prop :=
  ∀ (s : State) (r : Route) (tag : Nat),
    ∀ (p : Instr × Nat), p ∈ ([(.systemInfo r tag, 0x0101), (.mailboxBind r tag, 0x0102), (.netConfig r tag,
      0x0103), (.systemReset r tag, 0x0104), (.pointRead r tag, 0x0201), (.pointWrite r tag, 0x0202), (.pointDefine
      r tag, 0x0203), (.pointUndefine r tag, 0x0204), (.pointClaim r tag, 0x0205), (.pointRelease r tag, 0x0206),
      (.forceSet r tag, 0x0207), (.forceClear r tag, 0x0208), (.forceList r tag, 0x0209), (.shareSet r tag, 0x020A),
      (.shareDelete r tag, 0x020B), (.shareLink r tag, 0x020C), (.sliceSet r tag, 0x020D), (.sliceList r tag,
      0x020E), (.programLoad r tag, 0x0301), (.programStatus r tag, 0x0302), (.programExchange r tag, 0x0303),
      (.programRun r tag, 0x0304), (.programUnload r tag, 0x0305), (.loopTableLoad r tag, 0x0401), (.loopEnable r
      tag, 0x0402), (.loopStatus r tag, 0x0403), (.traceConfig r tag, 0x0404), (.traceRead r tag, 0x0405),
      (.meterRead r tag, 0x0501), (.circuitMap r tag, 0x0502), (.calibrationLoad r tag, 0x0503), (.accConfig r tag,
      0x0504), (.apportionSet r tag, 0x0505), (.spillConfig r tag, 0x0506), (.demandRead r tag, 0x0507),
      (.instantRead r tag, 0x0508), (.seriesDefine r tag, 0x0601), (.seriesDelete r tag, 0x0602), (.recorderRead r
      tag, 0x0603), (.seriesClear r tag, 0x0604), (.recorderStatus r tag, 0x0605), (.timeRead r tag, 0x0701),
      (.ptpConfig r tag, 0x0702), (.ppsConfig r tag, 0x0703), (.calRead r tag, 0x0801), (.calSet r tag, 0x0802),
      (.alarmSet r tag, 0x0803), (.trimSet r tag, 0x0804), (.backupRead r tag, 0x0805), (.backupWrite r tag,
      0x0806), (.portStatus r tag, 0x0901), (.portConfig r tag, 0x0902), (.portCounters r tag, 0x0903),
      (.gateListLoad r tag, 0x0904), (.deviceTable r tag, 0x0905), (.ringTables r tag, 0x0906), (.macsecConfig r
      tag, 0x0907), (.busConfig r tag, 0x0A01), (.busObjectSet r tag, 0x0A02), (.busStatus r tag, 0x0A03),
      (.busSleep r tag, 0x0A04), (.twinStatus r tag, 0x0B01), (.twinHealth r tag, 0x0B02), (.twinConfig r tag,
      0x0B03), (.twinHandover r tag, 0x0B04), (.witnessConfig r tag, 0x0B05), (.tenantEnrol r tag, 0x0C01),
      (.tenantRemove r tag, 0x0C02), (.keyImport r tag, 0x0C03), (.keyDelete r tag, 0x0C04), (.keyList r tag,
      0x0C05), (.attest r tag, 0x0C06), (.debugEnable r tag, 0x0C07), (.keyEncrypt r tag, 0x0C08), (.keyDecrypt r
      tag, 0x0C09), (.keyWrap r tag, 0x0C0A), (.keyUnwrap r tag, 0x0C0B), (.keyDerive r tag, 0x0C0C), (.updateBegin
      r tag, 0x0D01), (.updateSegment r tag, 0x0D02), (.updateActivate r tag, 0x0D03), (.updateConfirm r tag,
      0x0D04), (.updateFallback r tag, 0x0D05), (.updateStatus r tag, 0x0D06), (.sensorsRead r tag, 0x0E01),
      (.faultLogRead r tag, 0x0E02), (.powerConfig r tag, 0x0E03), (.fieldPower r tag, 0x0E04), (.islandControl r
      tag, 0x0E05), (.factoryReset r tag, 0x0E06), (.blockRead r tag, 0x0F01), (.blockWrite r tag, 0x0F02)] : List
      (Instr × Nat)) → (stewardReady s = false ∨ findReq s p.2 r tag = none) → s.thyme.unloading = false →
      s.thyme.exchange = none → s.thyme.checking = none → exec p.1 s = .next s

/-- 06 R174, R176, R181 and Table 6.5: the bit instructions. `Leaves` says the whole new state: the contents named are
stored back to the task, PC names the next word, and all else stays. -/
def Obligations.ThymeBitLogic : Prop :=
  ∀ (s : State) (t w : Nat) (l : Loaded) (c : TaskCfg),
    (∀ (p : Instr × Nat × (Bool → Bool → Bool)) (b : Bool), p ∈ ([(.thLd, 1, fun _ b => b), (.thLdn, 2, fun _ b =>
      !b), (.thAnd, 3, fun a b => a && b), (.thAndn, 4, fun a b => a && !b), (.thOr, 5, fun a b => a || b), (.thOrn,
      6, fun a b => a || !b), (.thXor, 7, fun a b => a != b), (.thXorn, 8, fun a b => a != !b)] : List (Instr × Nat
      × (Bool → Bool → Bool))) → Executes s p.2.1 t l c w → (bitOperand (around s t c) w (workOf s t l)).toOption =
      some b → Leaves p.1 s t l
      { workOf s t l with m := { (workOf s t l).m with ba := p.2.2 (workOf s t l).m.ba b } }) ∧
    (∀ (p : Instr × Nat × (Bool → Bool → Bool)), p ∈ ([(.thLd, 1, fun _ b => b), (.thLdn, 2, fun _ b => !b),
      (.thAnd, 3, fun a b => a && b), (.thAndn, 4, fun a b => a && !b), (.thOr, 5, fun a b => a || b), (.thOrn, 6,
      fun a b => a || !b), (.thXor, 7, fun a b => a != b), (.thXorn, 8, fun a b => a != !b)] : List (Instr × Nat ×
      (Bool → Bool → Bool))) → Executes s p.2.1 t l c w → (bitOperand (around s t c) w (workOf s t l)).toOption =
      none → Faults p.1 s t 5) ∧
    (∀ (p : Instr × Nat × (Bool → Bool) × (Bool → Bool)) (a : Nat), p ∈ ([(.thSt, 9, fun _ => true, fun a => a),
      (.thStn, 10, fun _ => true, fun a => !a), (.thSet, 11, fun a => a, fun _ => true), (.thRst, 12, fun a => a,
      fun _ => false)] : List (Instr × Nat × (Bool → Bool) × (Bool → Bool))) → Executes s p.2.1 t l c w → (bitAddr
      (around s t c) w (workOf s t l)).toOption = some a → Leaves p.1 s t l (if p.2.2.1 (workOf s t l).m.ba = true
      then
      { workOf s t l with bits := tabSet (workOf s t l).bits a { tabGetD (workOf s t l).bits a {} with value := b2n (p.2.2.2 (workOf s t l).m.ba) } }
      else workOf s t l)) ∧
    (∀ (p : Instr × Nat × (Bool → Bool) × (Bool → Bool)), p ∈ ([(.thSt, 9, fun _ => true, fun a => a), (.thStn, 10,
      fun _ => true, fun a => !a), (.thSet, 11, fun a => a, fun _ => true), (.thRst, 12, fun a => a, fun _ =>
      false)] : List (Instr × Nat × (Bool → Bool) × (Bool → Bool))) → Executes s p.2.1 t l c w → (bitAddr (around s
      t c) w (workOf s t l)).toOption = none → Faults p.1 s t 5) ∧
    (Executes s 13 t l c w → Leaves .thNota s t l
      { workOf s t l with m := { (workOf s t l).m with ba := !(workOf s t l).m.ba } }) ∧
    (Executes s 14 t l c w → Leaves .thSeta s t l { workOf s t l with m := { (workOf s t l).m with ba := true } }) ∧
    (Executes s 15 t l c w → Leaves .thClra s t l { workOf s t l with m := { (workOf s t l).m with ba := false } })
      ∧
    (Executes s 0 t l c w → Leaves .thNop s t l (workOf s t l))

/-- 06 R179, R181, Tables 6.6, 6.12 and 6.14: branches, jumps, calls and END. The frame is that of `Leaves`. -/
def Obligations.ThymeStacks : Prop :=
  ∀ (s : State) (t w : Nat) (l : Loaded) (c : TaskCfg),
    (∀ (p : Instr × Nat × BrOp × (Bool → Bool)), p ∈ ([(.thAndb, 16, .and, fun _ => true), (.thOrb, 17, .or, fun _
      => false), (.thXorb, 18, .xor, fun _ => false), (.thPush, 20, .none, fun a => a)] : List (Instr × Nat × BrOp ×
      (Bool → Bool))) → Executes s p.2.1 t l c w → (workOf s t l).m.branch.length < 16 → Leaves p.1 s t l
      { workOf s t l with m := { (workOf s t l).m with branch := ((workOf s t l).m.ba, p.2.2.1) :: (workOf s t l).m.branch, ba := p.2.2.2 (workOf s t l).m.ba } })
      ∧
    (∀ (p : Instr × Nat × BrOp × (Bool → Bool)), p ∈ ([(.thAndb, 16, .and, fun _ => true), (.thOrb, 17, .or, fun _
      => false), (.thXorb, 18, .xor, fun _ => false), (.thPush, 20, .none, fun a => a)] : List (Instr × Nat × BrOp ×
      (Bool → Bool))) → Executes s p.2.1 t l c w → 16 ≤ (workOf s t l).m.branch.length → Faults p.1 s t 1) ∧
    (∀ (b : Bool) (o : BrOp) (rest : List (Bool × BrOp)), Executes s 19 t l c w → (workOf s t l).m.branch = (b, o)
      :: rest → Leaves .thClose s t l
      { workOf s t l with m := { (workOf s t l).m with branch := rest, ba := if o = .and then b && (workOf s t l).m.ba else if o = .or then b || (workOf s t l).m.ba else if o = .xor then b != (workOf s t l).m.ba else (workOf s t l).m.ba } })
      ∧
    (∀ (b : Bool) (o : BrOp) (rest : List (Bool × BrOp)), Executes s 21 t l c w → (workOf s t l).m.branch = (b, o)
      :: rest → Leaves .thRead s t l { workOf s t l with m := { (workOf s t l).m with ba := b } }) ∧
    (∀ (b : Bool) (o : BrOp) (rest : List (Bool × BrOp)), Executes s 22 t l c w → (workOf s t l).m.branch = (b, o)
      :: rest → Leaves .thPop s t l { workOf s t l with m := { (workOf s t l).m with branch := rest, ba := b } }) ∧
    (∀ (p : Instr × Nat), p ∈ ([(.thClose, 19), (.thRead, 21), (.thPop, 22)] : List (Instr × Nat)) → Executes s p.2
      t l c w → (workOf s t l).m.branch = [] → Faults p.1 s t 2) ∧
    (∀ (p : Instr × Nat × (Bool → Bool)), p ∈ ([(.thJmp, 120, fun _ => true), (.thJt, 121, fun a => a), (.thJf, 122,
      fun a => !a)] : List (Instr × Nat × (Bool → Bool))) → Executes s p.2.1 t l c w → Leaves p.1 s t l (if p.2.2
      (workOf s t l).m.ba = true then { workOf s t l with m := { (workOf s t l).m with pc := w % 2 ^ 18 } } else
      workOf s t l)) ∧
    (Executes s 123 t l c w → (workOf s t l).m.calls.length < 16 → Leaves .thCall s t l
      { workOf s t l with m := { (workOf s t l).m with calls := (workOf s t l).m.pc :: (workOf s t l).m.calls, pc := w % 2 ^ 18 } })
      ∧
    (Executes s 123 t l c w → 16 ≤ (workOf s t l).m.calls.length → Faults .thCall s t 3) ∧
    (∀ (a : Nat) (rest : List Nat), Executes s 124 t l c w → (workOf s t l).m.calls = a :: rest → Leaves .thRet s t
      l { workOf s t l with m := { (workOf s t l).m with calls := rest, pc := a } }) ∧
    (Executes s 124 t l c w → (workOf s t l).m.calls = [] → Faults .thRet s t 4) ∧
    (Executes s 125 t l c w → exec .thEnd s = .next (endCycle (dispatch s) t l)) ∧
    (Executes s 127 t l c w → Leaves .thClrv s t l { workOf s t l with m := { (workOf s t l).m with v := false } })

/-- 06 Table 6.7; 07 R202 to R208: instances. The evaluation of a timer is the one of 07 R204 (tonEval, tofEval,
tpEval). -/
def Obligations.ThymeInstances : Prop :=
  ∀ (s : State) (t w : Nat) (l : Loaded) (c : TaskCfg),
    (∀ (p : Instr × Nat × (Bool → Bool → Bool)), p ∈ ([(.thEdgp, 24, fun i v => i && !v), (.thEdgn, 25, fun i v =>
      !i && v)] : List (Instr × Nat × (Bool → Bool → Bool))) → Executes s p.2.1 t l c w → Leaves p.1 s t l
      { workOf s t l with edges := tabSet (workOf s t l).edges (w % 2 ^ 15) { prev := (workOf s t l).m.ba, fresh := false }, m := { (workOf s t l).m with ba := p.2.2 (workOf s t l).m.ba (if (tabGetD (workOf s t l).edges (w % 2 ^ 15) {}).fresh = true then (workOf s t l).m.ba else (tabGetD (workOf s t l).edges (w % 2 ^ 15) {}).prev) } })
      ∧
    (∀ (p : Instr × Nat × (TimerInst → Bool → Nat → Nat → TimerInst)), p ∈ ([(.thTon, 26, tonEval), (.thTof, 27,
      tofEval), (.thTp, 28, tpEval)] : List (Instr × Nat × (TimerInst → Bool → Nat → Nat → TimerInst))) → Executes s
      p.2.1 t l c w → Leaves p.1 s t l
      { workOf s t l with timers := tabSet (workOf s t l).timers (w % 2 ^ 15) (p.2.2 (tabGetD (workOf s t l).timers (w % 2 ^ 15) {}) (workOf s t l).m.ba ((workOf s t l).m.wacc.toNat * (if w / 2 ^ 22 % 4 = 0 then 1 else if w / 2 ^ 22 % 4 = 1 then 1000 else 1000000)) ((dispatch s).task t).clock), m := { (workOf s t l).m with ba := (p.2.2 (tabGetD (workOf s t l).timers (w % 2 ^ 15) {}) (workOf s t l).m.ba ((workOf s t l).m.wacc.toNat * (if w / 2 ^ 22 % 4 = 0 then 1 else if w / 2 ^ 22 % 4 = 1 then 1000 else 1000000)) ((dispatch s).task t).clock).q } })
      ∧
    (Executes s 29 t l c w → Leaves .thTet s t l
      { workOf s t l with m := { (workOf s t l).m with wacc := BitVec.ofNat 32 (min ((tabGetD (workOf s t l).timers (w % 2 ^ 15) {}).et / (if w / 2 ^ 22 % 4 = 0 then 1 else if w / 2 ^ 22 % 4 = 1 then 1000 else 1000000)) 0xFFFFFFFF), z := decide ((tabGetD (workOf s t l).timers (w % 2 ^ 15) {}).et / (if w / 2 ^ 22 % 4 = 0 then 1 else if w / 2 ^ 22 % 4 = 1 then 1000 else 1000000) = 0), n := decide (2 ^ 31 ≤ min ((tabGetD (workOf s t l).timers (w % 2 ^ 15) {}).et / (if w / 2 ^ 22 % 4 = 0 then 1 else if w / 2 ^ 22 % 4 = 1 then 1000 else 1000000)) 0xFFFFFFFF), v := (workOf s t l).m.v || decide (0xFFFFFFFF < (tabGetD (workOf s t l).timers (w % 2 ^ 15) {}).et / (if w / 2 ^ 22 % 4 = 0 then 1 else if w / 2 ^ 22 % 4 = 1 then 1000 else 1000000)) } })
      ∧
    (∀ (cv : Int), Executes s 30 t l c w → (cv = if (workOf s t l).m.ba = true ∧ (tabGetD (workOf s t l).counters (w
      % 2 ^ 15) {}).upFresh = false ∧ (tabGetD (workOf s t l).counters (w % 2 ^ 15) {}).upPrev = false ∧ (tabGetD
      (workOf s t l).counters (w % 2 ^ 15) {}).cv < 2147483647 then (tabGetD (workOf s t l).counters (w % 2 ^ 15)
      {}).cv + 1 else (tabGetD (workOf s t l).counters (w % 2 ^ 15) {}).cv) → Leaves .thCtu s t l
      { workOf s t l with counters := tabSet (workOf s t l).counters (w % 2 ^ 15) { tabGetD (workOf s t l).counters (w % 2 ^ 15) {} with cv := cv, upPrev := (workOf s t l).m.ba, upFresh := false }, m := { (workOf s t l).m with ba := decide ((sInt 32 (workOf s t l).m.wacc.toNat) ≤ cv) } })
      ∧
    (∀ (cv : Int), Executes s 31 t l c w → (cv = if (workOf s t l).m.ba = true ∧ (tabGetD (workOf s t l).counters (w
      % 2 ^ 15) {}).dnFresh = false ∧ (tabGetD (workOf s t l).counters (w % 2 ^ 15) {}).dnPrev = false ∧ -2147483648
      < (tabGetD (workOf s t l).counters (w % 2 ^ 15) {}).cv then (tabGetD (workOf s t l).counters (w % 2 ^ 15)
      {}).cv - 1 else (tabGetD (workOf s t l).counters (w % 2 ^ 15) {}).cv) → Leaves .thCtd s t l
      { workOf s t l with counters := tabSet (workOf s t l).counters (w % 2 ^ 15) { tabGetD (workOf s t l).counters (w % 2 ^ 15) {} with cv := cv, dnPrev := (workOf s t l).m.ba, dnFresh := false }, m := { (workOf s t l).m with ba := decide (cv ≤ 0) } })
      ∧
    (Executes s 32 t l c w → Leaves .thCrst s t l (if (workOf s t l).m.ba = true then
      { workOf s t l with counters := tabSet (workOf s t l).counters (w % 2 ^ 15) { tabGetD (workOf s t l).counters (w % 2 ^ 15) {} with cv := 0 } }
      else workOf s t l)) ∧
    (Executes s 33 t l c w → Leaves .thCld s t l (if (workOf s t l).m.ba = true then
      { workOf s t l with counters := tabSet (workOf s t l).counters (w % 2 ^ 15) { tabGetD (workOf s t l).counters (w % 2 ^ 15) {} with cv := (sInt 32 (workOf s t l).m.wacc.toNat) } }
      else workOf s t l)) ∧
    (Executes s 34 t l c w → Leaves .thTcv s t l
      { workOf s t l with m := { (workOf s t l).m with wacc := BitVec.ofInt 32 (tabGetD (workOf s t l).counters (w % 2 ^ 15) {}).cv, z := BitVec.ofInt 32 (tabGetD (workOf s t l).counters (w % 2 ^ 15) {}).cv == 0, n := (BitVec.ofInt 32 (tabGetD (workOf s t l).counters (w % 2 ^ 15) {}).cv).msb } })

/-- 06 R173, R174, R177, Table 6.8: word moves. -/
def Obligations.ThymeWordMoves : Prop :=
  ∀ (s : State) (t w : Nat) (l : Loaded) (c : TaskCfg),
    (∀ (v : Nat), Executes s 40 t l c w → (wordOperand (fun i => uNat 32 i) (around s t c) w (workOf s t
      l)).toOption = some v → Leaves .thLdw s t l
      { workOf s t l with m := { (workOf s t l).m with wacc := (BitVec.ofNat 32 v), z := (BitVec.ofNat 32 v) == 0, n := ((BitVec.ofNat 32 v)).msb } })
      ∧
    (∀ (b : Bool), Executes s 41 t l c w → (bitOperand (around s t c) w (workOf s t l)).toOption = some b → Leaves
      .thLdb s t l
      { workOf s t l with m := { (workOf s t l).m with wacc := if b = true then 1 else 0, z := !b, n := false } }) ∧
    (Executes s 42 t l c w → Leaves .thLdwh s t l
      { workOf s t l with m := { (workOf s t l).m with wacc := BitVec.ofNat 32 ((workOf s t l).m.wacc.toNat % 2 ^ 16 + w % 2 ^ 16 * 2 ^ 16) } })
      ∧
    (∀ (a : Nat), Executes s 43 t l c w → (wordAddr (around s t c) w (workOf s t l)).toOption = some a → Leaves
      .thStw s t l
      { workOf s t l with words := tabSet (workOf s t l).words a { tabGetD (workOf s t l).words a {} with value := (workOf s t l).m.wacc.toNat } })
      ∧
    (∀ (a : Nat), Executes s 44 t l c w → (wordAddr (around s t c) w (workOf s t l)).toOption = some a → Leaves
      .thStwc s t l (if (workOf s t l).m.ba = true then
      { workOf s t l with words := tabSet (workOf s t l).words a { tabGetD (workOf s t l).words a {} with value := (workOf s t l).m.wacc.toNat } }
      else workOf s t l)) ∧
    (∀ (p : Instr × Nat), p ∈ ([(.thStw, 43), (.thStwc, 44), (.thLdq, 45)] : List (Instr × Nat)) → Executes s p.2 t
      l c w → (wordAddr (around s t c) w (workOf s t l)).toOption = none → Faults p.1 s t 5) ∧
    (∀ (a : Nat), Executes s 45 t l c w → (wordAddr (around s t c) w (workOf s t l)).toOption = some a → Leaves
      .thLdq s t l
      { workOf s t l with m := { (workOf s t l).m with wacc := BitVec.ofNat 32 ((tabGetD (workOf s t l).words a {}).quality % 256 + b2n (tabGetD (workOf s t l).words a {}).failed * 256) } })
      ∧
    (∀ (a : Nat), Executes s 46 t l c w → (bitAddr (around s t c) w (workOf s t l)).toOption = some a → Leaves
      .thLdqb s t l
      { workOf s t l with m := { (workOf s t l).m with wacc := BitVec.ofNat 32 ((tabGetD (workOf s t l).bits a {}).quality % 256 + b2n (tabGetD (workOf s t l).bits a {}).failed * 256) } })
      ∧
    (Executes s 47 t l c w → Leaves .thLdix s t l
      { workOf s t l with m := { (workOf s t l).m with ix := (workOf s t l).m.wacc.setWidth 16 } }) ∧
    (∀ (v : Nat), Executes s 48 t l c w → (wideOperand (fun i => uNat 64 i) (around s t c) w (workOf s t
      l)).toOption = some v → Leaves .thLdw64 s t l
      { workOf s t l with m := { (workOf s t l).m with wacc := BitVec.ofNat 32 v, wext := BitVec.ofNat 32 (v / 2 ^ 32), z := decide (v % 2 ^ 64 = 0), n := decide (2 ^ 63 ≤ v % 2 ^ 64) } })
      ∧
    (∀ (a : Nat), Executes s 49 t l c w → (wideAddr (around s t c) w (workOf s t l)).toOption = some a → Leaves
      .thStw64 s t l
      { workOf s t l with words := tabSet (tabSet (workOf s t l).words a { tabGetD (workOf s t l).words a {} with value := (workOf s t l).m.wacc.toNat }) (a + 1) { tabGetD (workOf s t l).words (a + 1) {} with value := (workOf s t l).m.wext.toNat } })
      ∧
    (Executes s 50 t l c w → Leaves .thXch s t l
      { workOf s t l with m := { (workOf s t l).m with wacc := (workOf s t l).m.wext, wext := (workOf s t l).m.wacc } })
      ∧
    (∀ (a : Nat), Executes s 51 t l c w → (bitAddr (around s t c) w (workOf s t l)).toOption = some a → Leaves
      .thStnz s t l
      { workOf s t l with bits := tabSet (workOf s t l).bits a { tabGetD (workOf s t l).bits a {} with value := if (workOf s t l).m.wacc = 0 then 0 else 1 } })

/-- 06 R177, Table 6.9, 32 bits: results, Z, N and V. -/
def Obligations.ThymeArithmetic32 : Prop :=
  ∀ (s : State) (t w : Nat) (l : Loaded) (c : TaskCfg),
    (∀ (p : Instr × Nat × (Int → Int → Int)) (v : Nat), p ∈ ([(.thAdd, 56, fun a b => a + b), (.thSub, 57, fun a b
      => a - b), (.thMul, 58, fun a b => a * b)] : List (Instr × Nat × (Int → Int → Int))) → Executes s p.2.1 t l c
      w → (wordOperand (fun i => uNat 32 i) (around s t c) w (workOf s t l)).toOption = some v → Leaves p.1 s t l
      { workOf s t l with m := { (workOf s t l).m with wacc := (BitVec.ofInt 32 (p.2.2 (sInt 32 (workOf s t l).m.wacc.toNat) (sInt 32 v))), z := (BitVec.ofInt 32 (p.2.2 (sInt 32 (workOf s t l).m.wacc.toNat) (sInt 32 v))) == 0, n := ((BitVec.ofInt 32 (p.2.2 (sInt 32 (workOf s t l).m.wacc.toNat) (sInt 32 v)))).msb, v := (workOf s t l).m.v || decide ((p.2.2 (sInt 32 (workOf s t l).m.wacc.toNat) (sInt 32 v)) < -2147483648 ∨ 2147483647 < (p.2.2 (sInt 32 (workOf s t l).m.wacc.toNat) (sInt 32 v))) } })
      ∧
    (∀ (p : Instr × Nat × (Int → Int → Int)) (v : Nat), p ∈ ([(.thDiv, 59, Int.tdiv), (.thMod, 60, Int.tmod)] : List
      (Instr × Nat × (Int → Int → Int))) → Executes s p.2.1 t l c w → (wordOperand (fun i => uNat 32 i) (around s t
      c) w (workOf s t l)).toOption = some v → 0 < v → v < 2 ^ 32 → Leaves p.1 s t l
      { workOf s t l with m := { (workOf s t l).m with wacc := (BitVec.ofInt 32 (p.2.2 (sInt 32 (workOf s t l).m.wacc.toNat) (sInt 32 v))), z := (BitVec.ofInt 32 (p.2.2 (sInt 32 (workOf s t l).m.wacc.toNat) (sInt 32 v))) == 0, n := ((BitVec.ofInt 32 (p.2.2 (sInt 32 (workOf s t l).m.wacc.toNat) (sInt 32 v)))).msb, v := (workOf s t l).m.v || decide (2147483647 < (p.2.2 (sInt 32 (workOf s t l).m.wacc.toNat) (sInt 32 v))) } })
      ∧
    (∀ (p : Instr × Nat × (Nat → Nat → Nat)) (v : Nat), p ∈ ([(.thDivu, 61, fun a b => a / b), (.thModu, 62, fun a b
      => a % b), (.thAndw, 65, fun a b => a &&& b), (.thOrw, 66, fun a b => a ||| b), (.thXorw, 67, fun a b => a ^^^
      b)] : List (Instr × Nat × (Nat → Nat → Nat))) → Executes s p.2.1 t l c w → (wordOperand (fun i => uNat 32 i)
      (around s t c) w (workOf s t l)).toOption = some v → (0 < v ∨ 65 ≤ p.2.1) → Leaves p.1 s t l
      { workOf s t l with m := { (workOf s t l).m with wacc := (BitVec.ofNat 32 (p.2.2 (workOf s t l).m.wacc.toNat v)), z := (BitVec.ofNat 32 (p.2.2 (workOf s t l).m.wacc.toNat v)) == 0, n := ((BitVec.ofNat 32 (p.2.2 (workOf s t l).m.wacc.toNat v))).msb } })
      ∧
    (∀ (p : Instr × Nat), p ∈ ([(.thDiv, 59), (.thMod, 60), (.thDivu, 61), (.thModu, 62)] : List (Instr × Nat)) →
      Executes s p.2 t l c w → (wordOperand (fun i => uNat 32 i) (around s t c) w (workOf s t l)).toOption = some 0
      → Leaves p.1 s t l
      { workOf s t l with m := { (workOf s t l).m with wacc := 0, z := true, n := false, v := true } }) ∧
    (∀ (p : Instr × Nat), p ∈ ([(.thLdw, 40), (.thAdd, 56), (.thSub, 57), (.thMul, 58), (.thDiv, 59), (.thMod, 60),
      (.thDivu, 61), (.thModu, 62), (.thAndw, 65), (.thOrw, 66), (.thXorw, 67)] : List (Instr × Nat)) → Executes s
      p.2 t l c w → (wordOperand (fun i => uNat 32 i) (around s t c) w (workOf s t l)).toOption = none → Faults p.1
      s t 5) ∧
    (Executes s 63 t l c w → Leaves .thNeg s t l
      { workOf s t l with m := { (workOf s t l).m with wacc := (0 - (workOf s t l).m.wacc), z := (0 - (workOf s t l).m.wacc) == 0, n := ((0 - (workOf s t l).m.wacc)).msb, v := (workOf s t l).m.v || (workOf s t l).m.wacc == 0x80000000#32 } })
      ∧
    (Executes s 64 t l c w → Leaves .thAbs s t l
      { workOf s t l with m := { (workOf s t l).m with wacc := (if (workOf s t l).m.wacc.msb = true then 0 - (workOf s t l).m.wacc else (workOf s t l).m.wacc), z := (if (workOf s t l).m.wacc.msb = true then 0 - (workOf s t l).m.wacc else (workOf s t l).m.wacc) == 0, n := ((if (workOf s t l).m.wacc.msb = true then 0 - (workOf s t l).m.wacc else (workOf s t l).m.wacc)).msb, v := (workOf s t l).m.v || (workOf s t l).m.wacc == 0x80000000#32 } })
      ∧
    (∀ (p : Instr × Nat × (Word → Nat → Word)), p ∈ ([(.thNotw, 68, fun a _ => ~~~a), (.thShl, 69, fun a n => a <<<
      n), (.thShr, 70, fun a n => a >>> n), (.thSar, 71, fun a n => a.sshiftRight n), (.thRol, 72, fun a n =>
      a.rotateLeft n)] : List (Instr × Nat × (Word → Nat → Word))) → Executes s p.2.1 t l c w → Leaves p.1 s t l
      { workOf s t l with m := { (workOf s t l).m with wacc := (p.2.2 (workOf s t l).m.wacc (w % 32)), z := (p.2.2 (workOf s t l).m.wacc (w % 32)) == 0, n := ((p.2.2 (workOf s t l).m.wacc (w % 32))).msb } })

/-- 06 R177, R180, Tables 6.9 (64 bits) and 6.11. -/
def Obligations.ThymeArithmetic64 : Prop :=
  ∀ (s : State) (t w : Nat) (l : Loaded) (c : TaskCfg),
    (∀ (p : Instr × Nat × (Int → Int → Int)) (v : Nat), p ∈ ([(.thAdd64, 80, fun a b => a + b), (.thSub64, 81, fun a
      b => a - b), (.thMul64, 82, fun a b => a * b)] : List (Instr × Nat × (Int → Int → Int))) → Executes s p.2.1 t
      l c w → (wideOperand (fun i => uNat 64 i) (around s t c) w (workOf s t l)).toOption = some v → Leaves p.1 s t
      l
      { workOf s t l with m := { (workOf s t l).m with wacc := BitVec.ofNat 32 (uNat 64 (p.2.2 (sInt 64 ((workOf s t l).m.wacc.toNat + (workOf s t l).m.wext.toNat * 2 ^ 32)) (sInt 64 v))), wext := BitVec.ofNat 32 (uNat 64 (p.2.2 (sInt 64 ((workOf s t l).m.wacc.toNat + (workOf s t l).m.wext.toNat * 2 ^ 32)) (sInt 64 v)) / 2 ^ 32), z := decide (uNat 64 (p.2.2 (sInt 64 ((workOf s t l).m.wacc.toNat + (workOf s t l).m.wext.toNat * 2 ^ 32)) (sInt 64 v)) = 0), n := decide (2 ^ 63 ≤ uNat 64 (p.2.2 (sInt 64 ((workOf s t l).m.wacc.toNat + (workOf s t l).m.wext.toNat * 2 ^ 32)) (sInt 64 v))), v := (workOf s t l).m.v || decide ((p.2.2 (sInt 64 ((workOf s t l).m.wacc.toNat + (workOf s t l).m.wext.toNat * 2 ^ 32)) (sInt 64 v)) < -9223372036854775808 ∨ 9223372036854775807 < (p.2.2 (sInt 64 ((workOf s t l).m.wacc.toNat + (workOf s t l).m.wext.toNat * 2 ^ 32)) (sInt 64 v))) } })
      ∧
    (∀ (p : Instr × Nat × (Int → Int → Int)) (v : Nat), p ∈ ([(.thDiv64, 83, Int.tdiv), (.thMod64, 84, Int.tmod)] :
      List (Instr × Nat × (Int → Int → Int))) → Executes s p.2.1 t l c w → (wideOperand (fun i => uNat 64 i) (around
      s t c) w (workOf s t l)).toOption = some v → 0 < v → v < 2 ^ 64 → Leaves p.1 s t l
      { workOf s t l with m := { (workOf s t l).m with wacc := BitVec.ofNat 32 (uNat 64 (p.2.2 (sInt 64 ((workOf s t l).m.wacc.toNat + (workOf s t l).m.wext.toNat * 2 ^ 32)) (sInt 64 v))), wext := BitVec.ofNat 32 (uNat 64 (p.2.2 (sInt 64 ((workOf s t l).m.wacc.toNat + (workOf s t l).m.wext.toNat * 2 ^ 32)) (sInt 64 v)) / 2 ^ 32), z := decide (uNat 64 (p.2.2 (sInt 64 ((workOf s t l).m.wacc.toNat + (workOf s t l).m.wext.toNat * 2 ^ 32)) (sInt 64 v)) = 0), n := decide (2 ^ 63 ≤ uNat 64 (p.2.2 (sInt 64 ((workOf s t l).m.wacc.toNat + (workOf s t l).m.wext.toNat * 2 ^ 32)) (sInt 64 v))), v := (workOf s t l).m.v || decide (9223372036854775807 < (p.2.2 (sInt 64 ((workOf s t l).m.wacc.toNat + (workOf s t l).m.wext.toNat * 2 ^ 32)) (sInt 64 v))) } })
      ∧
    (∀ (p : Instr × Nat), p ∈ ([(.thDiv64, 83), (.thMod64, 84)] : List (Instr × Nat)) → Executes s p.2 t l c w →
      (wideOperand (fun i => uNat 64 i) (around s t c) w (workOf s t l)).toOption = some 0 → Leaves p.1 s t l
      { workOf s t l with m := { (workOf s t l).m with wacc := 0, wext := 0, z := true, n := false, v := true } }) ∧
    (∀ (p : Instr × Nat), p ∈ ([(.thLdw64, 48), (.thAdd64, 80), (.thSub64, 81), (.thMul64, 82), (.thDiv64, 83),
      (.thMod64, 84), (.thCmpl, 115)] : List (Instr × Nat)) → Executes s p.2 t l c w → (wideOperand (fun i => uNat
      64 i) (around s t c) w (workOf s t l)).toOption = none → Faults p.1 s t 5) ∧
    (∀ (p : Instr × Nat × (Nat → Nat → Option Ordering)) (v : Nat) (g : Bool), p ∈ ([(.thCmpi, 112, fun a b =>
      cmpInt (sInt 32 a) (sInt 32 b)), (.thCmpu, 113, fun a b => cmpInt a b)] : List (Instr × Nat × (Nat → Nat →
      Option Ordering))) → Executes s p.2.1 t l c w → (wordOperand (fun i => uNat 32 i) (around s t c) w (workOf s t
      l)).toOption = some v → g = relation (w / 2 ^ 16 % 16) (p.2.2 ((workOf s t l).m.wacc.toNat) v) → Leaves p.1 s
      t l
      { workOf s t l with m := { (workOf s t l).m with ba := if w / 2 ^ 20 % 2 = 1 then (workOf s t l).m.ba && g else g } })
      ∧
    (∀ (p : Instr × Nat × (Nat → Nat → Option Ordering)) (v : Nat) (g : Bool), p ∈ ([(.thCmpf, 114, fcmp fmt32)] :
      List (Instr × Nat × (Nat → Nat → Option Ordering))) → Executes s p.2.1 t l c w → (wordOperand (fofInt fmt32)
      (around s t c) w (workOf s t l)).toOption = some v → g = relation (w / 2 ^ 16 % 16) (p.2.2 ((workOf s t
      l).m.wacc.toNat) v) → Leaves p.1 s t l
      { workOf s t l with m := { (workOf s t l).m with ba := if w / 2 ^ 20 % 2 = 1 then (workOf s t l).m.ba && g else g } })
      ∧
    (∀ (p : Instr × Nat × (Nat → Nat → Option Ordering)) (v : Nat) (g : Bool), p ∈ ([(.thCmpl, 115, fun a b =>
      cmpInt (sInt 64 a) (sInt 64 b))] : List (Instr × Nat × (Nat → Nat → Option Ordering))) → Executes s p.2.1 t l
      c w → (wideOperand (fun i => uNat 64 i) (around s t c) w (workOf s t l)).toOption = some v → g = relation (w /
      2 ^ 16 % 16) (p.2.2 ((workOf s t l).m.wacc.toNat + (workOf s t l).m.wext.toNat * 2 ^ 32) v) → Leaves p.1 s t l
      { workOf s t l with m := { (workOf s t l).m with ba := if w / 2 ^ 20 % 2 = 1 then (workOf s t l).m.ba && g else g } })
      ∧
    (∀ (p : Instr × Nat × (Nat → Nat → Option Ordering)) (v : Nat) (g : Bool), p ∈ ([(.thCmpd, 116, fcmp fmt64)] :
      List (Instr × Nat × (Nat → Nat → Option Ordering))) → Executes s p.2.1 t l c w → (wideOperand (fofInt fmt64)
      (around s t c) w (workOf s t l)).toOption = some v → g = relation (w / 2 ^ 16 % 16) (p.2.2 ((workOf s t
      l).m.wacc.toNat + (workOf s t l).m.wext.toNat * 2 ^ 32) v) → Leaves p.1 s t l
      { workOf s t l with m := { (workOf s t l).m with ba := if w / 2 ^ 20 % 2 = 1 then (workOf s t l).m.ba && g else g } })

/-- 06 R177, R178, Table 6.10: float arithmetic and conversion, by the model's binary32 and binary64 operations (fadd,
fsub, fmul, fdiv, fsqrt, fconv, fofInt, ftoInt). That a zero of either sign sets Z is log 31. -/
def Obligations.ThymeFloat : Prop :=
  ∀ (s : State) (t w : Nat) (l : Loaded) (c : TaskCfg),
    (∀ (p : Instr × Nat × (Nat → Nat → Nat) × Bool) (v : Nat), p ∈ ([(.thAddf, 88, fadd fmt32, false), (.thSubf, 89,
      fsub fmt32, false), (.thMulf, 90, fmul fmt32, false), (.thDivf, 91, fdiv fmt32, true)] : List (Instr × Nat ×
      (Nat → Nat → Nat) × Bool)) → Executes s p.2.1 t l c w → (wordOperand (fofInt fmt32) (around s t c) w (workOf s
      t l)).toOption = some v → Leaves p.1 s t l
      { workOf s t l with m := { (workOf s t l).m with wacc := (BitVec.ofNat 32 (p.2.2.1 (workOf s t l).m.wacc.toNat v)), z := (BitVec.ofNat 32 (p.2.2.1 (workOf s t l).m.wacc.toNat v)) <<< 1 == 0, n := (BitVec.ofNat 32 (p.2.2.1 (workOf s t l).m.wacc.toNat v)).msb, v := (workOf s t l).m.v || (fisFin fmt32 (workOf s t l).m.wacc.toNat && fisFin fmt32 v && !fisFin fmt32 (p.2.2.1 (workOf s t l).m.wacc.toNat v)) || (p.2.2.2 && fabs fmt32 v == 0) } })
      ∧
    (∀ (p : Instr × Nat × (Nat → Nat → Nat) × Bool) (v : Nat), p ∈ ([(.thAddd, 96, fadd fmt64, false), (.thSubd, 97,
      fsub fmt64, false), (.thMuld, 98, fmul fmt64, false), (.thDivd, 99, fdiv fmt64, true)] : List (Instr × Nat ×
      (Nat → Nat → Nat) × Bool)) → Executes s p.2.1 t l c w → (wideOperand (fofInt fmt64) (around s t c) w (workOf s
      t l)).toOption = some v → Leaves p.1 s t l
      { workOf s t l with m := { (workOf s t l).m with wacc := BitVec.ofNat 32 (p.2.2.1 ((workOf s t l).m.wacc.toNat + (workOf s t l).m.wext.toNat * 2 ^ 32) v), wext := BitVec.ofNat 32 (p.2.2.1 ((workOf s t l).m.wacc.toNat + (workOf s t l).m.wext.toNat * 2 ^ 32) v / 2 ^ 32), z := decide (p.2.2.1 ((workOf s t l).m.wacc.toNat + (workOf s t l).m.wext.toNat * 2 ^ 32) v % 2 ^ 63 = 0), n := decide (2 ^ 63 ≤ p.2.2.1 ((workOf s t l).m.wacc.toNat + (workOf s t l).m.wext.toNat * 2 ^ 32) v % 2 ^ 64), v := (workOf s t l).m.v || (fisFin fmt64 ((workOf s t l).m.wacc.toNat + (workOf s t l).m.wext.toNat * 2 ^ 32) && fisFin fmt64 v && !fisFin fmt64 (p.2.2.1 ((workOf s t l).m.wacc.toNat + (workOf s t l).m.wext.toNat * 2 ^ 32) v)) || (p.2.2.2 && fabs fmt64 v == 0) } })
      ∧
    (∀ (p : Instr × Nat), p ∈ ([(.thAddf, 88), (.thSubf, 89), (.thMulf, 90), (.thDivf, 91), (.thCmpf, 114)] : List
      (Instr × Nat)) → Executes s p.2 t l c w → (wordOperand (fofInt fmt32) (around s t c) w (workOf s t
      l)).toOption = none → Faults p.1 s t 5) ∧
    (∀ (p : Instr × Nat), p ∈ ([(.thAddd, 96), (.thSubd, 97), (.thMuld, 98), (.thDivd, 99), (.thCmpd, 116)] : List
      (Instr × Nat)) → Executes s p.2 t l c w → (wideOperand (fofInt fmt64) (around s t c) w (workOf s t
      l)).toOption = none → Faults p.1 s t 5) ∧
    (∀ (p : Instr × Nat × (Nat → Nat × Bool)), p ∈ ([(.thSqrtf, 92, fun a => (fsqrt fmt32 a, flt fmt32 a 0)),
      (.thAbsf, 93, fun a => (a % 2 ^ 31, false)), (.thNegf, 94, fun a => ((a + 2 ^ 31) % 2 ^ 32, false)), (.thItof,
      104, fun a => (fofInt fmt32 (sInt 32 a), false)), (.thUtof, 105, fun a => (fofInt fmt32 a, false)), (.thFtoi,
      106, fun a => (uNat 32 (ftoInt fmt32 32 a).1, (ftoInt fmt32 32 a).2))] : List (Instr × Nat × (Nat → Nat ×
      Bool))) → Executes s p.2.1 t l c w → Leaves p.1 s t l
      { workOf s t l with m := { (workOf s t l).m with wacc := BitVec.ofNat 32 (p.2.2 (workOf s t l).m.wacc.toNat).1, v := (workOf s t l).m.v || (p.2.2 (workOf s t l).m.wacc.toNat).2 } })
      ∧
    (∀ (p : Instr × Nat × (Nat → Nat × Bool)), p ∈ ([(.thSqrtd, 100, fun a => (fsqrt fmt64 a, flt fmt64 a 0)),
      (.thDtof, 108, fun a => (fconv fmt64 fmt32 a, fisFin fmt64 a && !fisFin fmt32 (fconv fmt64 fmt32 a))),
      (.thLtod, 110, fun a => (fofInt fmt64 (sInt 64 a), false)), (.thDtol, 111, fun a => (uNat 64 (ftoInt fmt64 64
      a).1, (ftoInt fmt64 64 a).2)), (.thFtod, 107, fun a => (fconv fmt32 fmt64 (a % 2 ^ 32), false)), (.thItol,
      109, fun a => (uNat 64 (sInt 32 a), false))] : List (Instr × Nat × (Nat → Nat × Bool))) → Executes s p.2.1 t l
      c w → Leaves p.1 s t l
      { workOf s t l with m := { (workOf s t l).m with wacc := BitVec.ofNat 32 ((p.2.2 ((workOf s t l).m.wacc.toNat + (workOf s t l).m.wext.toNat * 2 ^ 32)).1), wext := BitVec.ofNat 32 ((p.2.2 ((workOf s t l).m.wacc.toNat + (workOf s t l).m.wext.toNat * 2 ^ 32)).1 / 2 ^ 32), v := (workOf s t l).m.v || (p.2.2 ((workOf s t l).m.wacc.toNat + (workOf s t l).m.wext.toNat * 2 ^ 32)).2 } })

/-- 00 R10, R11, Table 0.3, R7, 02 R46: the access codes of stored registers, and a refused access. -/
def Obligations.RegisterAccess : Prop :=
  ∀ (s : State) (by_ : Agent),
    (∀ (a : Nat) (row : RegRow), Reaches s by_ a 0 false → specialRead (met s by_ a) a = none → regRow a = some row
      → row.rc = true → Performs (.rcRead by_ ⟨a, 4⟩) s ((met s by_ a).setReg a 0) (s.reg a)) ∧
    (∀ (a : Nat) (row : RegRow), Reaches s by_ a 0 false → specialRead (met s by_ a) a = none → regRow a = some row
      → row.rc = false → Performs (.rcRead by_ ⟨a, 4⟩) s ((met s by_ a)) (s.reg a)) ∧
    (∀ (a : Nat) (v : Word) (row : RegRow), Reaches s by_ a v.toNat true → specialWrite (met s by_ a) by_ a v.toNat
      = none → regRow a = some row → row.rc = false → a ≠ rThCtrl → (addrBlk a ≠ 0 ∨ addrOff a ≠ 0x00C) → ∃ w,
      Performs (.registerWrite by_ ⟨a, 4⟩ v) s w (0) ∧ ((List.range 32).all fun i => bitOf (w.reg a) i == (if bitOf
      row.rw i then bitOf v.toNat i else bitOf (s.reg a) i && !(bitOf row.w1c i && bitOf v.toNat i))) = true ∧ Only
      [.regs, .islands] s w ∧ (∀ b, b ≠ a → w.reg b = s.reg b)) ∧
    (∀ (a : Nat) (v : Word) (row : RegRow), Reaches s by_ a v.toNat true → specialWrite (met s by_ a) by_ a v.toNat
      = none → regRow a = some row → row.rc = true → a ≠ rThCtrl → (addrBlk a ≠ 0 ∨ addrOff a ≠ 0x00C) → Performs
      (.registerWrite by_ ⟨a, 4⟩ v) s ((met s by_ a)) (0)) ∧
    (∀ (i : Instr) (a : Nat) (v : Word) (st : Nat), ((i = .rcRead by_ ⟨a, 4⟩ ∧ st = gate s by_ a 0 false) ∨ (i =
      .registerWrite by_ ⟨a, 4⟩ v ∧ st = gate s by_ a v.toNat true)) → st ≠ 0 → st ≠ 1 → s.running (agentIsland by_) = true →
      (by_ = .spi → spiOpen s = true) → exec i s = .next
      { (if by_ = .spi then s else s.setReg (rIslLastErr (agentIsland by_)) (st + addrIsl a % 16 * 65536 + agentSource by_ * 2 ^ 20)) with outs := { s.outs with readOut := 0, readStatus := st, fault0 := s.outs.fault0 || by_ == .steward, fault1 := s.outs.fault1 || by_ == .core1 } }) ∧
    (∀ (i : Instr) (a n : Nat) (v : Word), (i = .rcRead by_ ⟨a, n⟩ ∨ i = .registerWrite by_ ⟨a, n⟩ v) → n ≠ 4 → s.running
      (agentIsland by_) = true → (by_ = .spi → spiOpen s = true) → exec i s = .next
      { (if by_ = .spi then s else s.setReg (rIslLastErr (agentIsland by_)) (0x0103 + addrIsl a % 16 * 65536 + agentSource by_ * 2 ^ 20)) with outs := { s.outs with readOut := 0, readStatus := 0x0103, fault0 := s.outs.fault0 || by_ == .steward, fault1 := s.outs.fault1 || by_ == .core1 } })

/-- 00 R8. -/
def Obligations.AbsentRegisters : Prop :=
  ∀ (s : State) (by_ : Agent),
    (∀ (i : Instr) (a : Nat) (v : Word), (i = .rcRead by_ ⟨a, 4⟩ ∨ i = .registerWrite by_ ⟨a, 4⟩ v) → (12 ≤ addrIsl a ∨
      (addrBlk a ≠ 0 ∧ (islandBlocks (addrIsl a)).contains (addrBlk a) = false)) → s.running (agentIsland by_) =
      true → (by_ = .spi → spiOpen s = true) → exec i s = .next
      { (if by_ = .spi then s else s.setReg (rIslLastErr (agentIsland by_)) (0x0103 + addrIsl a % 16 * 65536 + agentSource by_ * 2 ^ 20)) with outs := { s.outs with readOut := 0, readStatus := 0x0103, fault0 := s.outs.fault0 || by_ == .steward, fault1 := s.outs.fault1 || by_ == .core1 } })
      ∧
    (∀ (a : Nat), Reaches s by_ a 0 false → specialRead (met s by_ a) a = none → regRow a = none → Performs (.rcRead
      by_ ⟨a, 4⟩) s ((met s by_ a)) (0)) ∧
    (∀ (a : Nat) (v : Word), Reaches s by_ a v.toNat true → specialWrite (met s by_ a) by_ a v.toNat = none → regRow
      a = none → a ≠ rThCtrl → (addrBlk a ≠ 0 ∨ addrOff a ≠ 0x00C) → Performs (.registerWrite by_ ⟨a, 4⟩ v) s ((met s by_
      a)) (0))

/-- 04 R128 to R130, R132, R133, R150, R151, Tables 4.5, 4.6, 4.8; 05 R158: the transactions of the SPI target. -/
def Obligations.SpiAndDoorbells : Prop :=
  ∀ (s : State),
    (∀ (i : Instr) (a n : Nat), (i = .spiRead a n ∨ i = .readQuad a n) → spiOpen s = true → (s.isl iSAGE).state =
      .run → a < 0x20000 → exec i s = .next
      { s with outs := { s.outs with spiOut := (List.range n).map fun j => memRead s.mail.buf (a / 0x1000 * 0x1000 + (a + j) % 0x1000) } })
      ∧
    (∀ (i : Instr) (a : Nat) (d : List Byte), (i = .spiWrite a d ∨ i = .writeQuad a d) → spiOpen s = true → (s.isl
      iSAGE).state = .run → s.mail.buf.wf = true → a < 0x20000 → a / 0x1000 % 2 = 0 → 0 < d.length → d.length ≤ 4096
      → ((s.box (a / 0x2000)).state = .idle ∨ (s.box (a / 0x2000)).state = .done) → ∃ w, exec i s = .next w ∧ Only
      [.outs, .mail] s w ∧ w.outs.spiOut = [] ∧ w.mail = { s.mail with buf := w.mail.buf } ∧ ((List.range
      d.length).all fun j => memRead w.mail.buf (a / 0x1000 * 0x1000 + (a + j) % 0x1000) == d.getD j 0) = true ∧ (∀
      x, x < a / 0x1000 * 0x1000 ∨ a / 0x1000 * 0x1000 + 0x1000 ≤ x ∨ (∀ j, j < d.length → x ≠ a / 0x1000 * 0x1000 +
      (a + j) % 0x1000) → memRead w.mail.buf x = memRead s.mail.buf x)) ∧
    (∀ (i : Instr) (a : Nat) (d : List Byte), (i = .spiWrite a d ∨ i = .writeQuad a d) → spiOpen s = true → (s.isl
      iSAGE).state = .run → a < 0x20000 → a / 0x1000 % 2 = 0 → 0 < d.length → ((s.box (a / 0x2000)).state = .working
      ∨ (s.box (a / 0x2000)).state = .pending) → exec i s = .next ((State.stick
      { s with outs := { s.outs with spiOut := [] } } rMbLost rMbEvent 5).raise rMbEvent 1)) ∧
    (∀ (i : Instr) (a : Nat) (d : List Byte), (i = .spiWrite a d ∨ i = .writeQuad a d) → (spiOpen s = false ∨
      ((s.isl iSAGE).state = .run ∧ ((a < 0x20000 ∧ a / 0x1000 % 2 = 1) ∨ (0x20000 ≤ a ∧ a + d.length ≤ 0x100000))))
      → a < 2 ^ 24 → exec i s = .next { s with outs := { s.outs with spiOut := [] } }) ∧
    (∀ (i : Instr) (a n : Nat), (i = .spiRead a n ∨ i = .readQuad a n) → spiOpen s = false → exec i s = .next
      { s with outs := { s.outs with spiOut := List.replicate n 0 } }) ∧
    (∀ (n : Nat), exec (.spiStatus n) s = .next
      { s with outs := { s.outs with spiOut := List.replicate n (BitVec.ofNat 8 (if spiOpen s = true then (if stewardReady s = true then 1 else 0) + (if hostIrq s = true then 2 else 0) + (if s.reg rMbEvent = 0 then 0 else 4) else 0)) } })
      ∧
    (exec .spiIdent s = .next
      { s with outs := { s.outs with spiOut := if spiOpen s = true then [0x4B, 0x84, 0x20, 0x01] else [0, 0, 0, 0] } })
      ∧
    (∀ (m : Nat), spiOpen s = true → (s.isl iSAGE).state = .run → m < 16 → ((s.box m).state = .idle ∨ (s.box
      m).state = .done) → Performs (.mbDoorbellWrite .spi (BitVec.ofNat 32 (2 ^ m))) s ((if stewardReady s = true
      then takeDoorbells else fun x => x) ((s.setBox m { s.box m with state := .working }).lower rMbRespReady m))
      (0)) ∧
    (∀ (m : Nat), spiOpen s = true → (s.isl iSAGE).state = .run → m < 16 → ((s.box m).state = .working ∨ (s.box
      m).state = .pending) → Performs (.mbDoorbellWrite .spi (BitVec.ofNat 32 (2 ^ m))) s ((if stewardReady s = true
      then takeDoorbells else fun x => x) ((s.stick rMbLost rMbEvent 5).raise rMbEvent 0)) (0)) ∧
    (∀ (by_ : Agent) (v : Word), by_ ≠ .spi → s.running (agentIsland by_) = true → (s.isl iSAGE).state = .run → ∃ t,
      exec (.mbDoorbellWrite by_ v) s = .next t ∧ Only [.outs, .islands, .regs] s t ∧ t.outs.readStatus =
            stNotPermitted ∧ t.reg (rIslLastErr (agentIsland by_)) = stNotPermitted + addrIsl rMbDoorbell % 16 * 65536 +
      agentSource by_ * 2 ^ 20 ∧ (∀ b, b ≠ rIslLastErr (agentIsland by_) → t.reg b = s.reg b)) ∧
    (∀ (code : Nat) (t : Transfer), transferOf s code = some t → t.last + 60 * nsSec ≤ s.now → exec
      (.transferTimeout code) s = .next (abandonTransfer s t)) ∧
    (∀ (code : Nat), (transferOf s code = none ∨ (∀ t ∈ s.mail.transfers, s.now < t.last + 60 * nsSec)) → exec
      (.transferTimeout code) s = .next s)

/-- 20 R529, R531, R534 to R536: the interrupt controller, all other state unchanged. -/
def Obligations.InterruptEffect : Prop :=
  ∀ (s : State) (by_ : Agent),
    (∀ (t n : Nat), t < 3 → Reaches s by_ (rIcTClaim t) 0 false → (s.target t).frozen = false → n ≠ 0 → deliverable
      (met s by_ (rIcTClaim t)) t n = true → (∀ k ∈ sourceNumbers, deliverable (met s by_ (rIcTClaim t)) t k = true
      → srcPrio s k < srcPrio s n ∨ (srcPrio s k = srcPrio s n ∧ n ≤ k)) → n ∈ sourceNumbers → Performs
      (.icTclaimRead by_ t) s
      ({ (met s by_ (rIcTClaim t)).setTarget t { s.target t with stack := (n, s.rfield (rIcSrc n) 0 4) :: (s.target t).stack } with irq := { (met s by_ (rIcTClaim t)).setTarget t { s.target t with stack := (n, s.rfield (rIcSrc n) 0 4) :: (s.target t).stack } |>.irq with active := n :: s.irq.active } })
      (n)) ∧
    (∀ (t n : Nat) (v : Word), t < 3 → Reaches s by_ (rIcTComplete t) v.toNat true → (s.target t).frozen = false →
      v.toNat % 256 = n → n ≠ 0 → ((s.target t).stack.head?.map Prod.fst) = some n → tabWf s.irq.held = true → ∃ w,
      Performs (.icTcompleteWrite by_ t v) s w (0) ∧ (w.target t).stack = (s.target t).stack.drop 1 ∧ w.irq.active =
      s.irq.active.filter (· != n) ∧ w.irq.held = tabDel s.irq.held n ∧ Only [.islands, .irq, .regs] s w) ∧
    (∀ (t : Nat) (v : Word), t < 3 → Reaches s by_ (rIcTComplete t) v.toNat true → (s.target t).frozen = false →
      v.toNat % 256 ≠ 0 → (s.target t).top.1 ≠ v.toNat % 256 → (s.target t).top.1 < 256 → ∃ w, Performs
      (.icTcompleteWrite by_ t v) s w (0) ∧ (w.target t) = { s.target t with frozen := true } ∧ w.rbit rIcEvent t =
      true ∧ w.reg (rIcTFault t) = v.toNat % 256 + (s.target t).top.1 * 256 ∧ w.irq.active = s.irq.active ∧ Only
      [.islands, .irq, .regs, .power] s w) ∧
    (∀ (t : Nat) (v : Word), t < 3 → Reaches s by_ (rIcTCtrl t) v.toNat true → (s.target t).frozen = true → bitOf
      v.toNat 0 = true → ∃ w, Performs (.unfreeze by_ t v) s w (0) ∧ (w.target t) =
      { s.target t with stack := [], frozen := false } ∧ (∀ n, n ∈ w.irq.active ↔ n ∈ s.irq.active ∧ n ∉ (s.target
      t).stack.map Prod.fst) ∧ Only [.islands, .irq, .regs] s w) ∧
    (∀ (n : Nat) (v : Word), Reaches s by_ rIcSwSet v.toNat true → v.toNat % 256 = n → 128 ≤ n → s.irq.soft.contains
      n = false → Performs (.icSwsetWrite by_ v) s
      ({ (met s by_ rIcSwSet) with irq := { s.irq with soft := n :: s.irq.soft } }) (0)) ∧
    (∀ (v : Word), Reaches s by_ rIcSwClr v.toNat true → Performs (.icSwclrWrite by_ v) s
      ({ (met s by_ rIcSwClr) with irq := { s.irq with soft := s.irq.soft.filter (· != v.toNat % 256) } }) (0)) ∧
    (∀ (n : Nat) (v : Word), n < 256 → by_ ≠ .core1 → Reaches s by_ (rIcSrc n) v.toNat true → s.irq.active.contains
      n = false → (n < 48 ∨ 50 < n ∨ v.toNat / 16 % 4 ≠ n - 48) → Performs (.icSrcWrite by_ n v) s ((met s by_
      (rIcSrc n)).setReg (rIcSrc n) (v.toNat &&& 0x13F)) (0)) ∧
    (∀ (n : Nat) (v : Word), 48 ≤ n → n ≤ 50 → by_ ≠ .core1 → Reaches s by_ (rIcSrc n) v.toNat true → v.toNat / 16 %
      4 = n - 48 → Performs (.icSrcWrite by_ n v) s ((met s by_ (rIcSrc n))) (0)) ∧
    (∀ (n : Nat) (v : Word), n < 256 → by_ ≠ .core1 → Reaches s by_ (rIcSrc n) v.toNat true → s.irq.active.contains
      n = true → (n < 48 ∨ 50 < n ∨ v.toNat / 16 % 4 ≠ n - 48) → v.toNat % 64 ≠ s.rfield (rIcSrc n) 0 6 → ∃ w,
      Performs (.icSrcWrite by_ n v) s w (0) ∧ tabGet w.irq.held n = some (v.toNat % 64) ∧ w.rfield (rIcSrc n) 0 6 =
      s.rfield (rIcSrc n) 0 6 ∧ w.rbit (rIcSrc n) 8 = bitOf v.toNat 8 ∧ Only [.islands, .irq, .regs] s w) ∧
    (∀ (t e : Nat), t < 3 → (targetIdle s t = true ∨ (s.target t).holdUntil = some e ∧ e ≤ s.now) → exec
      (.moderationEnd t) s = .next (s.setTarget t { s.target t with holdUntil := none }))

/-- 20 R532. -/
def Obligations.SpuriousClaim : Prop :=
  ∀ (s : State) (by_ : Agent),
    (∀ (t : Nat), t < 3 → Reaches s by_ (rIcTClaim t) 0 false → (∀ k ∈ sourceNumbers, deliverable (met s by_
      (rIcTClaim t)) t k = false) → Performs (.icTclaimRead by_ t) s ((met s by_ (rIcTClaim t))) (0)) ∧
    (∀ (t : Nat) (v : Word), t < 3 → Reaches s by_ (rIcTComplete t) v.toNat true → v.toNat % 256 = 0 → Performs
      (.icTcompleteWrite by_ t v) s ((met s by_ (rIcTComplete t))) (0))

/-- 20 R543, R546, Table 20.3. The CRC of each polynomial is the model's own (Machine/Crc.lean). -/
def Obligations.CheckUnitEffect : Prop :=
  ∀ (s : State) (by_ : Agent),
    (∀ (c : Nat) (v : Word), 10 ≤ c → c < 16 → Reaches s by_ (rChkCtrl c) (v.toNat ||| 0x100) true → bitOf v.toNat 9
      = false → (s.chkChan c).aborts ≤ 0xFFFFFFFF → ∃ w, Performs (.chkStart by_ c v) s w (0) ∧ w.chkChan c =
      { s.chkChan c with poly := v.toNat % 4, dir := bitOf v.toNat 2, value := (if v.toNat % 4 ≤ 1 then 0xFFFFFFFF else if v.toNat % 4 = 2 then 0xFFFF else 0), held := [], running := true, bytes := 0, aborts := min 0xFFFFFFFF ((s.chkChan c).aborts + if (s.chkChan c).running then 1 else 0) }
      ∧ Only [.islands, .chk] s w ∧ (∀ k, k ≠ c → w.chkChan k = s.chkChan k)) ∧
    (∀ (c : Nat) (v : Word) (p : Instr × Nat × Nat), p ∈ ([(.chkIn8Write by_ c v, rChkIn8 c, 1), (.chkIn16Write by_
      c v, rChkIn16 c, 2), (.chkIn32Write by_ c v, rChkIn32 c, 4)] : List (Instr × Nat × Nat)) → 10 ≤ c → c < 16 →
      Reaches s by_ p.2.1 v.toNat true → Performs (p.1) s ((met s by_ p.2.1).setChkChan c (((s.chkChan c)).feed
      (leBytes p.2.2 v.toNat))) (0)) ∧
    (∀ (x : ChkChan) (bs : List Byte) (k : Nat), (k = if x.dir = true then polyWidth x.poly else 0) → x.feed bs =
      (if x.running = true then
      { x with value := polyRun x.poly x.value ((x.held ++ bs).take ((x.held ++ bs).length - k)), held := (x.held ++ bs).drop ((x.held ++ bs).length - k), bytes := (x.bytes + ((x.held ++ bs).length - k)) % 2 ^ 24 }
      else x)) ∧
    (∀ (c : Nat) (v : Word), 10 ≤ c → c < 16 → Reaches s by_ (rChkCtrl c) (v.toNat ||| 0x200) true → bitOf v.toNat 8
      = false → (s.chkChan c).running = true → ((s.chkChan c).dir = false ∨ polyWidth (s.chkChan c).poly ≤
      (s.chkChan c).held.length) → (s.chkChan c).units ≤ 0xFFFFFFFF → (s.chkChan c).fails ≤ 0xFFFFFFFF → ∃ w,
      Performs (.chkFinish by_ c v) s w (0) ∧ (w.chkChan c).running = false ∧ (w.chkChan c).done = true ∧ (w.chkChan
      c).value = (s.chkChan c).value ∧ (w.chkChan c).units = min 0xFFFFFFFF ((s.chkChan c).units + 1) ∧ (w.chkChan
      c).matched = (if (s.chkChan c).dir then decide (leNat (s.chkChan c).held = (polyOut (s.chkChan c).poly
      (s.chkChan c).value).toNat) else (s.chkChan c).matched) ∧ (w.chkChan c).fails = min 0xFFFFFFFF ((s.chkChan
      c).fails + if (s.chkChan c).dir && leNat (s.chkChan c).held != (polyOut (s.chkChan c).poly (s.chkChan
      c).value).toNat then 1 else 0) ∧ Only [.islands, .chk] s w ∧ (∀ k, k ≠ c → w.chkChan k = s.chkChan k)) ∧
    (∀ (c : Nat) (v : Word), 10 ≤ c → c < 16 → Reaches s by_ (rChkCtrl c) (v.toNat ||| 0x200) true → bitOf v.toNat 8
      = false → (s.chkChan c).running = true → (s.chkChan c).dir = true → (s.chkChan c).held.length < polyWidth
      (s.chkChan c).poly → (s.chkChan c).aborts ≤ 0xFFFFFFFF → ∃ w, Performs (.chkFinish by_ c v) s w (0) ∧
      (w.chkChan c).running = false ∧ (w.chkChan c).done = true ∧ (w.chkChan c).matched = false ∧ (w.chkChan
      c).aborts = min 0xFFFFFFFF ((s.chkChan c).aborts + 1) ∧ (w.chkChan c).units = (s.chkChan c).units ∧ Only
      [.islands, .chk] s w) ∧
    (∀ (c : Nat) (v : Word) (p : Instr × Nat × Nat), p ∈ ([(.chkStart by_ c v, rChkCtrl c, v.toNat ||| 0x100),
      (.chkFinish by_ c v, rChkCtrl c, v.toNat ||| 0x200), (.chkIn8Write by_ c v, rChkIn8 c, v.toNat)] : List (Instr
      × Nat × Nat)) → c < 10 → Reaches s by_ p.2.1 p.2.2 true → Performs (p.1) s ((met s by_ p.2.1)) (0))

/-- 04 R139 to R144, Table 4.11: session establishment and records. Cryptographic results are free constants of Config
(log 16); ids and nonces are drawn free values (log 1). -/
def Obligations.SessionSteps : Prop :=
  ∀ (s : State),
    (∀ (n : Nat) (p : List Byte), stewardReady s = true → s.rbit rMbCtrl 1 = true → tabGet s.mail.sessions n = none
      → helloOk s n p = true → vaultUp s = true → ∃ t, exec (.sessionHello n p) s = .next t ∧ ((tabGet
      t.mail.sessions n).map fun x => (x.stage, x.tenant, x.role, x.credential, x.heard)) = some (.offered, fld p 34
      2, fld p 36 1, fld p 38 4, s.now) ∧ (tabGet t.mail.sessions n).any (fun x => decide (0 < x.id) && decide (x.id
      < 2 ^ 32)) = true ∧ (t.mail.sent.head?.map fun m => (m.session, m.body.length)) = some (n, 4 + 32 + 1568 +
      4627) ∧ Only [.freeCtr, .mail] s t) ∧
    (∀ (n : Nat) (p : List Byte), stewardReady s = true → s.rbit rMbCtrl 1 = true → tabGet s.mail.sessions n = none
      → (helloOk s n p = false ∨ vaultUp s = false) → exec (.sessionHello n p) s = .next (s.stick rMbSessionFail
      rMbEvent 5)) ∧
    (∀ (n : Nat) (p : List Byte) (x : Session), stewardReady s = true → tabGet s.mail.sessions n = some x → x.stage
      = .offered → p.length = 1568 → vaultUp s = true → (Config.kemDecap x.kemSeed p = none → exec (.sessionAccept n
      p) s = .next (State.stick { s with mail := { s.mail with sessions := tabDel s.mail.sessions n } }
      rMbSessionFail rMbEvent 5)) ∧ (∀ k, Config.kemDecap x.kemSeed p = some k → exec (.sessionAccept n p) s = .next
      { s with vault := { s.vault with sessKeys := tabSet s.vault.sessKeys s.vault.sessNext (leBytes 72 (Config.kmac (leBytes 32 k) (transcriptHash { x with transcript := x.transcript ++ p }) 576 "CFM-8420 session")), sessNext := s.vault.sessNext + 1 }, mail := { s.mail with sessions := tabSet s.mail.sessions n { x with transcript := x.transcript ++ p, stage := .accepted, keys := s.vault.sessNext, heard := s.now } } }))
      ∧
    (∀ (n : Nat) (p : List Byte) (x : Session), stewardReady s = true → tabGet s.mail.sessions n = some x → x.stage
      = .offered → (p.length ≠ 1568 ∨ vaultUp s = false) → exec (.sessionAccept n p) s = .next (State.stick
      { s with mail := { s.mail with sessions := tabDel s.mail.sessions n } } rMbSessionFail rMbEvent 5)) ∧
    (∀ (n : Nat) (p : List Byte) (x : Session), stewardReady s = true → tabGet s.mail.sessions n = some x → x.stage
      = .accepted → vaultUp s = true → (openRecord s x p = none → exec (.sessionProof n p) s = .next (State.stick
      { s with mail := { s.mail with sessions := tabDel s.mail.sessions n } } rMbSessionFail rMbEvent 5)) ∧ (∀ c d,
      openRecord s x p = some (c, d) → (tagMatches s x.tenant (transcriptHash x) "CFM-8420 proof" d = true → exec
      (.sessionProof n p) s = .next (sessionSend (tookRecord (useCredential s x.tenant) n { x with stage := .established } c) n (leBytes 2
      0))) ∧ (tagMatches s x.tenant (transcriptHash x) "CFM-8420 proof" d = false → ∃ t, exec (.sessionProof n p) s
      = .next t ∧ t.mail.sessions = tabDel s.mail.sessions n ∧ t.vault.sessKeys = tabDel s.vault.sessKeys x.keys ∧
      Only [.regs, .mail, .vault, .chk, .power] s t))) ∧
    (∀ (n : Nat) (p : List Byte) (x : Session), stewardReady s = true → tabGet s.mail.sessions n = some x → x.stage
      = .established → (openRecord s x p = none → exec (.sessionRecord n p) s = .next (s.stick rMbSessionFail
      rMbEvent 5)) ∧ (∀ c d, openRecord s x p = some (c, d) → c + 1 < 2 ^ 32 → exec (.sessionRecord n p) s = .next
      (letIn (s.setSession n { x with rxNext := c + 1, heard := s.now }) (.session n) (padTo 32 d) (d.drop 32) (some
      (if d.length < 32 then 2 ^ 32 else d.length - 32))))) ∧
    (∀ (i : Instr) (n : Nat) (x : Session), (i = .sessionTcpClose n ∨ (i = .sessionIdleTimeout n ∧ s.running iSAGE =
      true ∧ x.heard + max 10 (s.rfield rMbCtrl 8 8) * nsSec ≤ s.now)) → tabGet s.mail.sessions n = some x → ∃ t,
      exec i s = .next t ∧ t.mail.sessions = tabDel s.mail.sessions n ∧ t.vault.sessKeys = tabDel s.vault.sessKeys
      x.keys ∧ t.mail.inProgress = s.mail.inProgress.filter (fun q => q.route != .session n) ∧ t.mail.cov =
      s.mail.cov.filter (fun p => p.1 != n) ∧ t.rbit rMbEvent 4 = true ∧ Only [.regs, .fabric, .mail, .vault,
      .update, .chk] s t) ∧
    (∀ (n : Nat) (x : Session), tabGet s.mail.sessions n = some x → s.now < x.heard + max 10 (s.rfield rMbCtrl 8 8)
      * nsSec → exec (.sessionIdleTimeout n) s = .next s)

/-- 04 R145 to R149, Table 4.12, 22 Table 22.3: services on a hub connection, COV notifications, and how a device, its
connection and its objects come about. Numbers of object types, properties and errors are ASHRAE 135's (log 19); which
event opens a connection or maps an object, and when a change is notified, are the model's (log 42). -/
def Obligations.BacnetServices : Prop :=
    (∀ (s : State) (n : Nat) (x : Session), tabGet s.mail.sessions n = some x → x.stage = .bacnet → stewardReady s =
    true → s.rbit rMbCtrl 2 = true →
    (exec (.bacnetService n .whoIs) s = .next
      ({ s with mail := { s.mail with sessions := tabSet s.mail.sessions n { x with heard := s.now }, bacSent := .iAm x.tenant :: s.mail.bacSent } }))
      ∧
    (∀ (o p : Nat), bacObj s x.tenant o = none → exec (.bacnetService n
      (.readProperty o p)) s = .next
      ({ s with mail := { s.mail with sessions := tabSet s.mail.sessions n { x with heard := s.now }, bacSent := .error 1 31 :: s.mail.bacSent } }))
      ∧
    (∀ (o p : Nat), ∃ t, exec (.bacnetService n (.readProperty o p)) s = .next t ∧ t.mail.bacSent.tail =
      s.mail.bacSent ∧ Only [.freeCtr, .regs, .islands, .fabric, .mail, .chk] s t) ∧
    (∀ (l : List (Nat × Nat)), ∃ t, exec (.bacnetService n (.readPropertyMultiple l)) s = .next t ∧
      t.mail.bacSent.tail = s.mail.bacSent ∧ (t.mail.bacSent.head?.map fun a => a matches .multiple _) = some true ∧
      Only [.freeCtr, .regs, .islands, .fabric, .mail, .chk] s t) ∧
    (∀ (o : Nat), (bacObj s x.tenant o).isSome = true → bacSubscribed s n o = false → (s.mail.cov.filter (·.session
      == n)).length < 1024 → exec (.bacnetService n (.subscribeCOV o false)) s = .next
      ({ s with mail := { s.mail with cov := s.mail.cov ++ [{ session := n, object := o, last := none }], sessions := tabSet s.mail.sessions n { x with heard := s.now }, bacSent := .ack :: s.mail.bacSent } })) ∧
    (∀ (o : Nat), (bacObj s x.tenant o).isSome = true → bacSubscribed s n o = false → 1024 ≤ (s.mail.cov.filter
      (·.session == n)).length → exec (.bacnetService n (.subscribeCOV o false)) s = .next
      ({ s with mail := { s.mail with  sessions := tabSet s.mail.sessions n { x with heard := s.now }, bacSent := .error 3 19 :: s.mail.bacSent } })) ∧
    (∀ (o : Nat), (bacObj s x.tenant o).isSome = true → ∃ t, exec (.bacnetService n (.subscribeCOV o true)) s = .next
      t ∧ bacSubscribed t n o = false ∧ (∀ (m k : Nat), (m ≠ n ∨ k ≠ o) → bacSubscribed t m k = bacSubscribed s m k) ∧
      t.mail.bacSent = .ack :: s.mail.bacSent ∧ Only [.mail] s t) ∧
    (∀ (o p pr : Nat) (v : Option Word64) (y : BacObject), bacObj s x.tenant o = some y → (p ≠ bpPresentValue ∨
      bacCommandable y.type = false ∨ pr = 0 ∨ 16 < pr ∨ s.twin.role = .standby) → exec (.bacnetService n
      (.writeProperty o p pr v)) s = .next
      ({ s with mail := { s.mail with  sessions := tabSet s.mail.sessions n { x with heard := s.now }, bacSent := .error 2 40 :: s.mail.bacSent } })) ∧
    (∀ (o : Nat) (c : CovSub) (y : BacObject), s.mail.cov = [c] → c.session = n → c.object = o → c.last = none →
      bacObj s x.tenant o = some y → Sound s y.pt → (s.isl iPF).state = .run → (s.isl iPF).draining = false →
      (s.epochOf iSAGE iPF = 0 ∨ s.epochOf iSAGE iPF = (s.isl iPF).epoch) → bitOf (rightsOf s (s.point y.pt) x.tenant)
      0 = true → bacFits y.type (s.point y.pt).type = true → forceOf s y.pt = none → ∃ t v f, exec (.bacnetService n
      (.covDue o)) s = .next t ∧ t.mail.bacSent = .notify o v f :: s.mail.bacSent ∧ t.mail.cov =
      [{ c with last := some (v, f) }] ∧ Only [.freeCtr, .regs, .islands, .fabric, .mail, .chk] s t) ∧
    (∀ (o : Nat), bacSubscribed s n o = false → exec (.bacnetService n (.covDue o)) s = .next s) ∧
    (∀ (k : Nat), exec (.bacnetService n (.other k)) s = .next
      ({ s with mail := { s.mail with  sessions := tabSet s.mail.sessions n { x with heard := s.now }, bacSent := .reject 9 :: s.mail.bacSent } }))) ∧
  (∀ (s : State) (n : Nat), stewardReady s = true →
    (∀ (t : Nat) (p f : List Byte), t < 0xFFF → enrolled s t = true → exec (.bacnetService n (.ask t p f)) s = .next
      { s with mail := { s.mail with bacHubs := tabSet s.mail.bacHubs t { primary := p, failover := f }, bacSent := .status stOk :: s.mail.bacSent } }) ∧
    (∀ (t : Nat) (b : Bool), bacMayConnect s n t b = true → ∃ w x, exec (.bacnetService n (.connect t b)) s = .next w ∧
      tabGet w.mail.sessions n = some x ∧ x.stage = .bacnet ∧ x.tenant = t ∧ x.role = 1 ∧ routeBind w (.session n) =
      some { tenant := t, role := 1 } ∧ Only [.mail] s w) ∧
    (∀ (t : Nat) (b : Bool), bacConnected s t = true → exec (.bacnetService n (.connect t b)) s = .next s) ∧
    (∀ (t o ty pt : Nat) (v : Word64), (tabGet s.mail.bacHubs t).isSome = true → bacFits ty (s.point pt).type = true →
      s.mail.bacObjects.length < 65536 → (s.mail.bacObjects.filter fun p => p.2.tenant == t).length < 8192 → ∃ w,
      exec (.bacnetService n (.map t o ty pt v)) s = .next w ∧ bacObj w t o = some
      { tenant := t, type := ty, pt := pt, priority := List.replicate 16 none, relinquish := v, configError := false } ∧
      w.mail.bacSent = .status stOk :: s.mail.bacSent ∧ Only [.mail] s w) ∧
    (∀ (t o ty pt : Nat) (v : Word64), (tabGet s.mail.bacHubs t).isSome = true → bacFits ty (s.point pt).type = true →
      bacObj s t o = none → (65536 ≤ s.mail.bacObjects.length ∨ 8192 ≤ (s.mail.bacObjects.filter fun p => p.2.tenant ==
      t).length) → exec (.bacnetService n (.map t o ty pt v)) s = .next
      { s with mail := { s.mail with bacSent := .status stStoreFull :: s.mail.bacSent } }))

/-- 02 R55, R56, R64 to R66, R71, R72: requests and replies between islands. -/
def Obligations.CrossingEffect : Prop :=
  ∀ (s : State),
    (∀ (q : XRequest), q.src < 12 → q.dst < 12 → q.src ≠ q.dst → q.slot < 32 → q.gen < 8 → s.running q.src = false →
      exec (.crossingRequest q) s = .next (arrive s q)) ∧
    (∀ (q p : XRequest), q.src < 12 → q.dst < 12 → q.src ≠ q.dst → q.slot < 32 → q.gen < 8 → s.running q.src = true →
      slotFree (s.isl q.src) q.dst q.slot = true → p =
      { q with gen := tabGetD (s.isl q.src).gens (q.dst * 32 + q.slot) 0 } → exec (.crossingRequest q) s = .next
      (arrive (openSlot s p) p)) ∧
    (∀ (q p : XRequest) (k : Nat), q.src < 12 → q.dst < 12 → q.src ≠ q.dst → q.slot < 32 → q.gen < 8 → s.running
      q.src = true → slotFree (s.isl q.src) q.dst q.slot = false → xFreeSlot (s.isl q.src) q.dst = some k → p =
      { q with slot := k, gen := tabGetD (s.isl q.src).gens (q.dst * 32 + k) 0 } → exec (.crossingRequest q) s =
      .next (arrive (openSlot s p) p)) ∧
    (∀ (q : XRequest), q.src < 12 → q.dst < 12 → q.src ≠ q.dst → q.slot < 32 → q.gen < 8 → s.running q.src = true →
      (∀ k, k < 32 → slotFree (s.isl q.src) q.dst k = false) → exec (.crossingRequest q) s = .next (s.setIsl q.src
      { s.isl q.src with waiting := (s.isl q.src).waiting ++ [q] })) ∧
    (∀ (q : XRequest), q.dst < 12 → (12 ≤ q.src ∨ q.src = q.dst ∨ 32 ≤ q.slot ∨ 8 ≤ q.gen) → exec (.crossingRequest
      q) s = .next (s.raise (rIslFault q.dst) 0)) ∧
    (∀ (q : XRequest), openSlot s q = s.setIsl q.src
      { s.isl q.src with slots := (s.isl q.src).slots ++ [{ target := q.dst, slot := q.slot, gen := q.gen, source := q.source }] })
      ∧
    (∀ (q : XRequest) (r : (Nat × Word64) × State), ((s.isl q.dst).state = .run ∨ (s.isl q.dst).state = .idle) →
      (s.isl q.dst).draining = false → (q.targetEpoch = 0 ∨ q.targetEpoch = (s.isl q.dst).epoch) → r = xPerform
      (s.wakeIsl q.dst) q → arrive s q =
      { r.2 with outs := { r.2.outs with replies := r.2.outs.replies ++ [{ target := q.dst, requester := q.src, slot := q.slot, gen := q.gen, reqEpoch := q.reqEpoch, targetEpoch := (s.isl q.dst).epoch, status := r.1.1, data := r.1.2 }] } })
      ∧
    (∀ (q : XRequest) (st e : Nat) (u : State), q.path = .ordinary → (((s.isl q.dst).state ≠ .run ∧ (s.isl
      q.dst).state ≠ .idle ∧ st = 0x0301 ∧ e = 0) ∨ (s.running q.dst = true ∧ (s.isl q.dst).draining = true ∧ st =
      0x0303 ∧ e = (s.isl q.dst).epoch) ∨ (s.running q.dst = true ∧ (s.isl q.dst).draining = false ∧ q.targetEpoch ≠
      0 ∧ q.targetEpoch ≠ (s.isl q.dst).epoch ∧ st = 0x0302 ∧ e = (s.isl q.dst).epoch)) → u = State.stick (s.wakeIsl
      q.dst) (rIslRefused q.dst) (rIslFault q.dst) 7 → arrive s q =
      { u with outs := { u.outs with replies := u.outs.replies ++ [{ target := q.dst, requester := q.src, slot := q.slot, gen := q.gen, reqEpoch := q.reqEpoch, targetEpoch := e, status := st, data := 0 }] } })
      ∧
    (∀ (i j k : Nat) (q p : XRequest), s.running i = true → (s.isl i).waiting.find? (·.dst == j) = some q → xFreeSlot
      (s.isl i) j = some k → p =
      { q with slot := k, gen := tabGetD (s.isl i).gens (q.dst * 32 + k) 0 } → exec (.slotFreedSend i j) s = .next
      (arrive (openSlot (s.setIsl i { s.isl i with waiting := (s.isl i).waiting.erase q }) p) p)) ∧
    (∀ (i j : Nat), (s.running i = false ∨ (s.isl i).waiting.find? (·.dst == j) = none ∨ xFreeSlot (s.isl i) j =
      none) → exec (.slotFreedSend i j) s = .next s) ∧
    (∀ (i j k : Nat), exec (.slotReuseTimeout i j k) s = .next (s.setIsl i
      { s.isl i with dead := (s.isl i).dead.filter fun d => !(d.target == j && d.slot == k && decide (d.since + 4 * nsMs ≤ s.now)) }))
      ∧
    (∀ (p : XReply), p.requester < 12 → (12 ≤ p.target ∨ 32 ≤ p.slot ∨ 8 ≤ p.gen) → exec (.crossingReply p) s =
      .next (s.raise (rIslFault p.requester) 0)) ∧
    (∀ (p x : XReply), p.requester < 12 → p.target < 12 → p.slot < 32 → p.gen < 8 → s.outs.replies.find? (fun y =>
      y.target == p.target && y.requester == p.requester) = some x → x ≠ p → exec (.crossingReply p) s = .next s) ∧
    (∀ (p : XReply), p.requester < 12 → p.target < 12 → p.slot < 32 → p.gen < 8 → inTurn s p = true → s.outs.notices
      = [] → (s.running p.requester = false ∨ p.reqEpoch ≠ (s.isl p.requester).epoch ∨
      ((s.isl p.requester).slots.find? fun o => o.target == p.target && o.slot == p.slot && o.gen == p.gen) = none)
      → exec (.crossingReply p) s = .next (State.stick
      { s with outs := { s.outs with replies := s.outs.replies.filter (· != p) } } (rIslDiscard p.requester)
      (rIslFault p.requester) 7)) ∧
    (∀ (p : XReply) (o : OutSlot), p.requester < 12 → p.target < 12 → p.slot < 32 → p.gen < 8 → inTurn s p = true →
      s.outs.notices = [] → s.running p.requester = true → p.reqEpoch = (s.isl
      p.requester).epoch → ((s.isl p.requester).slots.find? fun o => o.target == p.target && o.slot == p.slot &&
      o.gen == p.gen) = some o → p.targetEpoch ≠ 0 → s.epochOf p.requester p.target ≠ 0 → 1 ≤ (s.epochOf p.requester
      p.target + 65535 - p.targetEpoch) % 65535 → (s.epochOf p.requester p.target + 65535 - p.targetEpoch) % 65535 ≤
      32767 → exec (.crossingReply p) s = .next (completeSlot
      { s with outs := { s.outs with replies := s.outs.replies.filter (· != p) } } p.requester o 0x0302 0)) ∧
    (∀ (p : XReply) (o : OutSlot), p.requester < 12 → p.target < 12 → p.slot < 32 → p.gen < 8 → inTurn s p = true →
      s.outs.notices = [] → s.running p.requester = true → p.reqEpoch = (s.isl
      p.requester).epoch → ((s.isl p.requester).slots.find? fun o => o.target == p.target && o.slot == p.slot &&
      o.gen == p.gen) = some o → (p.targetEpoch = 0 ∨ s.epochOf p.requester p.target = 0 ∨ s.epochOf p.requester
      p.target = p.targetEpoch) → exec (.crossingReply p) s = .next (completeSlot (if p.targetEpoch = 0 then
      { s with outs := { s.outs with replies := s.outs.replies.filter (· != p) } } else State.noteEpoch
      { s with outs := { s.outs with replies := s.outs.replies.filter (· != p) } } p.requester p.target
      p.targetEpoch) p.requester o p.status p.data.toNat)) ∧
    (∀ (i r e : Nat), i < 12 → r < 12 → 1 ≤ e → e ≤ 0xFFFF → s.outs.notices = [] → exec (.epochNotice i r e) s =
      .next (s.setIsl r { s.isl r with records := tabSet (s.isl r).records i e }))

/-- 02 R59 to R62, R574, Tables 2.1 and 2.7, Table 2.15. Which agent may ask for which state is R59 and R61
(`askable`). That the register is written in every state of its island is log 55. -/
def Obligations.IslandRequestEffect : Prop :=
  ∀ (s : State),
    (∀ (p : Instr × Nat × IslState) (i : Nat) (v : Word) (by_ : Agent), p ∈ ([(.islReqStateOff by_ i v, 0, .off),
      (.islReqStateReset by_ i v, 1, .reset), (.islReqStateRetain by_ i v, 5, .retain), (.islReqStateUpdate by_ i v,
      6, .update)] : List (Instr × Nat × IslState)) → v.toNat % 8 = p.2.1 → bitOf v.toNat 8 = false → i < 12 →
      s.running (agentIsland by_) = true → askable s by_ i p.2.1 = true → (s.isl i).state = .run → (s.isl
      i).draining = false → selfIslands.contains i = false → i ≠ iMTR → ∃ t, exec p.1 s = .next t ∧ (t.isl
      i).draining = true ∧ (t.isl i).target = p.2.2 ∧ (t.isl i).state = .run ∧ (t.isl i).drainStart = s.now ∧ (t.isl
      i).epoch = (s.isl i).epoch ∧ t.rfield (rIslCtrl i) 0 3 = p.2.1 ∧ t.rfield (rIslCtrl i) 4 1 = bitsOf v.toNat 4
      1 ∧ Only [.regs, .outs, .islands] s t ∧ (∀ j, j ≠ i → t.isl j = s.isl j)) ∧
    (∀ (i : Nat) (v : Word) (by_ : Agent), v.toNat % 8 = 3 → i < 12 → s.running (agentIsland by_) = true → askable s
      by_ i 3 = true → (s.isl i).state = .retain → (s.isl i).draining = false → ∃ t, exec (.islReqStateRun by_ i v)
      s = .next t ∧ (t.isl i).state = .run ∧ (t.isl i).epoch = (s.isl i).epoch ∧ (t.isl i).since = s.now ∧ t.rfield
      (rIslCtrl i) 0 3 = 3 ∧ (∀ j, j ≠ i → (t.isl j).state = (s.isl j).state)) ∧
    (∀ (p : Instr × Nat) (i : Nat) (v : Word) (by_ : Agent), p ∈ ([(.islReqStateReset by_ i v, 1), (.islReqStateRun
      by_ i v, 3)] : List (Instr × Nat)) → v.toNat % 8 = p.2 → i < 12 → s.running (agentIsland by_) = true → askable
      s by_ i p.2 = true → (s.isl i).state = .off → (s.isl i).draining = false → ∃ t, exec p.1 s = .next t ∧ (t.isl
      i).state = .reset ∧ (t.isl i).target = .run ∧ (t.isl i).restart = true ∧ (t.isl i).epoch = (if (s.isl i).epoch
      = 0xFFFF then 1 else (s.isl i).epoch + 1) ∧ t.rfield (rIslCtrl i) 0 3 = p.2 ∧ (∀ j, j ≠ i → t.isl j = s.isl
      j)) ∧
    (∀ (p : Instr × Nat) (i : Nat) (v : Word) (by_ : Agent), p ∈ ([(.islReqStateOff by_ i v, 0), (.islReqStateReset
      by_ i v, 1), (.islReqStateRun by_ i v, 3), (.islReqStateRetain by_ i v, 5), (.islReqStateUpdate by_ i v, 6)] :
      List (Instr × Nat)) → v.toNat % 8 = p.2 → i < 12 → (by_ = .steward ∨ by_ = .chervil ∨ by_ = .block) →
      s.running (agentIsland by_) = true → askable (s.setField (rIslCtrl i) 4 1 (bitsOf v.toNat 4 1)) by_ i p.2 =
      false → exec p.1 s = .next
      { s.setField (rIslCtrl i) 4 1 (bitsOf v.toNat 4 1) with outs := { s.outs with readOut := 0, readStatus := 0 } })
      ∧
    (∀ (p : Instr × Nat) (i : Nat) (v : Word), p ∈ ([(.islReqStateOff .core1 i v, 0), (.islReqStateReset .core1 i v,
      1), (.islReqStateRun .core1 i v, 3), (.islReqStateRetain .core1 i v, 5), (.islReqStateUpdate .core1 i v, 6)] :
      List (Instr × Nat)) → v.toNat % 8 = p.2 → i < 12 → s.running iSAGE = true → exec p.1 s = .next
      { s with outs := { s.outs with readOut := 0, readStatus := 0x0201, fault1 := true } })

/-- 02 R53, R59, R62 to R64, R70, R574, Tables 2.7, 2.7a and 2.8; 17 R478. Premises on islands of the twin roles are
named where 16 R436 adds an effect. The clock monitors and the reference: 02 R47, R52; 17 R479. -/
def Obligations.IslandLifeEffect : Prop :=
  ∀ (s : State),
    (∀ (i : Nat), i < 12 → (s.isl i).draining = true → (i = iMGT ∨ s.running iMGT = true) → (((s.isl i).slots = [] ∧
      (s.isl i).waiting = [] ∧ ((i = iPF ∨ i = iTHY) → s.fabric.imageQueue = [])) ∨ (s.isl i).drainStart + 2 * nsMs ≤
      s.now) → ∃ t, exec (.drainEnd i) s = .next t ∧
      (t.isl i).state = (s.isl i).target ∧ (t.isl i).draining = false ∧ (t.isl i).slots = [] ∧ (t.isl i).waiting =
      [] ∧ (t.isl i).epoch = (s.isl i).epoch ∧ (t.isl i).restart = decide ((s.isl i).target = .reset) ∧ (t.isl
      i).since = s.now) ∧
    (∀ (i : Nat), ((s.isl i).draining = false ∨ (((s.isl i).slots ≠ [] ∨ (s.isl i).waiting ≠ [] ∨ ((i = iPF ∨
      i = iTHY) ∧ s.fabric.imageQueue ≠ [])) ∧ s.now < (s.isl i).drainStart + 2 * nsMs)) → exec (.drainEnd i) s = .next s) ∧
    (∀ (i : Nat), i < 12 → releasable s i = true → (∀ p ∈ s.outs.replies, p.target ≠ i) → ∃ t, exec (.resetRelease i) s = .next t ∧ (t.isl i).state = .boot
      ∧ (t.isl i).target = .run ∧ (t.isl i).epoch = (if (s.isl i).epoch = 0xFFFF then 1 else (s.isl i).epoch + 1) ∧
      ((List.range 12).all fun j => j == i || t.epochOf j i == (t.isl i).epoch) = true ∧ Only [.regs, .islands,
      .mail, .switch, .twin, .chk] s t ∧ (∀ j, j ≠ i → (t.isl j).state = (s.isl j).state)) ∧
    (∀ (i : Nat), i < 12 → i ≠ iMGT → (s.isl i).state = .boot → s.running iMGT = true → ((s.isl i).restart = false ∨
      s.now ≤ (s.isl i).since + bootBound i * nsMs) → ∃ t, exec (.bootComplete i) s = .next t ∧ (t.isl i).state = .run ∧ (t.isl i).restart = false ∧ (t.isl i).epoch = (s.isl i).epoch ∧ (t.isl
      i).since = s.now) ∧
    (∀ (i : Nat), i < 12 → selfIslands.contains i = false → (s.isl i).state = .boot → (s.isl i).restart = true →
      (s.isl i).since + bootBound i * nsMs ≤ s.now → ∃ t, exec (.bootTimeout i) s = .next t ∧ (t.isl i).state =
      .fault ∧ t.rbit (rIslFault i) 4 = true ∧ (t.isl i).slots = []) ∧
    (∀ (i c l : Nat), i < 12 → selfIslands.contains i = false → (s.isl i).state ≠ .off → 3 ≤ c → c ≤ 6 → ∃ t, exec
      (.islandFaultEntry i c l) s = .next t ∧ (t.isl i).state = .fault ∧ t.rbit (rIslFault i) c = true ∧ t.rfield
      (rIslFault i) 16 8 = l % 256 ∧ (t.isl i).slots = [] ∧ (t.isl i).waiting = []) ∧
    ((s.isl iMGT).state = .fault → (s.isl iMGT).since + 1000 * nsMs ≤ s.now → exec .mgtFaultTimeout s = .next
      (savedReset s 5)) ∧
    (∀ (i : Nat), i < 12 → i ≠ iMGT → (s.isl i).state = .fault → (s.isl i).draining = false → s.running iMGT = true
      → s.rbit rMgCtrl 0 = true → (s.isl i).since + 100 * nsMs ≤ s.now → ((s.isl i).recoveries.filter fun x =>
      decide (s.now < x + 3600 * nsSec)).length < 3 → ∃ t, exec (.autoRecovery i) s = .next t ∧ (t.isl i).state =
      .reset ∧ (t.isl i).restart = true ∧ (t.isl i).recoveries.head? = some s.now ∧ t.rbit rMgEvent 2 = true) ∧
    (∀ (i : Nat), i < 12 → i ≠ iMGT → (s.isl i).state = .fault → s.running iMGT = true → s.rbit rMgCtrl 0 = true →
      (s.isl i).since + 100 * nsMs ≤ s.now → 3 ≤ ((s.isl i).recoveries.filter fun x => decide (s.now < x + 3600 *
      nsSec)).length → exec (.autoRecovery i) s = .next (s.raise rMgEvent 3)) ∧
    (∀ (i : Nat), i < 12 → i ≠ iALM → i ≠ iTIME → (s.isl i).state = .run → (s.isl i).draining = false → s.rbit
      (rIslCtrl i) 4 = true → s.mayMove i = true → hasWork s i = false → ∃ t, exec (.islandIdleEntry i) s = .next t ∧ (t.isl i).state =
      .idle ∧ (t.isl i).epoch = (s.isl i).epoch ∧ Only [.regs, .islands, .mail, .switch, .twin, .irq, .chk] s t ∧ (∀
      j, j ≠ i → (t.isl j).state = (s.isl j).state)) ∧
    (∀ (i : Nat), i < 12 → hasWork s i = true → exec (.islandIdleEntry i) s = .next s) ∧
    (∀ (i : Nat), i < 12 → (s.isl i).state = .retain → i ≠ iMGT → s.running iMGT = true → s.power.shed = false → ∃ t,
      exec (.islandWake i) s = .next t ∧ (t.isl i).state = .run ∧ (t.isl i).epoch = (s.isl i).epoch ∧ (t.isl i).since
      = s.now) ∧
    (∀ (i : Nat), i < 12 → (s.isl i).state = .idle → s.mayMove i = true → s.power.shed = false → ∃ t, exec (.islandWake i)
      s = .next t ∧ (t.isl i).state = .run ∧ (t.isl i).epoch = (s.isl i).epoch ∧ Only [.regs, .islands, .mail,
      .switch, .twin, .chk] s t ∧ (∀ j, j ≠ i → (t.isl j).state = (s.isl j).state)) ∧
    (∀ (i k : Nat), i < 12 → (s.isl i).state = .run → (100 * k < 98 * nominalKHz i ∨ 102 * nominalKHz i < 100 * k) →
      exec (.clkRange i k) s = .next ((s.setReg (rIslClk i) (k % 2 ^ 20)).raise (rIslFault i) 1)) ∧
    (∀ (i k : Nat), ((s.isl i).state ≠ .run ∨ (98 * nominalKHz i ≤ 100 * k ∧ 100 * k ≤ 102 * nominalKHz i)) → exec
      (.clkRange i k) s = .next s) ∧
    (s.power.refExt = true → ∃ t, exec .refclkLost s = .next t ∧ t.power.refIn = false ∧ t.power.refExt = false ∧
      t.rbit rPwEvent 6 = true ∧ (t.power.staged.head?.map fun e => (e.level, e.code, e.detail)) = some (1, 0x1206,
      0) ∧ Only [.regs, .power] s t) ∧
    (s.power.refExt = false → exec .refclkLost s = .next { s with power := { s.power with refIn := false } }) ∧
    (s.power.refExt = false → s.rfield rPwCtrl 12 2 = 2 → s.running iMGT = true → ∃ t, exec .refclkReturn s = .next
      t ∧ t.power.refIn = true ∧ t.power.refExt = true ∧ t.rbit rPwEvent 6 = true ∧ Only [.regs, .power] s t) ∧
    ((s.rfield rPwCtrl 12 2 ≠ 2 ∨ s.running iMGT = false ∨ s.power.refExt = true) → exec .refclkReturn s = .next
      { s with power := { s.power with refIn := true } })

/-- 03 R84, R85, R90, R99, R101, R105 to R108; 07 R217, R219, R220. `performGather` is the fabric's gather; the
restore is stated for a module that is neither SINGLE nor ACTIVE, where step 14 of 17 Table 17.5 does not follow at
once. -/
def Obligations.FabricEvents : Prop :=
  ∀ (s : State),
    (∀ (who : Requester) (pt : Nat), who.island ≠ iPF → (s.isl iPF).state = .run → (s.isl iPF).draining = false →
      (s.epochOf who.island iPF = 0 ∨ s.epochOf who.island iPF = (s.isl iPF).epoch) → Sound s pt → bitOf (rightsOf s
      (s.point pt) (pathOf s who).tenant) 0 = true → forceOf s pt = none → ∃ t, exec (.fabricRead who pt) s = .next t ∧
      t.outs.fabStatus = 0 ∧ t.outs.fabType = (s.point pt).type ∧ t.outs.fabQuality = (s.point pt).quality ∧
      t.outs.fabOut = (s.point pt).value.toNat ∧ t.outs.fabTime = (s.point pt).time ∧ Only [.freeCtr, .regs, .outs,
      .islands, .fabric, .chk] s t ∧ t.fabric.store = s.fabric.store) ∧
    (∀ (who : Requester) (pt ql tm : Nat) (v : Word64), who.island ≠ iPF → (s.isl iPF).state = .run → (s.isl
      iPF).draining = false → (s.epochOf who.island iPF = 0 ∨ s.epochOf who.island iPF = (s.isl iPF).epoch) → Sound
      s pt → bitOf (rightsOf s (s.point pt) (pathOf s who).tenant) 1 = true → ((s.point pt).flag fLocked = false ∨ (s.point
      pt).writer = (pathOf s who).writer) → (ql = qGood ∨ ql = qSubstituted ∨ ql = qOutOfRange) → tm < 2 ^ 64 → forceIndex s pt
      = none → forceOf s pt = none → ∃ t, exec (.fabricWrite who pt (s.point pt).type ql v tm) s = .next t ∧
      t.outs.fabStatus = 0 ∧ t.point pt = PointRec.sealed
      { s.point pt with value := typed (s.point pt).type v, time := (if tm = 0 then s.tai else tm), quality := ql, writer := (pathOf s who).writer }
      ∧ Only [.freeCtr, .regs, .outs, .islands, .fabric, .harvest, .twin, .chk] s t ∧ t.fabric.forces =
      s.fabric.forces ∧ (∀ x, x ≠ pt → t.point x = s.point x)) ∧
    (∀ (who : Requester), who.writer / 2 ^ 28 = 7 → (pathOf s who).tenant = s.mail.partition ∧ (pathOf s who).writer = 0x70000000) ∧
    (∀ (who : Requester) (x : Bind), who.writer = routeWriter (.mailbox (who.writer % 16)) → routeBind s (.mailbox (who.writer %
      16)) = some x → (pathOf s who).tenant = x.tenant) ∧
    (∀ (p : Instr) (who : Requester) (pt ty ql tm : Nat) (v : Word64), p ∈ ([.fabricRead who pt, .fabricWrite who pt
      ty ql v tm] : List Instr) → who.island ≠ iPF → (s.isl iPF).state = .run → (s.isl iPF).draining = false →
      (s.epochOf who.island iPF = 0 ∨ s.epochOf who.island iPF = (s.isl iPF).epoch) → Sound s pt → rightsOf s
      (s.point pt) (pathOf s who).tenant = 0 → ∃ t, exec p s = .next t ∧ t.outs.fabStatus = stTenantMismatch ∧ t.fabric.store =
      s.fabric.store ∧ t.fabric.forces = s.fabric.forces ∧ Only [.freeCtr, .regs, .outs, .islands, .fabric, .chk] s
      t) ∧
    (∀ (k : Nat) (rest : List ImageOp) (l : Loaded) (c : TaskCfg) (r : (Tab Slot × Nat) × State), s.running iPF =
      true → s.rbit rPfStatus 0 = true → s.fabric.imageQueue = { task := k, gather := true } :: rest → (s.task k).state = .gathering → k < 16 →
      progOf s k = some l → cfgOf s k = some c → r = performGather (popImage s) k c.tenant (mappedOf l.prog k 0) → ∃
      t, exec .imageGather s = .next t ∧ t.task k = { s.task k with gathered := some r.1.1, gfail := r.1.2 } ∧
      t.fabric.imageQueue = rest ∧ t.fabric.store = s.fabric.store ∧ Only [.freeCtr, .regs, .fabric, .thyme, .chk] s
      t) ∧
    (∀ (k : Nat) (rest : List ImageOp) (c : TaskCfg) (o : Offer), s.running iPF = true → s.rbit rPfStatus 0 = true → s.fabric.imageQueue =
      { task := k, gather := false } :: rest → (s.task k).state = .scattering → k < 16 → cfgOf s k = some c →
      (s.task k).offered = [o] → 0 < (s.task k).release → (s.task k).release < 2 ^ 64 → Sound s o.pt → o.type =
      (s.point o.pt).type → bitOf (rightsOf s (s.point o.pt) c.tenant) 1 = true → ((s.point o.pt).flag fLocked =
      false ∨ (s.point o.pt).writer = 0x10000000 + k) → forceIndex s o.pt = none → forceOf s o.pt = none → ∃ t, exec
      .imageScatter s = .next t ∧ t.point o.pt = PointRec.sealed
      { s.point o.pt with value := typed o.type (BitVec.ofNat 64 o.value), time := (s.task k).release, quality := qGood, writer := 0x10000000 + k }
      ∧ (t.task k).offered = [{ o with status := some 0 }] ∧ t.fabric.imageQueue = rest ∧ (∀ x, x ≠ o.pt → t.point x
      = s.point x)) ∧
    (∀ (p : Instr × Bool) (k : Nat) (rest : List ImageOp), p ∈ ([(.imageGather, true), (.imageScatter, false)] :
      List (Instr × Bool)) → s.running iPF = true → s.rbit rPfStatus 0 = true → s.fabric.imageQueue = { task := k, gather := p.2 } :: rest →
      (s.task k).state = .faulted → exec p.1 s = .next (popImage s)) ∧
    (∀ (i : Instr), i ∈ ([.imageGather, .imageScatter] : List Instr) → s.rbit rPfStatus 0 = false → exec i s = .next s) ∧
    (s.running iPF = true → s.rbit rPfCtrl 0 = true → (s.defined (s.rfield rPfScrubPos 0 25) = false ∨ (s.point
      (s.rfield rPfScrubPos 0 25)).check = (s.point (s.rfield rPfScrubPos 0 25)).right) → s.rfield rPfScrubPos 0 25
      + 1 < pointCount → exec .scrubRead s = .next ((s.chkUnit 9 28 (s.point (s.rfield rPfScrubPos 0 25)).right
      true).setReg rPfScrubPos (s.rfield rPfScrubPos 0 25 + 1))) ∧
    (s.running iPF = true → s.rbit rPfCtrl 0 = true → s.defined (s.rfield rPfScrubPos 0 25) = true → s.failedPt
      (s.rfield rPfScrubPos 0 25) = false → (s.point (s.rfield rPfScrubPos 0 25)).check ≠ (s.point (s.rfield
      rPfScrubPos 0 25)).right → s.rfield rPfScrubPos 0 25 + 1 < pointCount → ∃ t, exec .scrubRead s = .next t ∧
      t.fabric.failed = s.rfield rPfScrubPos 0 25 :: s.fabric.failed ∧ t.rbit rPfEvent 0 = true ∧ t.reg rPfLastChk =
      s.rfield rPfScrubPos 0 25 + 2 ^ 31 ∧ t.reg rPfScrubPos = s.rfield rPfScrubPos 0 25 + 1 ∧ t.fabric.store =
      s.fabric.store ∧ Only [.regs, .fabric, .chk] s t) ∧
    ((s.running iPF = false ∨ s.rbit rPfCtrl 0 = false) → exec .scrubRead s = .next s) ∧
    (s.running iPF = true → s.power.retainBack = true → s.power.forcesBack = true → s.fabric.saveDue.Nodup →
      s.fabric.forceDue.Nodup → (∀ pt ∈ s.fabric.saveDue, Sound s pt) → ∃ t, exec .retentiveSave s = .next t ∧
      t.fabric.saveDue = [] ∧ t.fabric.forceDue = [] ∧ t.fabric.store = s.fabric.store ∧ t.fabric.forces = s.fabric.forces ∧
      (∀ k x pt, tabWf s.fabric.places = true → tabGet s.fabric.places k = some x → x.holds pt = true → pt ∈
      s.fabric.saveDue → tabGet t.fabric.places k = some
      { x with copy0 := retentiveImage s pt, copy1 := retentiveImage s pt }) ∧ (∀ i f, i ∈ s.fabric.forceDue → tabGet
      s.fabric.forces i = some f → tabGet t.fabric.forceCopy0 i = some (forceImage s f) ∧ tabGet t.fabric.forceCopy1 i =
      some (forceImage s f)) ∧ Only [.fabric, .chk] s t) ∧
    (([iMTR, iSW, iBUS, iFLD, iTHY, iLOOP].all fun i => pastBoot s i) = true → s.running iPF = true → stewardReady s
      = true → s.rbit rPfStatus 0 = false → s.power.storeReady = true → s.twin.role ≠ .single → s.twin.role ≠
      .active → ∃ t, exec .storeRestore s = .next t ∧ t.rbit rPfStatus 0 = true ∧ t.power.retainBack = true ∧
      t.power.forcesBack = true ∧ t.harvest.closeFrom = s.tai) ∧
    (([iMTR, iSW, iBUS, iFLD, iTHY, iLOOP].all fun i => pastBoot s i) = false → exec .storeRestore s = .next s)

/-- 03 R110, R112 to R115, R117, R118. `jAccept` judges a frame; what an ANNOUNCE enrols and relayed frames are left
to the model. -/
def Obligations.JioshEvents : Prop :=
  ∀ (s : State) (port : Nat) (frame : List Byte),
    (∀ (src : JSource), jFormed frame = true → (crcIscsi (jCovered frame)).toNat = fld frame (24 + 16 * jCount
      frame) 4 → jNewer (tabGet s.fabric.jioshSeq (jKey (jKind frame) src)) (jSeq frame) = true → jAccept s src
      frame = ({ accepted := true, duplicate := false },
      { (s.chkUnit 7 (24 + 16 * jCount frame) (crcIscsi (jCovered frame)) true) with fabric := { (s.chkUnit 7 (24 + 16 * jCount frame) (crcIscsi (jCovered frame)) true).fabric with jioshSeq := tabSet (s.chkUnit 7 (24 + 16 * jCount frame) (crcIscsi (jCovered frame)) true).fabric.jioshSeq (jKey (jKind frame) src) (jSeq frame) } }))
      ∧
    (∀ (p : Instr × Nat), p ∈ ([(.jioshReport port frame, 0), (.jioshAnnounce port frame, 2), (.jioshAck port frame,
      4)] : List (Instr × Nat)) → fieldOpen s port = true → s.running iPF = true → jFormed frame = true →
      fieldAddressed frame = true → jKind frame = p.2 → (jSrc frame = 0x3FE ↔ p.2 = 2) → (crcIscsi (jCovered
      frame)).toNat ≠ fld frame (24 + 16 * jCount frame) 4 → exec p.1 s = .next (jDrop (s.chkUnit 7 (24 + 16 *
      jCount frame) (crcIscsi (jCovered frame)) false))) ∧
    (∀ (p : Instr × Nat), p ∈ ([(.jioshAnnounce port frame, 2), (.jioshAck port frame, 4)] : List (Instr × Nat)) →
      fieldOpen s port = true → s.running iPF = true → jFormed frame = true → fieldAddressed frame = true → jKind
      frame = p.2 → (jSrc frame = 0x3FE ↔ p.2 = 2) → (crcIscsi (jCovered frame)).toNat = fld frame (24 + 16 * jCount
      frame) 4 → jNewer (tabGet s.fabric.jioshSeq (jKey p.2 (.field port (jSrc frame)))) (jSeq frame) = false → exec
      p.1 s = .next ((s.chkUnit 7 (24 + 16 * jCount frame) (crcIscsi (jCovered frame)) true).stick rPfJioshDup
      rPfEvent 4)) ∧
    (∀ (v : JVerdict × State) (d : Device), fieldOpen s port = true → s.running iPF = true → s.twin.role ≠ .standby
      → jFormed frame = true → fieldAddressed frame = true → bitOf (jFlags frame) 0 = false → jKind frame = 0 → v =
      jAccept s (.field port (jSrc frame)) frame → v.1.accepted = true → jCount frame = 1 → deviceAt s port (fun x
      => x.address == jSrc frame) = some d → bitsOf (fld (jEntry frame 0) 0 4) 12 16 = 0 → bitsOf (fld (jEntry frame
      0) 0 4) 0 12 < d.count → fld (jEntry frame 0) 5 1 = 0 → Sound s (d.base + bitsOf (fld (jEntry frame 0) 0 4) 0
      12) → bitsOf (fld (jEntry frame 0) 0 4) 28 4 = (s.point (d.base + bitsOf (fld (jEntry frame 0) 0 4) 0
      12)).type → (fld (jEntry frame 0) 4 1 = qGood ∨ fld (jEntry frame 0) 4 1 = qSubstituted ∨ fld (jEntry frame 0)
      4 1 = qOutOfRange) → (s.point (d.base + bitsOf (fld (jEntry frame 0) 0 4) 0 12)).owner = d.tenant → ((s.point
      (d.base + bitsOf (fld (jEntry frame 0) 0 4) 0 12)).flag fLocked = false ∨ (s.point (d.base + bitsOf (fld
      (jEntry frame 0) 0 4) 0 12)).writer = deviceWriter port d.address) → forceIndex s (d.base + bitsOf (fld
      (jEntry frame 0) 0 4) 0 12) = none → forceOf s (d.base + bitsOf (fld (jEntry frame 0) 0 4) 0 12) = none → ∃ t,
      exec (.jioshReport port frame) s = .next t ∧ t.point (d.base + bitsOf (fld (jEntry frame 0) 0 4) 0 12) =
      PointRec.sealed
      { s.point (d.base + bitsOf (fld (jEntry frame 0) 0 4) 0 12) with value := typed (s.point (d.base + bitsOf (fld (jEntry frame 0) 0 4) 0 12)).type (BitVec.ofNat 64 (fld (jEntry frame 0) 8 8)), time := (if jBase frame = 0 then s.tai else (jBase frame + 1000 * fld (jEntry frame 0) 6 2) % 2 ^ 64), quality := fld (jEntry frame 0) 4 1, writer := deviceWriter port d.address }
      ∧ deviceAt t port (fun x => x.address == jSrc frame) = some
      { d with heard := s.now, stale := false, absent := false } ∧ Only [.freeCtr, .regs, .fabric, .harvest, .twin,
      .chk] s t ∧ (∀ x, x ≠ (d.base + bitsOf (fld (jEntry frame 0) 0 4) 0 12) → t.point x = s.point x)) ∧
    (∀ (v : JVerdict × State), fieldOpen s port = true → s.running iPF = true → s.twin.role ≠ .standby → jFormed
      frame = true → fieldAddressed frame = true → bitOf (jFlags frame) 0 = false → jKind frame = 0 → v = jAccept s
      (.field port (jSrc frame)) frame → v.1.accepted = true → deviceAt s port (fun x => x.address == jSrc frame) =
      none → exec (.jioshReport port frame) s = .next (jDrop (noteDirect v.2 port (jSrc frame) false))) ∧
    (∀ (v : JVerdict × State), fieldOpen s port = true → s.running iPF = true → s.twin.role ≠ .standby → jFormed
      frame = true → fieldAddressed frame = true → bitOf (jFlags frame) 0 = false → jKind frame = 4 → v = jAccept s
      (.field port (jSrc frame)) frame → v.1.accepted = true → exec (.jioshAck port frame) s = .next v.2) ∧
    (∀ (v : JVerdict × State) (d : Device), fieldOpen s port = true → s.running iPF = true → s.twin.role ≠ .standby
      → jFormed frame = true → fieldAddressed frame = true → bitOf (jFlags frame) 0 = false → jKind frame = 2 → jSrc
      frame = 0x3FE → v = jAccept s (.field port (jSrc frame)) frame → v.1.accepted = true → s.acts = false → jCount frame = 1 → bitsOf (fld (jEntry frame 0) 0 4) 28 4 = 4 → fld (jEntry frame 0) 8 8 ≠ 0 → jHops frame <
      0x200 → deviceAt s port (fun x => x.serial == fld (jEntry frame 0) 8 8) = some d → ∃ t, exec (.jioshAnnounce
      port frame) s = .next t ∧ deviceAt t port (fun x => x.serial == fld (jEntry frame 0) 8 8) = some
      { d with address := jHops frame + 1 } ∧ Only [.regs, .fabric, .switch, .twin, .chk] s t ∧ (∀ x, tabWf s.fabric.store = true →
      Sound s x → d.base ≤ x → x < d.base + d.count → holdsClaim s x (deviceWriter d.port d.address) = true → t.point x =
      PointRec.sealed { s.point x with writer := deviceWriter d.port (jHops frame + 1) })) ∧
    (∀ (v : JVerdict × State) (d : Device) (w : State), fieldOpen s port = true → s.running iPF = true → s.twin.role ≠ .standby
      → jFormed frame = true → fieldAddressed frame = true → bitOf (jFlags frame) 0 = false → jKind frame = 2 → jSrc
      frame = 0x3FE → v = jAccept s (.field port (jSrc frame)) frame → v.1.accepted = true → s.acts = true → jCount frame = 1 → bitsOf (fld (jEntry frame 0) 0 4) 28 4 = 4 → fld (jEntry frame 0) 8 8 ≠ 0 → jHops frame <
      0x200 → deviceAt s port (fun x => x.serial == fld (jEntry frame 0) 8 8) = some d → definedFrom s d.base
      d.count = [] → w = shipConfig (putDevice v.2 { d with address := jHops frame + 1 }) 0x0905 (deviceHead d.port 1 ++
      deviceEntry { d with address := jHops frame + 1 } 0) → exec (.jioshAnnounce port frame) s = .next (jSend
      w.draw.2 d.port 3 0x3FE (w.draw.1 % 2 ^ 64) [jMake (jHops frame + 1) 4 qGood 0 (BitVec.ofNat 64
      d.serial)])) ∧
    (∀ (v : JVerdict × State), fieldOpen s port = true → s.running iPF = true → s.twin.role ≠ .standby → jFormed
      frame = true → fieldAddressed frame = true → bitOf (jFlags frame) 0 = false → jKind frame = 2 → jSrc frame =
      0x3FE → v = jAccept s (.field port (jSrc frame)) frame → v.1.accepted = true → deviceAt s port (fun x =>
      x.serial == fld (jEntry frame 0) 8 8) = none → tabGet s.fabric.enrol port = none → exec (.jioshAnnounce port
      frame) s = .next (jDrop v.2)) ∧
    (∀ (sender i : Nat) (secured : Bool) (v : JVerdict × State) (x : ImportEntry), port < 2 → s.running iSW = true →
      (s.port port).link = .up → s.running iPF = true → s.switch.bypassClosed = false → ((secured = true ∧ securedWith s port sender = true) ∨ s.rbit
      rPfCtrl 1 = true) → jFormed frame = true → jKind frame = 6 → jAccept s (.ring sender) frame = v → v.1.accepted = true → jCount frame = 1 → bitsOf
      (fld (jEntry frame 0) 0 4) 25 3 = 0 → fld (jEntry frame 0) 5 1 = 0 → (s.fabric.imports.filter fun e =>
      e.2.sender == sender && e.2.remote == bitsOf (fld (jEntry frame 0) 0 4) 0 25) = [(i, x)] → Sound s x.localPt →
      (s.point x.localPt).owner = jTenant frame → bitsOf (fld (jEntry frame 0) 0 4) 28 4 = (s.point x.localPt).type
      → (fld (jEntry frame 0) 4 1 = qGood ∨ fld (jEntry frame 0) 4 1 = qSubstituted ∨ fld (jEntry frame 0) 4 1 =
      qOutOfRange) → ((s.point x.localPt).flag fLocked = false ∨ (s.point x.localPt).writer = 0x80000000 + i) →
      forceIndex s x.localPt = none → forceOf s x.localPt = none → ∃ t, exec (.jioshPeer port sender secured frame)
      s = .next t ∧ t.point x.localPt = PointRec.sealed
      { s.point x.localPt with value := typed (s.point x.localPt).type (BitVec.ofNat 64 (fld (jEntry frame 0) 8 8)), time := (if jBase frame = 0 then s.tai else (jBase frame + 1000 * fld (jEntry frame 0) 6 2) % 2 ^ 64), quality := fld (jEntry frame 0) 4 1, writer := 0x80000000 + i }
      ∧ Only [.freeCtr, .regs, .fabric, .harvest, .twin, .chk] s t ∧ (∀ y, y ≠ x.localPt → t.point y = s.point y)) ∧
    (∀ (sender : Nat) (secured : Bool), port < 2 → s.running iSW = true → (s.port port).link = .up → s.running iPF = true →
      s.switch.bypassClosed = false → s.rbit rPfCtrl 1 = false → (secured = false ∨ securedWith s port sender = false) → exec
      (.jioshPeer port sender secured frame) s = .next (jDrop s)) ∧
    (∀ (serial : Nat) (d : Device), s.running iPF = true → deviceAt s port (fun x => x.serial == serial) = some d →
      d.stale = false → d.absent = false → d.heard + 3 * d.refresh * nsMs ≤ s.now → ∃ t, exec (.deviceStale port
      serial) s = .next t ∧ deviceAt t port (fun x => x.serial == serial) = some { d with stale := true } ∧ t.rbit
      rPfEvent 5 = true ∧ Only [.regs, .fabric, .chk] s t ∧ (∀ x, tabWf s.fabric.store = true → d.base ≤ x → x <
      d.base + d.count → s.defined x = true → s.failedPt x = false → (s.point x).check = (s.point x).right → forceIndex s x = none → t.point x =
      PointRec.sealed { s.point x with quality := qStale })) ∧
    (∀ (serial : Nat) (d : Device), s.running iPF = true → deviceAt s port (fun x => x.serial == serial) = some d →
      d.absent = false → d.heard + 10 * d.refresh * nsMs ≤ s.now → ∃ t, exec (.deviceAbsent port serial) s = .next t
      ∧ deviceAt t port (fun x => x.serial == serial) = some { d with stale := true, absent := true } ∧ t.rbit
      rPfEvent 6 = true ∧ Only [.regs, .fabric, .chk] s t ∧ (∀ x, tabWf s.fabric.store = true → d.base ≤ x → x <
      d.base + d.count → s.defined x = true → s.failedPt x = false → (s.point x).check = (s.point x).right → forceIndex s x = none → t.point x =
      PointRec.sealed { s.point x with quality := qAbsent })) ∧
    (∀ (serial : Nat) (d : Device), deviceAt s port (fun x => x.serial == serial) = some d → s.now < d.heard + 3 *
      d.refresh * nsMs → exec (.deviceStale port serial) s = .next s) ∧
    (∀ (i : Nat) (x : ExportEntry), s.running iPF = true → s.shadow = false → s.fabric.exports = [(i, x)] → x.sentAt
      ≠ exportDue s x → (fabRead
      ({ s with fabric := { s.fabric with exports := [(i, { x with sentAt := exportDue s x })] } }) x.tenant
      x.pt).1.status = 0 → exec .exportSend s = .next (peerSend (fabRead
      ({ s with fabric := { s.fabric with exports := [(i, { x with sentAt := exportDue s x })] } }) x.tenant x.pt).2
      x.dest x.tenant [jMake x.pt (fabRead
      ({ s with fabric := { s.fabric with exports := [(i, { x with sentAt := exportDue s x })] } }) x.tenant
      x.pt).1.type (fabRead
      ({ s with fabric := { s.fabric with exports := [(i, { x with sentAt := exportDue s x })] } }) x.tenant
      x.pt).1.quality 0 (fabRead
      ({ s with fabric := { s.fabric with exports := [(i, { x with sentAt := exportDue s x })] } }) x.tenant
      x.pt).1.value])) ∧
    ((s.running iPF = false ∨ s.shadow = true) → exec .exportSend s = .next s)

/-- 06 R170, R188 to R190, R192, R194, Tables 6.15 and 6.19. Stated while no exchange and no unload is under way. -/
def Obligations.TaskCycleEffect : Prop :=
  ∀ (s : State) (k : Nat),
    (∀ (c : TaskCfg), k < 16 → s.running iTHY = true → thRun s = true → (s.task k).state = .waiting → (s.task
      k).stopping = false → (s.task k).nextRelease ≤ s.tai → cfgOf s k = some c → s.thyme.exchange = none → (s.isl
      iTHY).draining = false → s.shadow = false → (s.isl iPF).state = .run → (s.isl iPF).draining = false →
      (s.epochOf iTHY iPF = 0 ∨ s.epochOf iTHY iPF = (s.isl iPF).epoch) → ∃ t, exec (.taskRelease k) s = .next t ∧
      (t.task k).state = .gathering ∧ (t.task k).release = (s.task k).nextRelease ∧ (t.task k).nextRelease =
      nextInstant c (s.task k).nextRelease ∧ ((s.task k).renew = false → (t.task k).bits = (s.task k).bits ∧ (t.task k).words = (s.task k).words ∧
      (t.task k).first = (s.task k).first) ∧ (∀ (l : Loaded), (s.task k).renew = true → progOf s k = some l → (t.task k).first = true ∧ (t.task k).renew =
      false ∧ (t.task k).bits = ((s.task k).zeroed l.prog k).bits ∧ (t.task k).words = ((s.task k).zeroed l.prog k).words)
      ∧ ({ task := k, gather := true } : ImageOp) ∈ t.fabric.imageQueue ∧ Only [.regs, .islands, .fabric, .thyme] s
      t ∧ (∀ j, j ≠ k → t.task j = s.task j)) ∧
    (∀ (c : TaskCfg), k < 16 → s.running iTHY = true → thRun s = true → (s.task k).busy = true → (s.task k).stopping
      = false → (s.task k).nextRelease ≤ s.tai → cfgOf s k = some c → s.thyme.exchange = none → (s.isl
      iTHY).draining = false → ∃ t, exec (.taskRelease k) s = .next t ∧ (t.task k).skipped = true ∧ (t.task
      k).consecOvr = min 255 ((s.task k).consecOvr + 1) ∧ (t.task k).state = (s.task k).state ∧ (t.task
      k).nextRelease = (s.task k).nextRelease + c.period * 1000 ∧ t.rbit rThEvent 0 = true ∧ Only [.regs, .thyme] s
      t ∧ (∀ j, j ≠ k → t.task j = s.task j)) ∧
    ((s.tai < (s.task k).nextRelease ∨ thRun s = false) → exec (.taskRelease k) s = .next s) ∧
    (∀ (g : Tab Slot) (l : Loaded) (c : TaskCfg), k < 16 → s.running iTHY = true → (s.task k).state = .gathering →
      (s.task k).gathered = some g → progOf s k = some l → cfgOf s k = some c → (s.task k).gfail = 0 → ∃ t, exec
      (.gatherComplete k 0) s = .next t ∧ (t.task k).mach = { pc := c.entry } ∧ ((t.task k).state = .ready ∨ (t.task
      k).state = .running) ∧ (t.task k).bits = (g.foldl (fun y p => y.putSlot p.1 p.2) (s.task k)).bits ∧ (t.task
      k).words = (g.foldl (fun y p => y.putSlot p.1 p.2) (s.task k)).words ∧ Only [.regs, .islands, .thyme] s t) ∧
    (∀ (st : Nat), k < 16 → s.running iTHY = true → thRun s = true → (s.task k).state = .gathering → (s.task
      k).stopping = false → (st = 0x0301 ∨ st = 0x0302 ∨ st = 0x0303) → s.thyme.exchange = none → s.thyme.unloading
      = false → ∃ t, exec (.gatherComplete k st) s = .next t ∧ (t.task k).state = .waiting ∧ (t.task k).gathered =
      none ∧ (t.task k).offered = [] ∧ (t.task k).bits = (s.task k).bits ∧ (t.task k).words = (s.task k).words ∧
      t.rbit rThEvent 1 = true ∧ t.reg (rIslLastErr iTHY) = st + 4 * 65536 + 3 * 2 ^ 20 ∧ Only [.regs, .thyme,
      .fabric] s t ∧ (∀ j, j ≠ k → t.task j = s.task j)) ∧
    (∀ (c : TaskCfg), k < 16 → s.running iTHY = true → thRun s = true → (s.task k).state = .scattering → (s.task
      k).stopping = false → ((s.task k).offered.all (·.status.isSome)) = true → cfgOf s k = some c → c.ovrLimit = 0
      → s.tai < (s.task k).nextRelease → s.twin.role = .single → s.thyme.exchange = none → s.thyme.unloading = false
      → ∃ t, exec (.scatterComplete k 0) s = .next t ∧ (t.task k).state = .waiting ∧ (t.task k).offered = [] ∧
      (t.task k).first = false ∧ (t.task k).written = ((s.task k).offered.filter (·.status == some 0)).foldl (fun w
      o => tabSet w o.key o.value) (s.task k).written ∧ t.reg (rThTLast k) = min all32 ((s.now - (s.task
      k).releasedAt) / 1000) ∧ t.reg (rThTCycles k) = (s.reg (rThTCycles k) + 1) % 2 ^ 32 ∧ Only [.regs, .thyme] s t
      ∧ (∀ j, j ≠ k → t.task j = s.task j)) ∧
    (k < 16 → s.running iTHY = true → (s.task k).state = .scattering → ((s.task k).offered.all (·.status.isSome)) =
      false → exec (.scatterComplete k 0) s = .next s) ∧
    (∀ (by_ : Agent) (v : Word), k < 16 → Reaches s by_ rThCtrl v.toNat true → bitOf v.toNat 0 = thRun s → onStandby
      s = false → (s.isl iTHY).state = .run → exec (.thCtrlRunWrite by_ v) s = .next
      { State.setField (met s by_ rThCtrl) rThCtrl 1 1 (bitsOf v.toNat 1 1) with outs := { s.outs with readOut := 0, readStatus := 0 } })
      ∧
    (∀ (by_ : Agent) (v : Word), k < 16 → Reaches s by_ rThCtrl v.toNat true → bitOf v.toNat 0 = false → thRun s =
      true → onStandby s = false → (s.isl iTHY).state = .run → s.thyme.exchange = none → s.thyme.unloading = false →
      ∃ t, exec (.thCtrlRunWrite by_ v) s = .next t ∧ thRun t = false ∧ t.rbit rThCtrl 1 = bitOf v.toNat 1 ∧
      t.outs.readStatus = 0 ∧ (∀ j, (s.task j).state = .waiting → (t.task j).state = .stopped) ∧ (∀ j, (s.task
      j).busy = true → (t.task j).stopping = true))

/-- 08 R234 to R240, R242, R243, Tables 8.2 to 8.4: the clauses on application, sampling and evaluation take a state
with one loop. `evaluate` is the law. -/
def Obligations.LoopCycleEffect : Prop :=
  ∀ (s : State) (x : Loop),
    (∀ (g n o : Nat), g < 4 → s.running iLOOP = true → (s.group g).nextRelease ≤ s.tai → (s.group g).nextRelease < 2
      ^ 64 → s.rbit rLpCtrl g = true → (s.isl iLOOP).draining = false → (s.group g).phase = .idle → s.shadow = false
      → s.loops.loops = [(n, x)] → n < 1024 → x.cfg.group = g → x.enabled = true → x.pending = some 1 → x.written =
      none → x.cfg.outMode = 0 → x.newCfg = none → x.disableDue = false → x.pointDue = false → Sound s o → o =
      x.cfg.outPt → (s.point o).type = 0 → (s.point o).owner = x.cfg.tenant → ((s.point o).flag fLocked = false ∨
      (s.point o).writer = 0x20000000 + n) → forceIndex s o = none → forceOf s o = none → firstAssignable ≤ o →
      (s.isl iPF).state = .run → (s.isl iPF).draining = false → (s.epochOf iLOOP iPF = 0 ∨ s.epochOf iLOOP iPF =
      (s.isl iPF).epoch) → ∃ t, exec (.groupRelease g) s = .next t ∧ (t.group g).phase = .applied ∧ (t.group
      g).nextRelease = (s.group g).nextRelease + groupPeriod g ∧ (t.group g).release = (s.group g).nextRelease ∧
      t.point o = PointRec.sealed
      { s.point o with value := 1, time := (if (s.group g).nextRelease = 0 then s.tai else (s.group g).nextRelease), quality := qGood, writer := 0x20000000 + n }
      ∧ (t.loop n).map (·.applied) = some 1 ∧ (t.loop n).map (·.written) = some (some 1)) ∧
    (∀ (g : Nat), g < 4 → s.running iLOOP = true → (s.group g).nextRelease ≤ s.tai → (∀ h : Nat, h < g → (s.group h).nextRelease ≠ (s.group g).nextRelease) → s.rbit rLpCtrl g = false → exec
      (.groupRelease g) s = .next (s.setGroup g { s.group g with nextRelease := groupNext g s.tai })) ∧
    (∀ (g : Nat), g < 4 → s.running iLOOP = true → (s.group g).nextRelease ≤ s.tai → (∀ h : Nat, h < g → (s.group h).nextRelease ≠ (s.group g).nextRelease) → s.rbit rLpCtrl g = true →
      (s.isl iLOOP).draining = false → (s.group g).phase ≠ .idle → exec (.groupRelease g) s = .next (State.raise
      (State.lpCount (s.setGroup g { s.group g with nextRelease := (s.group g).nextRelease + groupPeriod g })
      (rLpGOvr g)) rLpEvent 0)) ∧
    (∀ (g : Nat), s.tai < (s.group g).nextRelease → exec (.groupRelease g) s = .next s) ∧
    (∀ (g h : Nat), g < 4 → h < g → s.running iLOOP = true → (s.isl iLOOP).draining = false → s.loops.loops = [] → (s.group h).nextRelease = (s.group g).nextRelease → (s.group g).nextRelease ≤ s.tai → s.rbit rLpCtrl g = true → s.rbit rLpCtrl h = true → (s.group g).phase = .idle → (s.group h).phase = .idle → ∃ t, exec (.groupRelease g) s = .next t ∧ (t.group g).phase = .applied ∧ (t.group h).phase = .applied ∧ (t.group h).release = (t.group g).release ∧ exec (.loopSample g) t = .next t) ∧
    (∀ (g n : Nat), s.running iLOOP = true → s.shadow = false → (s.group g).phase = .applied → servedBefore s g = false → s.loops.loops = [(n,
      x)] → x.cfg.group = g → x.enabled = true → x.joined = true → x.secondBit = none → x.cfg.spFromPt = false →
      x.cfg.useEnable = false → Sound s x.cfg.inPt → (s.point x.cfg.inPt).owner = x.cfg.tenant → forceOf s
      x.cfg.inPt = none → (s.isl iPF).state = .run → (s.isl iPF).draining = false → (s.epochOf iLOOP iPF = 0 ∨
      s.epochOf iLOOP iPF = (s.isl iPF).epoch) → ∃ t, exec (.loopSample g) s = .next t ∧ (t.group g).phase =
      .sampled ∧ t.loop n = some
      { x with x := { status := 0, quality := (s.point x.cfg.inPt).quality, value := BitVec.ofNat 32 (toF32 (s.point x.cfg.inPt).type (s.point x.cfg.inPt).value), raw := (s.point x.cfg.inPt).value, type := (s.point x.cfg.inPt).type }, spS := {}, en := {} }
      ∧ t.fabric.store = s.fabric.store ∧ Only [.freeCtr, .regs, .islands, .fabric, .loops, .chk] s t) ∧
    (∀ (g n : Nat), g < 4 → s.running iLOOP = true → s.shadow = false → (s.group g).phase = .sampled → s.loops.loops
      = [(n, x)] → x.cfg.group = g → x.enabled = true → x.joined = true → s.loops.traces = [] → s.twin.role =
      .single → ∃ t, exec (.loopEvaluate g) s = .next t ∧ (t.group g).phase = .idle ∧ t.loop n = some (evaluate
      x).loop ∧ Only [.regs, .loops] s t) ∧
    (∀ (p : Instr) (g : Nat), p ∈ ([.loopSample g, .loopEvaluate g] : List Instr) → s.shadow = false → (s.group
      g).phase = .idle → exec p s = .next s) ∧
    (x.permitted = false → (evaluate x).loop =
      { x with held := (if x.cfg.safe = x.state then min 65535 (x.held + 1) else 0), loss := !x.sound, inhibit := true, state := x.cfg.safe, pending := some (x.cfg.safe) })
      ∧
    (x.permitted = true → x.sound = false → (evaluate x).loop =
      { x with held := (if (if x.cfg.lossPeriods < min 255 (x.lost + 1) ∧ x.cfg.lossSafe = true then x.cfg.safe else x.state) = x.state then min 65535 (x.held + 1) else 0), loss := true, inhibit := false, lost := min 255 (x.lost + 1), lossTaken := (decide (x.cfg.lossPeriods < min 255 (x.lost + 1)) && x.cfg.lossSafe), state := (if x.cfg.lossPeriods < min 255 (x.lost + 1) ∧ x.cfg.lossSafe = true then x.cfg.safe else x.state), pending := some ((if x.cfg.lossPeriods < min 255 (x.lost + 1) ∧ x.cfg.lossSafe = true then x.cfg.safe else x.state)) })
      ∧
    (x.permitted = true → x.sound = true → x.cfg.kind = 1 → x.state ≤ 1 → (evaluate x).loop =
      { x with held := (if (if x.state = 0 then (if fle fmt32 x.cfg.bandA.toNat x.error.toNat = true ∧ x.cfg.dwell2 ≤ min 65535 (x.held + 1) then 1 else 0) else (if fle fmt32 x.error.toNat (fneg fmt32 x.cfg.bandB.toNat) = true ∧ x.cfg.dwell1 ≤ min 65535 (x.held + 1) then 0 else 1)) = x.state then min 65535 (x.held + 1) else 0), loss := false, inhibit := false, lost := 0, lossTaken := false, err := x.error, errValid := true, state := (if x.state = 0 then (if fle fmt32 x.cfg.bandA.toNat x.error.toNat = true ∧ x.cfg.dwell2 ≤ min 65535 (x.held + 1) then 1 else 0) else (if fle fmt32 x.error.toNat (fneg fmt32 x.cfg.bandB.toNat) = true ∧ x.cfg.dwell1 ≤ min 65535 (x.held + 1) then 0 else 1)), pending := some ((if x.state = 0 then (if fle fmt32 x.cfg.bandA.toNat x.error.toNat = true ∧ x.cfg.dwell2 ≤ min 65535 (x.held + 1) then 1 else 0) else (if fle fmt32 x.error.toNat (fneg fmt32 x.cfg.bandB.toNat) = true ∧ x.cfg.dwell1 ≤ min 65535 (x.held + 1) then 0 else 1))) })
      ∧
    (x.permitted = true → x.sound = true → x.cfg.kind = 2 → x.state ≤ 2 → (evaluate x).loop =
      { x with held := (if (if x.state = 0 then (if min 65535 (x.held + 1) < x.cfg.dwell2 then 0 else if fle fmt32 x.cfg.bandA.toNat x.error.toNat = true then 1 else if fle fmt32 x.error.toNat (fneg fmt32 x.cfg.bandA.toNat) = true then 2 else 0) else if x.state = 1 then (if x.cfg.dwell1 ≤ min 65535 (x.held + 1) ∧ flt fmt32 x.error.toNat x.cfg.bandB.toNat = true then 0 else 1) else (if x.cfg.dwell1 ≤ min 65535 (x.held + 1) ∧ flt fmt32 (fneg fmt32 x.cfg.bandB.toNat) x.error.toNat = true then 0 else 2)) = x.state then min 65535 (x.held + 1) else 0), loss := false, inhibit := false, lost := 0, lossTaken := false, err := x.error, errValid := true, state := (if x.state = 0 then (if min 65535 (x.held + 1) < x.cfg.dwell2 then 0 else if fle fmt32 x.cfg.bandA.toNat x.error.toNat = true then 1 else if fle fmt32 x.error.toNat (fneg fmt32 x.cfg.bandA.toNat) = true then 2 else 0) else if x.state = 1 then (if x.cfg.dwell1 ≤ min 65535 (x.held + 1) ∧ flt fmt32 x.error.toNat x.cfg.bandB.toNat = true then 0 else 1) else (if x.cfg.dwell1 ≤ min 65535 (x.held + 1) ∧ flt fmt32 (fneg fmt32 x.cfg.bandB.toNat) x.error.toNat = true then 0 else 2)), pending := some ((if x.state = 0 then (if min 65535 (x.held + 1) < x.cfg.dwell2 then 0 else if fle fmt32 x.cfg.bandA.toNat x.error.toNat = true then 1 else if fle fmt32 x.error.toNat (fneg fmt32 x.cfg.bandA.toNat) = true then 2 else 0) else if x.state = 1 then (if x.cfg.dwell1 ≤ min 65535 (x.held + 1) ∧ flt fmt32 x.error.toNat x.cfg.bandB.toNat = true then 0 else 1) else (if x.cfg.dwell1 ≤ min 65535 (x.held + 1) ∧ flt fmt32 (fneg fmt32 x.cfg.bandB.toNat) x.error.toNat = true then 0 else 2))) })
      ∧
    (∀ (n o : Nat), s.running iLOOP = true → s.loop n = some x → n < 1024 → x.secondBit = some (true, false) →
      x.bitRaise ≠ some true → (s.group x.cfg.group).release < 2 ^ 64 → Sound s o → o = x.cfg.outPt → (s.point
      o).type = 0 → (s.point o).owner = x.cfg.tenant → ((s.point o).flag fLocked = false ∨ (s.point o).writer =
      0x20000000 + n) → forceIndex s o = none → forceOf s o = none → firstAssignable ≤ o → (s.isl iPF).state = .run
      → (s.isl iPF).draining = false → (s.epochOf iLOOP iPF = 0 ∨ s.epochOf iLOOP iPF = (s.isl iPF).epoch) → ∃ t,
      exec (.loopSecondBitWrite n) s = .next t ∧ (t.loop n).map (·.secondBit) = some none ∧ (t.loop n).map
      (·.applied) = some 1 ∧ t.point o = PointRec.sealed
      { s.point o with value := 1, time := (if (s.group x.cfg.group).release = 0 then s.tai else (s.group x.cfg.group).release), quality := qGood, writer := 0x20000000 + n })
      ∧
    (∀ (n : Nat), (s.loop n).bind (·.secondBit) = none → exec (.loopSecondBitWrite n) s = .next s)

/-- 09 R260, R261; 10 R285, R287, R289, R291, R297 to R300, R302, R303, Tables 10.15, 10.16. The clauses on frames
take no circuit; the layout of the AFE frame is log 17. -/
def Obligations.MeteringEvents : Prop :=
  ∀ (s : State),
    (∀ (p : List Byte), s.running iMTR = true → s.meter.restored = true → s.meter.linkUp = false → (afeCheck p =
      false ∨ (s.meter.afePrev.any fun q => (q + 1) % 256 != fld p 0 1) = true) → exec (.afeFrame p) s = .next
      { s.stick rMeAfeBad rMeEvent 10 with meter := { s.meter with afePrev := some (fld p 0 1) } }) ∧
    (∀ (p : List Byte), s.running iMTR = true → s.meter.restored = true → s.meter.linkUp = true → (afeCheck p =
      false ∨ (s.meter.afePrev.any fun q => (q + 1) % 256 != fld p 0 1) = true) → s.meter.rejected < 7 →
      s.meter.circuits = [] → s.meter.warnDue = false → ∃ t, exec (.afeFrame p) s = .next t ∧ t.meter.linkUp = true ∧
      t.meter.afePrev = some (fld p 0 1) ∧ t.meter.afeSeq = s.meter.afeSeq ∧ t.meter.rejected = s.meter.rejected + 1 ∧
      t.meter.prev = s.meter.prev ∧ t.meter.lastGood = s.meter.lastGood ∧ t.reg rMeAfeBad = min all32 (s.reg rMeAfeBad
      + 1) ∧ Only [.freeCtr, .regs, .meter] s t) ∧
    (∀ (p : List Byte), s.running iMTR = true → s.meter.restored = true → s.meter.linkUp = true → (afeCheck p =
      false ∨ (s.meter.afePrev.any fun q => (q + 1) % 256 != fld p 0 1) = true) → s.meter.rejected = 7 →
      s.meter.circuits = [] → s.meter.warnDue = false → ∃ t, exec (.afeFrame p) s = .next t ∧ t.meter.linkUp = false ∧
      t.meter.linkLost = true ∧ t.rbit rMeEvent 2 = true ∧ Only [.regs, .meter, .power] s t) ∧
    (∀ (p : List Byte), s.running iMTR = true → s.meter.restored = true → afeCheck p = true → (s.meter.afePrev.any
      fun q => (q + 1) % 256 != fld p 0 1) = false → s.meter.circuits = [] → s.meter.warnDue = false → ∃ t, exec
      (.afeFrame p) s = .next t ∧ t.meter.linkUp = true ∧ t.meter.linkLost = false ∧ t.meter.afeSeq = some (fld p 0 1) ∧ t.meter.afeStatus =
      fld p 1 1 ∧ t.meter.rejected = 0 ∧ t.meter.lastFrame = s.now ∧ t.meter.prev = afeCodes p ∧ t.meter.lastSample =
      sampleInstant s ∧ t.meter.lastGood = sampleInstant s ∧ Only [.freeCtr, .regs, .meter] s t) ∧
    (s.running iMTR = true → s.meter.linkUp = true → s.meter.lastFrame + nsMs ≤ s.now → s.meter.circuits = [] → s.meter.warnDue = false → ∃ t,
      exec .afeLinkTimeout s = .next t ∧ t.meter.linkUp = false ∧ t.meter.linkLost = true ∧ t.meter.afeSeq = none ∧
      t.rbit rMeEvent 2 = true ∧ (t.power.staged.head?.map fun e => (e.level, e.code)) = some (1, iMTR * 4096 +
      0x102) ∧ Only [.regs, .meter, .power] s t) ∧
    ((s.meter.linkUp = false ∨ s.now < s.meter.lastFrame + nsMs) → exec .afeLinkTimeout s = .next s) ∧
    (s.running iMTR = true → s.power.totalsBack = true → s.meter.restored = true → s.meter.lastSave + max 1
      (s.rfield rMeSaveCtrl 0 8) * nsSec ≤ s.now → (s.isl iPF).state = .run → (s.isl iPF).draining = false →
      (s.epochOf iMTR iPF = 0 ∨ s.epochOf iMTR iPF = (s.isl iPF).epoch) → ∃ t, exec .totalsSave s = .next t ∧
            t.meter.totals =
      { head := some (mramPair (leBytes 4 0x544F544D ++ leBytes 2 1 ++ leBytes 1 1 ++ leBytes 1 (s.rfield rMeDmdCtrl 0 6) ++ leBytes 1 (s.rfield rMeSaveCtrl 0 8) ++ leBytes 3 0 ++ leBytes 8 s.tai ++ leBytes 8 0)), accs := s.meter.accs.map fun e => (e.1, mramPair (accRecord e.1 e.2)), spills := (List.range 8).map fun o => (o, mramPair (spillRecord o (s.spill o))), demands := s.meter.demands.map fun e => (e.1, mramPair (demandRecord e.1 e.2)), pulses := (List.range 8).map fun k => (k, mramPair (pulseRecord s k)) }
      ∧ t.meter.lastSave = s.now ∧ t.reg rMeSaveStatus = 5 ∧ t.meter.accs = s.meter.accs ∧ Only [.regs, .islands,
      .meter, .chk] s t) ∧
    (s.now < s.meter.lastSave + max 1 (s.rfield rMeSaveCtrl 0 8) * nsSec → exec .totalsSave s = .next s) ∧
    (∀ (a : Agent) (v : Word), Reaches s a rMeSaveCtrl (v.toNat ||| 0x100) true → s.running iMTR = true →
      s.power.totalsBack = true → s.meter.restored = true → (s.isl iPF).state = .run → (s.isl iPF).draining = false
      → (s.epochOf iMTR iPF = 0 ∨ s.epochOf iMTR iPF = (s.isl iPF).epoch) → ∃ t, exec (.saveNow a v) s = .next t ∧
      t.outs.readStatus = 0 ∧ t.meter.totals = totalsOf (s.setReg rMeSaveCtrl (v.toNat % 256)) 1
      ∧ t.reg rMeSaveCtrl = v.toNat % 256 ∧ t.reg rMeSaveStatus = 5 ∧ Only [.regs, .outs, .islands, .meter, .chk] s
      t) ∧
    (∀ (a : Agent) (v : Word), Reaches s a rMeAccCtrl (v.toNat ||| 0x10000) true → bitOf v.toNat 17 = false → bitOf
      v.toNat 18 = false → s.running iMTR = true → ∃ t, exec (.snap a v) s = .next t ∧ t.outs.readStatus = 0 ∧ t.reg
      rMeAccCtrl = v.toNat % 4096 ∧ t.reg rMeAccLo = (s.acc (v.toNat % 4096)).reported % 2 ^ 32 ∧ t.reg rMeAccHi =
      (s.acc (v.toNat % 4096)).reported / 2 ^ 32 ∧ (t.acc (v.toNat % 4096)) = (s.acc (v.toNat % 4096)) ∧ Only
      [.regs, .outs, .islands, .meter] s t) ∧
    (∀ (a : Agent) (v : Word), Reaches s a rMeAccCtrl (v.toNat ||| 0x20000) true → bitOf v.toNat 16 = false → bitOf
      v.toNat 18 = false → s.running iMTR = true → ∃ t, exec (.ackWrap a v) s = .next t ∧ t.outs.readStatus = 0 ∧
      (t.acc (v.toNat % 4096)) = { (s.acc (v.toNat % 4096)) with wrapPending := false } ∧ (∀ n, n ≠ v.toNat % 4096 →
      t.acc n = s.acc n) ∧ Only [.regs, .outs, .islands, .meter] s t) ∧
    (∀ (a : Agent) (v : Word), Reaches s a rMeAccCtrl (v.toNat ||| 0x40000) true → bitOf v.toNat 16 = false → bitOf
      v.toNat 17 = false → s.running iMTR = true → ∃ t, exec (.ackFail a v) s = .next t ∧ t.outs.readStatus = 0 ∧
      (t.acc (v.toNat % 4096)) = { (s.acc (v.toNat % 4096)) with failed := false } ∧ (∀ n, n ≠ v.toNat % 4096 →
      t.acc n = s.acc n) ∧ Only [.regs, .outs, .islands, .meter] s t) ∧
    (s.running iMTR = true → s.meter.demandNext ≤ s.tai → s.tai < s.meter.demandNext + demandLength s → (demandKeys
      s).Nodup → ∃ t, exec .demandBoundary s = .next t ∧ t.meter.demandStart = s.meter.demandNext ∧
      t.meter.demandNext = s.meter.demandNext + demandLength s ∧ t.meter.accs = s.meter.accs ∧ Only [.meter] s t ∧
      (∀ n, n ∈ demandKeys s → ∀ d : Demand, d = tabGetD s.meter.demands n {} → tabGetD t.meter.demands n {} =
      { impRest := (d.imp + d.impRest) % 256, expRest := (d.exp + d.expRest) % 256, history := (({ start := s.meter.demandStart, imp := (d.imp + d.impRest) / 256 % 2 ^ 32, exp := (d.exp + d.expRest) / 256 % 2 ^ 32 } : DemandDone) :: d.history).take 126 }))
      ∧
    (s.tai < s.meter.demandNext → exec .demandBoundary s = .next s) ∧
    (∀ (o : Nat), o < 8 → s.running iMTR = true → (s.spill o).bound = true → (s.spill o).backlog ≠ 0 → (s.spill o).driving = false → (s.acts = true ∨ s.shadow = true) → (s.spill o).start < spillGrid s (s.spill o) → s.tai ≤ spillGrid s (s.spill o) + 10 →
      exec (.spillPulseStart o) s = .next (s.setSpill o
      { s.spill o with backlog := (s.spill o).backlog - 1, driving := true, quiet := !s.acts, start := spillGrid s (s.spill o), pulseWidth := (s.spill o).width }))
      ∧
    (∀ (o : Nat), ((s.spill o).bound = false ∨ (s.spill o).backlog = 0 ∨ (s.spill o).driving = true ∨ (s.acts = false ∧ s.shadow = false) ∨ spillGrid s (s.spill o) + 10 < s.tai) → exec (.spillPulseStart o) s = .next s) ∧
    (∀ (o : Nat), o < 8 → (s.spill o).driving = true → (s.spill o).start + (s.spill o).pulseWidth * nsMs ≤ s.tai →
      exec (.spillPulseEnd o) s = .next (s.setSpill o { s.spill o with driving := false })) ∧
    (∀ (o : Nat), ((s.spill o).driving = false ∨ s.tai < (s.spill o).start + (s.spill o).pulseWidth * nsMs) → exec
      (.spillPulseEnd o) s = .next s) ∧
    (∀ (k : Nat) (level : Bool), k < 8 → s.running iMTR = true → (s.pulseIn k).level ≠ level → (s.pulseIn k).since +
      debounce s k ≤ s.now → s.rbit (rMePinCfg k) 0 = true → s.rbit (rMePinCfg k) 1 = level → s.reg (rMePinWt k) ≠ 0
      → (s.acc (0x800 + k)).reported + s.reg (rMePinWt k) < 2 ^ 64 → (∀ o, o < 8 → (s.spill o).bound = false) → ∃ t,
      exec (.pulseAccepted k level) s = .next t ∧ t.acc (0x800 + k) =
      { s.acc (0x800 + k) with master := ((s.acc (0x800 + k)).master + s.reg (rMePinWt k)) % 2 ^ 64, time := s.tai }
      ∧ t.pulseIn k = { level := level, since := s.now, changed := true } ∧ Only [.meter] s t ∧ (∀ n, n ≠ 0x800 + k
      → t.acc n = s.acc n)) ∧
    (∀ (k : Nat) (level : Bool), k < 8 → s.running iMTR = true → (s.pulseIn k).level ≠ level → (s.pulseIn k).since +
      debounce s k ≤ s.now → (s.rbit (rMePinCfg k) 0 = false ∨ s.rbit (rMePinCfg k) 1 ≠ level ∨ s.reg (rMePinWt k) =
      0) → exec (.pulseAccepted k level) s = .next
      { s with meter := { s.meter with pulses := tabSet s.meter.pulses k { level := level, since := s.now, changed := (s.pulseIn k).changed } } })
      ∧
    (∀ (k : Nat) (level : Bool), ((s.pulseIn k).level = level ∨ s.now < (s.pulseIn k).since + debounce s k) → exec
      (.pulseAccepted k level) s = .next s) ∧
    (∀ (k pt : Nat), s.running iMTR = true → s.twin.role = .single → (List.range 8).filter (fun j => (s.pulseIn
      j).changed) = [k] → pt = 0x0011800 + k → s.tai < 2 ^ 64 → nsSec ≤ s.tai → Sound s pt → (s.point pt).owner =
      house → (s.point pt).type = 4 → ((s.point pt).flag fLocked = false ∨ (s.point pt).writer = 0x30000003) →
      forceIndex s pt = none → forceOf s pt = none → (s.isl iPF).state = .run → (s.isl iPF).draining = false →
      (s.epochOf iMTR iPF = 0 ∨ s.epochOf iMTR iPF = (s.isl iPF).epoch) → ∃ t, exec .pulsePointWrite s = .next t ∧
      t.point pt = PointRec.sealed
      { s.point pt with value := BitVec.ofNat 64 (s.acc (0x800 + k)).reported, time := s.tai / nsSec * nsSec, quality := (if (s.acc (0x800 + k)).failed = true then qOutOfRange else qGood), writer := 0x30000003 }
      ∧ (t.pulseIn k).changed = false ∧ t.meter.accs = s.meter.accs ∧ Only [.freeCtr, .regs, .islands, .fabric,
      .harvest, .meter, .twin, .chk] s t ∧ (∀ x, x ≠ pt → t.point x = s.point x)) ∧
    (∀ (n : Nat) (h b : List Byte), s.running iMTR = true → s.meter.restored = false → s.meter.totals =
      { head := some (mramPair h), accs := [(n, mramPair b)] } → h.length = 28 → b.length = 12 → s.acc n = {} → ∃ t,
      exec .totalsRestore s = .next t ∧ t.acc n =
      { master := fld b 0 8, wraps := fld b 8 1, wrapPending := bitOf (fld b 9 1) 0, absolute := bitOf (fld b 9 1) 1, failed := bitOf (fld b 9 1) 2 }
      ∧ t.meter.restored = true ∧ t.power.totalsBack = true ∧ t.meter.lastSave = s.now ∧ t.rbit rMeEvent 7 = (s.rbit
      rMeEvent 7 || fld h 6 1 == 1)) ∧
    (∀ (n : Nat) (h : MramPair) (c0 c1 : List Byte), s.running iMTR = true → s.meter.restored = false →
      s.meter.totals = { head := some h, accs := [(n, { copy0 := c0, copy1 := c1 })] } → mramOk c0 = false → mramOk c1 =
      false → ∃ t, exec .totalsRestore s = .next t ∧ (t.acc n).failed = true ∧ (t.acc n).master = (s.acc n).master ∧
      t.meter.restoreFail = true ∧ t.rbit rMeEvent 5 = true ∧ t.meter.restored = true) ∧
    (s.running iMTR = true → s.meter.restored = false → s.meter.totals.head = none → ∃ t, exec .totalsRestore s =
      .next t ∧ t.meter.accs = s.meter.accs ∧ t.meter.restored = true ∧ t.power.totalsBack = true ∧ Only [.meter,
      .power] s t)

/-- 11 R315 to R324, R327 to R329, Tables 11.1, 11.2 and 11.5. -/
def Obligations.HarvestEvents : Prop :=
  ∀ (s : State),
    (∀ (q : HvSample) (rest : List HvSample) (x : HvSeries), s.running iPF = true → s.rbit rHvCtrl 0 = true → hvFull
      s = false → s.harvest.queue = q :: rest → tabGet s.harvest.series q.series = some x → Sound s q.pt → bitOf
      (rightsOf s (s.point q.pt) x.tenant) 3 = true → (q.quality = qGood ∨ q.quality = qSubstituted) → fisFin fmt64
      (toF64 q.type q.value) = true → ∃ t, exec .harvestSample s = .next t ∧ tabGet t.harvest.series q.series = some
      (recordSample x (toF64 q.type q.value) q.time).1 ∧ t.harvest.queue = rest ∧ t.fabric.store = s.fabric.store ∧
      Only [.freeCtr, .regs, .fabric, .harvest, .chk] s t) ∧
    (∀ (x : HvSeries) (v tm : Nat), (recordSample x v tm).1.current.count = (stickNat x.current.count 1).1 ∧
      (recordSample x v tm).1.current.sum = BitVec.ofNat 64 (fadd fmt64 x.current.sum.toNat v) ∧ (recordSample x v
      tm).1.current.bins = x.current.bins.set (binOf x v) (stickNat (x.current.bins.getD (binOf x v) 0) 1).1 ∧
      (recordSample x v tm).1.current.min = (if flt fmt64 v x.current.min.toNat = true then BitVec.ofNat 64 v else
      x.current.min) ∧ (recordSample x v tm).1.current.minTime = (if flt fmt64 v x.current.min.toNat = true then tm
      else x.current.minTime) ∧ (recordSample x v tm).1.current.max = (if flt fmt64 x.current.max.toNat v = true
      then BitVec.ofNat 64 v else x.current.max) ∧ (recordSample x v tm).1.current.maxTime = (if flt fmt64
      x.current.max.toNat v = true then tm else x.current.maxTime) ∧ (recordSample x v tm).1.seq = (x.seq + 2) % 2 ^
      32 ∧ (recordSample x v tm).1.closed = x.closed) ∧
    (∀ (q : HvSample) (rest : List HvSample) (x : HvSeries), s.running iPF = true → s.rbit rHvCtrl 0 = true → hvFull
      s = false → s.harvest.queue = q :: rest → tabGet s.harvest.series q.series = some x → Sound s q.pt → bitOf
      (rightsOf s (s.point q.pt) x.tenant) 3 = true → ((q.quality ≠ qGood ∧ q.quality ≠ qSubstituted) ∨ fisFin fmt64
      (toF64 q.type q.value) = false) → ∃ t, exec .harvestSample s = .next t ∧ t.reg rHvRejected = min all32 (s.reg
      rHvRejected + 1) ∧ t.harvest.series = s.harvest.series ∧ t.harvest.queue = rest) ∧
    (s.running iPF = true → s.rbit rHvCtrl 0 = false → s.harvest.queue ≠ [] → exec .harvestSample s = .next
      { s with harvest := { s.harvest with queue := s.harvest.queue.drop 1 } }) ∧
    (∀ (k c : Nat) (x : HvSeries), s.running iPF = true → s.shadow = false → s.twin.role = .single → closeDue s =
      some c → closeNeed s ≤ regionBytes - hvUsed s → s.harvest.series.any (fun e => decide (65535 ≤
      e.2.closed.length)) = false → tabGet s.harvest.series k = some x → ∃ t, exec .harvestClose s = .next t ∧
      tabGet t.harvest.series k = some
      { x with closed := x.closed ++ [{ x.current with stop := c, seq := x.seq }], current := { bins := List.replicate x.bins 0, start := c }, seq := (x.seq + 2) % 2 ^ 32 }
      ∧ t.reg rHvCloseLo = c % 2 ^ 32 ∧ t.reg rHvCloseHi = c / 2 ^ 32 ∧ t.harvest.lastClose = c ∧ t.rbit rHvEvent 1
      = true ∧ Only [.regs, .harvest] s t) ∧
    (∀ (m : Nat), m = min (s.rfield rHvCtrl 8 11) 1440 → m ≠ 0 → s.rbit rHvCtrl 0 = true → hvFull s = false → max
      s.harvest.lastClose s.harvest.closeFrom < s.tai / (m * 60 * nsSec) * (m * 60 * nsSec) → closeDue s = some
      (s.tai / (m * 60 * nsSec) * (m * 60 * nsSec))) ∧
    (∀ (c : Nat), s.running iPF = true → s.shadow = false → closeDue s = some c → regionBytes - hvUsed s < closeNeed
      s → ∃ t, exec .harvestClose s = .next t ∧ t.rbit rHvStatus 0 = true ∧ t.rbit rHvEvent 0 = true ∧ t.harvest =
      s.harvest) ∧
    ((s.shadow = true ∨ closeDue s = none) → exec .harvestClose s = .next s) ∧
    (∀ (a : Agent) (w : Nat) (v : Word), w < 2 → Reaches s a (rHvWSel w) v.toNat true → ∃ t, exec (.hvWselWrite a w
      v) s = .next t ∧ t.outs.readStatus = 0 ∧ t.reg (rHvWSel w) = v.toNat ∧ t.reg (rHvWCur w) = 0 ∧ Only [.regs,
      .outs, .islands] s t) ∧
    (∀ (a : Agent) (w c n : Nat) (x : HvSeries) (y : HvRecord), w < 2 → Reaches s a (rHvWData w) 0 false → c =
      s.rfield (rHvWCur w) 0 7 → windowRecord s w = some (x, y, n) → c ≤ 17 + x.bins → s.reg (rHvWCur w) < 128 → ∃
      t, exec (.hvWdataRead a w) s = .next t ∧ t.outs.readStatus = 0 ∧ t.outs.readOut = windowWord s w c ∧ t.reg
      (rHvWCur w) = c + 1 ∧ Only [.regs, .outs, .islands] s t) ∧
    (∀ (a : Agent) (w c n : Nat) (x : HvSeries) (y : HvRecord), w < 2 → Reaches s a (rHvWData w) 0 false → c =
      s.rfield (rHvWCur w) 0 7 → windowRecord s w = some (x, y, n) → 17 + x.bins < c → ∃ t, exec (.hvWdataRead a w)
      s = .next t ∧ t.outs.readStatus = 0 ∧ t.outs.readOut = 0 ∧ Only [.outs, .islands] s t) ∧
    (∀ (a : Agent) (v : Word) (k : Nat) (x : HvSeries), Reaches s a rHvCtrl v.toNat true → bitOf v.toNat 31 = true →
      tabGet s.harvest.series k = some x → s.twin.role = .single → ∃ t, exec (.dropHistory a v) s = .next t ∧
      t.outs.readStatus = 0 ∧ (tabGet t.harvest.series k).map (·.closed) = some [] ∧ (tabGet t.harvest.series k).map
      (·.current) = some x.current)

/-- 12 R338 to R359, Tables 12.4, 12.7, 12.10; 01 R33, R34. Bridging is stated for one port of egress. -/
def Obligations.SwitchEvents : Prop :=
  ∀ (s : State) (p : Nat),
    (∀ (f : RxFrame) (i : Nat), p < 20 → ringBypassed s p = false → (s.isl iSW).state = .run → ((s.port p).link = .up ∨ (s.port p).link =
      .sleeping) → f.codeErr = false → ((f.fcsOk = false ∧ i = 8) ∨ (f.fcsOk = true ∧ f.bytes.length + 4 < 64 ∧ i =
      9) ∨ (f.fcsOk = true ∧ 64 ≤ f.bytes.length + 4 ∧ (s.port p).cfg.maxFrame < f.bytes.length + 4 ∧ i = 10)) →
      exec (.frameReceive p f) s = .next (s.portCount p i)) ∧
    (∀ (f : RxFrame) (k : Nat), p < 20 → 3 ≤ p → (s.isl iSW).state = .run → (s.port p).link = .up → (s.port
      p).macsec = none → f.codeErr = false → f.fcsOk = true → 64 ≤ f.bytes.length + 4 → f.bytes.length + 4 ≤ (s.port
      p).cfg.maxFrame → fType f.bytes ≠ etMacCtrl → (s.port p).cfg.on 5 = false → innerType f.bytes ≠ s.rfield
      rPfJiosh 0 16 → isUnicast (fDst f.bytes) = true → isOwn s (fDst f.bytes) = false → bridgePorts s p f.bytes =
      [k] → (s.port k).link = .up → hasRoom s k (frameClass s p f.bytes) f.bytes.length = true → ∃ t, exec
      (.frameReceive p f) s = .next t ∧ (t.port k).queue = (s.port k).queue ++
      [{ cls := frameClass s p f.bytes, bytes := f.bytes }] ∧ t.switch.uc = (learn s p (fSrc f.bytes)).switch.uc ∧
      Only [.regs, .switch] s t ∧ (∀ j, j ≠ k → t.port j = s.port j)) ∧
    (∀ (b : List Byte) (k i : Nat) (e : UcEntry), bridged s p = true → bridged s k = true → k ≠ p → fDst b ≠
      macBroadcast → isUnicast (fDst b) = true → isOwn s (fDst b) = false → ucIndex s (fDst b) = some i → tabGet
      s.switch.uc i = some e → e.ports = 2 ^ k → bridgePorts s p b = [k]) ∧
    (∀ (mac i : Nat), bridged s p = true → (s.port p).cfg.on 3 = true → isUnicast mac = true → isOwn s mac = false →
      ucIndex s mac = none → ucFree s (ucBucket mac) = some i → learn s p mac =
      { s with switch := { s.switch with uc := tabSet s.switch.uc i { mac := mac, ports := 2 ^ p, static := false, taught := s.now } } })
      ∧
    (∀ (f : RxFrame), p < 20 → 3 ≤ p → (s.isl iSW).state = .run → (s.port p).link = .up → (s.port p).macsec = none →
      f.codeErr = false → f.fcsOk = true → 64 ≤ f.bytes.length + 4 → f.bytes.length + 4 ≤ (s.port p).cfg.maxFrame →
      fType f.bytes ≠ etMacCtrl → (s.port p).cfg.on 5 = false → innerType f.bytes ≠ s.rfield rPfJiosh 0 16 →
      isUnicast (fDst f.bytes) = true → isOwn s (fDst f.bytes) = false → bridgePorts s p f.bytes = [] → ∃ t, exec
      (.frameReceive p f) s = .next t ∧ t.reg (rMacCnt p 16) = min all32 (s.reg (rMacCnt p 16) + 1) ∧ t.switch.ports
      = s.switch.ports ∧ Only [.regs, .switch] s t) ∧
    (∀ (f : RxFrame), p < 2 → s.switch.bypassClosed = true → exec (.frameReceive p f) s = .next (s.sendFrame (1 - p) f.bytes)) ∧
    (∀ (f : RxFrame) (a c : Nat), p < 2 → s.switch.bypassClosed = false → (s.isl iSW).state = .run → (s.port p).link = .up →
      (s.port (1 - p)).link = .up → (s.port p).macsec = none → f.codeErr = false → f.fcsOk = true → 64 ≤ f.bytes.length + 4 →
      f.bytes.length + 4 ≤ (s.port p).cfg.maxFrame → s.rbit rSwCtrl 1 = true → tagFormed f.bytes = true → a = fSrc f.bytes →
      isUnicast (fDst f.bytes) = true → isOwn s (fDst f.bytes) = false → a ≠ macBase s → c = beNat (sub f.bytes 16 2) →
      seenBy s p a c = false → hasRoom s (1 - p) (frameClass s p (untagged f.bytes)) f.bytes.length = true → ∃ t, exec
      (.frameReceive p f) s = .next t ∧ (t.port (1 - p)).queue = (s.port (1 - p)).queue ++
      [{ cls := frameClass s p (untagged f.bytes), bytes := f.bytes }] ∧ seenBy t p a c = true ∧ Only [.regs, .switch] s t) ∧
    (∀ (q : QFrame), p < 20 → p ≠ 2 → ringBypassed s p = false → s.running iSW = true → (s.port p).link = .up → (s.port p).pauseUntil ≤ s.now →
      (s.port p).queue = [q] → q.cls < 8 → q.stamp = .none → (s.port p).macsec = none → (s.port p).cfg.on 7 = false
      → (s.port p).pendingList = none → ∃ t, exec (.frameTransmit p) s = .next t ∧ (t.port p).queue = [] ∧
      t.outs.frames = (p, q.bytes) :: s.outs.frames ∧ t.reg (rMacCnt p 6) = min all32 (s.reg (rMacCnt p 6) + 1) ∧
      Only [.regs, .outs, .switch] s t ∧ (∀ j, j ≠ p → t.port j = s.port j)) ∧
    ((s.running iSW = false ∨ (s.port p).link ≠ .up ∨ s.now < (s.port p).pauseUntil ∨ ringBypassed s p = true) → exec (.frameTransmit p) s =
      .next s) ∧
    (∀ (mac i : Nat) (e : UcEntry), s.running iSW = true → ucIndex s mac = some i → tabGet s.switch.uc i = some e →
      e.static = false → e.taught + max 10 (min 1000000 (s.rfield rSwAge 0 20)) * nsSec ≤ s.now → exec
      (.addressAgeOut mac) s = .next { s with switch := { s.switch with uc := tabDel s.switch.uc i } }) ∧
    (∀ (mac : Nat), (ucIndex s mac = none ∨ ((ucIndex s mac).bind (tabGet s.switch.uc)).any (·.static) = true) →
      exec (.addressAgeOut mac) s = .next s) ∧
    (∀ (a : Agent) (v : Word) (i : Nat) (e : UcEntry), Reaches s a rSwUcCmd v.toNat true → v.toNat % 4 = 0 → ucIndex
      s (s.reg rSwUcMacLo + s.reg rSwUcMacHi % 65536 * 2 ^ 32) = some i → tabGet s.switch.uc i = some e → ∃ t, exec
      (.ucLookup a v) s = .next t ∧ t.outs.readStatus = 0 ∧ t.switch.ucFound = true ∧ t.reg rSwUcMacLo = e.mac % 2 ^
      32 ∧ t.reg rSwUcMacHi = e.mac / 2 ^ 32 ∧ t.reg rSwUcData = e.data ∧ t.switch.uc = s.switch.uc ∧ Only [.regs,
      .outs, .islands, .switch] s t) ∧
    (∀ (a : Agent) (v : Word), Reaches s a rSwUcCmd v.toNat true → v.toNat % 4 = 0 → ucIndex s (s.reg rSwUcMacLo +
      s.reg rSwUcMacHi % 65536 * 2 ^ 32) = none → ∃ t, exec (.ucLookup a v) s = .next t ∧ t.outs.readStatus = 0 ∧
      t.switch.ucFound = false ∧ t.switch.uc = s.switch.uc ∧ Only [.regs, .outs, .islands, .switch] s t) ∧
    (∀ (a : Agent) (v : Word) (i : Nat), Reaches s a rSwUcCmd v.toNat true → v.toNat % 4 = 1 → (ucIndex s (s.reg
      rSwUcMacLo + s.reg rSwUcMacHi % 65536 * 2 ^ 32) = some i ∨ (ucIndex s (s.reg rSwUcMacLo + s.reg rSwUcMacHi %
      65536 * 2 ^ 32) = none ∧ ucFree s (ucBucket (s.reg rSwUcMacLo + s.reg rSwUcMacHi % 65536 * 2 ^ 32)) = some i))
      → ∃ t, exec (.ucWrite a v) s = .next t ∧ t.outs.readStatus = 0 ∧ t.switch.uc = tabSet s.switch.uc i
      { mac := (s.reg rSwUcMacLo + s.reg rSwUcMacHi % 65536 * 2 ^ 32), ports := s.reg rSwUcData % 2 ^ 20, static := bitOf (s.reg rSwUcData) 30, taught := s.now }
      ∧ t.switch.ucFull = false ∧ Only [.regs, .outs, .islands, .switch] s t) ∧
    (∀ (a : Agent) (v : Word) (i : Nat) (e : UcEntry), Reaches s a rSwUcCmd v.toNat true → v.toNat % 4 = 2 → ucIndex
      s (s.reg rSwUcMacLo + s.reg rSwUcMacHi % 65536 * 2 ^ 32) = some i → tabGet s.switch.uc i = some e → ∃ t, exec
      (.ucDelete a v) s = .next t ∧ t.outs.readStatus = 0 ∧ t.switch.uc = tabDel s.switch.uc i ∧ t.switch.ucFound =
      true ∧ t.reg rSwUcData = e.data ∧ Only [.regs, .outs, .islands, .switch] s t) ∧
    (∀ (a : Agent) (v : Word) (e : UcEntry), Reaches s a rSwUcCmd v.toNat true → v.toNat % 4 = 3 → tabGet
      s.switch.uc (bitsOf v.toNat 2 14) = some e → ∃ t, exec (.ucRead a v) s = .next t ∧ t.outs.readStatus = 0 ∧
      t.switch.ucFound = true ∧ t.reg rSwUcMacLo = e.mac % 2 ^ 32 ∧ t.reg rSwUcMacHi = e.mac / 2 ^ 32 ∧ t.reg
      rSwUcData = e.data ∧ t.switch.uc = s.switch.uc ∧ Only [.regs, .outs, .islands, .switch] s t) ∧
    (∀ (a : Agent) (v : Word), Reaches s a rSwCtrl v.toNat true → bitOf v.toNat 2 = true → ∃ t, exec (.flushDyn a v)
      s = .next t ∧ t.outs.readStatus = 0 ∧ t.switch.uc = tabFilter (fun _ e => e.static) s.switch.uc ∧ t.reg
      rSwCtrl = v.toNat &&& 3 ∧ Only [.regs, .outs, .islands, .switch] s t) ∧
    (∀ (g : GateList) (c : Nat), (s.port p).pendingList = some (g, c) → c ≤ s.tai → exec (.gateListChange p) s =
      .next (State.raise (s.setPort p
      { s.port p with running := some g, runBase := c, pendingList := none, gateIndex := 0 }) (rMacEvent p) 3)) ∧
    (((s.port p).pendingList = none ∨ (s.port p).pendingList.any (fun x => decide (s.tai < x.2)) = true) → exec
      (.gateListChange p) s = .next s) ∧
    (∀ (g : GateList), (s.port p).cfg.on 7 = true → (s.port p).running = some g → exec (.gateEntryChange p) s =
      .next (s.setPort p
      { s.port p with gateIndex := (gateFrom ((s.tai + g.cycle - (s.port p).runBase % g.cycle) % g.cycle) 0 g.full).2 })) ∧
    (((s.port p).cfg.on 7 = false ∨ (s.port p).running = none) → exec (.gateEntryChange p) s = .next s) ∧
    ((s.port p).pauseUntil ≤ s.now → exec (.pauseEnd p) s = .next (s.setPort p { s.port p with pauseUntil := 0 })) ∧
    (s.now < (s.port p).pauseUntil → exec (.pauseEnd p) s = .next s) ∧
    (s.running iSW = true → s.rbit rSwCtrl 1 = true → s.switch.supervision ≤ s.now → ∃ t, exec .hsrSupervision s =
      .next t ∧ t.switch.supervision = s.now + max 100 (min 60000 (s.rfield rSwHsrCtrl 16 16)) * nsMs ∧
      t.switch.hsrSeq = (s.switch.hsrSeq + 1) % 65536 ∧ Only [.regs, .switch] s t ∧ (∀ j, j ≠ 0 → j ≠ 1 → t.port j =
      s.port j)) ∧
    ((s.running iSW = false ∨ s.rbit rSwCtrl 1 = false ∨ s.now < s.switch.supervision) → exec .hsrSupervision s =
      .next s) ∧
    (∀ (d : HsrDup), s.running iSW = true → s.switch.dups = [d] → d.matched = false → d.port < 20 → d.seen +
      hsrForget s ≤ s.now → ∃ t, exec .hsrDuplicateExpiry s = .next t ∧ t.switch.dups = [] ∧ (t.port
      d.port).missingAt = some s.now ∧ t.rbit rSwEvent 2 = true ∧ t.reg (rMacCnt d.port 21) = min all32 (s.reg
      (rMacCnt d.port 21) + 1) ∧ Only [.regs, .switch] s t) ∧
    (s.switch.dups = [] → exec .hsrDuplicateExpiry s = .next s) ∧
    (∀ (mac h : Nat), s.running iSW = true → tabGet s.switch.nodes mac = some h → h + 60 * nsSec ≤ s.now → exec
      (.hsrNodeForget mac) s = .next { s with switch := { s.switch with nodes := tabDel s.switch.nodes mac } }) ∧
    (∀ (mac : Nat), tabGet s.switch.nodes mac = none → exec (.hsrNodeForget mac) s = .next s) ∧
    (p < 20 → s.running iSW = true → (s.port p).link = .down → (s.port p).cfg.on 6 = false → (p < 4 ∨ (s.power.shed
      = false ∧ s.running iFLD = true)) → ∃ t, exec (.linkUp p) s = .next t ∧ (t.port p).link = .up ∧ (t.port
      p).since = s.now ∧ (t.port p).queue = (s.port p).queue ∧ Only [.freeCtr, .regs, .islands, .switch] s t ∧ (∀ j,
      j ≠ p → t.port j = s.port j)) ∧
    (p < 20 → s.running iSW = true → ((s.port p).link = .up ∨ (s.port p).link = .sleeping) → ∃ t, exec (.linkDown p)
      s = .next t ∧ (t.port p).link = .down ∧ (t.port p).since = s.now ∧ (t.port p).queue = [] ∧ (t.port
      p).pauseUntil = 0 ∧ Only [.regs, .switch] s t ∧ (∀ j, j ≠ p → t.port j = s.port j)) ∧
    (∀ (q : Nat → Instr), q ∈ ([.linkUp, .linkDown] : List (Nat → Instr)) → (s.port p).link = .disabled → exec (q p)
      s = .next s) ∧
    ((s.power.resetPin = true ∨ s.running iSW = false ∨ s.power.started = false) → exec .bypassClose s = .next
      { s with switch := { s.switch with bypassClosed := true } }) ∧
    (s.power.resetPin = false → s.running iSW = true → s.power.started = true → exec .bypassClose s = .next s) ∧
    (s.running iSW = true → s.power.resetPin = false → (s.port 0).link = .up → (s.port 1).link = .up → exec
      .bypassOpen s = .next { s with switch := { s.switch with bypassClosed := false } }) ∧
    ((s.running iSW = false ∨ s.power.resetPin = true ∨ (s.port 0).link ≠ .up ∨ (s.port 1).link ≠ .up) → exec
      .bypassOpen s = .next s)

/-- 13 R363, R366 to R369, R372 to R380, Tables 13.1 to 13.4, 13.12. The servo's rate is a free function of Config
(log 18); the clauses on Sync take the host port. -/
def Obligations.TimeEvents : Prop :=
  ∀ (s : State) (m : PtpMsg),
    (∀ (p : Instr), p ∈ ([.sync m, .followUp m, .pdelayReq m, .pdelayResp m, .pdelayRespFollowUp m, .announce m,
      .signaling m] : List Instr) → ptpOn s m.port = true → m.domain ≠ s.rfield rTuPtp 0 8 → exec p s = .next
      (s.tuCount (rTuPBad m.port))) ∧
    (∀ (p : Instr), p ∈ ([.sync m, .followUp m, .pdelayReq m, .pdelayResp m, .pdelayRespFollowUp m, .announce m,
      .signaling m] : List Instr) → ptpOn s m.port = false → exec p s = .next s) ∧
    (∀ (f : Foreign) (off : Int), m.port = 3 → ptpOn s m.port = true → m.domain = s.rfield rTuPtp 0 8 →
      s.clock.master = some f → f.port = 3 → f.source / 65536 = m.sourceId / 65536 → s.clock.slavePort = some 3 →
      m.twoStep = false → s.clock.firstDone = true → off = (m.ingress - ingressLatency s 3) - (m.origin +
      m.correction + linkDelay s 3 + linkAsymmetry s 3) → off.natAbs ≤ stepThreshold s → ∃ t, exec (.sync m) s =
      .next t ∧ t.clock.okSyncs = (if off.natAbs ≤ 100 then s.clock.okSyncs + 1 else 0) ∧ t.clock.time16 =
      s.clock.time16 ∧ t.clock.acceptedAt = some s.now ∧ t.clock.state = (if s.clock.state = .locked ∨ 8 ≤ (if
      off.natAbs ≤ 100 then s.clock.okSyncs + 1 else 0) then TimeState.locked else TimeState.acquiring) ∧ t.reg
      rTuOffset = uNat 32 (sat32 off) ∧ Only [.regs, .clock] s t) ∧
    (∀ (f : Foreign) (off : Int), m.port = 3 → ptpOn s m.port = true → m.domain = s.rfield rTuPtp 0 8 →
      s.clock.master = some f → f.port = 3 → f.source / 65536 = m.sourceId / 65536 → s.clock.slavePort = some 3 →
      m.twoStep = false → off = (m.ingress - ingressLatency s 3) - (m.origin + m.correction + linkDelay s 3 +
      linkAsymmetry s 3) → (s.clock.firstDone = false ∨ stepThreshold s < off.natAbs) → ∃ t, exec (.sync m) s =
      .next t ∧ t.clock.time16 = ((s.clock.time16 : Int) + -off * 65536).toNat ∧ t.clock.firstDone = true ∧
      t.clock.acceptedAt = some s.now) ∧
    (∀ (f : Foreign), m.port = 3 → ptpOn s m.port = true → m.domain = s.rfield rTuPtp 0 8 → s.clock.master = some f
      → f.port = 3 → f.source / 65536 = m.sourceId / 65536 → s.clock.slavePort = some 3 → m.twoStep = true → ∃ t,
      exec (.sync m) s = .next t ∧ (t.ptp 3).waiting = some (m.seq, m.ingress, m.correction) ∧ (t.ptp 3).syncAt =
      some s.now ∧ Only [.clock] s t) ∧
    (∀ (i c off : Int), m.port = 3 → ptpOn s m.port = true → m.domain = s.rfield rTuPtp 0 8 → s.clock.slavePort =
      some 3 → (s.ptp 3).waiting = some (m.seq, i, c) → s.clock.firstDone = true → off = (i - ingressLatency s 3) -
      (m.origin + (c + m.correction) + linkDelay s 3 + linkAsymmetry s 3) → off.natAbs ≤ stepThreshold s → ∃ t, exec
      (.followUp m) s = .next t ∧ t.clock.okSyncs = (if off.natAbs ≤ 100 then s.clock.okSyncs + 1 else 0) ∧
      t.clock.time16 = s.clock.time16 ∧ t.clock.acceptedAt = some s.now ∧ t.clock.state = (if s.clock.state =
      .locked ∨ 8 ≤ (if off.natAbs ≤ 100 then s.clock.okSyncs + 1 else 0) then TimeState.locked else
      TimeState.acquiring) ∧ t.reg rTuOffset = uNat 32 (sat32 off) ∧ Only [.regs, .clock] s t ∧ (t.ptp 3).waiting =
      none) ∧
    (ptpOn s m.port = true → m.domain = s.rfield rTuPtp 0 8 → (s.ptp m.port).waiting = none → exec (.followUp m) s =
      .next s) ∧
    (ptpOn s m.port = true → m.domain = s.rfield rTuPtp 0 8 → (s.port m.port).link = .up → s.running iSW = true →
      hasRoom s m.port 7 68 = true → ∃ t, exec (.pdelayReq m) s = .next t ∧ (t.port m.port).queue.length = (s.port
      m.port).queue.length + 1 ∧ ((t.port m.port).queue.getLast?.map fun q => (q.cls, q.bytes.length, q.stamp)) =
      some (7, 68, .response m.seq m.sourceId) ∧ Only [.regs, .switch] s t) ∧
    (ptpOn s m.port = true → m.domain = s.rfield rTuPtp 0 8 → (s.ptp m.port).pdStep = 1 → (s.ptp m.port).pdSeq =
      m.seq → m.twoStep = true → ∃ t, exec (.pdelayResp m) s = .next t ∧ (t.ptp m.port).pdStep = 2 ∧ (t.ptp
      m.port).t2 = m.origin ∧ (t.ptp m.port).t4 = m.ingress - ingressLatency s m.port - m.correction ∧ Only [.clock]
      s t) ∧
    (ptpOn s m.port = true → m.domain = s.rfield rTuPtp 0 8 → (s.ptp m.port).pdStep = 1 → (s.ptp m.port).pdSeq =
      m.seq → m.twoStep = false → ∃ t, exec (.pdelayResp m) s = .next t ∧ t.reg (rTuPDelay m.port) = (max 0
      ((m.ingress - ingressLatency s m.port - m.correction - (s.ptp m.port).t1 - 0).fdiv 2)).toNat % 2 ^ 32 ∧ (t.ptp
      m.port).pdStep = 0 ∧ (t.ptp m.port).pdelayAt = some s.now ∧ Only [.regs, .clock] s t) ∧
    (ptpOn s m.port = true → m.domain = s.rfield rTuPtp 0 8 → (s.ptp m.port).pdStep = 2 → (s.ptp m.port).pdSeq =
      m.seq → ∃ t, exec (.pdelayRespFollowUp m) s = .next t ∧ t.reg (rTuPDelay m.port) = (max 0 (((s.ptp m.port).t4
      - (s.ptp m.port).t1 - (m.origin - (s.ptp m.port).t2 + m.correction)).fdiv 2)).toNat % 2 ^ 32 ∧ (t.ptp
      m.port).pdStep = 0 ∧ (t.ptp m.port).pdelayAt = some s.now ∧ (t.ptp m.port).asCapable = decide (3 ≤ m.port) ∧
      Only [.regs, .clock] s t) ∧
    (∀ (p : Instr), p ∈ ([.pdelayResp m, .pdelayRespFollowUp m] : List Instr) → ptpOn s m.port = true → m.domain =
      s.rfield rTuPtp 0 8 → ((s.ptp m.port).pdSeq ≠ m.seq ∨ (s.ptp m.port).pdStep = 0) → exec p s = .next s) ∧
    (∀ (f : Foreign), m.port = 3 → ptpOn s m.port = true → m.domain = s.rfield rTuPtp 0 8 → m.stepsRemoved < 255 →
      s.clock.foreign = [] → s.clock.master = none → 0 < logInterval (s.ptp 3).logAnnounce → m.priority1 < s.rfield
      rTuPtp 8 8 → f =
      { port := 3, gmId := m.gmId, source := m.sourceId, priority1 := m.priority1, clockClass := m.clockClass, clockAccuracy := m.clockAccuracy, variance := m.variance, priority2 := m.priority2, steps := m.stepsRemoved, utcOffset := m.utcOffset, flags := m.flags, timeSource := m.timeSource, heard := s.now }
      → m.gmId ≠ clockId s → ∃ t, exec (.announce m) s = .next t ∧ t.clock.master = some f ∧ t.clock.gm = some
      (m.gmId, 3) ∧ t.clock.slavePort = some 3 ∧ t.clock.utcOffset = m.utcOffset) ∧
    (m.port = 3 → ptpOn s m.port = true → m.domain = s.rfield rTuPtp 0 8 → m.stepsRemoved < 255 → s.clock.foreign =
      [] → s.clock.state = .free → 0 < logInterval (s.ptp 3).logAnnounce → s.rfield rTuPtp 8 8 < m.priority1 →
      m.gmId ≠ clockId s → ∃ t, exec (.announce m) s = .next t ∧ t.clock.state = .grandmaster ∧ t.clock.master =
      none) ∧
    (ptpOn s m.port = true → m.domain = s.rfield rTuPtp 0 8 → 3 ≤ m.port → m.flags = 2 → -24 ≤ m.logInterval →
      m.logInterval ≤ 24 → ∃ t, exec (.signaling m) s = .next t ∧ (t.ptp m.port).logSync = m.logInterval ∧ (t.ptp
      m.port).logPdelay = (s.ptp m.port).logPdelay ∧ (t.ptp m.port).logAnnounce = (s.ptp m.port).logAnnounce ∧ Only
      [.clock] s t) ∧
    (∀ (p : Nat), ptpOn s p = true → 2 ≤ p → (s.ptp p).role = .master → (s.ptp p).nextSync ≤ s.now → (s.port p).link
      = .up → s.running iSW = true → hasRoom s p 7 58 = true → ∃ t, exec (.syncSend p) s = .next t ∧ (t.ptp
      p).seqSync = ((s.ptp p).seqSync + 1) % 65536 ∧ (t.ptp p).nextSync = s.now + logInterval (s.ptp p).logSync ∧
      (t.port p).queue.length = (s.port p).queue.length + 1 ∧ ((t.port p).queue.getLast?.map fun q => (q.cls,
      q.bytes.length, q.stamp)) = some (7, 58, .followUp (s.ptp p).seqSync) ∧ Only [.regs, .clock, .switch] s t) ∧
    (∀ (p : Nat), ptpOn s p = true → 2 ≤ p → (s.ptp p).role = .master → (s.ptp p).nextAnnounce ≤ s.now → (s.port
      p).link = .up → s.running iSW = true → hasRoom s p 7 78 = true → ∃ t, exec (.announceSend p) s = .next t ∧
      (t.ptp p).seqAnnounce = ((s.ptp p).seqAnnounce + 1) % 65536 ∧ (t.ptp p).nextAnnounce = s.now + logInterval
      (s.ptp p).logAnnounce ∧ (t.port p).queue.length = (s.port p).queue.length + 1 ∧ ((t.port p).queue.getLast?.map
      fun q => (q.cls, q.bytes.length, q.stamp)) = some (7, 78, .none) ∧ Only [.regs, .clock, .switch] s t) ∧
    (∀ (p : Nat), ptpOn s p = true → 2 ≤ p → (s.ptp p).nextPdelay ≤ s.now → (s.port p).link = .up → s.running iSW =
      true → hasRoom s p 7 68 = true → ∃ t, exec (.pdelayReqSend p) s = .next t ∧ (t.ptp p).pdSeq = ((s.ptp p).pdSeq
      + 1) % 65536 ∧ (t.ptp p).nextPdelay = s.now + logInterval (s.ptp p).logPdelay ∧ (t.port p).queue.length =
      (s.port p).queue.length + 1 ∧ ((t.port p).queue.getLast?.map fun q => (q.cls, q.bytes.length, q.stamp)) = some
      (7, 68, .request) ∧ Only [.regs, .clock, .switch] s t) ∧
    (∀ (p : Nat) (q : (Nat → Instr) × Nat), q ∈ ([(.syncSend, (s.ptp p).nextSync), (.announceSend, (s.ptp
      p).nextAnnounce), (.pdelayReqSend, (s.ptp p).nextPdelay)] : List ((Nat → Instr) × Nat)) → (ptpOn s p = false ∨
      s.now < q.2) → exec (q.1 p) s = .next s) ∧
    (∀ (p h : Nat), s.clock.slavePort = some p → s.clock.acceptedAt = some h → s.running iTIME = true →
      (s.clock.state = .acquiring ∨ s.clock.state = .locked) → h + 3 * logInterval (s.ptp p).logSync ≤ s.now → ∃ t,
      exec .syncTimeout s = .next t ∧ t.clock.state = .holdover ∧ t.clock.okSyncs = 0 ∧ t.rbit rTuEvent 2 = true ∧
      t.clock.time16 = s.clock.time16 ∧ Only [.regs, .clock] s t) ∧
    ((s.clock.slavePort = none ∨ s.clock.acceptedAt = none) → exec .syncTimeout s = .next s) ∧
    (∀ (f : Foreign), s.running iTIME = true → s.rbit rTuCtrl 0 = true → s.clock.master = some f → s.clock.foreign =
      [f] → aliveMaster s f = false → ∃ t, exec .announceTimeout s = .next t ∧ t.clock.master = none ∧
      t.clock.slavePort = none ∧ t.clock.acceptedAt = none ∧ t.clock.foreign = [] ∧ t.clock.state = (if
      s.clock.state = .acquiring ∨ s.clock.state = .locked then TimeState.holdover else s.clock.state) ∧ Only
      [.regs, .clock] s t) ∧
    (s.running iTIME = true → s.rbit rTuCtrl 0 = true → s.clock.master = none → s.clock.foreign = [] → s.clock.state
      ≠ .grandmaster → s.clock.listenFrom + 3 * logInterval (s.ptp 0).logAnnounce ≤ s.now → ∃ t, exec
      .announceTimeout s = .next t ∧ t.clock.state = .grandmaster ∧ Only [.regs, .clock] s t) ∧
    ((s.running iTIME = false ∨ s.rbit rTuCtrl 0 = false) → exec .announceTimeout s = .next s) ∧
    ((s.clock.master.any (aliveMaster s)) = true → s.running iTIME = true → s.rbit rTuCtrl 0 = true → exec
      .announceTimeout s = .next (setRoles s)) ∧
    (∀ (f g : Foreign), ptpOn s 3 = true → s.clock.state ≠ .grandmaster → s.clock.master = some f → f.port = 0 →
      s.clock.foreign = [f, g] → portRole s 3 = (if g.port = 3 ∧ s.now < g.heard + 3 * logInterval (s.ptp 3).logAnnounce
      then .passive else .master)) ∧
    (∀ (e w : Nat), s.running iTIME = true → 1000 ≤ w → ppsDisciplines s = false → (s.clock.ppsLast = none ∨
      (s.clock.ppsLast.any fun l => decide (((e : Int) - l - nsSec).natAbs ≤ 1000000)) = true) → ∃ t, exec
      (.ppsInEdge e w) s = .next t ∧ t.clock.ppsLast = some e ∧ t.clock.ppsSeen = some s.now ∧ t.reg rTuPpsInErr =
      uNat 32 ((e : Int) - ((e + nsSec / 2) / nsSec * nsSec : Nat)) ∧ t.clock.time16 = s.clock.time16 ∧ Only [.regs,
      .clock] s t) ∧
    (∀ (e w l : Nat), s.running iTIME = true → 1000 ≤ w → s.clock.ppsLast = some l → 1000000 < ((e : Int) - l -
      nsSec).natAbs → s.clock.ppsAgree = 0 → ∃ t, exec (.ppsInEdge e w) s = .next t ∧ t.clock.ppsLast = some l ∧
      t.clock.ppsCand = some e ∧ t.rbit rTuEvent 5 = true ∧ t.clock.time16 = s.clock.time16 ∧ Only [.regs, .clock] s
      t) ∧
    (∀ (e w : Nat), w < 1000 → exec (.ppsInEdge e w) s = .next s) ∧
    (∀ (h : Nat), s.clock.ppsEdge = some h → s.running iTIME = true → h + 2 * nsSec ≤ s.now → exec .ppsInLost s =
      .next (State.raise { s with clock := { s.clock with ppsSeen := none, ppsEdge := none } } rTuEvent 4)) ∧
    (s.clock.ppsEdge = none → exec .ppsInLost s = .next s) ∧
    (s.running iTIME = true → s.clock.ppsNext ≤ s.tai → exec .ppsOutRise s = .next
      { s with clock := { s.clock with ppsOut := s.clock.ppsOut || ppsDriven s, ppsRise := (if ppsDriven s = true then s.now else s.clock.ppsRise), ppsNext := ppsAfter s s.tai } })
      ∧
    (s.tai < s.clock.ppsNext → exec .ppsOutRise s = .next s) ∧
    (s.clock.ppsOut = true → s.clock.ppsRise + max 1 (min 500 (s.rfield rTuPpsOut 0 10)) * nsMs ≤ s.now → exec
      .ppsOutFall s = .next { s with clock := { s.clock with ppsOut := false } }) ∧
    (s.clock.ppsOut = false → exec .ppsOutFall s = .next s) ∧
    (∀ (a : Agent) (k : Nat) (v : Word), k < 2 → Reaches s a (rTuCmp k) v.toNat true → ∃ t, exec (.tuCmpWrite a k v)
      s = .next t ∧ t.outs.readStatus = 0 ∧ t.reg (rTuCmp k) = v.toNat ∧ (k = 0 → t.clock.cmp0 = true) ∧ (k = 1 →
      t.clock.cmp1 = true) ∧ Only [.regs, .outs, .clock, .islands] s t) ∧
    (∀ (k : Nat), s.running iTIME = true → ((k = 0 ∧ s.clock.cmp0 = true) ∨ (k = 1 ∧ s.clock.cmp1 = true)) →
      reached32 (s.tai % 2 ^ 32) (s.reg (rTuCmp k)) = true → exec (.compareFire k) s = .next (State.raise
      { s with clock := (if k = 0 then { s.clock with cmp0 := false } else { s.clock with cmp1 := false }) }
      rTuEvent (6 + k))) ∧
    (∀ (k : Nat), (k = 0 → s.clock.cmp0 = false) → (k = 1 → s.clock.cmp1 = false) → exec (.compareFire k) s = .next
      s) ∧
    (∀ (a : Agent), Reaches s a rTuTimeSecHi 0 false → ∃ t, exec (.timeLatchRead a) s = .next t ∧ t.outs.readStatus
      = 0 ∧ t.outs.readOut = s.tai / nsSec / 2 ^ 32 % 65536 ∧ t.clock.latchLo = s.tai / nsSec % 2 ^ 32 ∧
      t.clock.latchNs = s.tai % nsSec ∧ t.clock.latchFrac = s.clock.time16 % 65536 ∧ t.clock.time16 = s.clock.time16
      ∧ Only [.regs, .outs, .clock, .islands] s t)

/-- 14 R384 to R402, Tables 14.1 to 14.9; 18 R508, R513. The prescaler between ticks is free above what State holds
(log 51). -/
def Obligations.AlmanacEvents : Prop :=
  ∀ (s : State),
    (s.almanac.halt = true → exec .calendarTick s = .next s) ∧
    (s.almanac.halt = false → ∃ t, exec .calendarTick s = .next t ∧ t.almanac.cal = s.almanac.cal.tick ∧
      t.almanac.prescale = 0 ∧ t.almanac.trim = s.almanac.trim ∧ t.almanac.backup = s.almanac.backup ∧ Only [.regs,
      .almanac] s t) ∧
    (∀ (k : Nat), s.almanac.halt = false → k < 2 → (s.alarm k).mask % 128 ≠ 0 → (s.alarm k).holds s.almanac.cal.tick
      = true → (s.alarm k).holds s.almanac.cal = false → (s.alarm k).fired = none → ∃ t, exec .calendarTick s =
      .next t ∧ t.rbit rAlEvent k = true ∧ (t.alarm k).fired = some s.almanac.cal.tick) ∧
    (∀ (c : Cal), c.sec < 59 → c.tick = { c with sec := c.sec + 1 }) ∧
    (∀ (c : Cal) (m : Nat), c.invalid = false → c.sec = 59 → c.min = 59 → c.hour = 23 → c.day = m → c.tick = (if m <
      monthLength c.month c.year then
      { c with sec := 0, min := 0, hour := 0, day := m + 1, wday := (if c.wday = 7 then 1 else c.wday + 1) } else if
      c.month < 12 then
      { c with sec := 0, min := 0, hour := 0, day := 1, month := c.month + 1, wday := (if c.wday = 7 then 1 else c.wday + 1) }
      else
      { c with sec := 0, min := 0, hour := 0, day := 1, month := 1, year := (if c.year = 199 then 0 else c.year + 1), wday := (if c.wday = 7 then 1 else c.wday + 1) }))
      ∧
    (∀ (y : Nat), leap y = decide ((2000 + y) % 4 = 0 ∧ ((2000 + y) % 100 ≠ 0 ∨ (2000 + y) % 400 = 0))) ∧
    (exec .trimWindow s = .next
      { s with almanac := { s.almanac with trim := s.almanac.trimNext, corrections := 0 } }) ∧
    (s.almanac.trim.natAbs ≤ s.almanac.corrections → exec .trimCorrection s = .next s) ∧
    (s.almanac.corrections < s.almanac.trim.natAbs → s.almanac.halt = false → 0 < s.almanac.trim → ∃ t, exec
      .trimCorrection s = .next t ∧ t.almanac.corrections = s.almanac.corrections + 1 ∧ 2 ≤ t.almanac.prescale ∧
      t.almanac.prescale ≤ 32767 ∧ min s.almanac.prescale 32765 + 2 ≤ t.almanac.prescale ∧ t.almanac.cal =
      s.almanac.cal ∧ Only [.freeCtr, .almanac] s t) ∧
    (s.almanac.corrections < s.almanac.trim.natAbs → s.almanac.halt = true → exec .trimCorrection s = .next
      { s with almanac := { s.almanac with corrections := s.almanac.corrections + 1 } }) ∧
    (∀ (a : Agent) (v : Word), Reaches s a rAlCtrl (v.toNat ||| 1) true → s.almanac.halt = false → ∃ t, exec
      (.haltSet a v) s = .next t ∧ t.outs.readStatus = 0 ∧ t.almanac.halt = true ∧ t.almanac.t0 = s.almanac.cal ∧
      t.almanac.cal = s.almanac.cal ∧ Only [.freeCtr, .regs, .outs, .islands, .almanac] s t) ∧
    (∀ (a : Agent) (v : Word), Reaches s a rAlCtrl (v.toNat &&& 0xFFFFFFFE) true → s.almanac.halt = true → ∃ t, exec
      (.haltRelease a v) s = .next t ∧ t.outs.readStatus = 0 ∧ t.almanac.halt = false ∧ t.almanac.cal =
      s.almanac.cal ∧ Only [.regs, .outs, .islands, .almanac] s t) ∧
    (∀ (a : Agent) (v : Word) (p : Instr × Nat × Cal), p ∈ ([(.alTimeWrite a v, rAlTime, s.almanac.cal.setTime
      v.toNat), (.alDateWrite a v, rAlDate, s.almanac.cal.setDate v.toNat)] : List (Instr × Nat × Cal)) → Reaches s
      a p.2.1 v.toNat true → s.almanac.halt = true → ∃ t, exec p.1 s = .next t ∧ t.outs.readStatus = 0 ∧
      t.almanac.cal = p.2.2 ∧ t.almanac.prescale = 0 ∧ t.almanac.halt = true ∧ Only [.regs, .outs, .islands,
      .almanac] s t) ∧
    (∀ (a : Agent) (v : Word) (p : Instr × Nat), p ∈ ([(.alTimeWrite a v, rAlTime), (.alDateWrite a v, rAlDate)] :
      List (Instr × Nat)) → Reaches s a p.2 v.toNat true → s.almanac.halt = false → ∃ t, exec p.1 s = .next t ∧
      t.outs.readStatus = 0 ∧ t.rbit rAlEvent 5 = true ∧ t.almanac = s.almanac ∧ Only [.regs, .outs, .islands] s t)
      ∧
    (∀ (a : Agent), Reaches s a rAlTime 0 false → ∃ t, exec (.alTimeRead a) s = .next t ∧ t.outs.readStatus = 0 ∧
      t.outs.readOut = s.almanac.cal.sec + s.almanac.cal.min * 256 + s.almanac.cal.hour * 65536 + s.almanac.cal.wday
      * 0x1000000 ∧ t.almanac.latchDate = s.almanac.cal ∧ t.almanac.cal = s.almanac.cal ∧ Only [.freeCtr, .regs,
      .outs, .islands, .almanac] s t) ∧
    (∀ (a : Agent) (v : Word) (k : Nat), k < 2 → Reaches s a (rAlAlmTime k) v.toNat true → ∃ t, exec (.alAlarmWrite
      a (rAlAlmTime k) v) s = .next t ∧ t.outs.readStatus = 0 ∧ (t.alarm k).time = (s.alarm k).time.setTime v.toNat
      ∧ (t.alarm k).fired = none ∧ (t.alarm k).mask = (s.alarm k).mask ∧ Only [.regs, .outs, .islands, .almanac] s
      t) ∧
    (∀ (a : Agent) (v : Word) (k : Nat), k < 2 → Reaches s a (rAlAlmDate k) v.toNat true → ∃ t, exec (.alAlarmWrite
      a (rAlAlmDate k) v) s = .next t ∧ t.outs.readStatus = 0 ∧ (t.alarm k).time = (s.alarm k).time.setDate v.toNat
      ∧ (t.alarm k).fired = none ∧ Only [.regs, .outs, .islands, .almanac] s t) ∧
    (∀ (a : Agent) (v : Word) (k : Nat), k < 2 → Reaches s a (rAlAlmCtrl k) v.toNat true → ∃ t, exec (.alAlarmWrite
      a (rAlAlmCtrl k) v) s = .next t ∧ t.outs.readStatus = 0 ∧ (t.alarm k).mask = v.toNat % 128 ∧ (t.alarm k).rearm
      = bitOf v.toNat 8 ∧ (t.alarm k).fired = none ∧ (t.alarm k).skipped = ((s.alarm k).skipped && !bitOf v.toNat
      16) ∧ Only [.regs, .outs, .islands, .almanac] s t) ∧
    (∀ (a : Agent) (v : Word) (w : Nat) (x : BkpRec) (d : List Byte), w < 16 → Reaches s a (rAlBkp w) v.toNat true →
      x = tabGetD s.almanac.backup (w / 2) {} → x.copy0 = x.copy1 → x.check0 = crc8 x.copy0 → x.check1 = crc8
      x.copy1 → d = overlay x.copy0 (w % 2 * 4) (leBytes 4 v.toNat) → ∃ t, exec (.alBkpWrite a w v) s = .next t ∧
      t.outs.readStatus = 0 ∧ tabGet t.almanac.backup (w / 2) = some
      { copy0 := d, check0 := crc8 d, copy1 := d, check1 := crc8 d } ∧ t.almanac.cal = s.almanac.cal ∧ Only [.regs,
      .outs, .islands, .almanac] s t) ∧
    (((List.range 8).all fun r => (tabGetD s.almanac.backup r {}).copy0 == (tabGetD s.almanac.backup r {}).copy1 &&
      (tabGetD s.almanac.backup r {}).check0 == crc8 (tabGetD s.almanac.backup r {}).copy0 && (tabGetD
      s.almanac.backup r {}).check1 == crc8 (tabGetD s.almanac.backup r {}).copy1) = true → exec .backupCheck s =
      .next s) ∧
    (∀ (r : Nat) (x : BkpRec), r < 8 → tabGet s.almanac.backup r = some x → x.copy0 = x.copy1 → ((x.check0 = crc8
      x.copy0 ∧ x.check1 ≠ crc8 x.copy1) ∨ (x.check0 ≠ crc8 x.copy0 ∧ x.check1 = crc8 x.copy1)) → ∃ t, exec
      .backupCheck s = .next t ∧ tabGet t.almanac.backup r = some
      { copy0 := x.copy0, check0 := crc8 x.copy0, copy1 := x.copy0, check1 := crc8 x.copy0 } ∧ t.rbit rAlEvent 3 =
      true ∧ Only [.regs, .almanac] s t) ∧
    (∀ (r : Nat) (x : BkpRec), r < 8 → tabGet s.almanac.backup r = some x → x.check0 ≠ crc8 x.copy0 → x.check1 ≠
      crc8 x.copy1 → ∃ t, exec .backupCheck s = .next t ∧ t.rbit rAlStatus (8 + r) = true ∧ t.rbit rAlEvent 4 = true
      ∧ tabGet t.almanac.backup r = some x ∧ Only [.regs, .almanac] s t) ∧
    (stewardReady s = true → s.running iTIME = true → (s.clock.state = .locked ∨ s.clock.state = .grandmaster) →
      (s.almanac.syncAt.all fun h => decide (h + 1024 * nsSec ≤ s.now)) = true → s.almanac.halt = false →
      (s.almanac.cal.invalid = true ∨ nsSec ≤ ((s.tai : Int) - (s.almanac.cal.tai + s.almanac.prescale * nsSec /
      32768 : Nat)).natAbs) → (s.isl iALM).state = .run → (s.isl iALM).draining = false → (s.epochOf iSAGE iALM = 0
      ∨ s.epochOf iSAGE iALM = (s.isl iALM).epoch) → ∃ t, exec .calendarSync s = .next t ∧ t.almanac.cal =
      (s.almanac.cal.setTime (calOfTai s.tai).timeWord).setDate (calOfTai s.tai).dateWord ∧ t.almanac.syncAt = some
      s.now ∧ t.almanac.halt = false) ∧
    (stewardReady s = true → s.running iTIME = true → (s.clock.state = .locked ∨ s.clock.state = .grandmaster) →
      (s.almanac.syncAt.all fun h => decide (h + 1024 * nsSec ≤ s.now)) = true → s.almanac.cal.invalid = false →
      ((s.tai : Int) - (s.almanac.cal.tai + s.almanac.prescale * nsSec / 32768 : Nat)).natAbs < nsSec → (s.isl
      iALM).state = .run → (s.isl iALM).draining = false → (s.epochOf iSAGE iALM = 0 ∨ s.epochOf iSAGE iALM = (s.isl
      iALM).epoch) → ∃ t, exec .calendarSync s = .next t ∧ t.almanac.cal = s.almanac.cal ∧ t.almanac.syncAt = some
      s.now) ∧
    ((stewardReady s = false ∨ s.running iTIME = false ∨ (s.clock.state ≠ .locked ∧ s.clock.state ≠ .grandmaster)) →
      exec .calendarSync s = .next s) ∧
    (s.almanac.vaonLow = false → ∃ t, exec .vaonLow s = .next t ∧ t.almanac.vaonLow = true ∧ (t.isl iALM).state = .off ∧ t.almanac.cal = s.almanac.cal ∧ Only [.regs, .outs, .islands, .almanac] s t ∧ (∀ i, i ≠ iALM → t.isl i = s.isl i) ∧ ((s.isl iALM).waiting = [] → t.outs = s.outs ∧ (∀ a, addrIsl a ≠ iALM → t.reg a = s.reg a))) ∧
    (s.almanac.vaonLow = true → s.almanac.onVbat = false → exec .vbatSwitch s = .next (State.raise
      { s with almanac := { s.almanac with onVbat := true } } rAlEvent 2)) ∧
    ((s.almanac.vaonLow = false ∨ s.almanac.onVbat = true) → exec .vbatSwitch s = .next s) ∧
        (s.almanac.vaonLow = true → s.power.started = true → (s.isl iALM).state = .off → s.running iMGT = true → ∃ t, exec
      .vaonReturn s = .next t ∧ t.almanac.vaonLow = false ∧ t.almanac.onVbat = false ∧ (t.isl iALM).state = .reset ∧
      (t.isl iALM).target = .run ∧ (t.isl iALM).restart = true ∧ (t.isl iALM).epoch = nextEpoch (s.isl iALM).epoch ∧
      t.almanac.cal = s.almanac.cal ∧ Only [.islands, .almanac] s t) ∧
    (s.almanac.vaonLow = true → (s.power.started = false ∨ (s.isl iALM).state ≠ .off) → exec .vaonReturn s = .next
      { s with almanac := { s.almanac with vaonLow := false, onVbat := false } }) ∧
    (∀ (p : Instr), p ∈ ([.vaonReturn, .coreLost] : List Instr) → s.almanac.vaonLow = false → exec p s = .next s) ∧
    (s.almanac.vaonLow = true → ∃ t, exec .coreLost s = .next t ∧ t.almanac =
      { vaonLow := true, onVbat := s.almanac.onVbat } ∧ t.vault.seed = 0 ∧ t.vault.reseedDue = true ∧
      t.vault.coreLost = true ∧ t.reg rAlEvent = 64 ∧ t.reg rAlStatus = 0 ∧ Only [.regs, .almanac, .vault] s t)

/-- 15 R405 to R423, Tables 15.2 to 15.8. The start of an attempt is free (log 52); the clauses on receiving take a
channel without receive errors. -/
def Obligations.BusEvents : Prop :=
  ∀ (s : State) (c n : Nat),
    (∀ (x : BusCfg), c < 8 → s.running iBUS = true → (s.chan c).newCfg = some x → exec (.busConfigApply c) s = .next
      (s.setChan c
      { s.chan c with cfg := x, newCfg := none, txErr := 0, rxErr := 0, recovering := decide ((s.chan c).state = .busOff) && bitOf x.mode 6, state := (if bitOf x.mode 6 = false then .disabled else if (s.chan c).state = .busOff then .busOff else .integrating) }))
      ∧
    ((s.chan c).newCfg = none → exec (.busConfigApply c) s = .next s) ∧
    (c < 8 → s.running iBUS = true → (s.chan c).state = .integrating → exec (.busIntegrated c) s = .next (s.setChan
      c
      { s.chan c with state := (if (s.chan c).mode 4 = true then ChanState.monitoring else if s.controls = true then ChanState.normal else ChanState.restricted) }))
      ∧
    ((s.chan c).state ≠ .integrating → exec (.busIntegrated c) s = .next s) ∧
    (∀ (f : BusFrame), c < 8 → (s.isl iBUS).state = .run → (s.chan c).state = .normal → (s.chan c).rxErr = 0 →
      (!f.fd || decide (1 ≤ (s.chan c).protocol)) = true → (!f.xl || (s.chan c).protocol == 2) = true → ((s.chan
      c).objects.find? fun e => (e.2.cfg.kind == 1 || e.2.cfg.kind == 2) && e.2.head.isNone && e.2.cfg.flag 0 ==
      f.ide && e.2.cfg.flag 1 == f.fd && e.2.cfg.flag 3 == f.xl && e.2.cfg.flag 4 == f.rtr && (f.id &&&
      e.2.cfg.mask) == (e.2.cfg.id &&& e.2.cfg.mask)) = none → ∃ t, exec (.busFrameReceive c f) s = .next t ∧ t.reg
      (rBcRxf c) = min all32 (s.reg (rBcRxf c) + 1) ∧ t.reg (rBcNoMatch c) = min all32 (s.reg (rBcNoMatch c) + 1) ∧
      t.bus = s.bus ∧ Only [.regs] s t) ∧
    (∀ (f : BusFrame) (y : BusObj) (o : Nat), c < 8 → (s.isl iBUS).state = .run → (s.chan c).state = .normal →
      (s.chan c).rxErr = 0 → (!f.fd || decide (1 ≤ (s.chan c).protocol)) = true → (!f.xl || (s.chan c).protocol ==
      2) = true → ((s.chan c).objects.find? fun e => (e.2.cfg.kind == 1 || e.2.cfg.kind == 2) && e.2.head.isNone &&
      e.2.cfg.flag 0 == f.ide && e.2.cfg.flag 1 == f.fd && e.2.cfg.flag 3 == f.xl && e.2.cfg.flag 4 == f.rtr &&
      (f.id &&& e.2.cfg.mask) == (e.2.cfg.id &&& e.2.cfg.mask)) = some (n, y) → y.cfg.kind = 1 → y.cfg.count = 1 →
      y.cfg.offset + pointBytes y.cfg.type ≤ f.data.length → o = y.cfg.pt → 0 < f.sof → f.sof < 2 ^ 64 → Sound s o →
      (s.point o).type = y.cfg.type → (s.point o).owner = y.tenant → ((s.point o).flag fLocked = false ∨ (s.point
      o).writer = 0x50000000 + c * 256 + n) → forceIndex s o = none → forceOf s o = none → (s.isl iPF).state = .run
      → (s.isl iPF).draining = false → (s.epochOf iBUS iPF = 0 ∨ s.epochOf iBUS iPF = (s.isl iPF).epoch) → ∃ t, exec
      (.busFrameReceive c f) s = .next t ∧ t.reg (rBcRxf c) = min all32 (s.reg (rBcRxf c) + 1) ∧ t.point o =
      PointRec.sealed
      { s.point o with value := typed (s.point o).type (frameValue y.cfg 0 f.data), time := f.sof, quality := qGood, writer := 0x50000000 + c * 256 + n }
      ∧ t.bus = s.bus ∧ (∀ x, x ≠ o → t.point x = s.point x)) ∧
    (∀ (f : BusFrame) (y : BusObj), c < 8 → (s.isl iBUS).state = .run → (s.chan c).state = .normal → (s.chan
      c).rxErr = 0 → (!f.fd || decide (1 ≤ (s.chan c).protocol)) = true → (!f.xl || (s.chan c).protocol == 2) = true
      → ((s.chan c).objects.find? fun e => (e.2.cfg.kind == 1 || e.2.cfg.kind == 2) && e.2.head.isNone &&
      e.2.cfg.flag 0 == f.ide && e.2.cfg.flag 1 == f.fd && e.2.cfg.flag 3 == f.xl && e.2.cfg.flag 4 == f.rtr &&
      (f.id &&& e.2.cfg.mask) == (e.2.cfg.id &&& e.2.cfg.mask)) = some (n, y) → y.cfg.kind = 1 → f.data.length <
      y.cfg.offset + y.cfg.count * pointBytes y.cfg.type → ∃ t, exec (.busFrameReceive c f) s = .next t ∧ t.reg
      (rBcRxf c) = min all32 (s.reg (rBcRxf c) + 1) ∧ t.reg (rBcShort c) = min all32 (s.reg (rBcShort c) + 1) ∧
      t.fabric = s.fabric ∧ t.bus = s.bus) ∧
    (∀ (f : BusFrame) (y : BusObj), c < 8 → (s.isl iBUS).state = .run → (s.chan c).state = .normal → (s.chan
      c).rxErr = 0 → (!f.fd || decide (1 ≤ (s.chan c).protocol)) = true → (!f.xl || (s.chan c).protocol == 2) = true
      → ((s.chan c).objects.find? fun e => (e.2.cfg.kind == 1 || e.2.cfg.kind == 2) && e.2.head.isNone &&
      e.2.cfg.flag 0 == f.ide && e.2.cfg.flag 1 == f.fd && e.2.cfg.flag 3 == f.xl && e.2.cfg.flag 4 == f.rtr &&
      (f.id &&& e.2.cfg.mask) == (e.2.cfg.id &&& e.2.cfg.mask)) = some (n, y) → s.obj c n = some y → y.cfg.kind = 2
      → y.cfg.queue = 1 → y.next = n → y.state = .empty → f.xl = false → ∃ t, exec (.busFrameReceive c f) s = .next
      t ∧ (t.obj c n) = some
      { y with state := .full, data := f.data, fid := f.id, fide := f.ide, ffd := f.fd, frtr := f.rtr, stamp := f.sof / 100 % 2 ^ 32, seq := y.qseq, qseq := (y.qseq + 1) % 65536, xlHdr := f.xlHdr, xlAf := f.xlAf, next := n, cfg := { y.cfg with length := f.data.length } }
      ∧ t.rbit (rBcCEvent c) 0 = true ∧ t.fabric = s.fabric ∧ Only [.regs, .bus] s t) ∧
    (∀ (f : BusFrame) (y : BusObj), c < 8 → (s.isl iBUS).state = .run → (s.chan c).state = .normal → (s.chan
      c).rxErr = 0 → (!f.fd || decide (1 ≤ (s.chan c).protocol)) = true → (!f.xl || (s.chan c).protocol == 2) = true
      → ((s.chan c).objects.find? fun e => (e.2.cfg.kind == 1 || e.2.cfg.kind == 2) && e.2.head.isNone &&
      e.2.cfg.flag 0 == f.ide && e.2.cfg.flag 1 == f.fd && e.2.cfg.flag 3 == f.xl && e.2.cfg.flag 4 == f.rtr &&
      (f.id &&& e.2.cfg.mask) == (e.2.cfg.id &&& e.2.cfg.mask)) = some (n, y) → s.obj c n = some y → y.cfg.kind = 2
      → y.next = n → y.state = .full → ∃ t, exec (.busFrameReceive c f) s = .next t ∧ t.reg (rBcRxLost c) = min
      all32 (s.reg (rBcRxLost c) + 1) ∧ t.rbit (rBcCEvent c) 6 = true ∧ ((t.obj c n).map (·.data)) = some y.data) ∧
    (∀ (f : BusFrame), (s.running iBUS = false ∨ (s.chan c).state = .disabled ∨ (s.chan c).state = .asleep ∨ (s.chan
      c).state = .busOff ∨ (s.chan c).state = .integrating) → exec (.busFrameReceive c f) s = .next s) ∧
    (∀ (a : Agent) (v : Word) (y : BusObj), c < 8 → Reaches s a (rBcRxAck c) v.toNat true → n = v.toNat % 256 →
      s.obj c n = some y → y.state = .full → ∃ t, exec (.bcRxackWrite a c v) s = .next t ∧ t.outs.readStatus = 0 ∧
      (t.obj c n) = some { y with state := .empty } ∧ Only [.regs, .outs, .islands, .bus] s t) ∧
    (∀ (y : BusObj) (o : Nat), (s.isl iBUS).state = .run → s.obj c n = some y → y.cfg.kind = 3 → 0 < y.cfg.period →
      y.dueAt ≤ s.tai → y.state = .ready → y.cfg.count = 1 → o = y.cfg.pt → Sound s o → (s.point o).owner = y.tenant
      → forceOf s o = none → (s.isl iPF).state = .run → (s.isl iPF).draining = false → (s.epochOf iBUS iPF = 0 ∨
      s.epochOf iBUS iPF = (s.isl iPF).epoch) → ∃ t, exec (.busPeriodRequest c n) s = .next t ∧ (t.obj c n) = some
      { y with state := .pending, data := overlay y.data y.cfg.offset (valueBytes y.cfg (s.point o).value), retries := 0, retryStuck := false, abortDue := false, dueAt := periodAfter y.cfg s.tai }
      ∧ t.fabric.store = s.fabric.store ∧ Only [.freeCtr, .regs, .islands, .fabric, .bus, .chk] s t) ∧
    ((s.obj c n = none ∨ ((s.obj c n).any (fun y => y.cfg.period == 0)) = true) → exec (.busPeriodRequest c n) s =
      .next s) ∧
    (∀ (a : Agent) (v : Word) (y : BusObj), c < 8 → Reaches s a (rBcTxReq c) v.toNat true → n = v.toNat % 256 →
      s.obj c n = some y → y.cfg.kind = 4 → y.state = .ready → ∃ t, exec (.bcTxreqWrite a c v) s = .next t ∧
      t.outs.readStatus = 0 ∧ (t.obj c n) = some
      { y with state := .pending, retries := 0, retryStuck := false, abortDue := false } ∧ Only [.regs, .outs,
      .islands, .bus] s t) ∧
    (∀ (a : Agent) (v : Word) (y : BusObj), c < 8 → n < 256 → Reaches s a (rBcTxReq c) v.toNat true → n = v.toNat %
      256 → s.obj c n = some y → y.cfg.kind = 4 → (y.state = .pending ∨ y.state = .onBus) → ∃ t, exec (.bcTxreqWrite
      a c v) s = .next t ∧ t.outs.readStatus = 0 ∧ t.reg (rBcObj c n 0x1C) = min all32 (s.reg (rBcObj c n 0x1C) + 1)
      ∧ (t.obj c n) = some y) ∧
    (∀ (i : Nat) (y : BusObj), c < 8 → s.running iBUS = true → (s.chan c).state = .normal → (s.obj c n) = some y →
      (s.chan c).objects = [(n, y)] → y.state = .onBus → ∃ t, exec (.busTxAttemptEnd c n (.sent i)) s = .next t ∧
      (t.obj c n) = some
      { y with state := .ready, sent := true, aborted := false, cause := 0, abortDue := false, stamp := i / 100 % 2 ^ 32 }
      ∧ (t.chan c).txErr = (s.chan c).txErr - 1 ∧ t.reg (rBcTxf c) = min all32 (s.reg (rBcTxf c) + 1) ∧ t.rbit
      (rBcCEvent c) 1 = true ∧ t.outs.busFrames = (c, frameOf s c y i) :: s.outs.busFrames ∧ Only [.regs, .outs,
      .bus] s t) ∧
    (∀ (y : BusObj), c < 8 → s.running iBUS = true → (s.chan c).state = .normal → (s.obj c n) = some y → (s.chan
      c).objects = [(n, y)] → y.state = .onBus → y.abortDue = false → (y.cfg.retry = 255 ∨ min 255 (y.retries + 1) ≤
      y.cfg.retry) → ∃ t, exec (.busTxAttemptEnd c n .lostArbitration) s = .next t ∧ (t.obj c n) = some
      { y with state := .pending, retries := min 255 (y.retries + 1), retryStuck := y.retryStuck || y.retries == 255 }
      ∧ Only [.bus] s t) ∧
    (∀ (y : BusObj), c < 8 → s.running iBUS = true → (s.chan c).state = .normal → (s.obj c n) = some y → (s.chan
      c).objects = [(n, y)] → y.state = .onBus → y.abortDue = false → y.cfg.retry ≠ 255 → y.cfg.retry < min 255
      (y.retries + 1) → ∃ t, exec (.busTxAttemptEnd c n .lostArbitration) s = .next t ∧ ((t.obj c n).map fun z =>
      (z.state, z.sent, z.aborted, z.cause)) = some (.ready, false, true, 1) ∧ t.rbit (rBcCEvent c) 2 = true ∧ Only
      [.regs, .bus] s t) ∧
    (∀ (k : Nat) (y : BusObj), c < 8 → s.running iBUS = true → (s.chan c).state = .normal → (s.obj c n) = some y →
      (s.chan c).objects = [(n, y)] → y.state = .onBus → k ≠ 3 → 248 ≤ (s.chan c).txErr → y.abortDue = false →
      y.cfg.retry = 255 → ∃ t, exec (.busTxAttemptEnd c n (.error k)) s = .next t ∧ (t.chan c).state = .busOff ∧
      (t.chan c).lastError = k % 8 ∧ t.rbit (rBcCEvent c) 4 = true ∧ t.reg (rBcBusOff c) = min all32 (s.reg
      (rBcBusOff c) + 1) ∧ ((t.obj c n).map (·.state)) = some .pending) ∧
    (∀ (e : BusTxEnd), (s.running iBUS = false ∨ (s.chan c).state ≠ .normal ∨ (s.chan c).objects = []) → exec
      (.busTxAttemptEnd c n e) s = .next s) ∧
    (∀ (a : Agent) (v : Word) (y : BusObj), c < 8 → Reaches s a (rBcTxAbort c) v.toNat true → n = v.toNat % 256 →
      s.obj c n = some y → (s.chan c).objects = [(n, y)] → y.state = .pending → s.controls = false → ∃ t, exec
      (.bcTxabortWrite a c v) s = .next t ∧ t.outs.readStatus = 0 ∧ (t.obj c n) = some
      { y with state := .ready, sent := false, aborted := true, cause := 3, abortDue := false } ∧ t.rbit (rBcCEvent
      c) 2 = true ∧ Only [.regs, .outs, .islands, .bus] s t) ∧
    (∀ (a : Agent) (v : Word) (y : BusObj), c < 8 → Reaches s a (rBcTxAbort c) v.toNat true → n = v.toNat % 256 →
      s.obj c n = some y → (s.chan c).objects = [(n, y)] → y.state = .onBus → ∃ t, exec (.bcTxabortWrite a c v) s =
      .next t ∧ t.outs.readStatus = 0 ∧ (t.obj c n) = some { y with abortDue := true } ∧ Only [.regs, .outs,
      .islands, .bus] s t) ∧
    (∀ (k : Nat), c < 8 → s.running iBUS = true → (s.chan c).state = .normal → (s.chan c).rxErr < 127 → (s.chan
      c).txErr < 128 → ∃ t, exec (.busReceiveError c k false) s = .next t ∧ (t.chan c) =
      { s.chan c with lastError := k % 8, rxErr := (s.chan c).rxErr + 1 } ∧ Only [.bus] s t) ∧
    (∀ (k : Nat), c < 8 → s.running iBUS = true → (s.chan c).state = .normal → (s.chan c).mode 5 = true → exec
      (.busReceiveError c k true) s = .next (s.setChan c { s.chan c with state := .integrating })) ∧
    (∀ (a : Agent) (v : Word), c < 8 → Reaches s a (rBcCCtrl c) (v.toNat ||| 0x100) true → (s.chan c).state =
      .busOff → ∃ t, exec (.recover a c v) s = .next t ∧ t.outs.readStatus = 0 ∧ (t.chan c).recovering = true ∧
      (t.chan c).state = .busOff ∧ Only [.regs, .outs, .islands, .bus] s t) ∧
    (s.running iBUS = true → (s.chan c).state = .busOff → (s.chan c).recovering = true → exec (.busOffRecovered c) s
      = .next (s.setChan c
      { s.chan c with state := (if (s.chan c).mode 4 = true then ChanState.monitoring else if s.controls = true then ChanState.normal else ChanState.restricted), recovering := false, txErr := 0, rxErr := 0 }))
      ∧
    (((s.chan c).state ≠ .busOff ∨ (s.chan c).recovering = false) → exec (.busOffRecovered c) s = .next s) ∧
    (s.running iBUS = true → (s.chan c).sleepDue ≠ 0 → ((s.chan c).objects.any fun e => e.2.state == .onBus) = false
      → (s.chan c).state ≠ .disabled → exec (.busSleepEntry c) s = .next (s.setChan c
      { s.chan c with state := .asleep, sleepMode := (s.chan c).sleepDue, sleepDue := 0, wakeErr := 0 })) ∧
    ((s.chan c).sleepDue = 0 → exec (.busSleepEntry c) s = .next s) ∧
    (∀ (p : Instr × Nat × Nat) (f : BusFrame), p ∈ ([(.busWakeEdge c, 1, 1), (.busWakeFrame c (.frame f), 2, 2),
      (.busWakeFrame c .erroneous, 2, 3)] : List (Instr × Nat × Nat)) → s.running iBUS = true → (s.chan c).state =
      .asleep → (s.chan c).sleepMode = p.2.1 → (p.2.2 = 2 → f.fd = false ∧ f.xl = false ∧ ((s.chan c).objects.any
      fun e => e.2.cfg.kind == 5 && wakeMatches e.2.cfg f) = true) → (p.2.2 = 3 → (s.chan c).wakeErr = 31) → ∃ t,
      exec p.1 s = .next t ∧ (t.chan c).state = .integrating ∧ (t.chan c).wakeCause = p.2.2 ∧ (t.chan c).sleepMode =
      0 ∧ t.rbit (rBcCEvent c) 5 = true ∧ Only [.regs, .islands, .bus] s t) ∧
    (s.running iBUS = true → (s.chan c).state = .asleep → (s.chan c).sleepMode = 2 → (s.chan c).wakeErr ≠ 31 → exec
      (.busWakeFrame c .erroneous) s = .next (s.setChan c { s.chan c with wakeErr := (s.chan c).wakeErr + 1 })) ∧
    (∀ (p : Instr) (f : BusFrame), p ∈ ([.busWakeEdge c, .busWakeFrame c .erroneous, .busWakeFrame c (.frame f)] :
      List Instr) → (s.chan c).state ≠ .asleep → exec p s = .next s)

/-- 16 R428, R431 to R440, Tables 16.2 to 16.5. A frame counts with the link up, secured (or its plain setting), and
its check right; the sent frames are those of `twinSend` (log 26). The burst carries no cause (log 68). -/
def Obligations.LeaseEvents : Prop :=
  ∀ (s : State),
    (∀ (p : TwinRx → Instr) (f : TwinRx), p ∈ ([.renew, .grant, .release, .withdraw, .hello, .handover, .unpair,
      .state, .verdict, .resync, .health, .relayDown, .relayUp] : List (TwinRx → Instr)) → (s.running iSW = false ∨
      (s.port 2).link ≠ .up ∨ (f.secured = false ∧ s.rbit rTwCtrl 0 = false)) → exec (p f) s = .next s) ∧
    (∀ (p : TwinRx → Instr) (f : TwinRx), p ∈ ([.renew, .grant, .release, .withdraw, .hello, .handover, .unpair,
      .verdict, .resync, .health, .relayDown, .relayUp] : List (TwinRx → Instr)) → f.checkOk = false → ∃ t, exec (p
      f) s = .next t ∧ Only [.regs, .chk, .power] s t) ∧
    (∀ (f : TwinRx), s.running iSW = true → (s.port 2).link = .up → (f.secured = true ∨ s.rbit rTwCtrl 0 = true) →
      f.body.length ≤ 2000 → f.checkOk = false → ∃ t, exec (.state f) s = .next t ∧ t.reg rTwShipLost = min all32 (s.reg
      rTwShipLost + 1) ∧ t.twin.health.shipLost = min all32 (s.twin.health.shipLost + 1) ∧ t.twin.role = s.twin.role ∧ Only
      [.regs, .twin, .chk, .power] s t) ∧
    (∀ (p : TwinRx → Instr) (f : TwinRx), p ∈ ([.offer, .query, .probe, .probeReply, .answer] : List (TwinRx →
      Instr)) → (s.running iSW = false ∨ ((s.port 0).link ≠ .up ∧ (s.port 1).link ≠ .up) ∨ (f.secured = false ∧
      s.rbit rTwCtrl 1 = false)) → exec (p f) s = .next s) ∧
    (s.twin.role = .active → s.twin.partner = 2 → s.twin.renewing = true → s.twin.renewAt + 5 * nsMs ≤ s.now →
      s.twin.answered = true → ∃ t, exec .renewSend s = .next t ∧ t.twin.renewNo = (s.twin.renewNo + 1) % 2 ^ 32 ∧
      t.twin.renewAt = s.now ∧ t.twin.answered = false ∧ t.twin.leaseOut = (s.twin.leaseOut != s.rbit rTwCtrl 2) ∧
      (t.port 2).queue = ((twinSend s 0x01 (leBytes 4 ((s.twin.renewNo + 1) % 2 ^ 32) ++ leBytes 4 0)).port 2).queue
      ∧ Only [.regs, .switch, .twin, .chk] s t) ∧
    (s.twin.role = .active → s.twin.partner = 2 → s.twin.renewing = true → s.twin.renewAt + 5 * nsMs ≤ s.now →
      s.twin.answered = false → ∃ t, exec .renewSend s = .next t ∧ t.reg (rTwRenewMissed) = min all32 (s.reg
      (rTwRenewMissed) + 1) ∧ t.twin.health.renewMissed = min all32 (s.twin.health.renewMissed + 1) ∧ t.twin.renewAt
      = s.now ∧ Only [.regs, .switch, .twin, .chk] s t) ∧
    ((s.twin.role ≠ .active ∨ s.twin.renewing = false ∨ s.now < s.twin.renewAt + 5 * nsMs) → exec .renewSend s =
      .next s) ∧
    (∀ (f : TwinRx), s.running iSW = true → (s.port 2).link = .up → (f.secured = true ∨ s.rbit rTwCtrl 0 = true) →
      f.body.length ≤ 2000 → f.checkOk = true → s.twin.role = .standby → s.twin.mute = false → f.body.length = 8 → ∃
      t, exec (.renew f) s = .next t ∧ t.twin.grantorEnd = some (s.now + 20 * nsMs) ∧ (t.port 2).queue = ((twinSend
      s 0x02 (leBytes 4 (fld f.body 0 4) ++ leBytes 4 20000 ++ leBytes 1 (b2n s.twin.ready) ++ leBytes 1
      s.twin.notReady ++ leBytes 2 0)).port 2).queue ∧ Only [.regs, .switch, .twin, .chk] s t) ∧
    (∀ (f : TwinRx), s.running iSW = true → (s.port 2).link = .up → (f.secured = true ∨ s.rbit rTwCtrl 0 = true) →
      f.body.length ≤ 2000 → f.checkOk = true → s.twin.role = .active → s.twin.renewing = true → s.now ≤
      s.twin.renewAt + 3 * nsMs → f.body.length = 12 → fld f.body 0 4 = s.twin.renewNo → s.twin.causes = [] → ∃ t,
      exec (.grant f) s = .next t ∧ t.twin.grantEnd = some (s.twin.renewAt + 20 * nsMs) ∧ t.twin.answered = true ∧
      t.twin.alone = false ∧ t.twin.withdrawn = false ∧ t.twin.ready = (fld f.body 8 1 == 1) ∧ t.twin.notReady = fld
      f.body 9 1 ∧ Only [.regs, .twin, .chk] s t) ∧
    (∀ (f : TwinRx), s.running iSW = true → (s.port 2).link = .up → (f.secured = true ∨ s.rbit rTwCtrl 0 = true) →
      f.body.length ≤ 2000 → f.checkOk = true → s.twin.role = .active → (s.twin.renewing = false ∨ s.twin.renewAt +
      3 * nsMs < s.now ∨ fld f.body 0 4 ≠ s.twin.renewNo) → ∃ t, exec (.grant f) s = .next t ∧ t.twin = s.twin ∧
      Only [.regs, .chk] s t) ∧
    (s.twin.role = .standby → s.twin.mute = false → s.twin.released = none → ∃ t, exec .leaseInEdge s = .next t ∧
      t.twin.leaseIn = !s.twin.leaseIn ∧ t.twin.leaseOut = !s.twin.leaseOut ∧ t.twin.grantorEnd = some (s.now + 20 *
      nsMs) ∧ t.twin.edges = (s.now :: s.twin.edges).take 4 ∧ bitOf t.twin.links 1 = true ∧ Only [.regs, .twin] s t)
      ∧
    (s.twin.role = .active → s.twin.renewing = true → s.now ≤ s.twin.renewAt + 3 * nsMs → s.twin.causes = [] → ∃ t,
      exec .leaseInEdge s = .next t ∧ t.twin.leaseIn = !s.twin.leaseIn ∧ t.twin.leaseOut = s.twin.leaseOut ∧
      t.twin.grantEnd = some (s.twin.renewAt + 20 * nsMs) ∧ t.twin.alone = false ∧ t.twin.answered = true ∧ Only
      [.regs, .twin] s t) ∧
    (∀ (a b c d : Nat), s.twin.role = .standby → s.twin.released = none → s.twin.edges = [a, b, c, d] → (∀ x ∈ [(b,
      a), (c, b), (d, c)], x.1 + 80 * nsUs ≤ x.2 ∧ x.2 ≤ x.1 + 120 * nsUs) → ∃ t, exec .leaseBurst s = .next t ∧
      t.twin.released = some s.now ∧ t.twin.grantorEnd = none ∧ t.twin.edges = [a] ∧ Only [.twin] s t) ∧
    (∀ (a b c d : Nat), s.twin.role = .active → s.twin.released = none → s.twin.edges = [a, b, c, d] → (∀ x ∈ [(b,
      a), (c, b), (d, c)], x.1 + 80 * nsUs ≤ x.2 ∧ x.2 ≤ x.1 + 120 * nsUs) → ∃ t, exec .leaseBurst s = .next t ∧
      t.twin.alone = true ∧ t.twin.withdrawn = true ∧ t.twin.renewing = false ∧ t.twin.grantEnd = none ∧
      t.twin.ready = false ∧ Only [.regs, .twin] s t) ∧
    (s.twin.edges.length < 4 → exec .leaseBurst s = .next s) ∧
    (bitOf s.twin.links 1 = true → (∀ x ∈ s.twin.edges, x + 15 * nsMs ≤ s.now) → ∃ t, exec .leaseWireQuiet s = .next
      t ∧ bitOf t.twin.links 1 = false ∧ t.rbit rTwEvent 6 = true ∧ (∀ k, k ≠ 1 → bitOf t.twin.links k = bitOf
      s.twin.links k) ∧ Only [.regs, .twin] s t) ∧
    ((bitOf s.twin.links 1 = false ∨ s.twin.edges.head? = some s.now) → exec .leaseWireQuiet s = .next s) ∧
    (∀ (e : Nat), s.twin.role = .active → s.twin.alone = false → s.twin.withdrawn = false → s.twin.answered = true →
      s.twin.grantEnd = some e → e ≤ s.now + 2 * nsMs → s.fabric.imageQueue = [] → s.thyme.exchange = none →
      s.thyme.unloading = false → s.mail.inProgress = [] → ∃ t, exec .grantLow s = .next t ∧ t.twin.role = .holding
      ∧ t.twin.ready = false ∧ t.twin.alone = false ∧ t.twin.grantEnd = none ∧ t.rbit rTwEvent 2 = true ∧
      t.twin.queryNo = (s.twin.queryNo + 1) % 2 ^ 32 ∧ Only [.freeCtr, .regs, .outs, .islands, .fabric, .mail,
      .thyme, .loops, .meter, .switch, .bus, .twin, .chk] s t) ∧
    ((s.twin.role ≠ .active ∨ s.twin.alone = true ∨ s.twin.grantEnd.any (fun e => decide (e ≤ s.now + 2 * nsMs)) =
      false) → exec .grantLow s = .next s) ∧
    (∀ (e : Nat), s.twin.role = .standby → s.twin.released = none → s.twin.grantorEnd = some e → e + 2 * nsMs ≤
      s.now → s.fabric.imageQueue = [] → s.thyme.exchange = none → s.thyme.unloading = false → s.mail.inProgress =
      [] → ∃ t, exec .grantGuardEnd s = .next t ∧ t.twin.role = .holding ∧ t.twin.grantorEnd = none ∧ t.rbit
      rTwEvent 2 = true ∧ t.twin.queryNo = (s.twin.queryNo + 1) % 2 ^ 32 ∧ Only [.freeCtr, .regs, .outs, .islands,
      .fabric, .mail, .thyme, .loops, .meter, .switch, .bus, .twin, .chk] s t) ∧
    ((s.twin.role ≠ .standby ∨ s.twin.grantorEnd.any (fun e => decide (e + 2 * nsMs ≤ s.now)) = false) → exec
      .grantGuardEnd s = .next s) ∧
    (∀ (f : TwinRx), s.running iSW = true → (s.port 2).link = .up → (f.secured = true ∨ s.rbit rTwCtrl 0 = true) →
      f.body.length ≤ 2000 → f.checkOk = true → s.twin.role = .standby → f.body.length = 4 → ∃ t, exec (.release f)
      s = .next t ∧ t.twin =
      { s.twin with released := some (s.twin.released.getD s.now), grantorEnd := none, relCause := fld f.body 0 1, relIsland := fld f.body 1 1 }
      ∧ Only [.regs, .twin, .chk] s t) ∧
    (∀ (r : Nat), s.twin.role = .standby → s.twin.released = some r → r + 2 * nsMs ≤ s.now → s.twin.ready = true →
      s.power.floor = true → s.fabric.imageQueue = [] → s.thyme.exchange = none → s.thyme.unloading = false →
      s.mail.inProgress = [] → ∃ t, exec .takeover s = .next t ∧ t.twin.role = .active ∧ t.twin.alone = true ∧
      t.twin.formerActive = true ∧ t.rbit rTwEvent 0 = true ∧ t.reg rTwCause = s.twin.relCause % 256 +
      s.twin.relIsland % 16 * 256 ∧ t.twin.partner = 2 ∧ t.twin.released = none ∧ Only [.freeCtr, .regs, .outs,
      .islands, .fabric, .mail, .thyme, .loops, .meter, .switch, .bus, .twin, .chk] s t) ∧
    ((s.twin.role ≠ .standby ∨ s.twin.released.any (fun r => decide (r + 2 * nsMs ≤ s.now)) = false) → exec
      .takeover s = .next s) ∧
    (∀ (f : TwinRx), s.running iSW = true → (s.port 2).link = .up → (f.secured = true ∨ s.rbit rTwCtrl 0 = true) →
      f.body.length ≤ 2000 → f.checkOk = true → s.twin.role = .active → f.body.length = 4 → ∃ t, exec (.withdraw f)
      s = .next t ∧ t.twin.alone = true ∧ t.twin.withdrawn = true ∧ t.twin.renewing = false ∧ t.twin.grantEnd = none
      ∧ t.twin.ready = false ∧ Only [.regs, .twin, .chk] s t) ∧
    (∀ (cause island : Nat), 1 ≤ cause → cause ≤ 7 → island < 12 → s.twin.role = .active → s.twin.alone = false →
      s.fabric.imageQueue = [] → s.thyme.exchange = none → s.thyme.unloading = false → s.mail.inProgress = [] → ∃ t,
      exec (.selfDiagnosis cause island) s = .next t ∧ t.twin.role = .standby ∧ t.twin.ready = false ∧
      t.twin.formerActive = false ∧ t.rbit rTwEvent 0 = true ∧ t.twin.notReady = 7 ∧ t.twin.partner = 1 ∧ t.rbit
      rTwEvent 1 = true ∧ t.reg rTwCause = cause + island * 256 ∧ Only [.freeCtr, .regs, .outs, .islands, .fabric,
      .mail, .thyme, .loops, .meter, .switch, .bus, .twin, .chk] s t) ∧
    (∀ (cause island : Nat), 1 ≤ cause → cause ≤ 7 → island < 12 → s.twin.role = .active → s.twin.alone = true →
      s.twin.causes.contains (cause, island) = false → ∃ t, exec (.selfDiagnosis cause island) s = .next t ∧ t.twin
      = { s.twin with causes := s.twin.causes ++ [(cause, island)] } ∧ (t.power.staged.head?.map fun e => (e.level,
      e.code, e.detail)) = some (2, 0x1501, cause + island * 256) ∧ Only [.regs, .twin, .power] s t) ∧
    (∀ (cause island : Nat), 1 ≤ cause → cause ≤ 7 → island < 12 → (s.twin.role = .standby ∨ s.twin.role = .pairing)
      → ∃ t, exec (.selfDiagnosis cause island) s = .next t ∧ t.twin.mute = true ∧ t.twin.role = s.twin.role ∧
      t.rbit rTwEvent 1 = true ∧ t.twin.bursts = s.twin.bursts + b2n (s.rbit rTwCtrl 2) ∧ Only [.regs, .switch,
      .twin, .chk] s t) ∧
    (∀ (cause island : Nat), (cause = 0 ∨ 7 < cause ∨ 12 ≤ island ∨ s.twin.role = .single ∨ s.twin.role = .holding)
      → exec (.selfDiagnosis cause island) s = .next s)

/-- 16 R429, R430, R439, R441 to R445, R448, R451 to R455, Tables 16.6 and 16.13. Sent frames are those of `twinSend`
and `twinRing` (logs 26, 53, 69, 70). -/
def Obligations.TwinEvents : Prop :=
  ∀ (s : State),
    (s.twin.role ≠ .single → s.twin.helloAt ≤ s.now → ∃ t, exec .helloSend s = .next t ∧ t.twin.helloAt = s.now +
      100 * nsMs ∧ (t.port 2).queue = ((twinSend s 0x05 (helloBody s)).port 2).queue ∧ Only [.regs, .switch, .twin,
      .chk] s t) ∧
    ((s.twin.role = .single ∨ s.now < s.twin.helloAt) → exec .helloSend s = .next s) ∧
    (∀ (f : TwinRx), s.running iSW = true → (s.port 2).link = .up → (f.secured = true ∨ s.rbit rTwCtrl 0 = true) →
      f.body.length ≤ 2000 → f.checkOk = true → s.twin.role = .active → f.body.length = 24 → f.body.take 12 =
      s.twin.partnerSerial → ∃ t, exec (.hello f) s = .next t ∧ t.twin.helloHeard = s.now ∧ t.twin.role =
      s.twin.role ∧ bitOf t.twin.links 0 = true ∧ t.twin.partner = (if fld f.body 12 1 = 2 then 2 else if
      s.twin.renewing = true then s.twin.partner else if fld f.body 12 1 = 1 then 1 else 0) ∧ Only [.regs, .twin,
      .chk] s t) ∧
    (∀ (f : TwinRx), s.running iSW = true → (s.port 2).link = .up → (f.secured = true ∨ s.rbit rTwCtrl 0 = true) →
      f.body.length ≤ 2000 → f.checkOk = true → s.twin.role ≠ .single → (f.body.length ≠ 24 ∨ f.body.take 12 ≠
      s.twin.partnerSerial) → ∃ t, exec (.hello f) s = .next t ∧ t.twin = s.twin ∧ Only [.regs, .chk] s t) ∧
    (∀ (f : TwinRx), s.running iSW = true → (s.port 2).link = .up → (f.secured = true ∨ s.rbit rTwCtrl 0 = true) →
      f.body.length ≤ 2000 → f.checkOk = true → s.twin.role = .pairing → s.rbit rPfStatus 0 = true → f.body.length =
      24 → f.body.take 12 = s.twin.partnerSerial → fld f.body 12 1 = 1 → s.fabric.imageQueue = [] → s.thyme.exchange
      = none → s.thyme.unloading = false → s.mail.inProgress = [] → ∃ t, exec (.hello f) s = .next t ∧ t.twin.role =
      .standby ∧ t.twin.ready = false ∧ t.twin.formerActive = false ∧ t.rbit rTwEvent 0 = true ∧ t.twin.notReady = 1
      ∧ t.twin.transfer = true ∧ t.twin.partner = 1 ∧ t.fabric.slices = [] ∧ t.fabric.forces = [] ∧ t.thyme.loaded =
      none ∧ t.loops.loops = [] ∧ t.clock = s.clock ∧ t.power = { s.power with floor := true }) ∧
    (∀ (f : TwinRx), s.running iSW = true → (s.port 2).link = .up → (f.secured = true ∨ s.rbit rTwCtrl 0 = true) →
      f.body.length ≤ 2000 → f.checkOk = true → s.twin.role = .pairing → s.rbit rPfStatus 0 = true → f.body.length =
      24 → f.body.take 12 = s.twin.partnerSerial → fld f.body 12 1 = 4 → s.twin.formerActive = true → bitOf (fld
      f.body 13 1) 0 = false → s.power.floor = true → s.fabric.imageQueue = [] → s.thyme.exchange = none →
      s.thyme.unloading = false → s.mail.inProgress = [] → ∃ t, exec (.hello f) s = .next t ∧ t.twin.role = .active
      ∧ t.twin.alone = true ∧ t.twin.formerActive = true ∧ t.rbit rTwEvent 0 = true ∧ t.twin.partner = 2 ∧ t.reg
      rTwCause = 0 ∧ Only [.freeCtr, .regs, .outs, .islands, .fabric, .mail, .thyme, .loops, .meter, .switch, .bus,
      .twin, .chk] s t) ∧
    (s.twin.role = .pairing → s.rbit rPfStatus 0 = true → s.twin.helloHeard + 5 * nsSec ≤ s.now → s.twin.queryAt ≤
      s.now → ∃ t, exec .helloTimeout s = .next t ∧ t.twin.partner = 3 ∧ bitOf t.twin.links 0 = false ∧
      t.twin.queryNo = (s.twin.queryNo + 1) % 2 ^ 32 ∧ t.twin.queryAt = s.now + 10 * nsMs ∧ t.twin.answers = [] ∧
      t.twin.role = .pairing ∧ Only [.regs, .switch, .twin, .chk] s t) ∧
    ((s.twin.role ≠ .pairing ∨ s.now < s.twin.helloHeard + 5 * nsSec ∨ s.rbit rPfStatus 0 = false) → exec
      .helloTimeout s = .next s) ∧
    (∀ (f : TwinRx), s.running iSW = true → (s.port 2).link = .up → (f.secured = true ∨ s.rbit rTwCtrl 0 = true) →
      f.body.length ≤ 2000 → f.checkOk = true → s.twin.role = .standby → s.twin.ready = true → f.body.length = 12 →
      fld f.body 0 1 = 0 → ∃ t, exec (.handover f) s = .next t ∧ t.twin.handover = some (fld f.body 4 8) ∧
      t.twin.handoverAgreed = true ∧ (t.port 2).queue = ((twinSend s 0x06 (leBytes 1 1 ++ leBytes 3 0 ++ leBytes 8
      (fld f.body 4 8))).port 2).queue ∧ Only [.regs, .switch, .twin, .chk] s t) ∧
    (∀ (f : TwinRx), s.running iSW = true → (s.port 2).link = .up → (f.secured = true ∨ s.rbit rTwCtrl 0 = true) →
      f.body.length ≤ 2000 → f.checkOk = true → s.twin.role = .active → f.body.length = 12 → fld f.body 0 1 = 1 →
      s.twin.handover = some (fld f.body 4 8) → ∃ t, exec (.handover f) s = .next t ∧ t.twin =
      { s.twin with handoverAgreed := true } ∧ Only [.regs, .twin, .chk] s t) ∧
    (∀ (b : Nat), s.twin.role = .active → s.twin.alone = false → s.twin.handover = some b → b ≤ s.tai →
      s.twin.handoverAgreed = true → s.fabric.imageQueue = [] → s.thyme.exchange = none → s.thyme.unloading = false
      → s.mail.inProgress = [] → ∃ t, exec .handoverBoundary s = .next t ∧ t.twin.role = .standby ∧ t.twin.ready =
      false ∧ t.twin.formerActive = false ∧ t.rbit rTwEvent 0 = true ∧ t.twin.notReady = 7 ∧ t.twin.partner = 1 ∧
      t.twin.handover = none ∧ t.reg rTwCause = 6 ∧ Only [.freeCtr, .regs, .outs, .islands, .fabric, .mail, .thyme,
      .loops, .meter, .switch, .bus, .twin, .chk] s t) ∧
    (∀ (b : Nat), s.twin.role = .standby → s.twin.ready = true → s.twin.handover = some b → b ≤ s.tai →
      s.twin.handoverAgreed = true → s.power.floor = true → s.fabric.imageQueue = [] → s.thyme.exchange = none →
      s.thyme.unloading = false → s.mail.inProgress = [] → ∃ t, exec .handoverBoundary s = .next t ∧ t.twin.role =
      .active ∧ t.twin.alone = true ∧ t.twin.formerActive = true ∧ t.rbit rTwEvent 0 = true ∧ t.twin.partner = 2 ∧
      t.reg rTwCause = 6 ∧ Only [.freeCtr, .regs, .outs, .islands, .fabric, .mail, .thyme, .loops, .meter, .switch,
      .bus, .twin, .chk] s t) ∧
    (s.twin.handover.any (fun b => decide (b ≤ s.tai)) = false → exec .handoverBoundary s = .next s) ∧
    (∀ (f : TwinRx), s.running iSW = true → (s.port 2).link = .up → (f.secured = true ∨ s.rbit rTwCtrl 0 = true) →
      f.body.length ≤ 2000 → f.checkOk = true → s.twin.role ≠ .single → s.twin.role ≠ .active → s.fabric.imageQueue
      = [] → s.thyme.exchange = none → s.thyme.unloading = false → s.mail.inProgress = [] → ∃ t, exec (.unpair f) s
      = .next t ∧ t.twin.role = .single ∧ t.twin.silent = true ∧ t.twin.partnerSerial = List.replicate 12 0 ∧
      t.twin.alone = false ∧ t.twin.ready = false ∧ t.twin.partner = 0 ∧ Only [.freeCtr, .regs, .outs, .islands,
      .fabric, .mail, .thyme, .loops, .meter, .switch, .bus, .twin, .chk] s t) ∧
    (s.twin.role = .active → s.twin.journalAt + nsMs ≤ s.now → ∃ t, exec .journalShip s = .next t ∧ t.twin.journal =
      [] ∧ t.twin.journalAt = s.now ∧ Only [.regs, .switch, .twin, .chk] s t) ∧
    ((s.twin.role ≠ .active ∨ s.now < s.twin.journalAt + nsMs) → exec .journalShip s = .next s) ∧
    (∀ (f : TwinRx) (q : Nat), s.running iSW = true → (s.port 2).link = .up → (f.secured = true ∨ s.rbit rTwCtrl 0 =
      true) → f.body.length ≤ 2000 → f.checkOk = true → s.twin.role = .standby → s.twin.stateRx = some q → f.seq =
      (q + 1) % 65536 → f.frag = s.twin.fragNext → f.last = false → ∃ t, exec (.state f) s = .next t ∧ t.twin =
      { s.twin with stateFrag := s.twin.stateFrag ++ f.body, fragNext := f.frag + 1 } ∧ Only [.regs, .twin, .chk] s
      t) ∧
    (∀ (f : TwinRx) (q o v tm w : Nat), s.running iSW = true → (s.port 2).link = .up → (f.secured = true ∨ s.rbit
      rTwCtrl 0 = true) → f.body.length ≤ 2000 → f.checkOk = true → s.twin.role = .standby → s.twin.stateRx = some q
      → f.seq = (q + 1) % 65536 → f.frag = s.twin.fragNext → f.last = true → s.twin.stateFrag = [] → f.body =
      shipRecord 0x31 0 [shipItem o 0 0 0 v, shipItem (o + 2 ^ 31) (w % 2 ^ 16) (w / 2 ^ 16 % 256) (w / 2 ^ 24) tm]
      → Sound s o → firstAssignable ≤ o → v < 2 ^ 64 → tm < 2 ^ 64 → w < 2 ^ 32 → forceIndex s o = none → forceOf s
      o = none → (s.point o).time ≠ tm → s.running iPF = true → s.thyme.tasks = [] → s.fabric.imageQueue = [] →
      s.thyme.exchange = none → s.thyme.unloading = false → s.mail.inProgress = [] → ∃ t, exec (.state f) s = .next
      t ∧ t.twin.stateRx = some f.seq ∧ t.twin.stateFrag = [] ∧ t.twin.fragNext = 0 ∧ t.point o = PointRec.sealed
      { s.point o with value := typed (s.point o).type (BitVec.ofNat 64 v), time := tm, quality := qGood, writer := w }
      ∧ Only [.freeCtr, .regs, .islands, .fabric, .harvest, .thyme, .twin, .chk, .mail, .power] s t) ∧
    (∀ (f : TwinRx) (q : Nat), s.running iSW = true → (s.port 2).link = .up → (f.secured = true ∨ s.rbit rTwCtrl 0 =
      true) → f.body.length ≤ 2000 → f.checkOk = true → s.twin.role = .standby → s.twin.stateRx = some q → f.seq ≠
      (q + 1) % 65536 → f.frag ≠ 0 → s.twin.notReady ≠ 7 → s.twin.discardDue = false → ∃ t, exec (.state f) s =
      .next t ∧ t.twin.ready = false ∧ t.twin.notReady = 2 ∧ t.twin.transfer = true ∧ t.twin.stateRx = none ∧
      t.twin.agreed = [] ∧ t.reg (rTwShipLost) = min all32 (s.reg (rTwShipLost) + 1) ∧ (t.port 2).queue = ((twinSend
      s 0x12 (leBytes 1 2 ++ leBytes 3 0)).port 2).queue) ∧
    (∀ (f : TwinRx), s.running iSW = true → (s.port 2).link = .up → (f.secured = true ∨ s.rbit rTwCtrl 0 = true) →
      f.body.length ≤ 2000 → f.checkOk = true → s.twin.role = .active → f.body.length = 12 → ((fld f.body 0 1 = 1 ∧
      fld f.body 1 1 < 16) ∨ (fld f.body 0 1 = 2 ∧ fld f.body 1 1 < 4)) → fld f.body 2 1 = 0 → tabWf s.twin.consec =
      true → ∃ t, exec (.verdict f) s = .next t ∧ t.reg (rTwCompared) = min all32 (s.reg (rTwCompared) + 1) ∧ (fld
      f.body 1 1 + (if fld f.body 0 1 = 1 then 0 else 16)) ∈ t.twin.agreed ∧ tabGet t.twin.consec (fld f.body 1 1 +
      (if fld f.body 0 1 = 1 then 0 else 16)) = none ∧ bitOf t.twin.links 2 = true ∧ t.twin.testDue = s.twin.testDue
      ∧ Only [.regs, .twin, .chk] s t) ∧
    (∀ (f : TwinRx), s.running iSW = true → (s.port 2).link = .up → (f.secured = true ∨ s.rbit rTwCtrl 0 = true) →
      f.body.length ≤ 2000 → f.checkOk = true → s.twin.role = .active → f.body.length = 12 → ((fld f.body 0 1 = 1 ∧
      fld f.body 1 1 < 16) ∨ (fld f.body 0 1 = 2 ∧ fld f.body 1 1 < 4)) → fld f.body 2 1 = 1 → ∃ t, exec (.verdict
      f) s = .next t ∧ t.reg (rTwCompared) = min all32 (s.reg (rTwCompared) + 1) ∧ t.twin.testDue = s.twin.testDue
      ++ [(fld f.body 0 1, fld f.body 1 1, fld f.body 4 8)] ∧ bitOf t.twin.links 2 = false ∧ t.rbit rTwEvent 3 =
      true ∧ Only [.regs, .twin, .chk] s t) ∧
    (∀ (f : TwinRx), s.running iSW = true → (s.port 2).link = .up → (f.secured = true ∨ s.rbit rTwCtrl 0 = true) →
      f.body.length ≤ 2000 → f.checkOk = true → s.twin.role = .active → f.body.length = 4 → ∃ t, exec (.resync f) s
      = .next t ∧ t.twin.transfer = true ∧ t.twin.partner = 2 ∧ t.twin.role = .active ∧ Only [.regs, .switch, .twin,
      .chk] s t) ∧
    (s.twin.transfer = true → s.twin.role = .active → s.twin.ship = [] → exec .fullTransferDone s = .next
      { s with twin := { s.twin with transfer := false, renewing := true } }) ∧
    (s.twin.transfer = true → s.twin.role = .standby → (∀ k ∈ runningUnits s, k ∈ s.twin.agreed) → (∀ i ∈ [iTHY,
      iLOOP, iMTR, iPF, iSW, iFLD, iBUS], s.running i = true) → bitOf s.twin.links 0 = true → ∃ t, exec
      .fullTransferDone s = .next t ∧ t.twin =
      { s.twin with transfer := false, ready := true, notReady := 0, mute := false } ∧ t.rbit rTwEvent 7 = true ∧
      Only [.regs, .twin] s t) ∧
    ((s.twin.transfer = false ∨ (s.twin.role = .active ∧ s.twin.ship ≠ []) ∨ (s.twin.role = .standby ∧ bitOf
      s.twin.links 0 = false)) → exec .fullTransferDone s = .next s) ∧
    (s.twin.role = .standby → s.twin.healthAt ≤ s.now → ∃ t, exec .healthSend s = .next t ∧ t.twin.healthAt = s.now
      + nsSec ∧ t.twin.health.shipLatency = 0 ∧ (t.port 2).queue = ((twinSend s 0x13 (healthReport s)).port 2).queue
      ∧ Only [.regs, .switch, .twin, .chk] s t) ∧
    ((s.twin.role ≠ .standby ∨ s.now < s.twin.healthAt) → exec .healthSend s = .next s) ∧
    (∀ (f : TwinRx), s.running iSW = true → (s.port 2).link = .up → (f.secured = true ∨ s.rbit rTwCtrl 0 = true) →
      f.body.length ≤ 2000 → f.checkOk = true → s.twin.role ≠ .single → f.body.length = 256 → ∃ t, exec (.health f)
      s = .next t ∧ t.twin = { s.twin with partnerHealth := f.body } ∧ Only [.regs, .twin, .chk] s t) ∧
    (s.twin.role = .standby → s.twin.testAt ≤ s.now → s.twin.testDue = [] → tabWf s.twin.health.islandTest = true →
      (∀ i ∈ [iTHY, iLOOP, iMTR, iPF], s.running i = true) → ∃ t, exec (.knownAnswerTest [true, true, true, true]) s
      = .next t ∧ t.twin.health.testsPassed = min all32 (s.twin.health.testsPassed + 4) ∧ t.twin.health.testsFailed
      = s.twin.health.testsFailed ∧ (∀ i ∈ [iTHY, iLOOP, iMTR, iPF], tabGet t.twin.health.islandTest i = some 1) ∧
      t.twin.testAt = s.now + max 1 (s.rfield rTwCtrl 8 8) * nsSec ∧ Only [.regs, .twin] s t) ∧
    (s.twin.role = .standby → s.twin.testAt ≤ s.now → s.twin.testDue = [] → (∀ i ∈ [iTHY, iLOOP, iMTR, iPF],
      s.running i = true) → (s.isl iTHY).state = .run → s.fabric.imageQueue = [] → s.thyme.exchange = none →
      s.thyme.unloading = false → s.mail.inProgress = [] → ∃ t, exec (.knownAnswerTest [false, true, true, true]) s
      = .next t ∧ t.twin.health.testsFailed = min all32 (s.twin.health.testsFailed + 1) ∧ (t.isl iTHY).state =
      .fault ∧ t.rbit (rIslFault iTHY) 4 = true ∧ t.twin.mute = true) ∧
    (∀ (k r : Nat), s.twin.role = .active → s.twin.testDue = [(1, k, r)] → k < 16 → tabWf s.twin.consec = true → ∃
      t, exec (.knownAnswerTest [true, true, true, true]) s = .next t ∧ t.reg (rTwMismatch) = min all32 (s.reg
      (rTwMismatch) + 1) ∧ t.twin.testDue = [] ∧ tabGet t.twin.consec k = some (tabGetD s.twin.consec k 0 + 1) ∧
      t.twin.health.lastMismatch = r ∧ t.twin.health.taskMismatch = tabSet s.twin.health.taskMismatch k (min all32
      (tabGetD s.twin.health.taskMismatch k 0 + 1)) ∧ (t.isl iTHY).state = (s.isl iTHY).state ∧ Only [.regs, .twin]
      s t) ∧
    (∀ (p : List Bool), (p.length ≠ 4 ∨ (s.twin.testDue = [] ∧ (s.twin.role ≠ .standby ∨ s.now < s.twin.testAt))) →
      exec (.knownAnswerTest p) s = .next s) ∧
    (s.twin.role = .standby → (s.port 2).link ≠ .up → (s.port 2).since + 15 * nsMs < s.now → bitOf s.twin.links 0 =
      true → s.twin.notReady ≠ 7 → ∃ t, exec .twinLinkDown s = .next t ∧ bitOf t.twin.links 0 = false ∧ t.twin.ready
      = false ∧ t.twin.notReady = 3 ∧ t.twin.transfer = false ∧ t.twin.stateRx = none ∧ t.rbit rTwEvent 6 = true ∧
      Only [.regs, .twin] s t) ∧
    ((s.twin.role = .active ∨ s.twin.role = .holding ∨ s.twin.role = .pairing) → (s.port 2).link ≠ .up → (s.port
      2).since + 15 * nsMs < s.now → bitOf s.twin.links 0 = true → ∃ t, exec .twinLinkDown s = .next t ∧ bitOf
      t.twin.links 0 = false ∧ t.twin.role = s.twin.role ∧ t.rbit rTwEvent 6 = true ∧ Only [.regs, .twin] s t) ∧
    ((s.twin.role = .single ∨ (s.port 2).link = .up ∨ bitOf s.twin.links 0 = false ∨ s.now ≤ (s.port 2).since + 15 *
      nsMs) → exec .twinLinkDown s = .next s) ∧
    (∀ (f : TwinRx) (p : Nat) (b : List Byte), s.running iSW = true → (s.port 2).link = .up → (f.secured = true ∨
      s.rbit rTwCtrl 0 = true) → f.body.length ≤ 2000 → f.checkOk = true → s.twin.role = .standby → f.body = leBytes
      1 p ++ leBytes 1 0 ++ leBytes 2 b.length ++ b → 4 ≤ p → p < 20 → (s.port p).link = .up → hasRoom s p (s.port
      p).cfg.jioshClass b.length = true → ∃ t, exec (.relayDown f) s = .next t ∧ (t.port p).queue = (s.port p).queue
      ++ [{ cls := (s.port p).cfg.jioshClass, bytes := b }] ∧ t.reg (rTwRelayed) = min all32 (s.reg (rTwRelayed) +
      1) ∧ t.twin.health.relayed = min all32 (s.twin.health.relayed + 1) ∧ Only [.regs, .switch, .twin, .chk] s t) ∧
    (∀ (f : TwinRx) (p : Nat) (b : List Byte), s.running iSW = true → (s.port 2).link = .up → (f.secured = true ∨
      s.rbit rTwCtrl 0 = true) → f.body.length ≤ 2000 → f.checkOk = true → s.twin.role = .active → f.body = leBytes
      1 p ++ leBytes 1 0 ++ leBytes 2 b.length ++ b → 4 ≤ p → p < 20 → innerType b = s.rfield rPfJiosh 0 16 → exec
      (.relayUp f) s = .next (jField (State.countRelayed (twinCheck s 0x21 f)) p (framePayload b) true)) ∧
    (∀ (m : List Byte), s.twin.served = [m] → m.length = 12 → s.twin.offersAt ≤ s.now → ∃ t, exec .offerSend s =
      .next t ∧ t.twin.offersAt = s.now + nsSec ∧ t.switch = (twinRing s 0x30 macBroadcast (serialBytes ++
      m)).switch ∧ Only [.regs, .switch, .twin, .chk] s t) ∧
    ((s.twin.served = [] ∨ s.now < s.twin.offersAt) → exec .offerSend s = .next s) ∧
    (∀ (f : TwinRx), s.running iSW = true → ((s.port 0).link = .up ∨ (s.port 1).link = .up) → (f.secured = true ∨
      s.rbit rTwCtrl 1 = true) → f.body.length ≤ 2000 → f.checkOk = true → f.body.length = 24 → s.twin.witnesses =
      [] → f.body.drop 12 = serialBytes → ∃ t, exec (.offer f) s = .next t ∧ t.twin.witnesses =
      [{ serial := f.body.take 12, addr := f.sender, heard := s.now }] ∧ bitOf t.twin.links 3 = true ∧ t.switch =
      (twinRing s 0x33 f.sender (leBytes 4 0 ++ leBytes 1 s.twin.role.code ++ leBytes 1 (b2n s.twin.formerActive) ++
      leBytes 2 0)).switch ∧ Only [.regs, .switch, .twin, .chk] s t) ∧
    (∀ (f : TwinRx), s.running iSW = true → ((s.port 0).link = .up ∨ (s.port 1).link = .up) → (f.secured = true ∨
      s.rbit rTwCtrl 1 = true) → f.body.length ≤ 2000 → f.checkOk = true → f.body.length ≠ 24 → ∃ t, exec (.offer f)
      s = .next t ∧ t.twin = s.twin ∧ Only [.regs, .chk] s t) ∧
    (∀ (k : Nat), k < 2 → bitOf s.twin.links (3 + k) = true → s.twin.witnesses[k]?.any (fun w => decide (s.now <
      w.heard + 3 * nsSec)) = false → ∃ t, exec (.witnessUnreachable k) s = .next t ∧ bitOf t.twin.links (3 + k) =
      false ∧ t.rbit rTwEvent 6 = true ∧ t.twin.witnesses = s.twin.witnesses ∧ Only [.regs, .twin] s t) ∧
    (∀ (k : Nat), (2 ≤ k ∨ s.twin.witnesses[k]?.any (fun w => decide (s.now < w.heard + 3 * nsSec)) = true) → exec
      (.witnessUnreachable k) s = .next s) ∧
    (∀ (w : Witness), s.twin.role = .holding → s.twin.queryAt ≤ s.now → s.twin.witnesses = [w] →
      s.twin.partnerSerial.length = 12 → ∃ t, exec .querySend s = .next t ∧ t.twin.queryNo = (s.twin.queryNo + 1) %
      2 ^ 32 ∧ t.twin.queryAt = s.now + 10 * nsMs ∧ t.twin.answers = [] ∧ t.reg (rTwQueries) = min all32 (s.reg
      (rTwQueries) + 1) ∧ t.switch = (twinRing s 0x31 w.addr (leBytes 4 ((s.twin.queryNo + 1) % 2 ^ 32) ++
      serialBytes ++ s.twin.partnerSerial)).switch ∧ Only [.regs, .switch, .twin, .chk] s t) ∧
    (s.twin.role = .standby → s.twin.notReady = 6 → s.twin.links % 4 = 0 → s.twin.queryAt ≤ s.now → ∃ t, exec
      .querySend s = .next t ∧ t.twin.queryNo = (s.twin.queryNo + 1) % 2 ^ 32 ∧ t.twin.queryAt = s.now + 50 * nsMs ∧
      Only [.regs, .switch, .twin, .chk] s t) ∧
    ((s.twin.role = .single ∨ s.twin.role = .active ∨ s.now < s.twin.queryAt) → exec .querySend s = .next s) ∧
    (∀ (f : TwinRx) (a : Nat), s.running iSW = true → ((s.port 0).link = .up ∨ (s.port 1).link = .up) → (f.secured =
      true ∨ s.rbit rTwCtrl 1 = true) → f.body.length ≤ 2000 → f.checkOk = true → f.body.length = 28 → sub f.body 4
      12 ∈ s.twin.served → sub f.body 16 12 ∈ s.twin.served → s.twin.probes = [] → s.twin.servedAt =
      [{ serial := sub f.body 16 12, addr := a }] → a ≠ f.sender → sub f.body 4 12 ≠ sub f.body 16 12 → ∃ t, exec
      (.query f) s = .next t ∧ t.twin.probes =
      [{ number := s.twin.probeNo % (2 ^ 32 - 1) + 1, addr := f.sender, asker := sub f.body 4 12, query := fld f.body 0 4, target := sub f.body 16 12, sent := s.now }]
      ∧ ({ serial := sub f.body 4 12, addr := f.sender } : ServedAt) ∈ t.twin.servedAt ∧ t.switch = (twinRing s 0x32
      a (leBytes 4 (s.twin.probeNo % (2 ^ 32 - 1) + 1) ++ sub f.body 4 12)).switch ∧ Only [.regs, .switch, .twin,
      .chk] s t) ∧
    (∀ (f : TwinRx), s.running iSW = true → ((s.port 0).link = .up ∨ (s.port 1).link = .up) → (f.secured = true ∨
      s.rbit rTwCtrl 1 = true) → f.body.length ≤ 2000 → f.checkOk = true → (f.body.length ≠ 28 ∨ sub f.body 4 12 ∉
      s.twin.served ∨ sub f.body 16 12 ∉ s.twin.served) → ∃ t, exec (.query f) s = .next t ∧ t.twin = s.twin ∧ Only
      [.regs, .chk] s t) ∧
    (∀ (f : TwinRx), s.running iSW = true → ((s.port 0).link = .up ∨ (s.port 1).link = .up) → (f.secured = true ∨
      s.rbit rTwCtrl 1 = true) → f.body.length ≤ 2000 → f.checkOk = true → f.body.length = 16 → ∃ t, exec (.probe f)
      s = .next t ∧ t.switch = (twinRing s 0x33 f.sender (leBytes 4 (fld f.body 0 4) ++ leBytes 1 s.twin.role.code
      ++ leBytes 1 (b2n s.twin.formerActive) ++ leBytes 2 0)).switch ∧ t.twin =
      { s.twin with seqTx := t.twin.seqTx } ∧ Only [.regs, .switch, .twin, .chk] s t) ∧
    (∀ (f : TwinRx) (p : Probe), s.running iSW = true → ((s.port 0).link = .up ∨ (s.port 1).link = .up) → (f.secured
      = true ∨ s.rbit rTwCtrl 1 = true) → f.body.length ≤ 2000 → f.checkOk = true → f.body.length = 8 →
      s.twin.probes = [p] → p.number = fld f.body 0 4 → p.number ≠ 0 → s.twin.servedAt =
      [{ serial := p.target, addr := f.sender }] → s.now ≤ p.sent + 5 * nsMs → ∃ t, exec (.probeReply f) s = .next t
      ∧ t.twin.probes = [] ∧ t.switch = (twinRing s 0x34 p.addr (leBytes 4 p.query ++ leBytes 1 1 ++ leBytes 1 (fld
      f.body 4 1) ++ leBytes 1 (fld f.body 5 1 % 2) ++ leBytes 1 0)).switch ∧ Only [.regs, .switch, .twin, .chk] s
      t) ∧
    (∀ (f : TwinRx) (m : List Byte), s.running iSW = true → ((s.port 0).link = .up ∨ (s.port 1).link = .up) →
      (f.secured = true ∨ s.rbit rTwCtrl 1 = true) → f.body.length ≤ 2000 → f.checkOk = true → f.body.length = 8 →
      fld f.body 0 4 = 0 → s.twin.served = [m] → s.twin.servedAt = [] → ∃ t, exec (.probeReply f) s = .next t ∧
      ({ serial := m, addr := f.sender } : ServedAt) ∈ t.twin.servedAt ∧ Only [.freeCtr, .regs, .twin, .chk] s t) ∧
    (∀ (n : Nat) (p : Probe), s.twin.probes = [p] → p.number = n → p.sent + 5 * nsMs ≤ s.now → ∃ t, exec
      (.probeTimeout n) s = .next t ∧ t.twin.probes = [] ∧ t.switch = (twinRing s 0x34 p.addr (leBytes 4 p.query ++
      leBytes 4 0)).switch ∧ Only [.regs, .switch, .twin, .chk] s t) ∧
    (∀ (n : Nat), (∀ p ∈ s.twin.probes, p.number ≠ n ∨ s.now < p.sent + 5 * nsMs) → exec (.probeTimeout n) s = .next
      s) ∧
    (∀ (f : TwinRx) (w : Witness), s.running iSW = true → ((s.port 0).link = .up ∨ (s.port 1).link = .up) →
      (f.secured = true ∨ s.rbit rTwCtrl 1 = true) → f.body.length ≤ 2000 → f.checkOk = true → s.twin.role =
      .holding → s.twin.formerActive = true → f.body.length = 8 → fld f.body 0 4 = s.twin.queryNo → s.twin.witnesses
      = [w] → w.addr = f.sender → s.twin.answers = [] → fld f.body 4 1 = 0 → s.power.floor = true →
      s.fabric.imageQueue = [] → s.thyme.exchange = none → s.thyme.unloading = false → s.mail.inProgress = [] → ∃ t,
      exec (.answer f) s = .next t ∧ t.twin.role = .active ∧ t.twin.alone = true ∧ t.twin.formerActive = true ∧
      t.rbit rTwEvent 0 = true ∧ t.twin.partner = 3 ∧ t.reg rTwCause = 0 ∧ Only [.freeCtr, .regs, .outs, .islands,
      .fabric, .mail, .thyme, .loops, .meter, .switch, .bus, .twin, .chk] s t) ∧
    (∀ (f : TwinRx) (w : Witness), s.running iSW = true → ((s.port 0).link = .up ∨ (s.port 1).link = .up) →
      (f.secured = true ∨ s.rbit rTwCtrl 1 = true) → f.body.length ≤ 2000 → f.checkOk = true → s.twin.role =
      .holding → f.body.length = 8 → fld f.body 0 4 = s.twin.queryNo → s.twin.witnesses = [w] → w.addr = f.sender →
      s.twin.answers = [] → fld f.body 4 1 = 1 → fld f.body 5 1 = 1 → s.fabric.imageQueue = [] → s.thyme.exchange =
      none → s.thyme.unloading = false → s.mail.inProgress = [] → ∃ t, exec (.answer f) s = .next t ∧ t.twin.role =
      .standby ∧ t.twin.ready = false ∧ t.twin.formerActive = false ∧ t.rbit rTwEvent 0 = true ∧ t.twin.notReady = 6
      ∧ t.twin.partner = 1 ∧ t.reg rTwCause = 0 ∧ Only [.freeCtr, .regs, .outs, .islands, .fabric, .mail, .thyme,
      .loops, .meter, .switch, .bus, .twin, .chk] s t) ∧
    (∀ (f : TwinRx), s.running iSW = true → ((s.port 0).link = .up ∨ (s.port 1).link = .up) → (f.secured = true ∨
      s.rbit rTwCtrl 1 = true) → f.body.length ≤ 2000 → f.checkOk = true → (f.body.length ≠ 8 ∨ fld f.body 0 4 ≠
      s.twin.queryNo ∨ s.twin.role = .single) → ∃ t, exec (.answer f) s = .next t ∧ t.twin = s.twin ∧ Only [.regs,
      .chk] s t)

/-- 17 R465, R467 to R484, Tables 17.3 to 17.8. The fuse's state 0 is off, 3 powered, 4 waiting to retry, 5 class
mismatch. The capacitance found at start is free (log 1). -/
def Obligations.PowerEvents : Prop :=
  ∀ (s : State),
    (∀ (d : ResetDue), s.power.reset = some d → d.at_ ≤ s.now → d.sage = false → ∃ t, exec .systemResetStart s =
      .next t ∧ t.power.causeDue = some (d.cause) ∧ t.power.started = false ∧ t.clock = { gm := none } ∧ t.pending =
      s.pending ∧ t.thyme.loaded = none ∧ t.mail.inProgress = [] ∧ t.fabric.store = [] ∧ t.chk = {} ∧ (∀ i, i < 12 →
      (t.isl i).state = .reset)) ∧
    (∀ (d : ResetDue), s.power.reset = some d → d.at_ ≤ s.now → d.sage = true → (s.isl iSAGE).state = .run → (s.isl
      iSAGE).draining = false → s.running iMGT = true → ∃ t, exec .systemResetStart s = .next t ∧ t.power.reset = none ∧ (t.isl
      iSAGE).target = .reset ∧ (t.isl iSAGE).draining = true ∧ t.power.started = s.power.started ∧ t.fabric =
      s.fabric) ∧
    (s.power.reset.any (fun d => decide (d.at_ ≤ s.now)) = false → exec .systemResetStart s = .next s) ∧
    (∀ (vin : Nat), s.power.started = false → 21000 ≤ vin → s.rfield rPwCtrl 0 9 * 100 + 1000 ≤ vin → ∃ t, exec
      (.moduleStart vin) s = .next t ∧ t.power.started = true ∧ t.power.vinMv = vin ∧ t.power.resetPin = false ∧
      t.power.measuredAt = s.now ∧ (∀ i, i < 12 → i ≠ iALM → (t.isl i).state ≠ .off)) ∧
    (∀ (vin : Nat), (s.power.started = true ∨ vin < 21000 ∨ vin < s.rfield rPwCtrl 0 9 * 100 + 1000) → exec
      (.moduleStart vin) s = .next s) ∧
    (s.power.started = true → s.power.startDone = false → s.rbit rPfStatus 0 = true → s.running iMGT = true →
      s.twin.role ≠ .pairing → ∃ t, exec .startComplete s = .next t ∧ t.power.startDone = true ∧ t.update = Update.commit { s.update with trials := 0 } ∧ t.rbit rMgEvent 0 = true ∧ (t.power.staged.head?.map fun e => (e.level,
      e.code, e.detail)) = some (0, 0x1F10, s.now / 1000000 % 2 ^ 32) ∧ Only [.regs, .power, .update] s t) ∧
    ((s.power.started = false ∨ s.power.startDone = true ∨ s.rbit rPfStatus 0 = false ∨ s.twin.role = .pairing) →
      exec .startComplete s = .next s) ∧
    (∃ t, exec .resetNAssert s = .next t ∧ t.power.resetPin = true ∧ t.power.causeDue = some (2) ∧ t.power.started =
      false ∧ t.clock = { gm := none } ∧ t.pending = s.pending ∧ t.thyme.loaded = none ∧ t.mail.inProgress = [] ∧
      t.fabric.store = [] ∧ t.chk = {} ∧ (∀ i, i < 12 → (t.isl i).state = .reset)) ∧
    (∀ (vin : Nat), s.power.started = true → s.power.warn = false → vin < s.rfield rPwCtrl 0 9 * 100 → s.rbit
      rPwCtrl 16 = false → s.power.fieldOk = true → ∃ t, exec (.pwrWarnAssert vin) s = .next t ∧ t.power.warn = true
      ∧ t.power.warnAt = s.now ∧ t.power.saving = true ∧ t.power.shed = true ∧ t.power.vinMv = vin ∧ t.mail.ready =
      false ∧ t.reg rPwSave = 0 ∧ t.rbit rPwEvent 0 = true ∧ t.reg (rPwWarns) = min all32 (s.reg (rPwWarns) + 1) ∧
      t.power.fuses = s.power.fuses ∧ t.clock = s.clock ∧ t.almanac = s.almanac) ∧
    (∀ (vin : Nat), (s.power.started = false ∨ s.power.warn = true ∨ s.rfield rPwCtrl 0 9 * 100 ≤ vin) → exec
      (.pwrWarnAssert vin) s = .next s) ∧
    (∀ (us : Nat), s.power.saving = true → s.meter.warnDue = false → ∃ t, exec (.warningSaveDone us) s = .next t ∧ t.power.saving = false ∧
      t.reg rPwSave = min us 65535 + 65536 ∧ t.rbit rPwEvent 2 = true ∧ Only [.regs, .fabric, .power, .chk] s t) ∧
    (∀ (us : Nat), s.power.saving = false → exec (.warningSaveDone us) s = .next s) ∧
    (∀ (vin vstore : Nat), s.power.started = true → s.power.warn = true → s.rfield rPwCtrl 0 9 * 100 + 1000 ≤ vin →
      29000 ≤ vstore → s.power.shed = false → s.power.saving = false → exec (.pwrWarnRelease vin vstore) s = .next
      { s with power := { s.power with warn := false, storeReady := true, vinMv := vin, vstoreMv := vstore } }) ∧
    (∀ (vin vstore : Nat), s.power.started = true → s.power.warn = true → s.rfield rPwCtrl 0 9 * 100 + 1000 ≤ vin →
      29000 ≤ vstore → s.power.shed = true → s.power.saving = false → (s.isl iSAGE).state = .idle → (s.isl
      iTHY).state = .run → (s.isl iTHY).draining = false → (s.isl iLOOP).state = .run → (s.isl iLOOP).draining =
      false → s.running iMGT = true → (∀ m, m < 16 → (s.box m).state ≠ .working) → ∃ t, exec (.pwrWarnRelease vin vstore) s = .next t ∧
      t.power.warn = false ∧ t.power.shed = false ∧ t.power.nextPort = s.now ∧ t.rbit rPwEvent 1 = true ∧ (t.isl
      iSAGE).state = .run ∧ t.mail.ready = true) ∧
    (∀ (vin vstore : Nat), (s.power.started = false ∨ s.power.warn = false ∨ vin < s.rfield rPwCtrl 0 9 * 100 + 1000
      ∨ vstore < 29000) → exec (.pwrWarnRelease vin vstore) s = .next s) ∧
    (s.power.started = true → ∃ t, exec .holdupEnd s = .next t ∧ t.power.causeDue = some (if s.power.warn = true ∧
      s.rbit rPwSave 16 = true then 1 else 0) ∧ t.power.started = false ∧ t.power.vstoreMv = 0 ∧ t.thyme.loaded =
      none ∧ t.pending = s.pending ∧ (∀ i, i < 12 → (t.isl i).state = .off ∧ (t.isl i).epoch = 0)) ∧
    (s.power.started = false → exec .holdupEnd s = .next s) ∧
    (∀ (c : Nat), s.running iMGT = true → s.power.measuredAt + 86400 * nsSec ≤ s.now → ∃ t, exec (.holdupMeasure c)
      s = .next t ∧ t.power.measuredAt = s.now ∧ t.reg rPwHoldup = min c 4095 + min 255 ((125 * c - 2940) / 100) *
      65536 ∧ ((125 * c - 2940) / 100 < 80 → t.rbit rPwEvent 3 = true) ∧ Only [.regs, .power] s t) ∧
    (∀ (c : Nat), (s.running iMGT = false ∨ s.now < s.power.measuredAt + 86400 * nsSec) → exec (.holdupMeasure c) s
      = .next s) ∧
    (∀ (n : Nat), n < 16 → 1 ≤ (s.fuse n).state → (s.fuse n).state ≤ 3 → (s.fuse n).trips = [] → (s.isl iMGT).state = .run → (s.isl iMGT).draining = false → (s.epochOf iFLD iMGT = 0 ∨ s.epochOf iFLD iMGT = (s.isl iMGT).epoch) → ∃ t, exec
      (.fuseTrip n) s = .next t ∧ (t.fuse n).state = 4 ∧ (t.fuse n).due = s.now + nsSec ∧ (t.fuse n).pdClass = 0 ∧
      (t.fuse n).ma = 0 ∧ (t.fuse n).latched = false ∧ t.reg (rPwPTrips n) = min all32 (s.reg (rPwPTrips n) + 1) ∧
      t.rbit rPwEvent 5 = true ∧ (t.power.staged.head?.map fun e => (e.level, e.code, e.detail)) = some (1, 0x1F12,
      n) ∧ Only [.regs, .power, .islands] s t ∧ (∀ k, k ≠ n → t.fuse k = s.fuse k)) ∧
    (∀ (n a b : Nat), n < 16 → 1 ≤ (s.fuse n).state → (s.fuse n).state ≤ 3 → (s.fuse n).trips = [a, b] → s.now < a +
      60 * nsSec → s.now < b + 60 * nsSec → ∃ t, exec (.fuseTrip n) s = .next t ∧ (t.fuse n).state = 0 ∧ (t.fuse
      n).latched = true ∧ t.reg (rPwPTrips n) = min all32 (s.reg (rPwPTrips n) + 1) ∧ Only [.regs, .power, .islands] s t ∧ (∀
      k, k ≠ n → t.fuse k = s.fuse k)) ∧
    (∀ (n : Nat), (16 ≤ n ∨ (s.fuse n).state = 0 ∨ 3 < (s.fuse n).state) → exec (.fuseTrip n) s = .next s) ∧
    (∀ (n c : Nat), n < 16 → s.running iFLD = true → s.power.started = true → s.power.fieldOk = true → s.power.shed = false → s.rbit
      rPfStatus 0 = true → s.rbit rPwFuseEn n = true → (s.fuse n).state = 4 → (s.fuse n).due ≤ s.now → ∃ t, exec
      (.fuseRetry n (.pdClass c)) s = .next t ∧ (t.fuse n) =
      { s.fuse n with state := (if c = s.rfield (rPwPCfg n) 0 4 + 10 then 3 else 5), pdClass := (if 10 ≤ c ∧ c ≤ 13 then c - 10 else 15) }
      ∧ Only [.power] s t ∧ (∀ k, k ≠ n → t.fuse k = s.fuse k)) ∧
    (∀ (n : Nat), n < 16 → s.running iFLD = true → s.power.started = true → s.power.fieldOk = true → s.power.shed = false → s.rbit rPfStatus
      0 = true → s.rbit rPwFuseEn n = true → (s.fuse n).state = 4 → (s.fuse n).due ≤ s.now → (s.fuse n).trips = [] →
      ∃ t, exec (.fuseRetry n .failed) s = .next t ∧ (t.fuse n).state = 4 ∧ (t.fuse n).due = s.now + nsSec ∧ t.reg
      (rPwPTrips n) = min all32 (s.reg (rPwPTrips n) + 1) ∧ Only [.regs, .power, .islands] s t ∧ (∀ k, k ≠ n → t.fuse k =
      s.fuse k)) ∧
    (∀ (n : Nat) (x : PowerProbe), (16 ≤ n ∨ s.running iFLD = false ∨ (s.fuse n).state ≠ 4 ∨ s.now < (s.fuse n).due ∨ s.power.fieldOk =
      false) → exec (.fuseRetry n x) s = .next s) ∧
    (∀ (n : Nat), n < 16 → (s.fuse n).state = 3 → (∀ m, m < 16 → n < m → (s.fuse m).state ≠ 3) → (s.fuse n).trips =
      [] → (s.isl iMGT).state = .run → (s.isl iMGT).draining = false → (s.epochOf iFLD iMGT = 0 ∨ s.epochOf iFLD iMGT = (s.isl iMGT).epoch) → ∃ t, exec .fieldOvercurrent s = .next t ∧ (t.fuse n).state = 4 ∧ t.reg (rPwPTrips n) = min all32 (s.reg
      (rPwPTrips n) + 1) ∧ t.rbit rPwEvent 5 = true ∧ Only [.regs, .power, .islands] s t ∧ (∀ k, k ≠ n → t.fuse k = s.fuse k))
      ∧
    ((∀ n, n < 16 → (s.fuse n).state ≠ 3) → exec .fieldOvercurrent s = .next s) ∧
    (∀ (n c : Nat), n < 16 → s.running iFLD = true → s.power.started = true → s.power.fieldOk = true → s.power.shed = false → s.rbit
      rPfStatus 0 = true → s.rbit rPwFuseEn n = true → (s.fuse n).state = 0 → (s.fuse n).latched = false →
      s.power.nextPort ≤ s.now → (∀ m, m < n → s.rbit rPwFuseEn m = false ∨ (s.fuse m).state ≠ 0 ∨ (s.fuse
      m).latched = true) → ∃ t, exec (.portPowerUp n (.pdClass c)) s = .next t ∧ (t.fuse n).state = (if c = s.rfield
      (rPwPCfg n) 0 4 + 10 then 3 else 5) ∧ t.power.nextPort = s.now + 20 * nsMs ∧ Only [.power] s t ∧ (∀ k, k ≠ n →
      t.fuse k = s.fuse k)) ∧
    (∀ (n : Nat) (x : PowerProbe), (16 ≤ n ∨ s.running iFLD = false ∨ s.power.fieldOk = false ∨ s.rbit rPwFuseEn n = false ∨ (s.fuse n).state
      ≠ 0 ∨ (s.fuse n).latched = true ∨ s.now < s.power.nextPort) → exec (.portPowerUp n x) s = .next s) ∧
    (s.power.fieldOk = true → ∃ t, exec .fieldLost s = .next t ∧ t.power.fieldOk = false ∧ t.rbit rPwEvent 4 = true
      ∧ (t.power.staged.head?.map fun e => (e.level, e.code, e.detail)) = some (1, 0x1204, 0) ∧ Only [.regs, .power]
      s t ∧ (∀ n, (t.fuse n).state = 0)) ∧
    (s.power.fieldOk = false → exec .fieldLost s = .next s) ∧
    (s.power.fieldOk = false → exec .fieldReturn s = .next
      { s with power := { s.power with fieldOk := true, nextPort := s.now } }) ∧
    (s.power.fieldOk = true → exec .fieldReturn s = .next s) ∧
    (∀ (x : SensorReading), s.running iMGT = true → x.railFaults = [] → s.rbit rPfStatus 0 = false → ∃ t, exec
      (.sensorSample x) s = .next t ∧ t.reg rMgTempBoard = uNat 16 x.board ∧ t.reg rPwVin = min 65535 x.vinMv + min
      65535 x.vinMa * 65536 ∧ t.reg rPwField = min 65535 x.fieldMv + min 65535 x.fieldMa * 65536 ∧ t.power.vinMv =
      x.vinMv ∧ t.power.vstoreMv = x.vstoreMv ∧ t.reg (rMgRail 5) = x.rails.getD 5 0 % 65536 ∧ (∀ n, n < 16 →
      (t.fuse n).ma = min 4095 (x.portMa.getD n 0)) ∧ Only [.regs, .power] s t) ∧
    (∀ (x : SensorReading), s.running iMGT = true → x.railFaults = [] → 0 < s.tai → s.tai < 2 ^ 64 → s.rbit
      rPfStatus 0 = true → (s.isl iPF).state = .run → (s.isl iPF).draining = false → (s.epochOf iMGT iPF = 0 ∨
      s.epochOf iMGT iPF = (s.isl iPF).epoch) → (∀ k ∈ [0, 1, 2, 3, 4, 16, 17, 18, 19, 20, 21, 22, 23, 24, 25, 26,
      27, 32, 33, 34, 35, 36], Sound s (0x100 + k) ∧ (s.point (0x100 + k)).type = 5 ∧ (s.point (0x100 + k)).owner =
      house ∧ (s.point (0x100 + k)).flag fLocked = false ∧ forceIndex s (0x100 + k) = none ∧ forceOf s (0x100 + k) =
      none) → ∃ t, exec (.sensorSample x) s = .next t ∧ (t.point 0x104) = PointRec.sealed
      { s.point 0x104 with value := scaled x.board 10, time := s.tai, quality := qGood, writer := wSensors } ∧ t.reg
      rMgTempBoard = uNat 16 x.board) ∧
    (∀ (x : SensorReading) (r i : Nat), s.running iMGT = true → x.railFaults = [r] → 2 ≤ r → r < 12 → s.rbit
      (rMgRail r) 16 = false → s.rbit rPfStatus 0 = false → s.twin.role = .single → i < 12 → i ≠ iMGT → islandRail i
      = r → (s.isl i).state = .run → s.mail.inProgress = [] → ∃ t, exec (.sensorSample x) s = .next t ∧ (t.isl
      i).state = .fault ∧ t.rbit (rIslFault i) 5 = true ∧ t.rbit rMgEvent 4 = true) ∧
    (∀ (x : SensorReading), s.running iMGT = false → exec (.sensorSample x) s = .next s) ∧
    (s.running iMGT = true → s.power.hot = false → ∃ t, exec .thermalShutdown s = .next t ∧ t.power.hot = true ∧
      t.power.causeDue = some (6) ∧ t.power.started = false ∧ t.clock = { gm := none } ∧ t.pending = s.pending ∧
      t.thyme.loaded = none ∧ t.mail.inProgress = [] ∧ t.fabric.store = [] ∧ t.chk = {} ∧ (∀ i, i < 12 → (t.isl
      i).state = .reset)) ∧
    ((s.running iMGT = false ∨ s.power.hot = true) → exec .thermalShutdown s = .next s) ∧
    (exec .faultLogFlush s = .next
      { s with power := { s.power with log := (s.power.staged ++ s.power.log).take 16384, staged := [] } }) ∧
    (exec .dieCooled s = .next { s with power := { s.power with hot := false } })

/-- 18 R506, R508 to R512, Tables 18.6, 18.7; 19 R518, R519, R523, R524, Table 19.10. What the final checks find rests
on free functions (log 16), so their two ends are stated as implications. -/
def Obligations.SecurityEvents : Prop :=
  ∀ (s : State),
    (∀ (k : Nat), k < 6 → s.almanac.onVbat = false → s.rbit rVgNow k = false → s.rfield rVgCfg (2 * k) 2 = 1 → ∃ t,
      exec (.vigilSource [k]) s = .next t ∧ t.rbit rVgNow k = true ∧ t.rbit rVgLatch k = true ∧
      (t.power.staged.head?.map fun e => (e.level, e.code, e.detail)) = some (2, 512 + k, k) ∧ t.vault = s.vault ∧
      Only [.regs, .power] s t) ∧
    (∀ (k : Nat), k < 6 → s.almanac.onVbat = false → s.rbit rVgNow k = false → s.rfield rVgCfg (2 * k) 2 = 3 →
      s.twin.role = .single → s.mail.sessions = [] → s.mail.boxes.all (fun p => p.1 == 0) = true → ∃ t, exec
      (.vigilSource [k]) s = .next t ∧ t.rbit rVgLatch k = true ∧ t.rfield rVgLatch 8 2 = 3 ∧ t.vault.seed = 0 ∧
      t.vault.reseedDue = true ∧ t.reg rVgL3Time = s.almanac.cal.timeWord ∧ t.reg rVgL3Date = s.almanac.cal.dateWord
      ∧ t.vault.copy0 = [] ∧ t.vault.copy1 = [] ∧ t.vault.debugOpen = false ∧ t.almanac = s.almanac ∧ t.fabric =
      s.fabric ∧ t.harvest = s.harvest) ∧
    (exec (.vigilSource []) s = .next (s.setReg rVgNow 0)) ∧
    (∀ (by_ : Agent) (v : Word) (k : Nat), Reaches s by_ rVgLatch v.toNat true → k < 6 → s.rfield rVgLatch 0 6 = 2 ^
      k → v.toNat = 2 ^ k → s.rbit rVgNow k = false → ∃ t, exec (.vgLatchClear by_ v) s = .next t ∧
      t.outs.readStatus = 0 ∧ t.rbit rVgLatch k = false ∧ t.rfield rVgLatch 0 6 = 0 ∧ t.reg rVgLatch = 0 ∧ Only
      [.regs, .outs, .islands] s t) ∧
    (∀ (by_ : Agent) (v : Word) (k : Nat), Reaches s by_ rVgLatch v.toNat true → k < 6 → s.rbit rVgLatch k = true →
      v.toNat = 2 ^ k → s.rbit rVgNow k = true → s.rfield rVgCfg (2 * k) 2 = 1 → s.almanac.onVbat = false → ∃ t,
      exec (.vgLatchClear by_ v) s = .next t ∧ t.outs.readStatus = 0 ∧ t.rbit rVgLatch k = true ∧
      (t.power.staged.head?.map fun e => (e.level, e.code, e.detail)) = some (2, 512 + k, k)) ∧
    (∀ (by_ : Agent) (v : Word), Reaches s by_ rVgCfg v.toNat true → s.rbit rVgCfg 31 = false → ∃ t, exec
      (.vgCfgWrite by_ v) s = .next t ∧ t.outs.readStatus = 0 ∧ (∀ k, k < 6 → t.rfield rVgCfg (2 * k) 2 = max (if k
      = 2 then 2 else if k = 3 ∨ k = 4 then 1 else 0) (bitsOf v.toNat (2 * k) 2)) ∧ t.rbit rVgCfg 31 = bitOf v.toNat
      31 ∧ Only [.regs, .outs, .islands] s t) ∧
    (∀ (by_ : Agent) (v : Word), Reaches s by_ rVgCfg v.toNat true → s.rbit rVgCfg 31 = true → ∃ t, exec
      (.vgCfgWrite by_ v) s = .next t ∧ t.outs.readStatus = 0 ∧ t.regs = s.regs ∧ Only [.outs, .islands] s t) ∧
    (s.running iVLT = true → s.vault.reseedDue = true → s.mail.sessions = [] → s.mail.boxes.all (fun p => p.1 == 0)
      = true → ∃ t, exec .vaultReseed s = .next t ∧ t.vault.seed = Config.freeNat s.freeCtr ∧ t.freeCtr = s.freeCtr
      + 1 ∧ t.vault.reseedDue = false ∧ t.vault.reseeded = true ∧ t.vault.copy0 = [] ∧ t.vault.copy1 = [] ∧
      t.vault.working = 0 ∧ t.vault.coreLost = false ∧ t.vault.seedLost = (s.vault.seedLost || s.vault.coreLost) ∧
      t.rbit rKvEvent 1 = true ∧ t.fabric = s.fabric) ∧
    ((s.running iVLT = false ∨ s.vault.reseedDue = false) → exec .vaultReseed s = .next s) ∧
    (∀ (m : Nat), s.update.trialing = true → s.update.resetAt = none → s.rfield rUpCtrl 0 8 = m → m ≠ 0 → m * 60 *
      nsSec ≤ s.update.trialBefore + (s.now - s.update.trialFrom) → ∃ t, exec .confirmTimeout s = .next t ∧
      t.update.active = !s.update.active ∧ (activeSlot t).state = 3 ∧ (spareSlot t).state = 2 ∧ t.update.resetAt =
      some s.now ∧ t.rbit rUpEvent 5 = true ∧ t.rbit rUpEvent 6 = true ∧ (t.power.staged.head?.map fun e =>
      (e.level, e.code, e.detail)) = some (2, 0x1306, 0) ∧ Only [.regs, .power, .update] s t) ∧
    ((s.update.trialing = false ∨ s.update.resetAt.isSome = true ∨ s.rfield rUpCtrl 0 8 = 0) → exec .confirmTimeout
      s = .next s) ∧
    (s.update.trialing = true → s.update.counted = false → s.power.started = true → s.update.trials < 3 →
      (activeSlot s).header = [] → exec .trialStart s = .next
      { s with update := Update.commit { s.update with trials := s.update.trials + 1, counted := true } }) ∧
    (s.update.trialing = true → s.update.counted = false → s.power.started = true → 3 ≤ s.update.trials → ∃ t, exec
      .trialStart s = .next t ∧ t.update.active = !s.update.active ∧ (activeSlot t).state = 3 ∧ (spareSlot t).state
      = 2 ∧ t.update.resetAt = some s.now ∧ t.rbit rUpEvent 5 = true ∧ t.rbit rUpEvent 6 = true ∧
      (t.power.staged.head?.map fun e => (e.level, e.code, e.detail)) = some (2, 0x1306, 0) ∧ Only [.regs, .power,
      .update] s t) ∧
    ((s.update.trialing = false ∨ s.update.counted = true ∨ s.power.started = false) → exec .trialStart s = .next s)
      ∧
    (∀ (by_ : Agent) (v : Word), Reaches s by_ rUpCtrl v.toNat true → bitOf v.toNat 8 = true → s.update.stage = 1 →
      (spareSlot s).state = 1 → transferOf s 0x0D02 = none → ∃ t, exec (.abandon by_ v) s = .next t ∧
      t.outs.readStatus = 0 ∧ t.update.stage = 0 ∧ (spareSlot t).state = 0 ∧ t.reg rUpCtrl = v.toNat % 256 ∧
      t.update.active = s.update.active ∧ activeSlot t = activeSlot s ∧ Only [.regs, .outs, .islands, .update,
      .mail] s t) ∧
    (∀ (by_ : Agent) (v : Word), Reaches s by_ rUpCtrl v.toNat true → bitOf v.toNat 8 = false → ∃ t, exec (.abandon
      by_ v) s = .next t ∧ t.outs.readStatus = 0 ∧ t.update = s.update ∧ t.reg rUpCtrl = v.toNat % 256 ∧ Only
      [.regs, .outs, .islands] s t) ∧
    (s.update.stage = 2 → s.running iMGT = true → ∃ t, exec .updateFinalChecked s = .next t ∧ t.update.stage = 0 ∧
      t.update.active = s.update.active ∧ ((finalChecks s (spareSlot s)).1.1.isNone = true → t.rbit rUpEvent 1 =
      true) ∧ ((finalChecks s (spareSlot s)).1.1.isSome = true → t.rbit rUpEvent 2 = true)) ∧
    ((s.update.stage ≠ 2 ∨ s.running iMGT = false) → exec .updateFinalChecked s = .next s) ∧
    (∀ (r : Nat), s.update.resetAt = some r → r ≤ s.now → ∃ t, exec .updateReset s = .next t ∧ t.power.causeDue =
      some (4) ∧ t.power.started = false ∧ t.clock = { gm := none } ∧ t.pending = s.pending ∧ t.thyme.loaded = none
      ∧ t.mail.inProgress = [] ∧ t.fabric.store = [] ∧ t.chk = {} ∧ (∀ i, i < 12 → (t.isl i).state = .reset)) ∧
    (s.update.resetAt.any (fun r => decide (r ≤ s.now)) = false → exec .updateReset s = .next s) ∧
    (∀ (r : Route), ∃ t, exec (.attestPartsExpire r) s = .next t ∧ t.vault.statements = s.vault.statements.filter
      (fun x => x.route != r || decide (s.now < x.made + 60 * nsSec)) ∧ Only [.vault] s t)
end

