-- ==== Sys2Proof/Laws/State.lean ====
section
/-! SUPPORT. What each update of the state leaves alone: one lemma per field, and per reading of a field, per update. -/

namespace Sys2Proof.Machine

/-- What both branches of a conditional answer, the conditional answers. -/
theorem ite_both {α β : Type} (f : α → β) {c : Prop} [Decidable c] {x y : α} {v : β} (hx : f x = v) (hy : f y = v) :
    f (if c then x else y) = v := by
  split
  · exact hx
  · exact hy


/-! ### setReg -/

@[simp] theorem setReg_pending (s : State) (b v : Nat) : (s.setReg b v).pending = s.pending := rfl
@[simp] theorem setReg_freeCtr (s : State) (b v : Nat) : (s.setReg b v).freeCtr = s.freeCtr := rfl
@[simp] theorem setReg_outs (s : State) (b v : Nat) : (s.setReg b v).outs = s.outs := rfl
@[simp] theorem setReg_clock (s : State) (b v : Nat) : (s.setReg b v).clock = s.clock := rfl
@[simp] theorem setReg_islands (s : State) (b v : Nat) : (s.setReg b v).islands = s.islands := rfl
@[simp] theorem setReg_fabric (s : State) (b v : Nat) : (s.setReg b v).fabric = s.fabric := rfl
@[simp] theorem setReg_harvest (s : State) (b v : Nat) : (s.setReg b v).harvest = s.harvest := rfl
@[simp] theorem setReg_mail (s : State) (b v : Nat) : (s.setReg b v).mail = s.mail := rfl
@[simp] theorem setReg_thyme (s : State) (b v : Nat) : (s.setReg b v).thyme = s.thyme := rfl
@[simp] theorem setReg_loops (s : State) (b v : Nat) : (s.setReg b v).loops = s.loops := rfl
@[simp] theorem setReg_meter (s : State) (b v : Nat) : (s.setReg b v).meter = s.meter := rfl
@[simp] theorem setReg_switch (s : State) (b v : Nat) : (s.setReg b v).switch = s.switch := rfl
@[simp] theorem setReg_almanac (s : State) (b v : Nat) : (s.setReg b v).almanac = s.almanac := rfl
@[simp] theorem setReg_bus (s : State) (b v : Nat) : (s.setReg b v).bus = s.bus := rfl
@[simp] theorem setReg_twin (s : State) (b v : Nat) : (s.setReg b v).twin = s.twin := rfl
@[simp] theorem setReg_power (s : State) (b v : Nat) : (s.setReg b v).power = s.power := rfl
@[simp] theorem setReg_vault (s : State) (b v : Nat) : (s.setReg b v).vault = s.vault := rfl
@[simp] theorem setReg_update (s : State) (b v : Nat) : (s.setReg b v).update = s.update := rfl
@[simp] theorem setReg_irq (s : State) (b v : Nat) : (s.setReg b v).irq = s.irq := rfl
@[simp] theorem setReg_chk (s : State) (b v : Nat) : (s.setReg b v).chk = s.chk := rfl
@[simp] theorem setReg_isl (s : State) (b v : Nat) (k : Nat) : (s.setReg b v).isl k = s.isl k := rfl
@[simp] theorem setReg_running (s : State) (b v : Nat) (k : Nat) : (s.setReg b v).running k = s.running k := rfl
@[simp] theorem setReg_mayMove (s : State) (b v : Nat) (k : Nat) : (s.setReg b v).mayMove k = s.mayMove k := rfl
@[simp] theorem setReg_tai (s : State) (b v : Nat) : (s.setReg b v).tai = s.tai := rfl
@[simp] theorem setReg_now (s : State) (b v : Nat) : (s.setReg b v).now = s.now := rfl
@[simp] theorem setReg_port (s : State) (b v : Nat) (k : Nat) : (s.setReg b v).port k = s.port k := rfl
@[simp] theorem setReg_point (s : State) (b v : Nat) (k : Nat) : (s.setReg b v).point k = s.point k := rfl
@[simp] theorem setReg_defined (s : State) (b v : Nat) (k : Nat) : (s.setReg b v).defined k = s.defined k := rfl
@[simp] theorem setReg_failedPt (s : State) (b v : Nat) (k : Nat) : (s.setReg b v).failedPt k = s.failedPt k := rfl
@[simp] theorem setReg_task (s : State) (b v : Nat) (k : Nat) : (s.setReg b v).task k = s.task k := rfl
@[simp] theorem setReg_box (s : State) (b v : Nat) (k : Nat) : (s.setReg b v).box k = s.box k := rfl
@[simp] theorem setReg_chan (s : State) (b v : Nat) (k : Nat) : (s.setReg b v).chan k = s.chan k := rfl
@[simp] theorem setReg_acc (s : State) (b v : Nat) (k : Nat) : (s.setReg b v).acc k = s.acc k := rfl
@[simp] theorem setReg_loop (s : State) (b v : Nat) (k : Nat) : (s.setReg b v).loop k = s.loop k := rfl
@[simp] theorem setReg_group (s : State) (b v : Nat) (k : Nat) : (s.setReg b v).group k = s.group k := rfl
@[simp] theorem setReg_chkChan (s : State) (b v : Nat) (k : Nat) : (s.setReg b v).chkChan k = s.chkChan k := rfl
@[simp] theorem setReg_controls (s : State) (b v : Nat) : (s.setReg b v).controls = s.controls := rfl
@[simp] theorem setReg_shadow (s : State) (b v : Nat) : (s.setReg b v).shadow = s.shadow := rfl
@[simp] theorem setReg_acts (s : State) (b v : Nat) : (s.setReg b v).acts = s.acts := rfl

/-! ### setField -/

@[simp] theorem setField_pending (s : State) (b l0 w0 v : Nat) : (s.setField b l0 w0 v).pending = s.pending := rfl
@[simp] theorem setField_freeCtr (s : State) (b l0 w0 v : Nat) : (s.setField b l0 w0 v).freeCtr = s.freeCtr := rfl
@[simp] theorem setField_outs (s : State) (b l0 w0 v : Nat) : (s.setField b l0 w0 v).outs = s.outs := rfl
@[simp] theorem setField_clock (s : State) (b l0 w0 v : Nat) : (s.setField b l0 w0 v).clock = s.clock := rfl
@[simp] theorem setField_islands (s : State) (b l0 w0 v : Nat) : (s.setField b l0 w0 v).islands = s.islands := rfl
@[simp] theorem setField_fabric (s : State) (b l0 w0 v : Nat) : (s.setField b l0 w0 v).fabric = s.fabric := rfl
@[simp] theorem setField_harvest (s : State) (b l0 w0 v : Nat) : (s.setField b l0 w0 v).harvest = s.harvest := rfl
@[simp] theorem setField_mail (s : State) (b l0 w0 v : Nat) : (s.setField b l0 w0 v).mail = s.mail := rfl
@[simp] theorem setField_thyme (s : State) (b l0 w0 v : Nat) : (s.setField b l0 w0 v).thyme = s.thyme := rfl
@[simp] theorem setField_loops (s : State) (b l0 w0 v : Nat) : (s.setField b l0 w0 v).loops = s.loops := rfl
@[simp] theorem setField_meter (s : State) (b l0 w0 v : Nat) : (s.setField b l0 w0 v).meter = s.meter := rfl
@[simp] theorem setField_switch (s : State) (b l0 w0 v : Nat) : (s.setField b l0 w0 v).switch = s.switch := rfl
@[simp] theorem setField_almanac (s : State) (b l0 w0 v : Nat) : (s.setField b l0 w0 v).almanac = s.almanac := rfl
@[simp] theorem setField_bus (s : State) (b l0 w0 v : Nat) : (s.setField b l0 w0 v).bus = s.bus := rfl
@[simp] theorem setField_twin (s : State) (b l0 w0 v : Nat) : (s.setField b l0 w0 v).twin = s.twin := rfl
@[simp] theorem setField_power (s : State) (b l0 w0 v : Nat) : (s.setField b l0 w0 v).power = s.power := rfl
@[simp] theorem setField_vault (s : State) (b l0 w0 v : Nat) : (s.setField b l0 w0 v).vault = s.vault := rfl
@[simp] theorem setField_update (s : State) (b l0 w0 v : Nat) : (s.setField b l0 w0 v).update = s.update := rfl
@[simp] theorem setField_irq (s : State) (b l0 w0 v : Nat) : (s.setField b l0 w0 v).irq = s.irq := rfl
@[simp] theorem setField_chk (s : State) (b l0 w0 v : Nat) : (s.setField b l0 w0 v).chk = s.chk := rfl
@[simp] theorem setField_isl (s : State) (b l0 w0 v : Nat) (k : Nat) : (s.setField b l0 w0 v).isl k = s.isl k := rfl
@[simp] theorem setField_running (s : State) (b l0 w0 v : Nat) (k : Nat) : (s.setField b l0 w0 v).running k = s.running k := rfl
@[simp] theorem setField_mayMove (s : State) (b l0 w0 v : Nat) (k : Nat) : (s.setField b l0 w0 v).mayMove k = s.mayMove k := rfl
@[simp] theorem setField_tai (s : State) (b l0 w0 v : Nat) : (s.setField b l0 w0 v).tai = s.tai := rfl
@[simp] theorem setField_now (s : State) (b l0 w0 v : Nat) : (s.setField b l0 w0 v).now = s.now := rfl
@[simp] theorem setField_port (s : State) (b l0 w0 v : Nat) (k : Nat) : (s.setField b l0 w0 v).port k = s.port k := rfl
@[simp] theorem setField_point (s : State) (b l0 w0 v : Nat) (k : Nat) : (s.setField b l0 w0 v).point k = s.point k := rfl
@[simp] theorem setField_defined (s : State) (b l0 w0 v : Nat) (k : Nat) : (s.setField b l0 w0 v).defined k = s.defined k := rfl
@[simp] theorem setField_failedPt (s : State) (b l0 w0 v : Nat) (k : Nat) : (s.setField b l0 w0 v).failedPt k = s.failedPt k := rfl
@[simp] theorem setField_task (s : State) (b l0 w0 v : Nat) (k : Nat) : (s.setField b l0 w0 v).task k = s.task k := rfl
@[simp] theorem setField_box (s : State) (b l0 w0 v : Nat) (k : Nat) : (s.setField b l0 w0 v).box k = s.box k := rfl
@[simp] theorem setField_chan (s : State) (b l0 w0 v : Nat) (k : Nat) : (s.setField b l0 w0 v).chan k = s.chan k := rfl
@[simp] theorem setField_acc (s : State) (b l0 w0 v : Nat) (k : Nat) : (s.setField b l0 w0 v).acc k = s.acc k := rfl
@[simp] theorem setField_loop (s : State) (b l0 w0 v : Nat) (k : Nat) : (s.setField b l0 w0 v).loop k = s.loop k := rfl
@[simp] theorem setField_group (s : State) (b l0 w0 v : Nat) (k : Nat) : (s.setField b l0 w0 v).group k = s.group k := rfl
@[simp] theorem setField_chkChan (s : State) (b l0 w0 v : Nat) (k : Nat) : (s.setField b l0 w0 v).chkChan k = s.chkChan k := rfl
@[simp] theorem setField_controls (s : State) (b l0 w0 v : Nat) : (s.setField b l0 w0 v).controls = s.controls := rfl
@[simp] theorem setField_shadow (s : State) (b l0 w0 v : Nat) : (s.setField b l0 w0 v).shadow = s.shadow := rfl
@[simp] theorem setField_acts (s : State) (b l0 w0 v : Nat) : (s.setField b l0 w0 v).acts = s.acts := rfl

/-! ### raise -/

@[simp] theorem raise_pending (s : State) (b j : Nat) : (s.raise b j).pending = s.pending := rfl
@[simp] theorem raise_freeCtr (s : State) (b j : Nat) : (s.raise b j).freeCtr = s.freeCtr := rfl
@[simp] theorem raise_outs (s : State) (b j : Nat) : (s.raise b j).outs = s.outs := rfl
@[simp] theorem raise_clock (s : State) (b j : Nat) : (s.raise b j).clock = s.clock := rfl
@[simp] theorem raise_islands (s : State) (b j : Nat) : (s.raise b j).islands = s.islands := rfl
@[simp] theorem raise_fabric (s : State) (b j : Nat) : (s.raise b j).fabric = s.fabric := rfl
@[simp] theorem raise_harvest (s : State) (b j : Nat) : (s.raise b j).harvest = s.harvest := rfl
@[simp] theorem raise_mail (s : State) (b j : Nat) : (s.raise b j).mail = s.mail := rfl
@[simp] theorem raise_thyme (s : State) (b j : Nat) : (s.raise b j).thyme = s.thyme := rfl
@[simp] theorem raise_loops (s : State) (b j : Nat) : (s.raise b j).loops = s.loops := rfl
@[simp] theorem raise_meter (s : State) (b j : Nat) : (s.raise b j).meter = s.meter := rfl
@[simp] theorem raise_switch (s : State) (b j : Nat) : (s.raise b j).switch = s.switch := rfl
@[simp] theorem raise_almanac (s : State) (b j : Nat) : (s.raise b j).almanac = s.almanac := rfl
@[simp] theorem raise_bus (s : State) (b j : Nat) : (s.raise b j).bus = s.bus := rfl
@[simp] theorem raise_twin (s : State) (b j : Nat) : (s.raise b j).twin = s.twin := rfl
@[simp] theorem raise_power (s : State) (b j : Nat) : (s.raise b j).power = s.power := rfl
@[simp] theorem raise_vault (s : State) (b j : Nat) : (s.raise b j).vault = s.vault := rfl
@[simp] theorem raise_update (s : State) (b j : Nat) : (s.raise b j).update = s.update := rfl
@[simp] theorem raise_irq (s : State) (b j : Nat) : (s.raise b j).irq = s.irq := rfl
@[simp] theorem raise_chk (s : State) (b j : Nat) : (s.raise b j).chk = s.chk := rfl
@[simp] theorem raise_isl (s : State) (b j : Nat) (k : Nat) : (s.raise b j).isl k = s.isl k := rfl
@[simp] theorem raise_running (s : State) (b j : Nat) (k : Nat) : (s.raise b j).running k = s.running k := rfl
@[simp] theorem raise_mayMove (s : State) (b j : Nat) (k : Nat) : (s.raise b j).mayMove k = s.mayMove k := rfl
@[simp] theorem raise_tai (s : State) (b j : Nat) : (s.raise b j).tai = s.tai := rfl
@[simp] theorem raise_now (s : State) (b j : Nat) : (s.raise b j).now = s.now := rfl
@[simp] theorem raise_port (s : State) (b j : Nat) (k : Nat) : (s.raise b j).port k = s.port k := rfl
@[simp] theorem raise_point (s : State) (b j : Nat) (k : Nat) : (s.raise b j).point k = s.point k := rfl
@[simp] theorem raise_defined (s : State) (b j : Nat) (k : Nat) : (s.raise b j).defined k = s.defined k := rfl
@[simp] theorem raise_failedPt (s : State) (b j : Nat) (k : Nat) : (s.raise b j).failedPt k = s.failedPt k := rfl
@[simp] theorem raise_task (s : State) (b j : Nat) (k : Nat) : (s.raise b j).task k = s.task k := rfl
@[simp] theorem raise_box (s : State) (b j : Nat) (k : Nat) : (s.raise b j).box k = s.box k := rfl
@[simp] theorem raise_chan (s : State) (b j : Nat) (k : Nat) : (s.raise b j).chan k = s.chan k := rfl
@[simp] theorem raise_acc (s : State) (b j : Nat) (k : Nat) : (s.raise b j).acc k = s.acc k := rfl
@[simp] theorem raise_loop (s : State) (b j : Nat) (k : Nat) : (s.raise b j).loop k = s.loop k := rfl
@[simp] theorem raise_group (s : State) (b j : Nat) (k : Nat) : (s.raise b j).group k = s.group k := rfl
@[simp] theorem raise_chkChan (s : State) (b j : Nat) (k : Nat) : (s.raise b j).chkChan k = s.chkChan k := rfl
@[simp] theorem raise_controls (s : State) (b j : Nat) : (s.raise b j).controls = s.controls := rfl
@[simp] theorem raise_shadow (s : State) (b j : Nat) : (s.raise b j).shadow = s.shadow := rfl
@[simp] theorem raise_acts (s : State) (b j : Nat) : (s.raise b j).acts = s.acts := rfl

/-! ### lower -/

@[simp] theorem lower_pending (s : State) (b j : Nat) : (s.lower b j).pending = s.pending := rfl
@[simp] theorem lower_freeCtr (s : State) (b j : Nat) : (s.lower b j).freeCtr = s.freeCtr := rfl
@[simp] theorem lower_outs (s : State) (b j : Nat) : (s.lower b j).outs = s.outs := rfl
@[simp] theorem lower_clock (s : State) (b j : Nat) : (s.lower b j).clock = s.clock := rfl
@[simp] theorem lower_islands (s : State) (b j : Nat) : (s.lower b j).islands = s.islands := rfl
@[simp] theorem lower_fabric (s : State) (b j : Nat) : (s.lower b j).fabric = s.fabric := rfl
@[simp] theorem lower_harvest (s : State) (b j : Nat) : (s.lower b j).harvest = s.harvest := rfl
@[simp] theorem lower_mail (s : State) (b j : Nat) : (s.lower b j).mail = s.mail := rfl
@[simp] theorem lower_thyme (s : State) (b j : Nat) : (s.lower b j).thyme = s.thyme := rfl
@[simp] theorem lower_loops (s : State) (b j : Nat) : (s.lower b j).loops = s.loops := rfl
@[simp] theorem lower_meter (s : State) (b j : Nat) : (s.lower b j).meter = s.meter := rfl
@[simp] theorem lower_switch (s : State) (b j : Nat) : (s.lower b j).switch = s.switch := rfl
@[simp] theorem lower_almanac (s : State) (b j : Nat) : (s.lower b j).almanac = s.almanac := rfl
@[simp] theorem lower_bus (s : State) (b j : Nat) : (s.lower b j).bus = s.bus := rfl
@[simp] theorem lower_twin (s : State) (b j : Nat) : (s.lower b j).twin = s.twin := rfl
@[simp] theorem lower_power (s : State) (b j : Nat) : (s.lower b j).power = s.power := rfl
@[simp] theorem lower_vault (s : State) (b j : Nat) : (s.lower b j).vault = s.vault := rfl
@[simp] theorem lower_update (s : State) (b j : Nat) : (s.lower b j).update = s.update := rfl
@[simp] theorem lower_irq (s : State) (b j : Nat) : (s.lower b j).irq = s.irq := rfl
@[simp] theorem lower_chk (s : State) (b j : Nat) : (s.lower b j).chk = s.chk := rfl
@[simp] theorem lower_isl (s : State) (b j : Nat) (k : Nat) : (s.lower b j).isl k = s.isl k := rfl
@[simp] theorem lower_running (s : State) (b j : Nat) (k : Nat) : (s.lower b j).running k = s.running k := rfl
@[simp] theorem lower_mayMove (s : State) (b j : Nat) (k : Nat) : (s.lower b j).mayMove k = s.mayMove k := rfl
@[simp] theorem lower_tai (s : State) (b j : Nat) : (s.lower b j).tai = s.tai := rfl
@[simp] theorem lower_now (s : State) (b j : Nat) : (s.lower b j).now = s.now := rfl
@[simp] theorem lower_port (s : State) (b j : Nat) (k : Nat) : (s.lower b j).port k = s.port k := rfl
@[simp] theorem lower_point (s : State) (b j : Nat) (k : Nat) : (s.lower b j).point k = s.point k := rfl
@[simp] theorem lower_defined (s : State) (b j : Nat) (k : Nat) : (s.lower b j).defined k = s.defined k := rfl
@[simp] theorem lower_failedPt (s : State) (b j : Nat) (k : Nat) : (s.lower b j).failedPt k = s.failedPt k := rfl
@[simp] theorem lower_task (s : State) (b j : Nat) (k : Nat) : (s.lower b j).task k = s.task k := rfl
@[simp] theorem lower_box (s : State) (b j : Nat) (k : Nat) : (s.lower b j).box k = s.box k := rfl
@[simp] theorem lower_chan (s : State) (b j : Nat) (k : Nat) : (s.lower b j).chan k = s.chan k := rfl
@[simp] theorem lower_acc (s : State) (b j : Nat) (k : Nat) : (s.lower b j).acc k = s.acc k := rfl
@[simp] theorem lower_loop (s : State) (b j : Nat) (k : Nat) : (s.lower b j).loop k = s.loop k := rfl
@[simp] theorem lower_group (s : State) (b j : Nat) (k : Nat) : (s.lower b j).group k = s.group k := rfl
@[simp] theorem lower_chkChan (s : State) (b j : Nat) (k : Nat) : (s.lower b j).chkChan k = s.chkChan k := rfl
@[simp] theorem lower_controls (s : State) (b j : Nat) : (s.lower b j).controls = s.controls := rfl
@[simp] theorem lower_shadow (s : State) (b j : Nat) : (s.lower b j).shadow = s.shadow := rfl
@[simp] theorem lower_acts (s : State) (b j : Nat) : (s.lower b j).acts = s.acts := rfl

/-! ### stick -/

@[simp] theorem stick_pending (s : State) (b e j n : Nat) : (s.stick b e j n).pending = s.pending := ite_both (fun (t : State) => t.pending) rfl rfl
@[simp] theorem stick_freeCtr (s : State) (b e j n : Nat) : (s.stick b e j n).freeCtr = s.freeCtr := ite_both (fun (t : State) => t.freeCtr) rfl rfl
@[simp] theorem stick_outs (s : State) (b e j n : Nat) : (s.stick b e j n).outs = s.outs := ite_both (fun (t : State) => t.outs) rfl rfl
@[simp] theorem stick_clock (s : State) (b e j n : Nat) : (s.stick b e j n).clock = s.clock := ite_both (fun (t : State) => t.clock) rfl rfl
@[simp] theorem stick_islands (s : State) (b e j n : Nat) : (s.stick b e j n).islands = s.islands := ite_both (fun (t : State) => t.islands) rfl rfl
@[simp] theorem stick_fabric (s : State) (b e j n : Nat) : (s.stick b e j n).fabric = s.fabric := ite_both (fun (t : State) => t.fabric) rfl rfl
@[simp] theorem stick_harvest (s : State) (b e j n : Nat) : (s.stick b e j n).harvest = s.harvest := ite_both (fun (t : State) => t.harvest) rfl rfl
@[simp] theorem stick_mail (s : State) (b e j n : Nat) : (s.stick b e j n).mail = s.mail := ite_both (fun (t : State) => t.mail) rfl rfl
@[simp] theorem stick_thyme (s : State) (b e j n : Nat) : (s.stick b e j n).thyme = s.thyme := ite_both (fun (t : State) => t.thyme) rfl rfl
@[simp] theorem stick_loops (s : State) (b e j n : Nat) : (s.stick b e j n).loops = s.loops := ite_both (fun (t : State) => t.loops) rfl rfl
@[simp] theorem stick_meter (s : State) (b e j n : Nat) : (s.stick b e j n).meter = s.meter := ite_both (fun (t : State) => t.meter) rfl rfl
@[simp] theorem stick_switch (s : State) (b e j n : Nat) : (s.stick b e j n).switch = s.switch := ite_both (fun (t : State) => t.switch) rfl rfl
@[simp] theorem stick_almanac (s : State) (b e j n : Nat) : (s.stick b e j n).almanac = s.almanac := ite_both (fun (t : State) => t.almanac) rfl rfl
@[simp] theorem stick_bus (s : State) (b e j n : Nat) : (s.stick b e j n).bus = s.bus := ite_both (fun (t : State) => t.bus) rfl rfl
@[simp] theorem stick_twin (s : State) (b e j n : Nat) : (s.stick b e j n).twin = s.twin := ite_both (fun (t : State) => t.twin) rfl rfl
@[simp] theorem stick_power (s : State) (b e j n : Nat) : (s.stick b e j n).power = s.power := ite_both (fun (t : State) => t.power) rfl rfl
@[simp] theorem stick_vault (s : State) (b e j n : Nat) : (s.stick b e j n).vault = s.vault := ite_both (fun (t : State) => t.vault) rfl rfl
@[simp] theorem stick_update (s : State) (b e j n : Nat) : (s.stick b e j n).update = s.update := ite_both (fun (t : State) => t.update) rfl rfl
@[simp] theorem stick_irq (s : State) (b e j n : Nat) : (s.stick b e j n).irq = s.irq := ite_both (fun (t : State) => t.irq) rfl rfl
@[simp] theorem stick_chk (s : State) (b e j n : Nat) : (s.stick b e j n).chk = s.chk := ite_both (fun (t : State) => t.chk) rfl rfl
@[simp] theorem stick_isl (s : State) (b e j n : Nat) (k : Nat) : (s.stick b e j n).isl k = s.isl k := ite_both (fun (t : State) => t.isl k) rfl rfl
@[simp] theorem stick_running (s : State) (b e j n : Nat) (k : Nat) : (s.stick b e j n).running k = s.running k := ite_both (fun (t : State) => t.running k) rfl rfl
@[simp] theorem stick_mayMove (s : State) (b e j n : Nat) (k : Nat) : (s.stick b e j n).mayMove k = s.mayMove k := ite_both (fun (t : State) => t.mayMove k) rfl rfl
@[simp] theorem stick_tai (s : State) (b e j n : Nat) : (s.stick b e j n).tai = s.tai := ite_both (fun (t : State) => t.tai) rfl rfl
@[simp] theorem stick_now (s : State) (b e j n : Nat) : (s.stick b e j n).now = s.now := ite_both (fun (t : State) => t.now) rfl rfl
@[simp] theorem stick_port (s : State) (b e j n : Nat) (k : Nat) : (s.stick b e j n).port k = s.port k := ite_both (fun (t : State) => t.port k) rfl rfl
@[simp] theorem stick_point (s : State) (b e j n : Nat) (k : Nat) : (s.stick b e j n).point k = s.point k := ite_both (fun (t : State) => t.point k) rfl rfl
@[simp] theorem stick_defined (s : State) (b e j n : Nat) (k : Nat) : (s.stick b e j n).defined k = s.defined k := ite_both (fun (t : State) => t.defined k) rfl rfl
@[simp] theorem stick_failedPt (s : State) (b e j n : Nat) (k : Nat) : (s.stick b e j n).failedPt k = s.failedPt k := ite_both (fun (t : State) => t.failedPt k) rfl rfl
@[simp] theorem stick_task (s : State) (b e j n : Nat) (k : Nat) : (s.stick b e j n).task k = s.task k := ite_both (fun (t : State) => t.task k) rfl rfl
@[simp] theorem stick_box (s : State) (b e j n : Nat) (k : Nat) : (s.stick b e j n).box k = s.box k := ite_both (fun (t : State) => t.box k) rfl rfl
@[simp] theorem stick_chan (s : State) (b e j n : Nat) (k : Nat) : (s.stick b e j n).chan k = s.chan k := ite_both (fun (t : State) => t.chan k) rfl rfl
@[simp] theorem stick_acc (s : State) (b e j n : Nat) (k : Nat) : (s.stick b e j n).acc k = s.acc k := ite_both (fun (t : State) => t.acc k) rfl rfl
@[simp] theorem stick_loop (s : State) (b e j n : Nat) (k : Nat) : (s.stick b e j n).loop k = s.loop k := ite_both (fun (t : State) => t.loop k) rfl rfl
@[simp] theorem stick_group (s : State) (b e j n : Nat) (k : Nat) : (s.stick b e j n).group k = s.group k := ite_both (fun (t : State) => t.group k) rfl rfl
@[simp] theorem stick_chkChan (s : State) (b e j n : Nat) (k : Nat) : (s.stick b e j n).chkChan k = s.chkChan k := ite_both (fun (t : State) => t.chkChan k) rfl rfl
@[simp] theorem stick_controls (s : State) (b e j n : Nat) : (s.stick b e j n).controls = s.controls := ite_both (fun (t : State) => t.controls) rfl rfl
@[simp] theorem stick_shadow (s : State) (b e j n : Nat) : (s.stick b e j n).shadow = s.shadow := ite_both (fun (t : State) => t.shadow) rfl rfl
@[simp] theorem stick_acts (s : State) (b e j n : Nat) : (s.stick b e j n).acts = s.acts := ite_both (fun (t : State) => t.acts) rfl rfl

/-! ### setIsl -/

@[simp] theorem setIsl_pending (s : State) (b : Nat) (x : Island) : (s.setIsl b x).pending = s.pending := rfl
@[simp] theorem setIsl_freeCtr (s : State) (b : Nat) (x : Island) : (s.setIsl b x).freeCtr = s.freeCtr := rfl
@[simp] theorem setIsl_regs (s : State) (b : Nat) (x : Island) : (s.setIsl b x).regs = s.regs := rfl
@[simp] theorem setIsl_outs (s : State) (b : Nat) (x : Island) : (s.setIsl b x).outs = s.outs := rfl
@[simp] theorem setIsl_clock (s : State) (b : Nat) (x : Island) : (s.setIsl b x).clock = s.clock := rfl
@[simp] theorem setIsl_fabric (s : State) (b : Nat) (x : Island) : (s.setIsl b x).fabric = s.fabric := rfl
@[simp] theorem setIsl_harvest (s : State) (b : Nat) (x : Island) : (s.setIsl b x).harvest = s.harvest := rfl
@[simp] theorem setIsl_mail (s : State) (b : Nat) (x : Island) : (s.setIsl b x).mail = s.mail := rfl
@[simp] theorem setIsl_thyme (s : State) (b : Nat) (x : Island) : (s.setIsl b x).thyme = s.thyme := rfl
@[simp] theorem setIsl_loops (s : State) (b : Nat) (x : Island) : (s.setIsl b x).loops = s.loops := rfl
@[simp] theorem setIsl_meter (s : State) (b : Nat) (x : Island) : (s.setIsl b x).meter = s.meter := rfl
@[simp] theorem setIsl_switch (s : State) (b : Nat) (x : Island) : (s.setIsl b x).switch = s.switch := rfl
@[simp] theorem setIsl_almanac (s : State) (b : Nat) (x : Island) : (s.setIsl b x).almanac = s.almanac := rfl
@[simp] theorem setIsl_bus (s : State) (b : Nat) (x : Island) : (s.setIsl b x).bus = s.bus := rfl
@[simp] theorem setIsl_twin (s : State) (b : Nat) (x : Island) : (s.setIsl b x).twin = s.twin := rfl
@[simp] theorem setIsl_power (s : State) (b : Nat) (x : Island) : (s.setIsl b x).power = s.power := rfl
@[simp] theorem setIsl_vault (s : State) (b : Nat) (x : Island) : (s.setIsl b x).vault = s.vault := rfl
@[simp] theorem setIsl_update (s : State) (b : Nat) (x : Island) : (s.setIsl b x).update = s.update := rfl
@[simp] theorem setIsl_irq (s : State) (b : Nat) (x : Island) : (s.setIsl b x).irq = s.irq := rfl
@[simp] theorem setIsl_chk (s : State) (b : Nat) (x : Island) : (s.setIsl b x).chk = s.chk := rfl
@[simp] theorem setIsl_reg (s : State) (b : Nat) (x : Island) (a : Nat) : (s.setIsl b x).reg a = s.reg a := rfl
@[simp] theorem setIsl_rfield (s : State) (b : Nat) (x : Island) (a l w : Nat) : (s.setIsl b x).rfield a l w = s.rfield a l w := rfl
@[simp] theorem setIsl_rbit (s : State) (b : Nat) (x : Island) (a i : Nat) : (s.setIsl b x).rbit a i = s.rbit a i := rfl
@[simp] theorem setIsl_tai (s : State) (b : Nat) (x : Island) : (s.setIsl b x).tai = s.tai := rfl
@[simp] theorem setIsl_now (s : State) (b : Nat) (x : Island) : (s.setIsl b x).now = s.now := rfl
@[simp] theorem setIsl_port (s : State) (b : Nat) (x : Island) (k : Nat) : (s.setIsl b x).port k = s.port k := rfl
@[simp] theorem setIsl_point (s : State) (b : Nat) (x : Island) (k : Nat) : (s.setIsl b x).point k = s.point k := rfl
@[simp] theorem setIsl_defined (s : State) (b : Nat) (x : Island) (k : Nat) : (s.setIsl b x).defined k = s.defined k := rfl
@[simp] theorem setIsl_failedPt (s : State) (b : Nat) (x : Island) (k : Nat) : (s.setIsl b x).failedPt k = s.failedPt k := rfl
@[simp] theorem setIsl_task (s : State) (b : Nat) (x : Island) (k : Nat) : (s.setIsl b x).task k = s.task k := rfl
@[simp] theorem setIsl_box (s : State) (b : Nat) (x : Island) (k : Nat) : (s.setIsl b x).box k = s.box k := rfl
@[simp] theorem setIsl_chan (s : State) (b : Nat) (x : Island) (k : Nat) : (s.setIsl b x).chan k = s.chan k := rfl
@[simp] theorem setIsl_acc (s : State) (b : Nat) (x : Island) (k : Nat) : (s.setIsl b x).acc k = s.acc k := rfl
@[simp] theorem setIsl_loop (s : State) (b : Nat) (x : Island) (k : Nat) : (s.setIsl b x).loop k = s.loop k := rfl
@[simp] theorem setIsl_group (s : State) (b : Nat) (x : Island) (k : Nat) : (s.setIsl b x).group k = s.group k := rfl
@[simp] theorem setIsl_chkChan (s : State) (b : Nat) (x : Island) (k : Nat) : (s.setIsl b x).chkChan k = s.chkChan k := rfl
@[simp] theorem setIsl_controls (s : State) (b : Nat) (x : Island) : (s.setIsl b x).controls = s.controls := rfl
@[simp] theorem setIsl_shadow (s : State) (b : Nat) (x : Island) : (s.setIsl b x).shadow = s.shadow := rfl
@[simp] theorem setIsl_acts (s : State) (b : Nat) (x : Island) : (s.setIsl b x).acts = s.acts := rfl

/-! ### wakeIsl -/

@[simp] theorem wakeIsl_pending (s : State) (b : Nat) : (s.wakeIsl b).pending = s.pending := ite_both (fun (t : State) => t.pending) rfl rfl
@[simp] theorem wakeIsl_freeCtr (s : State) (b : Nat) : (s.wakeIsl b).freeCtr = s.freeCtr := ite_both (fun (t : State) => t.freeCtr) rfl rfl
@[simp] theorem wakeIsl_regs (s : State) (b : Nat) : (s.wakeIsl b).regs = s.regs := ite_both (fun (t : State) => t.regs) rfl rfl
@[simp] theorem wakeIsl_outs (s : State) (b : Nat) : (s.wakeIsl b).outs = s.outs := ite_both (fun (t : State) => t.outs) rfl rfl
@[simp] theorem wakeIsl_clock (s : State) (b : Nat) : (s.wakeIsl b).clock = s.clock := ite_both (fun (t : State) => t.clock) rfl rfl
@[simp] theorem wakeIsl_fabric (s : State) (b : Nat) : (s.wakeIsl b).fabric = s.fabric := ite_both (fun (t : State) => t.fabric) rfl rfl
@[simp] theorem wakeIsl_harvest (s : State) (b : Nat) : (s.wakeIsl b).harvest = s.harvest := ite_both (fun (t : State) => t.harvest) rfl rfl
@[simp] theorem wakeIsl_mail (s : State) (b : Nat) : (s.wakeIsl b).mail = s.mail := ite_both (fun (t : State) => t.mail) rfl rfl
@[simp] theorem wakeIsl_thyme (s : State) (b : Nat) : (s.wakeIsl b).thyme = s.thyme := ite_both (fun (t : State) => t.thyme) rfl rfl
@[simp] theorem wakeIsl_loops (s : State) (b : Nat) : (s.wakeIsl b).loops = s.loops := ite_both (fun (t : State) => t.loops) rfl rfl
@[simp] theorem wakeIsl_meter (s : State) (b : Nat) : (s.wakeIsl b).meter = s.meter := ite_both (fun (t : State) => t.meter) rfl rfl
@[simp] theorem wakeIsl_switch (s : State) (b : Nat) : (s.wakeIsl b).switch = s.switch := ite_both (fun (t : State) => t.switch) rfl rfl
@[simp] theorem wakeIsl_almanac (s : State) (b : Nat) : (s.wakeIsl b).almanac = s.almanac := ite_both (fun (t : State) => t.almanac) rfl rfl
@[simp] theorem wakeIsl_bus (s : State) (b : Nat) : (s.wakeIsl b).bus = s.bus := ite_both (fun (t : State) => t.bus) rfl rfl
@[simp] theorem wakeIsl_twin (s : State) (b : Nat) : (s.wakeIsl b).twin = s.twin := ite_both (fun (t : State) => t.twin) rfl rfl
@[simp] theorem wakeIsl_power (s : State) (b : Nat) : (s.wakeIsl b).power = s.power := ite_both (fun (t : State) => t.power) rfl rfl
@[simp] theorem wakeIsl_vault (s : State) (b : Nat) : (s.wakeIsl b).vault = s.vault := ite_both (fun (t : State) => t.vault) rfl rfl
@[simp] theorem wakeIsl_update (s : State) (b : Nat) : (s.wakeIsl b).update = s.update := ite_both (fun (t : State) => t.update) rfl rfl
@[simp] theorem wakeIsl_irq (s : State) (b : Nat) : (s.wakeIsl b).irq = s.irq := ite_both (fun (t : State) => t.irq) rfl rfl
@[simp] theorem wakeIsl_chk (s : State) (b : Nat) : (s.wakeIsl b).chk = s.chk := ite_both (fun (t : State) => t.chk) rfl rfl
@[simp] theorem wakeIsl_reg (s : State) (b : Nat) (a : Nat) : (s.wakeIsl b).reg a = s.reg a := ite_both (fun (t : State) => t.reg a) rfl rfl
@[simp] theorem wakeIsl_rfield (s : State) (b : Nat) (a l w : Nat) : (s.wakeIsl b).rfield a l w = s.rfield a l w := ite_both (fun (t : State) => t.rfield a l w) rfl rfl
@[simp] theorem wakeIsl_rbit (s : State) (b : Nat) (a i : Nat) : (s.wakeIsl b).rbit a i = s.rbit a i := ite_both (fun (t : State) => t.rbit a i) rfl rfl
@[simp] theorem wakeIsl_tai (s : State) (b : Nat) : (s.wakeIsl b).tai = s.tai := ite_both (fun (t : State) => t.tai) rfl rfl
@[simp] theorem wakeIsl_now (s : State) (b : Nat) : (s.wakeIsl b).now = s.now := ite_both (fun (t : State) => t.now) rfl rfl
@[simp] theorem wakeIsl_port (s : State) (b : Nat) (k : Nat) : (s.wakeIsl b).port k = s.port k := ite_both (fun (t : State) => t.port k) rfl rfl
@[simp] theorem wakeIsl_point (s : State) (b : Nat) (k : Nat) : (s.wakeIsl b).point k = s.point k := ite_both (fun (t : State) => t.point k) rfl rfl
@[simp] theorem wakeIsl_defined (s : State) (b : Nat) (k : Nat) : (s.wakeIsl b).defined k = s.defined k := ite_both (fun (t : State) => t.defined k) rfl rfl
@[simp] theorem wakeIsl_failedPt (s : State) (b : Nat) (k : Nat) : (s.wakeIsl b).failedPt k = s.failedPt k := ite_both (fun (t : State) => t.failedPt k) rfl rfl
@[simp] theorem wakeIsl_task (s : State) (b : Nat) (k : Nat) : (s.wakeIsl b).task k = s.task k := ite_both (fun (t : State) => t.task k) rfl rfl
@[simp] theorem wakeIsl_box (s : State) (b : Nat) (k : Nat) : (s.wakeIsl b).box k = s.box k := ite_both (fun (t : State) => t.box k) rfl rfl
@[simp] theorem wakeIsl_chan (s : State) (b : Nat) (k : Nat) : (s.wakeIsl b).chan k = s.chan k := ite_both (fun (t : State) => t.chan k) rfl rfl
@[simp] theorem wakeIsl_acc (s : State) (b : Nat) (k : Nat) : (s.wakeIsl b).acc k = s.acc k := ite_both (fun (t : State) => t.acc k) rfl rfl
@[simp] theorem wakeIsl_loop (s : State) (b : Nat) (k : Nat) : (s.wakeIsl b).loop k = s.loop k := ite_both (fun (t : State) => t.loop k) rfl rfl
@[simp] theorem wakeIsl_group (s : State) (b : Nat) (k : Nat) : (s.wakeIsl b).group k = s.group k := ite_both (fun (t : State) => t.group k) rfl rfl
@[simp] theorem wakeIsl_chkChan (s : State) (b : Nat) (k : Nat) : (s.wakeIsl b).chkChan k = s.chkChan k := ite_both (fun (t : State) => t.chkChan k) rfl rfl
@[simp] theorem wakeIsl_controls (s : State) (b : Nat) : (s.wakeIsl b).controls = s.controls := ite_both (fun (t : State) => t.controls) rfl rfl
@[simp] theorem wakeIsl_shadow (s : State) (b : Nat) : (s.wakeIsl b).shadow = s.shadow := ite_both (fun (t : State) => t.shadow) rfl rfl
@[simp] theorem wakeIsl_acts (s : State) (b : Nat) : (s.wakeIsl b).acts = s.acts := ite_both (fun (t : State) => t.acts) rfl rfl

/-! ### noteEpoch -/

@[simp] theorem noteEpoch_pending (s : State) (b c e : Nat) : (s.noteEpoch b c e).pending = s.pending := rfl
@[simp] theorem noteEpoch_freeCtr (s : State) (b c e : Nat) : (s.noteEpoch b c e).freeCtr = s.freeCtr := rfl
@[simp] theorem noteEpoch_regs (s : State) (b c e : Nat) : (s.noteEpoch b c e).regs = s.regs := rfl
@[simp] theorem noteEpoch_outs (s : State) (b c e : Nat) : (s.noteEpoch b c e).outs = s.outs := rfl
@[simp] theorem noteEpoch_clock (s : State) (b c e : Nat) : (s.noteEpoch b c e).clock = s.clock := rfl
@[simp] theorem noteEpoch_fabric (s : State) (b c e : Nat) : (s.noteEpoch b c e).fabric = s.fabric := rfl
@[simp] theorem noteEpoch_harvest (s : State) (b c e : Nat) : (s.noteEpoch b c e).harvest = s.harvest := rfl
@[simp] theorem noteEpoch_mail (s : State) (b c e : Nat) : (s.noteEpoch b c e).mail = s.mail := rfl
@[simp] theorem noteEpoch_thyme (s : State) (b c e : Nat) : (s.noteEpoch b c e).thyme = s.thyme := rfl
@[simp] theorem noteEpoch_loops (s : State) (b c e : Nat) : (s.noteEpoch b c e).loops = s.loops := rfl
@[simp] theorem noteEpoch_meter (s : State) (b c e : Nat) : (s.noteEpoch b c e).meter = s.meter := rfl
@[simp] theorem noteEpoch_switch (s : State) (b c e : Nat) : (s.noteEpoch b c e).switch = s.switch := rfl
@[simp] theorem noteEpoch_almanac (s : State) (b c e : Nat) : (s.noteEpoch b c e).almanac = s.almanac := rfl
@[simp] theorem noteEpoch_bus (s : State) (b c e : Nat) : (s.noteEpoch b c e).bus = s.bus := rfl
@[simp] theorem noteEpoch_twin (s : State) (b c e : Nat) : (s.noteEpoch b c e).twin = s.twin := rfl
@[simp] theorem noteEpoch_power (s : State) (b c e : Nat) : (s.noteEpoch b c e).power = s.power := rfl
@[simp] theorem noteEpoch_vault (s : State) (b c e : Nat) : (s.noteEpoch b c e).vault = s.vault := rfl
@[simp] theorem noteEpoch_update (s : State) (b c e : Nat) : (s.noteEpoch b c e).update = s.update := rfl
@[simp] theorem noteEpoch_irq (s : State) (b c e : Nat) : (s.noteEpoch b c e).irq = s.irq := rfl
@[simp] theorem noteEpoch_chk (s : State) (b c e : Nat) : (s.noteEpoch b c e).chk = s.chk := rfl
@[simp] theorem noteEpoch_reg (s : State) (b c e : Nat) (a : Nat) : (s.noteEpoch b c e).reg a = s.reg a := rfl
@[simp] theorem noteEpoch_rfield (s : State) (b c e : Nat) (a l w : Nat) : (s.noteEpoch b c e).rfield a l w = s.rfield a l w := rfl
@[simp] theorem noteEpoch_rbit (s : State) (b c e : Nat) (a i : Nat) : (s.noteEpoch b c e).rbit a i = s.rbit a i := rfl
@[simp] theorem noteEpoch_tai (s : State) (b c e : Nat) : (s.noteEpoch b c e).tai = s.tai := rfl
@[simp] theorem noteEpoch_now (s : State) (b c e : Nat) : (s.noteEpoch b c e).now = s.now := rfl
@[simp] theorem noteEpoch_port (s : State) (b c e : Nat) (k : Nat) : (s.noteEpoch b c e).port k = s.port k := rfl
@[simp] theorem noteEpoch_point (s : State) (b c e : Nat) (k : Nat) : (s.noteEpoch b c e).point k = s.point k := rfl
@[simp] theorem noteEpoch_defined (s : State) (b c e : Nat) (k : Nat) : (s.noteEpoch b c e).defined k = s.defined k := rfl
@[simp] theorem noteEpoch_failedPt (s : State) (b c e : Nat) (k : Nat) : (s.noteEpoch b c e).failedPt k = s.failedPt k := rfl
@[simp] theorem noteEpoch_task (s : State) (b c e : Nat) (k : Nat) : (s.noteEpoch b c e).task k = s.task k := rfl
@[simp] theorem noteEpoch_box (s : State) (b c e : Nat) (k : Nat) : (s.noteEpoch b c e).box k = s.box k := rfl
@[simp] theorem noteEpoch_chan (s : State) (b c e : Nat) (k : Nat) : (s.noteEpoch b c e).chan k = s.chan k := rfl
@[simp] theorem noteEpoch_acc (s : State) (b c e : Nat) (k : Nat) : (s.noteEpoch b c e).acc k = s.acc k := rfl
@[simp] theorem noteEpoch_loop (s : State) (b c e : Nat) (k : Nat) : (s.noteEpoch b c e).loop k = s.loop k := rfl
@[simp] theorem noteEpoch_group (s : State) (b c e : Nat) (k : Nat) : (s.noteEpoch b c e).group k = s.group k := rfl
@[simp] theorem noteEpoch_chkChan (s : State) (b c e : Nat) (k : Nat) : (s.noteEpoch b c e).chkChan k = s.chkChan k := rfl
@[simp] theorem noteEpoch_controls (s : State) (b c e : Nat) : (s.noteEpoch b c e).controls = s.controls := rfl
@[simp] theorem noteEpoch_shadow (s : State) (b c e : Nat) : (s.noteEpoch b c e).shadow = s.shadow := rfl
@[simp] theorem noteEpoch_acts (s : State) (b c e : Nat) : (s.noteEpoch b c e).acts = s.acts := rfl

/-! ### lastError -/

@[simp] theorem lastError_pending (s : State) (b c e v : Nat) : (s.lastError b c e v).pending = s.pending := ite_both (fun (t : State) => t.pending) rfl (setReg_pending ..)
@[simp] theorem lastError_freeCtr (s : State) (b c e v : Nat) : (s.lastError b c e v).freeCtr = s.freeCtr := ite_both (fun (t : State) => t.freeCtr) rfl (setReg_freeCtr ..)
@[simp] theorem lastError_outs (s : State) (b c e v : Nat) : (s.lastError b c e v).outs = s.outs := ite_both (fun (t : State) => t.outs) rfl (setReg_outs ..)
@[simp] theorem lastError_clock (s : State) (b c e v : Nat) : (s.lastError b c e v).clock = s.clock := ite_both (fun (t : State) => t.clock) rfl (setReg_clock ..)
@[simp] theorem lastError_islands (s : State) (b c e v : Nat) : (s.lastError b c e v).islands = s.islands := ite_both (fun (t : State) => t.islands) rfl (setReg_islands ..)
@[simp] theorem lastError_fabric (s : State) (b c e v : Nat) : (s.lastError b c e v).fabric = s.fabric := ite_both (fun (t : State) => t.fabric) rfl (setReg_fabric ..)
@[simp] theorem lastError_harvest (s : State) (b c e v : Nat) : (s.lastError b c e v).harvest = s.harvest := ite_both (fun (t : State) => t.harvest) rfl (setReg_harvest ..)
@[simp] theorem lastError_mail (s : State) (b c e v : Nat) : (s.lastError b c e v).mail = s.mail := ite_both (fun (t : State) => t.mail) rfl (setReg_mail ..)
@[simp] theorem lastError_thyme (s : State) (b c e v : Nat) : (s.lastError b c e v).thyme = s.thyme := ite_both (fun (t : State) => t.thyme) rfl (setReg_thyme ..)
@[simp] theorem lastError_loops (s : State) (b c e v : Nat) : (s.lastError b c e v).loops = s.loops := ite_both (fun (t : State) => t.loops) rfl (setReg_loops ..)
@[simp] theorem lastError_meter (s : State) (b c e v : Nat) : (s.lastError b c e v).meter = s.meter := ite_both (fun (t : State) => t.meter) rfl (setReg_meter ..)
@[simp] theorem lastError_switch (s : State) (b c e v : Nat) : (s.lastError b c e v).switch = s.switch := ite_both (fun (t : State) => t.switch) rfl (setReg_switch ..)
@[simp] theorem lastError_almanac (s : State) (b c e v : Nat) : (s.lastError b c e v).almanac = s.almanac := ite_both (fun (t : State) => t.almanac) rfl (setReg_almanac ..)
@[simp] theorem lastError_bus (s : State) (b c e v : Nat) : (s.lastError b c e v).bus = s.bus := ite_both (fun (t : State) => t.bus) rfl (setReg_bus ..)
@[simp] theorem lastError_twin (s : State) (b c e v : Nat) : (s.lastError b c e v).twin = s.twin := ite_both (fun (t : State) => t.twin) rfl (setReg_twin ..)
@[simp] theorem lastError_power (s : State) (b c e v : Nat) : (s.lastError b c e v).power = s.power := ite_both (fun (t : State) => t.power) rfl (setReg_power ..)
@[simp] theorem lastError_vault (s : State) (b c e v : Nat) : (s.lastError b c e v).vault = s.vault := ite_both (fun (t : State) => t.vault) rfl (setReg_vault ..)
@[simp] theorem lastError_update (s : State) (b c e v : Nat) : (s.lastError b c e v).update = s.update := ite_both (fun (t : State) => t.update) rfl (setReg_update ..)
@[simp] theorem lastError_irq (s : State) (b c e v : Nat) : (s.lastError b c e v).irq = s.irq := ite_both (fun (t : State) => t.irq) rfl (setReg_irq ..)
@[simp] theorem lastError_chk (s : State) (b c e v : Nat) : (s.lastError b c e v).chk = s.chk := ite_both (fun (t : State) => t.chk) rfl (setReg_chk ..)
@[simp] theorem lastError_isl (s : State) (b c e v : Nat) (k : Nat) : (s.lastError b c e v).isl k = s.isl k := ite_both (fun (t : State) => t.isl k) rfl (setReg_isl ..)
@[simp] theorem lastError_running (s : State) (b c e v : Nat) (k : Nat) : (s.lastError b c e v).running k = s.running k := ite_both (fun (t : State) => t.running k) rfl (setReg_running ..)
@[simp] theorem lastError_mayMove (s : State) (b c e v : Nat) (k : Nat) : (s.lastError b c e v).mayMove k = s.mayMove k := ite_both (fun (t : State) => t.mayMove k) rfl (setReg_mayMove ..)
@[simp] theorem lastError_tai (s : State) (b c e v : Nat) : (s.lastError b c e v).tai = s.tai := ite_both (fun (t : State) => t.tai) rfl (setReg_tai ..)
@[simp] theorem lastError_now (s : State) (b c e v : Nat) : (s.lastError b c e v).now = s.now := ite_both (fun (t : State) => t.now) rfl (setReg_now ..)
@[simp] theorem lastError_port (s : State) (b c e v : Nat) (k : Nat) : (s.lastError b c e v).port k = s.port k := ite_both (fun (t : State) => t.port k) rfl (setReg_port ..)
@[simp] theorem lastError_point (s : State) (b c e v : Nat) (k : Nat) : (s.lastError b c e v).point k = s.point k := ite_both (fun (t : State) => t.point k) rfl (setReg_point ..)
@[simp] theorem lastError_defined (s : State) (b c e v : Nat) (k : Nat) : (s.lastError b c e v).defined k = s.defined k := ite_both (fun (t : State) => t.defined k) rfl (setReg_defined ..)
@[simp] theorem lastError_failedPt (s : State) (b c e v : Nat) (k : Nat) : (s.lastError b c e v).failedPt k = s.failedPt k := ite_both (fun (t : State) => t.failedPt k) rfl (setReg_failedPt ..)
@[simp] theorem lastError_task (s : State) (b c e v : Nat) (k : Nat) : (s.lastError b c e v).task k = s.task k := ite_both (fun (t : State) => t.task k) rfl (setReg_task ..)
@[simp] theorem lastError_box (s : State) (b c e v : Nat) (k : Nat) : (s.lastError b c e v).box k = s.box k := ite_both (fun (t : State) => t.box k) rfl (setReg_box ..)
@[simp] theorem lastError_chan (s : State) (b c e v : Nat) (k : Nat) : (s.lastError b c e v).chan k = s.chan k := ite_both (fun (t : State) => t.chan k) rfl (setReg_chan ..)
@[simp] theorem lastError_acc (s : State) (b c e v : Nat) (k : Nat) : (s.lastError b c e v).acc k = s.acc k := ite_both (fun (t : State) => t.acc k) rfl (setReg_acc ..)
@[simp] theorem lastError_loop (s : State) (b c e v : Nat) (k : Nat) : (s.lastError b c e v).loop k = s.loop k := ite_both (fun (t : State) => t.loop k) rfl (setReg_loop ..)
@[simp] theorem lastError_group (s : State) (b c e v : Nat) (k : Nat) : (s.lastError b c e v).group k = s.group k := ite_both (fun (t : State) => t.group k) rfl (setReg_group ..)
@[simp] theorem lastError_chkChan (s : State) (b c e v : Nat) (k : Nat) : (s.lastError b c e v).chkChan k = s.chkChan k := ite_both (fun (t : State) => t.chkChan k) rfl (setReg_chkChan ..)
@[simp] theorem lastError_controls (s : State) (b c e v : Nat) : (s.lastError b c e v).controls = s.controls := ite_both (fun (t : State) => t.controls) rfl (setReg_controls ..)
@[simp] theorem lastError_shadow (s : State) (b c e v : Nat) : (s.lastError b c e v).shadow = s.shadow := ite_both (fun (t : State) => t.shadow) rfl (setReg_shadow ..)
@[simp] theorem lastError_acts (s : State) (b c e v : Nat) : (s.lastError b c e v).acts = s.acts := ite_both (fun (t : State) => t.acts) rfl (setReg_acts ..)

/-! ### setPort -/

@[simp] theorem setPort_pending (s : State) (b : Nat) (x : Port) : (s.setPort b x).pending = s.pending := rfl
@[simp] theorem setPort_freeCtr (s : State) (b : Nat) (x : Port) : (s.setPort b x).freeCtr = s.freeCtr := rfl
@[simp] theorem setPort_regs (s : State) (b : Nat) (x : Port) : (s.setPort b x).regs = s.regs := rfl
@[simp] theorem setPort_outs (s : State) (b : Nat) (x : Port) : (s.setPort b x).outs = s.outs := rfl
@[simp] theorem setPort_clock (s : State) (b : Nat) (x : Port) : (s.setPort b x).clock = s.clock := rfl
@[simp] theorem setPort_islands (s : State) (b : Nat) (x : Port) : (s.setPort b x).islands = s.islands := rfl
@[simp] theorem setPort_fabric (s : State) (b : Nat) (x : Port) : (s.setPort b x).fabric = s.fabric := rfl
@[simp] theorem setPort_harvest (s : State) (b : Nat) (x : Port) : (s.setPort b x).harvest = s.harvest := rfl
@[simp] theorem setPort_mail (s : State) (b : Nat) (x : Port) : (s.setPort b x).mail = s.mail := rfl
@[simp] theorem setPort_thyme (s : State) (b : Nat) (x : Port) : (s.setPort b x).thyme = s.thyme := rfl
@[simp] theorem setPort_loops (s : State) (b : Nat) (x : Port) : (s.setPort b x).loops = s.loops := rfl
@[simp] theorem setPort_meter (s : State) (b : Nat) (x : Port) : (s.setPort b x).meter = s.meter := rfl
@[simp] theorem setPort_almanac (s : State) (b : Nat) (x : Port) : (s.setPort b x).almanac = s.almanac := rfl
@[simp] theorem setPort_bus (s : State) (b : Nat) (x : Port) : (s.setPort b x).bus = s.bus := rfl
@[simp] theorem setPort_twin (s : State) (b : Nat) (x : Port) : (s.setPort b x).twin = s.twin := rfl
@[simp] theorem setPort_power (s : State) (b : Nat) (x : Port) : (s.setPort b x).power = s.power := rfl
@[simp] theorem setPort_vault (s : State) (b : Nat) (x : Port) : (s.setPort b x).vault = s.vault := rfl
@[simp] theorem setPort_update (s : State) (b : Nat) (x : Port) : (s.setPort b x).update = s.update := rfl
@[simp] theorem setPort_irq (s : State) (b : Nat) (x : Port) : (s.setPort b x).irq = s.irq := rfl
@[simp] theorem setPort_chk (s : State) (b : Nat) (x : Port) : (s.setPort b x).chk = s.chk := rfl
@[simp] theorem setPort_reg (s : State) (b : Nat) (x : Port) (a : Nat) : (s.setPort b x).reg a = s.reg a := rfl
@[simp] theorem setPort_rfield (s : State) (b : Nat) (x : Port) (a l w : Nat) : (s.setPort b x).rfield a l w = s.rfield a l w := rfl
@[simp] theorem setPort_rbit (s : State) (b : Nat) (x : Port) (a i : Nat) : (s.setPort b x).rbit a i = s.rbit a i := rfl
@[simp] theorem setPort_isl (s : State) (b : Nat) (x : Port) (k : Nat) : (s.setPort b x).isl k = s.isl k := rfl
@[simp] theorem setPort_running (s : State) (b : Nat) (x : Port) (k : Nat) : (s.setPort b x).running k = s.running k := rfl
@[simp] theorem setPort_mayMove (s : State) (b : Nat) (x : Port) (k : Nat) : (s.setPort b x).mayMove k = s.mayMove k := rfl
@[simp] theorem setPort_tai (s : State) (b : Nat) (x : Port) : (s.setPort b x).tai = s.tai := rfl
@[simp] theorem setPort_now (s : State) (b : Nat) (x : Port) : (s.setPort b x).now = s.now := rfl
@[simp] theorem setPort_point (s : State) (b : Nat) (x : Port) (k : Nat) : (s.setPort b x).point k = s.point k := rfl
@[simp] theorem setPort_defined (s : State) (b : Nat) (x : Port) (k : Nat) : (s.setPort b x).defined k = s.defined k := rfl
@[simp] theorem setPort_failedPt (s : State) (b : Nat) (x : Port) (k : Nat) : (s.setPort b x).failedPt k = s.failedPt k := rfl
@[simp] theorem setPort_task (s : State) (b : Nat) (x : Port) (k : Nat) : (s.setPort b x).task k = s.task k := rfl
@[simp] theorem setPort_box (s : State) (b : Nat) (x : Port) (k : Nat) : (s.setPort b x).box k = s.box k := rfl
@[simp] theorem setPort_chan (s : State) (b : Nat) (x : Port) (k : Nat) : (s.setPort b x).chan k = s.chan k := rfl
@[simp] theorem setPort_acc (s : State) (b : Nat) (x : Port) (k : Nat) : (s.setPort b x).acc k = s.acc k := rfl
@[simp] theorem setPort_loop (s : State) (b : Nat) (x : Port) (k : Nat) : (s.setPort b x).loop k = s.loop k := rfl
@[simp] theorem setPort_group (s : State) (b : Nat) (x : Port) (k : Nat) : (s.setPort b x).group k = s.group k := rfl
@[simp] theorem setPort_chkChan (s : State) (b : Nat) (x : Port) (k : Nat) : (s.setPort b x).chkChan k = s.chkChan k := rfl
@[simp] theorem setPort_controls (s : State) (b : Nat) (x : Port) : (s.setPort b x).controls = s.controls := rfl
@[simp] theorem setPort_shadow (s : State) (b : Nat) (x : Port) : (s.setPort b x).shadow = s.shadow := rfl
@[simp] theorem setPort_acts (s : State) (b : Nat) (x : Port) : (s.setPort b x).acts = s.acts := rfl

/-! ### setBox -/

@[simp] theorem setBox_pending (s : State) (b : Nat) (x : Mailbox) : (s.setBox b x).pending = s.pending := rfl
@[simp] theorem setBox_freeCtr (s : State) (b : Nat) (x : Mailbox) : (s.setBox b x).freeCtr = s.freeCtr := rfl
@[simp] theorem setBox_regs (s : State) (b : Nat) (x : Mailbox) : (s.setBox b x).regs = s.regs := rfl
@[simp] theorem setBox_outs (s : State) (b : Nat) (x : Mailbox) : (s.setBox b x).outs = s.outs := rfl
@[simp] theorem setBox_clock (s : State) (b : Nat) (x : Mailbox) : (s.setBox b x).clock = s.clock := rfl
@[simp] theorem setBox_islands (s : State) (b : Nat) (x : Mailbox) : (s.setBox b x).islands = s.islands := rfl
@[simp] theorem setBox_fabric (s : State) (b : Nat) (x : Mailbox) : (s.setBox b x).fabric = s.fabric := rfl
@[simp] theorem setBox_harvest (s : State) (b : Nat) (x : Mailbox) : (s.setBox b x).harvest = s.harvest := rfl
@[simp] theorem setBox_thyme (s : State) (b : Nat) (x : Mailbox) : (s.setBox b x).thyme = s.thyme := rfl
@[simp] theorem setBox_loops (s : State) (b : Nat) (x : Mailbox) : (s.setBox b x).loops = s.loops := rfl
@[simp] theorem setBox_meter (s : State) (b : Nat) (x : Mailbox) : (s.setBox b x).meter = s.meter := rfl
@[simp] theorem setBox_switch (s : State) (b : Nat) (x : Mailbox) : (s.setBox b x).switch = s.switch := rfl
@[simp] theorem setBox_almanac (s : State) (b : Nat) (x : Mailbox) : (s.setBox b x).almanac = s.almanac := rfl
@[simp] theorem setBox_bus (s : State) (b : Nat) (x : Mailbox) : (s.setBox b x).bus = s.bus := rfl
@[simp] theorem setBox_twin (s : State) (b : Nat) (x : Mailbox) : (s.setBox b x).twin = s.twin := rfl
@[simp] theorem setBox_power (s : State) (b : Nat) (x : Mailbox) : (s.setBox b x).power = s.power := rfl
@[simp] theorem setBox_vault (s : State) (b : Nat) (x : Mailbox) : (s.setBox b x).vault = s.vault := rfl
@[simp] theorem setBox_update (s : State) (b : Nat) (x : Mailbox) : (s.setBox b x).update = s.update := rfl
@[simp] theorem setBox_irq (s : State) (b : Nat) (x : Mailbox) : (s.setBox b x).irq = s.irq := rfl
@[simp] theorem setBox_chk (s : State) (b : Nat) (x : Mailbox) : (s.setBox b x).chk = s.chk := rfl
@[simp] theorem setBox_reg (s : State) (b : Nat) (x : Mailbox) (a : Nat) : (s.setBox b x).reg a = s.reg a := rfl
@[simp] theorem setBox_rfield (s : State) (b : Nat) (x : Mailbox) (a l w : Nat) : (s.setBox b x).rfield a l w = s.rfield a l w := rfl
@[simp] theorem setBox_rbit (s : State) (b : Nat) (x : Mailbox) (a i : Nat) : (s.setBox b x).rbit a i = s.rbit a i := rfl
@[simp] theorem setBox_isl (s : State) (b : Nat) (x : Mailbox) (k : Nat) : (s.setBox b x).isl k = s.isl k := rfl
@[simp] theorem setBox_running (s : State) (b : Nat) (x : Mailbox) (k : Nat) : (s.setBox b x).running k = s.running k := rfl
@[simp] theorem setBox_mayMove (s : State) (b : Nat) (x : Mailbox) (k : Nat) : (s.setBox b x).mayMove k = s.mayMove k := rfl
@[simp] theorem setBox_tai (s : State) (b : Nat) (x : Mailbox) : (s.setBox b x).tai = s.tai := rfl
@[simp] theorem setBox_now (s : State) (b : Nat) (x : Mailbox) : (s.setBox b x).now = s.now := rfl
@[simp] theorem setBox_port (s : State) (b : Nat) (x : Mailbox) (k : Nat) : (s.setBox b x).port k = s.port k := rfl
@[simp] theorem setBox_point (s : State) (b : Nat) (x : Mailbox) (k : Nat) : (s.setBox b x).point k = s.point k := rfl
@[simp] theorem setBox_defined (s : State) (b : Nat) (x : Mailbox) (k : Nat) : (s.setBox b x).defined k = s.defined k := rfl
@[simp] theorem setBox_failedPt (s : State) (b : Nat) (x : Mailbox) (k : Nat) : (s.setBox b x).failedPt k = s.failedPt k := rfl
@[simp] theorem setBox_task (s : State) (b : Nat) (x : Mailbox) (k : Nat) : (s.setBox b x).task k = s.task k := rfl
@[simp] theorem setBox_chan (s : State) (b : Nat) (x : Mailbox) (k : Nat) : (s.setBox b x).chan k = s.chan k := rfl
@[simp] theorem setBox_acc (s : State) (b : Nat) (x : Mailbox) (k : Nat) : (s.setBox b x).acc k = s.acc k := rfl
@[simp] theorem setBox_loop (s : State) (b : Nat) (x : Mailbox) (k : Nat) : (s.setBox b x).loop k = s.loop k := rfl
@[simp] theorem setBox_group (s : State) (b : Nat) (x : Mailbox) (k : Nat) : (s.setBox b x).group k = s.group k := rfl
@[simp] theorem setBox_chkChan (s : State) (b : Nat) (x : Mailbox) (k : Nat) : (s.setBox b x).chkChan k = s.chkChan k := rfl
@[simp] theorem setBox_controls (s : State) (b : Nat) (x : Mailbox) : (s.setBox b x).controls = s.controls := rfl
@[simp] theorem setBox_shadow (s : State) (b : Nat) (x : Mailbox) : (s.setBox b x).shadow = s.shadow := rfl
@[simp] theorem setBox_acts (s : State) (b : Nat) (x : Mailbox) : (s.setBox b x).acts = s.acts := rfl

/-! ### setSession -/

@[simp] theorem setSession_pending (s : State) (b : Nat) (x : Session) : (s.setSession b x).pending = s.pending := rfl
@[simp] theorem setSession_freeCtr (s : State) (b : Nat) (x : Session) : (s.setSession b x).freeCtr = s.freeCtr := rfl
@[simp] theorem setSession_regs (s : State) (b : Nat) (x : Session) : (s.setSession b x).regs = s.regs := rfl
@[simp] theorem setSession_outs (s : State) (b : Nat) (x : Session) : (s.setSession b x).outs = s.outs := rfl
@[simp] theorem setSession_clock (s : State) (b : Nat) (x : Session) : (s.setSession b x).clock = s.clock := rfl
@[simp] theorem setSession_islands (s : State) (b : Nat) (x : Session) : (s.setSession b x).islands = s.islands := rfl
@[simp] theorem setSession_fabric (s : State) (b : Nat) (x : Session) : (s.setSession b x).fabric = s.fabric := rfl
@[simp] theorem setSession_harvest (s : State) (b : Nat) (x : Session) : (s.setSession b x).harvest = s.harvest := rfl
@[simp] theorem setSession_thyme (s : State) (b : Nat) (x : Session) : (s.setSession b x).thyme = s.thyme := rfl
@[simp] theorem setSession_loops (s : State) (b : Nat) (x : Session) : (s.setSession b x).loops = s.loops := rfl
@[simp] theorem setSession_meter (s : State) (b : Nat) (x : Session) : (s.setSession b x).meter = s.meter := rfl
@[simp] theorem setSession_switch (s : State) (b : Nat) (x : Session) : (s.setSession b x).switch = s.switch := rfl
@[simp] theorem setSession_almanac (s : State) (b : Nat) (x : Session) : (s.setSession b x).almanac = s.almanac := rfl
@[simp] theorem setSession_bus (s : State) (b : Nat) (x : Session) : (s.setSession b x).bus = s.bus := rfl
@[simp] theorem setSession_twin (s : State) (b : Nat) (x : Session) : (s.setSession b x).twin = s.twin := rfl
@[simp] theorem setSession_power (s : State) (b : Nat) (x : Session) : (s.setSession b x).power = s.power := rfl
@[simp] theorem setSession_vault (s : State) (b : Nat) (x : Session) : (s.setSession b x).vault = s.vault := rfl
@[simp] theorem setSession_update (s : State) (b : Nat) (x : Session) : (s.setSession b x).update = s.update := rfl
@[simp] theorem setSession_irq (s : State) (b : Nat) (x : Session) : (s.setSession b x).irq = s.irq := rfl
@[simp] theorem setSession_chk (s : State) (b : Nat) (x : Session) : (s.setSession b x).chk = s.chk := rfl
@[simp] theorem setSession_reg (s : State) (b : Nat) (x : Session) (a : Nat) : (s.setSession b x).reg a = s.reg a := rfl
@[simp] theorem setSession_rfield (s : State) (b : Nat) (x : Session) (a l w : Nat) : (s.setSession b x).rfield a l w = s.rfield a l w := rfl
@[simp] theorem setSession_rbit (s : State) (b : Nat) (x : Session) (a i : Nat) : (s.setSession b x).rbit a i = s.rbit a i := rfl
@[simp] theorem setSession_isl (s : State) (b : Nat) (x : Session) (k : Nat) : (s.setSession b x).isl k = s.isl k := rfl
@[simp] theorem setSession_running (s : State) (b : Nat) (x : Session) (k : Nat) : (s.setSession b x).running k = s.running k := rfl
@[simp] theorem setSession_mayMove (s : State) (b : Nat) (x : Session) (k : Nat) : (s.setSession b x).mayMove k = s.mayMove k := rfl
@[simp] theorem setSession_tai (s : State) (b : Nat) (x : Session) : (s.setSession b x).tai = s.tai := rfl
@[simp] theorem setSession_now (s : State) (b : Nat) (x : Session) : (s.setSession b x).now = s.now := rfl
@[simp] theorem setSession_port (s : State) (b : Nat) (x : Session) (k : Nat) : (s.setSession b x).port k = s.port k := rfl
@[simp] theorem setSession_point (s : State) (b : Nat) (x : Session) (k : Nat) : (s.setSession b x).point k = s.point k := rfl
@[simp] theorem setSession_defined (s : State) (b : Nat) (x : Session) (k : Nat) : (s.setSession b x).defined k = s.defined k := rfl
@[simp] theorem setSession_failedPt (s : State) (b : Nat) (x : Session) (k : Nat) : (s.setSession b x).failedPt k = s.failedPt k := rfl
@[simp] theorem setSession_task (s : State) (b : Nat) (x : Session) (k : Nat) : (s.setSession b x).task k = s.task k := rfl
@[simp] theorem setSession_chan (s : State) (b : Nat) (x : Session) (k : Nat) : (s.setSession b x).chan k = s.chan k := rfl
@[simp] theorem setSession_acc (s : State) (b : Nat) (x : Session) (k : Nat) : (s.setSession b x).acc k = s.acc k := rfl
@[simp] theorem setSession_loop (s : State) (b : Nat) (x : Session) (k : Nat) : (s.setSession b x).loop k = s.loop k := rfl
@[simp] theorem setSession_group (s : State) (b : Nat) (x : Session) (k : Nat) : (s.setSession b x).group k = s.group k := rfl
@[simp] theorem setSession_chkChan (s : State) (b : Nat) (x : Session) (k : Nat) : (s.setSession b x).chkChan k = s.chkChan k := rfl
@[simp] theorem setSession_controls (s : State) (b : Nat) (x : Session) : (s.setSession b x).controls = s.controls := rfl
@[simp] theorem setSession_shadow (s : State) (b : Nat) (x : Session) : (s.setSession b x).shadow = s.shadow := rfl
@[simp] theorem setSession_acts (s : State) (b : Nat) (x : Session) : (s.setSession b x).acts = s.acts := rfl

/-! ### setTask -/

@[simp] theorem setTask_pending (s : State) (b : Nat) (x : Task) : (s.setTask b x).pending = s.pending := rfl
@[simp] theorem setTask_freeCtr (s : State) (b : Nat) (x : Task) : (s.setTask b x).freeCtr = s.freeCtr := rfl
@[simp] theorem setTask_regs (s : State) (b : Nat) (x : Task) : (s.setTask b x).regs = s.regs := rfl
@[simp] theorem setTask_outs (s : State) (b : Nat) (x : Task) : (s.setTask b x).outs = s.outs := rfl
@[simp] theorem setTask_clock (s : State) (b : Nat) (x : Task) : (s.setTask b x).clock = s.clock := rfl
@[simp] theorem setTask_islands (s : State) (b : Nat) (x : Task) : (s.setTask b x).islands = s.islands := rfl
@[simp] theorem setTask_fabric (s : State) (b : Nat) (x : Task) : (s.setTask b x).fabric = s.fabric := rfl
@[simp] theorem setTask_harvest (s : State) (b : Nat) (x : Task) : (s.setTask b x).harvest = s.harvest := rfl
@[simp] theorem setTask_mail (s : State) (b : Nat) (x : Task) : (s.setTask b x).mail = s.mail := rfl
@[simp] theorem setTask_loops (s : State) (b : Nat) (x : Task) : (s.setTask b x).loops = s.loops := rfl
@[simp] theorem setTask_meter (s : State) (b : Nat) (x : Task) : (s.setTask b x).meter = s.meter := rfl
@[simp] theorem setTask_switch (s : State) (b : Nat) (x : Task) : (s.setTask b x).switch = s.switch := rfl
@[simp] theorem setTask_almanac (s : State) (b : Nat) (x : Task) : (s.setTask b x).almanac = s.almanac := rfl
@[simp] theorem setTask_bus (s : State) (b : Nat) (x : Task) : (s.setTask b x).bus = s.bus := rfl
@[simp] theorem setTask_twin (s : State) (b : Nat) (x : Task) : (s.setTask b x).twin = s.twin := rfl
@[simp] theorem setTask_power (s : State) (b : Nat) (x : Task) : (s.setTask b x).power = s.power := rfl
@[simp] theorem setTask_vault (s : State) (b : Nat) (x : Task) : (s.setTask b x).vault = s.vault := rfl
@[simp] theorem setTask_update (s : State) (b : Nat) (x : Task) : (s.setTask b x).update = s.update := rfl
@[simp] theorem setTask_irq (s : State) (b : Nat) (x : Task) : (s.setTask b x).irq = s.irq := rfl
@[simp] theorem setTask_chk (s : State) (b : Nat) (x : Task) : (s.setTask b x).chk = s.chk := rfl
@[simp] theorem setTask_reg (s : State) (b : Nat) (x : Task) (a : Nat) : (s.setTask b x).reg a = s.reg a := rfl
@[simp] theorem setTask_rfield (s : State) (b : Nat) (x : Task) (a l w : Nat) : (s.setTask b x).rfield a l w = s.rfield a l w := rfl
@[simp] theorem setTask_rbit (s : State) (b : Nat) (x : Task) (a i : Nat) : (s.setTask b x).rbit a i = s.rbit a i := rfl
@[simp] theorem setTask_isl (s : State) (b : Nat) (x : Task) (k : Nat) : (s.setTask b x).isl k = s.isl k := rfl
@[simp] theorem setTask_running (s : State) (b : Nat) (x : Task) (k : Nat) : (s.setTask b x).running k = s.running k := rfl
@[simp] theorem setTask_mayMove (s : State) (b : Nat) (x : Task) (k : Nat) : (s.setTask b x).mayMove k = s.mayMove k := rfl
@[simp] theorem setTask_tai (s : State) (b : Nat) (x : Task) : (s.setTask b x).tai = s.tai := rfl
@[simp] theorem setTask_now (s : State) (b : Nat) (x : Task) : (s.setTask b x).now = s.now := rfl
@[simp] theorem setTask_port (s : State) (b : Nat) (x : Task) (k : Nat) : (s.setTask b x).port k = s.port k := rfl
@[simp] theorem setTask_point (s : State) (b : Nat) (x : Task) (k : Nat) : (s.setTask b x).point k = s.point k := rfl
@[simp] theorem setTask_defined (s : State) (b : Nat) (x : Task) (k : Nat) : (s.setTask b x).defined k = s.defined k := rfl
@[simp] theorem setTask_failedPt (s : State) (b : Nat) (x : Task) (k : Nat) : (s.setTask b x).failedPt k = s.failedPt k := rfl
@[simp] theorem setTask_box (s : State) (b : Nat) (x : Task) (k : Nat) : (s.setTask b x).box k = s.box k := rfl
@[simp] theorem setTask_chan (s : State) (b : Nat) (x : Task) (k : Nat) : (s.setTask b x).chan k = s.chan k := rfl
@[simp] theorem setTask_acc (s : State) (b : Nat) (x : Task) (k : Nat) : (s.setTask b x).acc k = s.acc k := rfl
@[simp] theorem setTask_loop (s : State) (b : Nat) (x : Task) (k : Nat) : (s.setTask b x).loop k = s.loop k := rfl
@[simp] theorem setTask_group (s : State) (b : Nat) (x : Task) (k : Nat) : (s.setTask b x).group k = s.group k := rfl
@[simp] theorem setTask_chkChan (s : State) (b : Nat) (x : Task) (k : Nat) : (s.setTask b x).chkChan k = s.chkChan k := rfl
@[simp] theorem setTask_controls (s : State) (b : Nat) (x : Task) : (s.setTask b x).controls = s.controls := rfl
@[simp] theorem setTask_shadow (s : State) (b : Nat) (x : Task) : (s.setTask b x).shadow = s.shadow := rfl
@[simp] theorem setTask_acts (s : State) (b : Nat) (x : Task) : (s.setTask b x).acts = s.acts := rfl

/-! ### setGroup -/

@[simp] theorem setGroup_pending (s : State) (b : Nat) (x : Group) : (s.setGroup b x).pending = s.pending := rfl
@[simp] theorem setGroup_freeCtr (s : State) (b : Nat) (x : Group) : (s.setGroup b x).freeCtr = s.freeCtr := rfl
@[simp] theorem setGroup_regs (s : State) (b : Nat) (x : Group) : (s.setGroup b x).regs = s.regs := rfl
@[simp] theorem setGroup_outs (s : State) (b : Nat) (x : Group) : (s.setGroup b x).outs = s.outs := rfl
@[simp] theorem setGroup_clock (s : State) (b : Nat) (x : Group) : (s.setGroup b x).clock = s.clock := rfl
@[simp] theorem setGroup_islands (s : State) (b : Nat) (x : Group) : (s.setGroup b x).islands = s.islands := rfl
@[simp] theorem setGroup_fabric (s : State) (b : Nat) (x : Group) : (s.setGroup b x).fabric = s.fabric := rfl
@[simp] theorem setGroup_harvest (s : State) (b : Nat) (x : Group) : (s.setGroup b x).harvest = s.harvest := rfl
@[simp] theorem setGroup_mail (s : State) (b : Nat) (x : Group) : (s.setGroup b x).mail = s.mail := rfl
@[simp] theorem setGroup_thyme (s : State) (b : Nat) (x : Group) : (s.setGroup b x).thyme = s.thyme := rfl
@[simp] theorem setGroup_meter (s : State) (b : Nat) (x : Group) : (s.setGroup b x).meter = s.meter := rfl
@[simp] theorem setGroup_switch (s : State) (b : Nat) (x : Group) : (s.setGroup b x).switch = s.switch := rfl
@[simp] theorem setGroup_almanac (s : State) (b : Nat) (x : Group) : (s.setGroup b x).almanac = s.almanac := rfl
@[simp] theorem setGroup_bus (s : State) (b : Nat) (x : Group) : (s.setGroup b x).bus = s.bus := rfl
@[simp] theorem setGroup_twin (s : State) (b : Nat) (x : Group) : (s.setGroup b x).twin = s.twin := rfl
@[simp] theorem setGroup_power (s : State) (b : Nat) (x : Group) : (s.setGroup b x).power = s.power := rfl
@[simp] theorem setGroup_vault (s : State) (b : Nat) (x : Group) : (s.setGroup b x).vault = s.vault := rfl
@[simp] theorem setGroup_update (s : State) (b : Nat) (x : Group) : (s.setGroup b x).update = s.update := rfl
@[simp] theorem setGroup_irq (s : State) (b : Nat) (x : Group) : (s.setGroup b x).irq = s.irq := rfl
@[simp] theorem setGroup_chk (s : State) (b : Nat) (x : Group) : (s.setGroup b x).chk = s.chk := rfl
@[simp] theorem setGroup_reg (s : State) (b : Nat) (x : Group) (a : Nat) : (s.setGroup b x).reg a = s.reg a := rfl
@[simp] theorem setGroup_rfield (s : State) (b : Nat) (x : Group) (a l w : Nat) : (s.setGroup b x).rfield a l w = s.rfield a l w := rfl
@[simp] theorem setGroup_rbit (s : State) (b : Nat) (x : Group) (a i : Nat) : (s.setGroup b x).rbit a i = s.rbit a i := rfl
@[simp] theorem setGroup_isl (s : State) (b : Nat) (x : Group) (k : Nat) : (s.setGroup b x).isl k = s.isl k := rfl
@[simp] theorem setGroup_running (s : State) (b : Nat) (x : Group) (k : Nat) : (s.setGroup b x).running k = s.running k := rfl
@[simp] theorem setGroup_mayMove (s : State) (b : Nat) (x : Group) (k : Nat) : (s.setGroup b x).mayMove k = s.mayMove k := rfl
@[simp] theorem setGroup_tai (s : State) (b : Nat) (x : Group) : (s.setGroup b x).tai = s.tai := rfl
@[simp] theorem setGroup_now (s : State) (b : Nat) (x : Group) : (s.setGroup b x).now = s.now := rfl
@[simp] theorem setGroup_port (s : State) (b : Nat) (x : Group) (k : Nat) : (s.setGroup b x).port k = s.port k := rfl
@[simp] theorem setGroup_point (s : State) (b : Nat) (x : Group) (k : Nat) : (s.setGroup b x).point k = s.point k := rfl
@[simp] theorem setGroup_defined (s : State) (b : Nat) (x : Group) (k : Nat) : (s.setGroup b x).defined k = s.defined k := rfl
@[simp] theorem setGroup_failedPt (s : State) (b : Nat) (x : Group) (k : Nat) : (s.setGroup b x).failedPt k = s.failedPt k := rfl
@[simp] theorem setGroup_task (s : State) (b : Nat) (x : Group) (k : Nat) : (s.setGroup b x).task k = s.task k := rfl
@[simp] theorem setGroup_box (s : State) (b : Nat) (x : Group) (k : Nat) : (s.setGroup b x).box k = s.box k := rfl
@[simp] theorem setGroup_chan (s : State) (b : Nat) (x : Group) (k : Nat) : (s.setGroup b x).chan k = s.chan k := rfl
@[simp] theorem setGroup_acc (s : State) (b : Nat) (x : Group) (k : Nat) : (s.setGroup b x).acc k = s.acc k := rfl
@[simp] theorem setGroup_chkChan (s : State) (b : Nat) (x : Group) (k : Nat) : (s.setGroup b x).chkChan k = s.chkChan k := rfl
@[simp] theorem setGroup_controls (s : State) (b : Nat) (x : Group) : (s.setGroup b x).controls = s.controls := rfl
@[simp] theorem setGroup_shadow (s : State) (b : Nat) (x : Group) : (s.setGroup b x).shadow = s.shadow := rfl
@[simp] theorem setGroup_acts (s : State) (b : Nat) (x : Group) : (s.setGroup b x).acts = s.acts := rfl

/-! ### setChkChan -/

@[simp] theorem setChkChan_pending (s : State) (b : Nat) (x : ChkChan) : (s.setChkChan b x).pending = s.pending := rfl
@[simp] theorem setChkChan_freeCtr (s : State) (b : Nat) (x : ChkChan) : (s.setChkChan b x).freeCtr = s.freeCtr := rfl
@[simp] theorem setChkChan_regs (s : State) (b : Nat) (x : ChkChan) : (s.setChkChan b x).regs = s.regs := rfl
@[simp] theorem setChkChan_outs (s : State) (b : Nat) (x : ChkChan) : (s.setChkChan b x).outs = s.outs := rfl
@[simp] theorem setChkChan_clock (s : State) (b : Nat) (x : ChkChan) : (s.setChkChan b x).clock = s.clock := rfl
@[simp] theorem setChkChan_islands (s : State) (b : Nat) (x : ChkChan) : (s.setChkChan b x).islands = s.islands := rfl
@[simp] theorem setChkChan_fabric (s : State) (b : Nat) (x : ChkChan) : (s.setChkChan b x).fabric = s.fabric := rfl
@[simp] theorem setChkChan_harvest (s : State) (b : Nat) (x : ChkChan) : (s.setChkChan b x).harvest = s.harvest := rfl
@[simp] theorem setChkChan_mail (s : State) (b : Nat) (x : ChkChan) : (s.setChkChan b x).mail = s.mail := rfl
@[simp] theorem setChkChan_thyme (s : State) (b : Nat) (x : ChkChan) : (s.setChkChan b x).thyme = s.thyme := rfl
@[simp] theorem setChkChan_loops (s : State) (b : Nat) (x : ChkChan) : (s.setChkChan b x).loops = s.loops := rfl
@[simp] theorem setChkChan_meter (s : State) (b : Nat) (x : ChkChan) : (s.setChkChan b x).meter = s.meter := rfl
@[simp] theorem setChkChan_switch (s : State) (b : Nat) (x : ChkChan) : (s.setChkChan b x).switch = s.switch := rfl
@[simp] theorem setChkChan_almanac (s : State) (b : Nat) (x : ChkChan) : (s.setChkChan b x).almanac = s.almanac := rfl
@[simp] theorem setChkChan_bus (s : State) (b : Nat) (x : ChkChan) : (s.setChkChan b x).bus = s.bus := rfl
@[simp] theorem setChkChan_twin (s : State) (b : Nat) (x : ChkChan) : (s.setChkChan b x).twin = s.twin := rfl
@[simp] theorem setChkChan_power (s : State) (b : Nat) (x : ChkChan) : (s.setChkChan b x).power = s.power := rfl
@[simp] theorem setChkChan_vault (s : State) (b : Nat) (x : ChkChan) : (s.setChkChan b x).vault = s.vault := rfl
@[simp] theorem setChkChan_update (s : State) (b : Nat) (x : ChkChan) : (s.setChkChan b x).update = s.update := rfl
@[simp] theorem setChkChan_irq (s : State) (b : Nat) (x : ChkChan) : (s.setChkChan b x).irq = s.irq := rfl
@[simp] theorem setChkChan_reg (s : State) (b : Nat) (x : ChkChan) (a : Nat) : (s.setChkChan b x).reg a = s.reg a := rfl
@[simp] theorem setChkChan_rfield (s : State) (b : Nat) (x : ChkChan) (a l w : Nat) : (s.setChkChan b x).rfield a l w = s.rfield a l w := rfl
@[simp] theorem setChkChan_rbit (s : State) (b : Nat) (x : ChkChan) (a i : Nat) : (s.setChkChan b x).rbit a i = s.rbit a i := rfl
@[simp] theorem setChkChan_isl (s : State) (b : Nat) (x : ChkChan) (k : Nat) : (s.setChkChan b x).isl k = s.isl k := rfl
@[simp] theorem setChkChan_running (s : State) (b : Nat) (x : ChkChan) (k : Nat) : (s.setChkChan b x).running k = s.running k := rfl
@[simp] theorem setChkChan_mayMove (s : State) (b : Nat) (x : ChkChan) (k : Nat) : (s.setChkChan b x).mayMove k = s.mayMove k := rfl
@[simp] theorem setChkChan_tai (s : State) (b : Nat) (x : ChkChan) : (s.setChkChan b x).tai = s.tai := rfl
@[simp] theorem setChkChan_now (s : State) (b : Nat) (x : ChkChan) : (s.setChkChan b x).now = s.now := rfl
@[simp] theorem setChkChan_port (s : State) (b : Nat) (x : ChkChan) (k : Nat) : (s.setChkChan b x).port k = s.port k := rfl
@[simp] theorem setChkChan_point (s : State) (b : Nat) (x : ChkChan) (k : Nat) : (s.setChkChan b x).point k = s.point k := rfl
@[simp] theorem setChkChan_defined (s : State) (b : Nat) (x : ChkChan) (k : Nat) : (s.setChkChan b x).defined k = s.defined k := rfl
@[simp] theorem setChkChan_failedPt (s : State) (b : Nat) (x : ChkChan) (k : Nat) : (s.setChkChan b x).failedPt k = s.failedPt k := rfl
@[simp] theorem setChkChan_task (s : State) (b : Nat) (x : ChkChan) (k : Nat) : (s.setChkChan b x).task k = s.task k := rfl
@[simp] theorem setChkChan_box (s : State) (b : Nat) (x : ChkChan) (k : Nat) : (s.setChkChan b x).box k = s.box k := rfl
@[simp] theorem setChkChan_chan (s : State) (b : Nat) (x : ChkChan) (k : Nat) : (s.setChkChan b x).chan k = s.chan k := rfl
@[simp] theorem setChkChan_acc (s : State) (b : Nat) (x : ChkChan) (k : Nat) : (s.setChkChan b x).acc k = s.acc k := rfl
@[simp] theorem setChkChan_loop (s : State) (b : Nat) (x : ChkChan) (k : Nat) : (s.setChkChan b x).loop k = s.loop k := rfl
@[simp] theorem setChkChan_group (s : State) (b : Nat) (x : ChkChan) (k : Nat) : (s.setChkChan b x).group k = s.group k := rfl
@[simp] theorem setChkChan_controls (s : State) (b : Nat) (x : ChkChan) : (s.setChkChan b x).controls = s.controls := rfl
@[simp] theorem setChkChan_shadow (s : State) (b : Nat) (x : ChkChan) : (s.setChkChan b x).shadow = s.shadow := rfl
@[simp] theorem setChkChan_acts (s : State) (b : Nat) (x : ChkChan) : (s.setChkChan b x).acts = s.acts := rfl

/-! ### chkStuck -/

@[simp] theorem chkStuck_pending (s : State) (x : Bool) : (s.chkStuck x).pending = s.pending := rfl
@[simp] theorem chkStuck_freeCtr (s : State) (x : Bool) : (s.chkStuck x).freeCtr = s.freeCtr := rfl
@[simp] theorem chkStuck_regs (s : State) (x : Bool) : (s.chkStuck x).regs = s.regs := rfl
@[simp] theorem chkStuck_outs (s : State) (x : Bool) : (s.chkStuck x).outs = s.outs := rfl
@[simp] theorem chkStuck_clock (s : State) (x : Bool) : (s.chkStuck x).clock = s.clock := rfl
@[simp] theorem chkStuck_islands (s : State) (x : Bool) : (s.chkStuck x).islands = s.islands := rfl
@[simp] theorem chkStuck_fabric (s : State) (x : Bool) : (s.chkStuck x).fabric = s.fabric := rfl
@[simp] theorem chkStuck_harvest (s : State) (x : Bool) : (s.chkStuck x).harvest = s.harvest := rfl
@[simp] theorem chkStuck_mail (s : State) (x : Bool) : (s.chkStuck x).mail = s.mail := rfl
@[simp] theorem chkStuck_thyme (s : State) (x : Bool) : (s.chkStuck x).thyme = s.thyme := rfl
@[simp] theorem chkStuck_loops (s : State) (x : Bool) : (s.chkStuck x).loops = s.loops := rfl
@[simp] theorem chkStuck_meter (s : State) (x : Bool) : (s.chkStuck x).meter = s.meter := rfl
@[simp] theorem chkStuck_switch (s : State) (x : Bool) : (s.chkStuck x).switch = s.switch := rfl
@[simp] theorem chkStuck_almanac (s : State) (x : Bool) : (s.chkStuck x).almanac = s.almanac := rfl
@[simp] theorem chkStuck_bus (s : State) (x : Bool) : (s.chkStuck x).bus = s.bus := rfl
@[simp] theorem chkStuck_twin (s : State) (x : Bool) : (s.chkStuck x).twin = s.twin := rfl
@[simp] theorem chkStuck_power (s : State) (x : Bool) : (s.chkStuck x).power = s.power := rfl
@[simp] theorem chkStuck_vault (s : State) (x : Bool) : (s.chkStuck x).vault = s.vault := rfl
@[simp] theorem chkStuck_update (s : State) (x : Bool) : (s.chkStuck x).update = s.update := rfl
@[simp] theorem chkStuck_irq (s : State) (x : Bool) : (s.chkStuck x).irq = s.irq := rfl
@[simp] theorem chkStuck_reg (s : State) (x : Bool) (a : Nat) : (s.chkStuck x).reg a = s.reg a := rfl
@[simp] theorem chkStuck_rfield (s : State) (x : Bool) (a l w : Nat) : (s.chkStuck x).rfield a l w = s.rfield a l w := rfl
@[simp] theorem chkStuck_rbit (s : State) (x : Bool) (a i : Nat) : (s.chkStuck x).rbit a i = s.rbit a i := rfl
@[simp] theorem chkStuck_isl (s : State) (x : Bool) (k : Nat) : (s.chkStuck x).isl k = s.isl k := rfl
@[simp] theorem chkStuck_running (s : State) (x : Bool) (k : Nat) : (s.chkStuck x).running k = s.running k := rfl
@[simp] theorem chkStuck_mayMove (s : State) (x : Bool) (k : Nat) : (s.chkStuck x).mayMove k = s.mayMove k := rfl
@[simp] theorem chkStuck_tai (s : State) (x : Bool) : (s.chkStuck x).tai = s.tai := rfl
@[simp] theorem chkStuck_now (s : State) (x : Bool) : (s.chkStuck x).now = s.now := rfl
@[simp] theorem chkStuck_port (s : State) (x : Bool) (k : Nat) : (s.chkStuck x).port k = s.port k := rfl
@[simp] theorem chkStuck_point (s : State) (x : Bool) (k : Nat) : (s.chkStuck x).point k = s.point k := rfl
@[simp] theorem chkStuck_defined (s : State) (x : Bool) (k : Nat) : (s.chkStuck x).defined k = s.defined k := rfl
@[simp] theorem chkStuck_failedPt (s : State) (x : Bool) (k : Nat) : (s.chkStuck x).failedPt k = s.failedPt k := rfl
@[simp] theorem chkStuck_task (s : State) (x : Bool) (k : Nat) : (s.chkStuck x).task k = s.task k := rfl
@[simp] theorem chkStuck_box (s : State) (x : Bool) (k : Nat) : (s.chkStuck x).box k = s.box k := rfl
@[simp] theorem chkStuck_chan (s : State) (x : Bool) (k : Nat) : (s.chkStuck x).chan k = s.chan k := rfl
@[simp] theorem chkStuck_acc (s : State) (x : Bool) (k : Nat) : (s.chkStuck x).acc k = s.acc k := rfl
@[simp] theorem chkStuck_loop (s : State) (x : Bool) (k : Nat) : (s.chkStuck x).loop k = s.loop k := rfl
@[simp] theorem chkStuck_group (s : State) (x : Bool) (k : Nat) : (s.chkStuck x).group k = s.group k := rfl
@[simp] theorem chkStuck_controls (s : State) (x : Bool) : (s.chkStuck x).controls = s.controls := rfl
@[simp] theorem chkStuck_shadow (s : State) (x : Bool) : (s.chkStuck x).shadow = s.shadow := rfl
@[simp] theorem chkStuck_acts (s : State) (x : Bool) : (s.chkStuck x).acts = s.acts := rfl

/-! ### chkCounted -/

@[simp] theorem chkCounted_pending (s : State) (b : Nat) : (s.chkCounted b).pending = s.pending := rfl
@[simp] theorem chkCounted_freeCtr (s : State) (b : Nat) : (s.chkCounted b).freeCtr = s.freeCtr := rfl
@[simp] theorem chkCounted_regs (s : State) (b : Nat) : (s.chkCounted b).regs = s.regs := rfl
@[simp] theorem chkCounted_outs (s : State) (b : Nat) : (s.chkCounted b).outs = s.outs := rfl
@[simp] theorem chkCounted_clock (s : State) (b : Nat) : (s.chkCounted b).clock = s.clock := rfl
@[simp] theorem chkCounted_islands (s : State) (b : Nat) : (s.chkCounted b).islands = s.islands := rfl
@[simp] theorem chkCounted_fabric (s : State) (b : Nat) : (s.chkCounted b).fabric = s.fabric := rfl
@[simp] theorem chkCounted_harvest (s : State) (b : Nat) : (s.chkCounted b).harvest = s.harvest := rfl
@[simp] theorem chkCounted_mail (s : State) (b : Nat) : (s.chkCounted b).mail = s.mail := rfl
@[simp] theorem chkCounted_thyme (s : State) (b : Nat) : (s.chkCounted b).thyme = s.thyme := rfl
@[simp] theorem chkCounted_loops (s : State) (b : Nat) : (s.chkCounted b).loops = s.loops := rfl
@[simp] theorem chkCounted_meter (s : State) (b : Nat) : (s.chkCounted b).meter = s.meter := rfl
@[simp] theorem chkCounted_switch (s : State) (b : Nat) : (s.chkCounted b).switch = s.switch := rfl
@[simp] theorem chkCounted_almanac (s : State) (b : Nat) : (s.chkCounted b).almanac = s.almanac := rfl
@[simp] theorem chkCounted_bus (s : State) (b : Nat) : (s.chkCounted b).bus = s.bus := rfl
@[simp] theorem chkCounted_twin (s : State) (b : Nat) : (s.chkCounted b).twin = s.twin := rfl
@[simp] theorem chkCounted_power (s : State) (b : Nat) : (s.chkCounted b).power = s.power := rfl
@[simp] theorem chkCounted_vault (s : State) (b : Nat) : (s.chkCounted b).vault = s.vault := rfl
@[simp] theorem chkCounted_update (s : State) (b : Nat) : (s.chkCounted b).update = s.update := rfl
@[simp] theorem chkCounted_irq (s : State) (b : Nat) : (s.chkCounted b).irq = s.irq := rfl
@[simp] theorem chkCounted_reg (s : State) (b : Nat) (a : Nat) : (s.chkCounted b).reg a = s.reg a := rfl
@[simp] theorem chkCounted_rfield (s : State) (b : Nat) (a l w : Nat) : (s.chkCounted b).rfield a l w = s.rfield a l w := rfl
@[simp] theorem chkCounted_rbit (s : State) (b : Nat) (a i : Nat) : (s.chkCounted b).rbit a i = s.rbit a i := rfl
@[simp] theorem chkCounted_isl (s : State) (b : Nat) (k : Nat) : (s.chkCounted b).isl k = s.isl k := rfl
@[simp] theorem chkCounted_running (s : State) (b : Nat) (k : Nat) : (s.chkCounted b).running k = s.running k := rfl
@[simp] theorem chkCounted_mayMove (s : State) (b : Nat) (k : Nat) : (s.chkCounted b).mayMove k = s.mayMove k := rfl
@[simp] theorem chkCounted_tai (s : State) (b : Nat) : (s.chkCounted b).tai = s.tai := rfl
@[simp] theorem chkCounted_now (s : State) (b : Nat) : (s.chkCounted b).now = s.now := rfl
@[simp] theorem chkCounted_port (s : State) (b : Nat) (k : Nat) : (s.chkCounted b).port k = s.port k := rfl
@[simp] theorem chkCounted_point (s : State) (b : Nat) (k : Nat) : (s.chkCounted b).point k = s.point k := rfl
@[simp] theorem chkCounted_defined (s : State) (b : Nat) (k : Nat) : (s.chkCounted b).defined k = s.defined k := rfl
@[simp] theorem chkCounted_failedPt (s : State) (b : Nat) (k : Nat) : (s.chkCounted b).failedPt k = s.failedPt k := rfl
@[simp] theorem chkCounted_task (s : State) (b : Nat) (k : Nat) : (s.chkCounted b).task k = s.task k := rfl
@[simp] theorem chkCounted_box (s : State) (b : Nat) (k : Nat) : (s.chkCounted b).box k = s.box k := rfl
@[simp] theorem chkCounted_chan (s : State) (b : Nat) (k : Nat) : (s.chkCounted b).chan k = s.chan k := rfl
@[simp] theorem chkCounted_acc (s : State) (b : Nat) (k : Nat) : (s.chkCounted b).acc k = s.acc k := rfl
@[simp] theorem chkCounted_loop (s : State) (b : Nat) (k : Nat) : (s.chkCounted b).loop k = s.loop k := rfl
@[simp] theorem chkCounted_group (s : State) (b : Nat) (k : Nat) : (s.chkCounted b).group k = s.group k := rfl
@[simp] theorem chkCounted_controls (s : State) (b : Nat) : (s.chkCounted b).controls = s.controls := rfl
@[simp] theorem chkCounted_shadow (s : State) (b : Nat) : (s.chkCounted b).shadow = s.shadow := rfl
@[simp] theorem chkCounted_acts (s : State) (b : Nat) : (s.chkCounted b).acts = s.acts := rfl

/-! ### chkFailed -/

@[simp] theorem chkFailed_pending (s : State) (b : Nat) : (s.chkFailed b).pending = s.pending := rfl
@[simp] theorem chkFailed_freeCtr (s : State) (b : Nat) : (s.chkFailed b).freeCtr = s.freeCtr := rfl
@[simp] theorem chkFailed_regs (s : State) (b : Nat) : (s.chkFailed b).regs = s.regs := rfl
@[simp] theorem chkFailed_outs (s : State) (b : Nat) : (s.chkFailed b).outs = s.outs := rfl
@[simp] theorem chkFailed_clock (s : State) (b : Nat) : (s.chkFailed b).clock = s.clock := rfl
@[simp] theorem chkFailed_islands (s : State) (b : Nat) : (s.chkFailed b).islands = s.islands := rfl
@[simp] theorem chkFailed_fabric (s : State) (b : Nat) : (s.chkFailed b).fabric = s.fabric := rfl
@[simp] theorem chkFailed_harvest (s : State) (b : Nat) : (s.chkFailed b).harvest = s.harvest := rfl
@[simp] theorem chkFailed_mail (s : State) (b : Nat) : (s.chkFailed b).mail = s.mail := rfl
@[simp] theorem chkFailed_thyme (s : State) (b : Nat) : (s.chkFailed b).thyme = s.thyme := rfl
@[simp] theorem chkFailed_loops (s : State) (b : Nat) : (s.chkFailed b).loops = s.loops := rfl
@[simp] theorem chkFailed_meter (s : State) (b : Nat) : (s.chkFailed b).meter = s.meter := rfl
@[simp] theorem chkFailed_switch (s : State) (b : Nat) : (s.chkFailed b).switch = s.switch := rfl
@[simp] theorem chkFailed_almanac (s : State) (b : Nat) : (s.chkFailed b).almanac = s.almanac := rfl
@[simp] theorem chkFailed_bus (s : State) (b : Nat) : (s.chkFailed b).bus = s.bus := rfl
@[simp] theorem chkFailed_twin (s : State) (b : Nat) : (s.chkFailed b).twin = s.twin := rfl
@[simp] theorem chkFailed_power (s : State) (b : Nat) : (s.chkFailed b).power = s.power := rfl
@[simp] theorem chkFailed_vault (s : State) (b : Nat) : (s.chkFailed b).vault = s.vault := rfl
@[simp] theorem chkFailed_update (s : State) (b : Nat) : (s.chkFailed b).update = s.update := rfl
@[simp] theorem chkFailed_irq (s : State) (b : Nat) : (s.chkFailed b).irq = s.irq := rfl
@[simp] theorem chkFailed_reg (s : State) (b : Nat) (a : Nat) : (s.chkFailed b).reg a = s.reg a := rfl
@[simp] theorem chkFailed_rfield (s : State) (b : Nat) (a l w : Nat) : (s.chkFailed b).rfield a l w = s.rfield a l w := rfl
@[simp] theorem chkFailed_rbit (s : State) (b : Nat) (a i : Nat) : (s.chkFailed b).rbit a i = s.rbit a i := rfl
@[simp] theorem chkFailed_isl (s : State) (b : Nat) (k : Nat) : (s.chkFailed b).isl k = s.isl k := rfl
@[simp] theorem chkFailed_running (s : State) (b : Nat) (k : Nat) : (s.chkFailed b).running k = s.running k := rfl
@[simp] theorem chkFailed_mayMove (s : State) (b : Nat) (k : Nat) : (s.chkFailed b).mayMove k = s.mayMove k := rfl
@[simp] theorem chkFailed_tai (s : State) (b : Nat) : (s.chkFailed b).tai = s.tai := rfl
@[simp] theorem chkFailed_now (s : State) (b : Nat) : (s.chkFailed b).now = s.now := rfl
@[simp] theorem chkFailed_port (s : State) (b : Nat) (k : Nat) : (s.chkFailed b).port k = s.port k := rfl
@[simp] theorem chkFailed_point (s : State) (b : Nat) (k : Nat) : (s.chkFailed b).point k = s.point k := rfl
@[simp] theorem chkFailed_defined (s : State) (b : Nat) (k : Nat) : (s.chkFailed b).defined k = s.defined k := rfl
@[simp] theorem chkFailed_failedPt (s : State) (b : Nat) (k : Nat) : (s.chkFailed b).failedPt k = s.failedPt k := rfl
@[simp] theorem chkFailed_task (s : State) (b : Nat) (k : Nat) : (s.chkFailed b).task k = s.task k := rfl
@[simp] theorem chkFailed_box (s : State) (b : Nat) (k : Nat) : (s.chkFailed b).box k = s.box k := rfl
@[simp] theorem chkFailed_chan (s : State) (b : Nat) (k : Nat) : (s.chkFailed b).chan k = s.chan k := rfl
@[simp] theorem chkFailed_acc (s : State) (b : Nat) (k : Nat) : (s.chkFailed b).acc k = s.acc k := rfl
@[simp] theorem chkFailed_loop (s : State) (b : Nat) (k : Nat) : (s.chkFailed b).loop k = s.loop k := rfl
@[simp] theorem chkFailed_group (s : State) (b : Nat) (k : Nat) : (s.chkFailed b).group k = s.group k := rfl
@[simp] theorem chkFailed_controls (s : State) (b : Nat) : (s.chkFailed b).controls = s.controls := rfl
@[simp] theorem chkFailed_shadow (s : State) (b : Nat) : (s.chkFailed b).shadow = s.shadow := rfl
@[simp] theorem chkFailed_acts (s : State) (b : Nat) : (s.chkFailed b).acts = s.acts := rfl

/-! ### chkAborted -/

@[simp] theorem chkAborted_pending (s : State) (b : Nat) : (s.chkAborted b).pending = s.pending := rfl
@[simp] theorem chkAborted_freeCtr (s : State) (b : Nat) : (s.chkAborted b).freeCtr = s.freeCtr := rfl
@[simp] theorem chkAborted_regs (s : State) (b : Nat) : (s.chkAborted b).regs = s.regs := rfl
@[simp] theorem chkAborted_outs (s : State) (b : Nat) : (s.chkAborted b).outs = s.outs := rfl
@[simp] theorem chkAborted_clock (s : State) (b : Nat) : (s.chkAborted b).clock = s.clock := rfl
@[simp] theorem chkAborted_islands (s : State) (b : Nat) : (s.chkAborted b).islands = s.islands := rfl
@[simp] theorem chkAborted_fabric (s : State) (b : Nat) : (s.chkAborted b).fabric = s.fabric := rfl
@[simp] theorem chkAborted_harvest (s : State) (b : Nat) : (s.chkAborted b).harvest = s.harvest := rfl
@[simp] theorem chkAborted_mail (s : State) (b : Nat) : (s.chkAborted b).mail = s.mail := rfl
@[simp] theorem chkAborted_thyme (s : State) (b : Nat) : (s.chkAborted b).thyme = s.thyme := rfl
@[simp] theorem chkAborted_loops (s : State) (b : Nat) : (s.chkAborted b).loops = s.loops := rfl
@[simp] theorem chkAborted_meter (s : State) (b : Nat) : (s.chkAborted b).meter = s.meter := rfl
@[simp] theorem chkAborted_switch (s : State) (b : Nat) : (s.chkAborted b).switch = s.switch := rfl
@[simp] theorem chkAborted_almanac (s : State) (b : Nat) : (s.chkAborted b).almanac = s.almanac := rfl
@[simp] theorem chkAborted_bus (s : State) (b : Nat) : (s.chkAborted b).bus = s.bus := rfl
@[simp] theorem chkAborted_twin (s : State) (b : Nat) : (s.chkAborted b).twin = s.twin := rfl
@[simp] theorem chkAborted_power (s : State) (b : Nat) : (s.chkAborted b).power = s.power := rfl
@[simp] theorem chkAborted_vault (s : State) (b : Nat) : (s.chkAborted b).vault = s.vault := rfl
@[simp] theorem chkAborted_update (s : State) (b : Nat) : (s.chkAborted b).update = s.update := rfl
@[simp] theorem chkAborted_irq (s : State) (b : Nat) : (s.chkAborted b).irq = s.irq := rfl
@[simp] theorem chkAborted_reg (s : State) (b : Nat) (a : Nat) : (s.chkAborted b).reg a = s.reg a := rfl
@[simp] theorem chkAborted_rfield (s : State) (b : Nat) (a l w : Nat) : (s.chkAborted b).rfield a l w = s.rfield a l w := rfl
@[simp] theorem chkAborted_rbit (s : State) (b : Nat) (a i : Nat) : (s.chkAborted b).rbit a i = s.rbit a i := rfl
@[simp] theorem chkAborted_isl (s : State) (b : Nat) (k : Nat) : (s.chkAborted b).isl k = s.isl k := rfl
@[simp] theorem chkAborted_running (s : State) (b : Nat) (k : Nat) : (s.chkAborted b).running k = s.running k := rfl
@[simp] theorem chkAborted_mayMove (s : State) (b : Nat) (k : Nat) : (s.chkAborted b).mayMove k = s.mayMove k := rfl
@[simp] theorem chkAborted_tai (s : State) (b : Nat) : (s.chkAborted b).tai = s.tai := rfl
@[simp] theorem chkAborted_now (s : State) (b : Nat) : (s.chkAborted b).now = s.now := rfl
@[simp] theorem chkAborted_port (s : State) (b : Nat) (k : Nat) : (s.chkAborted b).port k = s.port k := rfl
@[simp] theorem chkAborted_point (s : State) (b : Nat) (k : Nat) : (s.chkAborted b).point k = s.point k := rfl
@[simp] theorem chkAborted_defined (s : State) (b : Nat) (k : Nat) : (s.chkAborted b).defined k = s.defined k := rfl
@[simp] theorem chkAborted_failedPt (s : State) (b : Nat) (k : Nat) : (s.chkAborted b).failedPt k = s.failedPt k := rfl
@[simp] theorem chkAborted_task (s : State) (b : Nat) (k : Nat) : (s.chkAborted b).task k = s.task k := rfl
@[simp] theorem chkAborted_box (s : State) (b : Nat) (k : Nat) : (s.chkAborted b).box k = s.box k := rfl
@[simp] theorem chkAborted_chan (s : State) (b : Nat) (k : Nat) : (s.chkAborted b).chan k = s.chan k := rfl
@[simp] theorem chkAborted_acc (s : State) (b : Nat) (k : Nat) : (s.chkAborted b).acc k = s.acc k := rfl
@[simp] theorem chkAborted_loop (s : State) (b : Nat) (k : Nat) : (s.chkAborted b).loop k = s.loop k := rfl
@[simp] theorem chkAborted_group (s : State) (b : Nat) (k : Nat) : (s.chkAborted b).group k = s.group k := rfl
@[simp] theorem chkAborted_controls (s : State) (b : Nat) : (s.chkAborted b).controls = s.controls := rfl
@[simp] theorem chkAborted_shadow (s : State) (b : Nat) : (s.chkAborted b).shadow = s.shadow := rfl
@[simp] theorem chkAborted_acts (s : State) (b : Nat) : (s.chkAborted b).acts = s.acts := rfl

/-! ### chkUnit -/

@[simp] theorem chkUnit_pending (s : State) (b n : Nat) (v : Word) (x : Bool) : (s.chkUnit b n v x).pending = s.pending := ite_both (fun (t : State) => t.pending) (ite_both (fun (t : State) => t.pending) ((chkFailed_pending ..).trans ((chkCounted_pending ..).trans (setChkChan_pending ..))) ((chkCounted_pending ..).trans (setChkChan_pending ..))) rfl
@[simp] theorem chkUnit_freeCtr (s : State) (b n : Nat) (v : Word) (x : Bool) : (s.chkUnit b n v x).freeCtr = s.freeCtr := ite_both (fun (t : State) => t.freeCtr) (ite_both (fun (t : State) => t.freeCtr) ((chkFailed_freeCtr ..).trans ((chkCounted_freeCtr ..).trans (setChkChan_freeCtr ..))) ((chkCounted_freeCtr ..).trans (setChkChan_freeCtr ..))) rfl
@[simp] theorem chkUnit_regs (s : State) (b n : Nat) (v : Word) (x : Bool) : (s.chkUnit b n v x).regs = s.regs := ite_both (fun (t : State) => t.regs) (ite_both (fun (t : State) => t.regs) ((chkFailed_regs ..).trans ((chkCounted_regs ..).trans (setChkChan_regs ..))) ((chkCounted_regs ..).trans (setChkChan_regs ..))) rfl
@[simp] theorem chkUnit_outs (s : State) (b n : Nat) (v : Word) (x : Bool) : (s.chkUnit b n v x).outs = s.outs := ite_both (fun (t : State) => t.outs) (ite_both (fun (t : State) => t.outs) ((chkFailed_outs ..).trans ((chkCounted_outs ..).trans (setChkChan_outs ..))) ((chkCounted_outs ..).trans (setChkChan_outs ..))) rfl
@[simp] theorem chkUnit_clock (s : State) (b n : Nat) (v : Word) (x : Bool) : (s.chkUnit b n v x).clock = s.clock := ite_both (fun (t : State) => t.clock) (ite_both (fun (t : State) => t.clock) ((chkFailed_clock ..).trans ((chkCounted_clock ..).trans (setChkChan_clock ..))) ((chkCounted_clock ..).trans (setChkChan_clock ..))) rfl
@[simp] theorem chkUnit_islands (s : State) (b n : Nat) (v : Word) (x : Bool) : (s.chkUnit b n v x).islands = s.islands := ite_both (fun (t : State) => t.islands) (ite_both (fun (t : State) => t.islands) ((chkFailed_islands ..).trans ((chkCounted_islands ..).trans (setChkChan_islands ..))) ((chkCounted_islands ..).trans (setChkChan_islands ..))) rfl
@[simp] theorem chkUnit_fabric (s : State) (b n : Nat) (v : Word) (x : Bool) : (s.chkUnit b n v x).fabric = s.fabric := ite_both (fun (t : State) => t.fabric) (ite_both (fun (t : State) => t.fabric) ((chkFailed_fabric ..).trans ((chkCounted_fabric ..).trans (setChkChan_fabric ..))) ((chkCounted_fabric ..).trans (setChkChan_fabric ..))) rfl
@[simp] theorem chkUnit_harvest (s : State) (b n : Nat) (v : Word) (x : Bool) : (s.chkUnit b n v x).harvest = s.harvest := ite_both (fun (t : State) => t.harvest) (ite_both (fun (t : State) => t.harvest) ((chkFailed_harvest ..).trans ((chkCounted_harvest ..).trans (setChkChan_harvest ..))) ((chkCounted_harvest ..).trans (setChkChan_harvest ..))) rfl
@[simp] theorem chkUnit_mail (s : State) (b n : Nat) (v : Word) (x : Bool) : (s.chkUnit b n v x).mail = s.mail := ite_both (fun (t : State) => t.mail) (ite_both (fun (t : State) => t.mail) ((chkFailed_mail ..).trans ((chkCounted_mail ..).trans (setChkChan_mail ..))) ((chkCounted_mail ..).trans (setChkChan_mail ..))) rfl
@[simp] theorem chkUnit_thyme (s : State) (b n : Nat) (v : Word) (x : Bool) : (s.chkUnit b n v x).thyme = s.thyme := ite_both (fun (t : State) => t.thyme) (ite_both (fun (t : State) => t.thyme) ((chkFailed_thyme ..).trans ((chkCounted_thyme ..).trans (setChkChan_thyme ..))) ((chkCounted_thyme ..).trans (setChkChan_thyme ..))) rfl
@[simp] theorem chkUnit_loops (s : State) (b n : Nat) (v : Word) (x : Bool) : (s.chkUnit b n v x).loops = s.loops := ite_both (fun (t : State) => t.loops) (ite_both (fun (t : State) => t.loops) ((chkFailed_loops ..).trans ((chkCounted_loops ..).trans (setChkChan_loops ..))) ((chkCounted_loops ..).trans (setChkChan_loops ..))) rfl
@[simp] theorem chkUnit_meter (s : State) (b n : Nat) (v : Word) (x : Bool) : (s.chkUnit b n v x).meter = s.meter := ite_both (fun (t : State) => t.meter) (ite_both (fun (t : State) => t.meter) ((chkFailed_meter ..).trans ((chkCounted_meter ..).trans (setChkChan_meter ..))) ((chkCounted_meter ..).trans (setChkChan_meter ..))) rfl
@[simp] theorem chkUnit_switch (s : State) (b n : Nat) (v : Word) (x : Bool) : (s.chkUnit b n v x).switch = s.switch := ite_both (fun (t : State) => t.switch) (ite_both (fun (t : State) => t.switch) ((chkFailed_switch ..).trans ((chkCounted_switch ..).trans (setChkChan_switch ..))) ((chkCounted_switch ..).trans (setChkChan_switch ..))) rfl
@[simp] theorem chkUnit_almanac (s : State) (b n : Nat) (v : Word) (x : Bool) : (s.chkUnit b n v x).almanac = s.almanac := ite_both (fun (t : State) => t.almanac) (ite_both (fun (t : State) => t.almanac) ((chkFailed_almanac ..).trans ((chkCounted_almanac ..).trans (setChkChan_almanac ..))) ((chkCounted_almanac ..).trans (setChkChan_almanac ..))) rfl
@[simp] theorem chkUnit_bus (s : State) (b n : Nat) (v : Word) (x : Bool) : (s.chkUnit b n v x).bus = s.bus := ite_both (fun (t : State) => t.bus) (ite_both (fun (t : State) => t.bus) ((chkFailed_bus ..).trans ((chkCounted_bus ..).trans (setChkChan_bus ..))) ((chkCounted_bus ..).trans (setChkChan_bus ..))) rfl
@[simp] theorem chkUnit_twin (s : State) (b n : Nat) (v : Word) (x : Bool) : (s.chkUnit b n v x).twin = s.twin := ite_both (fun (t : State) => t.twin) (ite_both (fun (t : State) => t.twin) ((chkFailed_twin ..).trans ((chkCounted_twin ..).trans (setChkChan_twin ..))) ((chkCounted_twin ..).trans (setChkChan_twin ..))) rfl
@[simp] theorem chkUnit_power (s : State) (b n : Nat) (v : Word) (x : Bool) : (s.chkUnit b n v x).power = s.power := ite_both (fun (t : State) => t.power) (ite_both (fun (t : State) => t.power) ((chkFailed_power ..).trans ((chkCounted_power ..).trans (setChkChan_power ..))) ((chkCounted_power ..).trans (setChkChan_power ..))) rfl
@[simp] theorem chkUnit_vault (s : State) (b n : Nat) (v : Word) (x : Bool) : (s.chkUnit b n v x).vault = s.vault := ite_both (fun (t : State) => t.vault) (ite_both (fun (t : State) => t.vault) ((chkFailed_vault ..).trans ((chkCounted_vault ..).trans (setChkChan_vault ..))) ((chkCounted_vault ..).trans (setChkChan_vault ..))) rfl
@[simp] theorem chkUnit_update (s : State) (b n : Nat) (v : Word) (x : Bool) : (s.chkUnit b n v x).update = s.update := ite_both (fun (t : State) => t.update) (ite_both (fun (t : State) => t.update) ((chkFailed_update ..).trans ((chkCounted_update ..).trans (setChkChan_update ..))) ((chkCounted_update ..).trans (setChkChan_update ..))) rfl
@[simp] theorem chkUnit_irq (s : State) (b n : Nat) (v : Word) (x : Bool) : (s.chkUnit b n v x).irq = s.irq := ite_both (fun (t : State) => t.irq) (ite_both (fun (t : State) => t.irq) ((chkFailed_irq ..).trans ((chkCounted_irq ..).trans (setChkChan_irq ..))) ((chkCounted_irq ..).trans (setChkChan_irq ..))) rfl
@[simp] theorem chkUnit_reg (s : State) (b n : Nat) (v : Word) (x : Bool) (a : Nat) : (s.chkUnit b n v x).reg a = s.reg a := ite_both (fun (t : State) => t.reg a) (ite_both (fun (t : State) => t.reg a) ((chkFailed_reg ..).trans ((chkCounted_reg ..).trans (setChkChan_reg ..))) ((chkCounted_reg ..).trans (setChkChan_reg ..))) rfl
@[simp] theorem chkUnit_rfield (s : State) (b n : Nat) (v : Word) (x : Bool) (a l w : Nat) : (s.chkUnit b n v x).rfield a l w = s.rfield a l w := ite_both (fun (t : State) => t.rfield a l w) (ite_both (fun (t : State) => t.rfield a l w) ((chkFailed_rfield ..).trans ((chkCounted_rfield ..).trans (setChkChan_rfield ..))) ((chkCounted_rfield ..).trans (setChkChan_rfield ..))) rfl
@[simp] theorem chkUnit_rbit (s : State) (b n : Nat) (v : Word) (x : Bool) (a i : Nat) : (s.chkUnit b n v x).rbit a i = s.rbit a i := ite_both (fun (t : State) => t.rbit a i) (ite_both (fun (t : State) => t.rbit a i) ((chkFailed_rbit ..).trans ((chkCounted_rbit ..).trans (setChkChan_rbit ..))) ((chkCounted_rbit ..).trans (setChkChan_rbit ..))) rfl
@[simp] theorem chkUnit_isl (s : State) (b n : Nat) (v : Word) (x : Bool) (k : Nat) : (s.chkUnit b n v x).isl k = s.isl k := ite_both (fun (t : State) => t.isl k) (ite_both (fun (t : State) => t.isl k) ((chkFailed_isl ..).trans ((chkCounted_isl ..).trans (setChkChan_isl ..))) ((chkCounted_isl ..).trans (setChkChan_isl ..))) rfl
@[simp] theorem chkUnit_running (s : State) (b n : Nat) (v : Word) (x : Bool) (k : Nat) : (s.chkUnit b n v x).running k = s.running k := ite_both (fun (t : State) => t.running k) (ite_both (fun (t : State) => t.running k) ((chkFailed_running ..).trans ((chkCounted_running ..).trans (setChkChan_running ..))) ((chkCounted_running ..).trans (setChkChan_running ..))) rfl
@[simp] theorem chkUnit_mayMove (s : State) (b n : Nat) (v : Word) (x : Bool) (k : Nat) : (s.chkUnit b n v x).mayMove k = s.mayMove k := ite_both (fun (t : State) => t.mayMove k) (ite_both (fun (t : State) => t.mayMove k) ((chkFailed_mayMove ..).trans ((chkCounted_mayMove ..).trans (setChkChan_mayMove ..))) ((chkCounted_mayMove ..).trans (setChkChan_mayMove ..))) rfl
@[simp] theorem chkUnit_tai (s : State) (b n : Nat) (v : Word) (x : Bool) : (s.chkUnit b n v x).tai = s.tai := ite_both (fun (t : State) => t.tai) (ite_both (fun (t : State) => t.tai) ((chkFailed_tai ..).trans ((chkCounted_tai ..).trans (setChkChan_tai ..))) ((chkCounted_tai ..).trans (setChkChan_tai ..))) rfl
@[simp] theorem chkUnit_now (s : State) (b n : Nat) (v : Word) (x : Bool) : (s.chkUnit b n v x).now = s.now := ite_both (fun (t : State) => t.now) (ite_both (fun (t : State) => t.now) ((chkFailed_now ..).trans ((chkCounted_now ..).trans (setChkChan_now ..))) ((chkCounted_now ..).trans (setChkChan_now ..))) rfl
@[simp] theorem chkUnit_port (s : State) (b n : Nat) (v : Word) (x : Bool) (k : Nat) : (s.chkUnit b n v x).port k = s.port k := ite_both (fun (t : State) => t.port k) (ite_both (fun (t : State) => t.port k) ((chkFailed_port ..).trans ((chkCounted_port ..).trans (setChkChan_port ..))) ((chkCounted_port ..).trans (setChkChan_port ..))) rfl
@[simp] theorem chkUnit_point (s : State) (b n : Nat) (v : Word) (x : Bool) (k : Nat) : (s.chkUnit b n v x).point k = s.point k := ite_both (fun (t : State) => t.point k) (ite_both (fun (t : State) => t.point k) ((chkFailed_point ..).trans ((chkCounted_point ..).trans (setChkChan_point ..))) ((chkCounted_point ..).trans (setChkChan_point ..))) rfl
@[simp] theorem chkUnit_defined (s : State) (b n : Nat) (v : Word) (x : Bool) (k : Nat) : (s.chkUnit b n v x).defined k = s.defined k := ite_both (fun (t : State) => t.defined k) (ite_both (fun (t : State) => t.defined k) ((chkFailed_defined ..).trans ((chkCounted_defined ..).trans (setChkChan_defined ..))) ((chkCounted_defined ..).trans (setChkChan_defined ..))) rfl
@[simp] theorem chkUnit_failedPt (s : State) (b n : Nat) (v : Word) (x : Bool) (k : Nat) : (s.chkUnit b n v x).failedPt k = s.failedPt k := ite_both (fun (t : State) => t.failedPt k) (ite_both (fun (t : State) => t.failedPt k) ((chkFailed_failedPt ..).trans ((chkCounted_failedPt ..).trans (setChkChan_failedPt ..))) ((chkCounted_failedPt ..).trans (setChkChan_failedPt ..))) rfl
@[simp] theorem chkUnit_task (s : State) (b n : Nat) (v : Word) (x : Bool) (k : Nat) : (s.chkUnit b n v x).task k = s.task k := ite_both (fun (t : State) => t.task k) (ite_both (fun (t : State) => t.task k) ((chkFailed_task ..).trans ((chkCounted_task ..).trans (setChkChan_task ..))) ((chkCounted_task ..).trans (setChkChan_task ..))) rfl
@[simp] theorem chkUnit_box (s : State) (b n : Nat) (v : Word) (x : Bool) (k : Nat) : (s.chkUnit b n v x).box k = s.box k := ite_both (fun (t : State) => t.box k) (ite_both (fun (t : State) => t.box k) ((chkFailed_box ..).trans ((chkCounted_box ..).trans (setChkChan_box ..))) ((chkCounted_box ..).trans (setChkChan_box ..))) rfl
@[simp] theorem chkUnit_chan (s : State) (b n : Nat) (v : Word) (x : Bool) (k : Nat) : (s.chkUnit b n v x).chan k = s.chan k := ite_both (fun (t : State) => t.chan k) (ite_both (fun (t : State) => t.chan k) ((chkFailed_chan ..).trans ((chkCounted_chan ..).trans (setChkChan_chan ..))) ((chkCounted_chan ..).trans (setChkChan_chan ..))) rfl
@[simp] theorem chkUnit_acc (s : State) (b n : Nat) (v : Word) (x : Bool) (k : Nat) : (s.chkUnit b n v x).acc k = s.acc k := ite_both (fun (t : State) => t.acc k) (ite_both (fun (t : State) => t.acc k) ((chkFailed_acc ..).trans ((chkCounted_acc ..).trans (setChkChan_acc ..))) ((chkCounted_acc ..).trans (setChkChan_acc ..))) rfl
@[simp] theorem chkUnit_loop (s : State) (b n : Nat) (v : Word) (x : Bool) (k : Nat) : (s.chkUnit b n v x).loop k = s.loop k := ite_both (fun (t : State) => t.loop k) (ite_both (fun (t : State) => t.loop k) ((chkFailed_loop ..).trans ((chkCounted_loop ..).trans (setChkChan_loop ..))) ((chkCounted_loop ..).trans (setChkChan_loop ..))) rfl
@[simp] theorem chkUnit_group (s : State) (b n : Nat) (v : Word) (x : Bool) (k : Nat) : (s.chkUnit b n v x).group k = s.group k := ite_both (fun (t : State) => t.group k) (ite_both (fun (t : State) => t.group k) ((chkFailed_group ..).trans ((chkCounted_group ..).trans (setChkChan_group ..))) ((chkCounted_group ..).trans (setChkChan_group ..))) rfl
@[simp] theorem chkUnit_controls (s : State) (b n : Nat) (v : Word) (x : Bool) : (s.chkUnit b n v x).controls = s.controls := ite_both (fun (t : State) => t.controls) (ite_both (fun (t : State) => t.controls) ((chkFailed_controls ..).trans ((chkCounted_controls ..).trans (setChkChan_controls ..))) ((chkCounted_controls ..).trans (setChkChan_controls ..))) rfl
@[simp] theorem chkUnit_shadow (s : State) (b n : Nat) (v : Word) (x : Bool) : (s.chkUnit b n v x).shadow = s.shadow := ite_both (fun (t : State) => t.shadow) (ite_both (fun (t : State) => t.shadow) ((chkFailed_shadow ..).trans ((chkCounted_shadow ..).trans (setChkChan_shadow ..))) ((chkCounted_shadow ..).trans (setChkChan_shadow ..))) rfl
@[simp] theorem chkUnit_acts (s : State) (b n : Nat) (v : Word) (x : Bool) : (s.chkUnit b n v x).acts = s.acts := ite_both (fun (t : State) => t.acts) (ite_both (fun (t : State) => t.acts) ((chkFailed_acts ..).trans ((chkCounted_acts ..).trans (setChkChan_acts ..))) ((chkCounted_acts ..).trans (setChkChan_acts ..))) rfl

/-! ### chkLoaded -/

@[simp] theorem chkLoaded_pending (s : State) (b n : Nat) (v : Word) (x : Bool) : (s.chkLoaded b n v x).pending = s.pending := rfl
@[simp] theorem chkLoaded_freeCtr (s : State) (b n : Nat) (v : Word) (x : Bool) : (s.chkLoaded b n v x).freeCtr = s.freeCtr := rfl
@[simp] theorem chkLoaded_regs (s : State) (b n : Nat) (v : Word) (x : Bool) : (s.chkLoaded b n v x).regs = s.regs := rfl
@[simp] theorem chkLoaded_outs (s : State) (b n : Nat) (v : Word) (x : Bool) : (s.chkLoaded b n v x).outs = s.outs := rfl
@[simp] theorem chkLoaded_clock (s : State) (b n : Nat) (v : Word) (x : Bool) : (s.chkLoaded b n v x).clock = s.clock := rfl
@[simp] theorem chkLoaded_islands (s : State) (b n : Nat) (v : Word) (x : Bool) : (s.chkLoaded b n v x).islands = s.islands := rfl
@[simp] theorem chkLoaded_fabric (s : State) (b n : Nat) (v : Word) (x : Bool) : (s.chkLoaded b n v x).fabric = s.fabric := rfl
@[simp] theorem chkLoaded_harvest (s : State) (b n : Nat) (v : Word) (x : Bool) : (s.chkLoaded b n v x).harvest = s.harvest := rfl
@[simp] theorem chkLoaded_mail (s : State) (b n : Nat) (v : Word) (x : Bool) : (s.chkLoaded b n v x).mail = s.mail := rfl
@[simp] theorem chkLoaded_thyme (s : State) (b n : Nat) (v : Word) (x : Bool) : (s.chkLoaded b n v x).thyme = s.thyme := rfl
@[simp] theorem chkLoaded_loops (s : State) (b n : Nat) (v : Word) (x : Bool) : (s.chkLoaded b n v x).loops = s.loops := rfl
@[simp] theorem chkLoaded_meter (s : State) (b n : Nat) (v : Word) (x : Bool) : (s.chkLoaded b n v x).meter = s.meter := rfl
@[simp] theorem chkLoaded_switch (s : State) (b n : Nat) (v : Word) (x : Bool) : (s.chkLoaded b n v x).switch = s.switch := rfl
@[simp] theorem chkLoaded_almanac (s : State) (b n : Nat) (v : Word) (x : Bool) : (s.chkLoaded b n v x).almanac = s.almanac := rfl
@[simp] theorem chkLoaded_bus (s : State) (b n : Nat) (v : Word) (x : Bool) : (s.chkLoaded b n v x).bus = s.bus := rfl
@[simp] theorem chkLoaded_twin (s : State) (b n : Nat) (v : Word) (x : Bool) : (s.chkLoaded b n v x).twin = s.twin := rfl
@[simp] theorem chkLoaded_power (s : State) (b n : Nat) (v : Word) (x : Bool) : (s.chkLoaded b n v x).power = s.power := rfl
@[simp] theorem chkLoaded_vault (s : State) (b n : Nat) (v : Word) (x : Bool) : (s.chkLoaded b n v x).vault = s.vault := rfl
@[simp] theorem chkLoaded_update (s : State) (b n : Nat) (v : Word) (x : Bool) : (s.chkLoaded b n v x).update = s.update := rfl
@[simp] theorem chkLoaded_irq (s : State) (b n : Nat) (v : Word) (x : Bool) : (s.chkLoaded b n v x).irq = s.irq := rfl
@[simp] theorem chkLoaded_reg (s : State) (b n : Nat) (v : Word) (x : Bool) (a : Nat) : (s.chkLoaded b n v x).reg a = s.reg a := rfl
@[simp] theorem chkLoaded_rfield (s : State) (b n : Nat) (v : Word) (x : Bool) (a l w : Nat) : (s.chkLoaded b n v x).rfield a l w = s.rfield a l w := rfl
@[simp] theorem chkLoaded_rbit (s : State) (b n : Nat) (v : Word) (x : Bool) (a i : Nat) : (s.chkLoaded b n v x).rbit a i = s.rbit a i := rfl
@[simp] theorem chkLoaded_isl (s : State) (b n : Nat) (v : Word) (x : Bool) (k : Nat) : (s.chkLoaded b n v x).isl k = s.isl k := rfl
@[simp] theorem chkLoaded_running (s : State) (b n : Nat) (v : Word) (x : Bool) (k : Nat) : (s.chkLoaded b n v x).running k = s.running k := rfl
@[simp] theorem chkLoaded_mayMove (s : State) (b n : Nat) (v : Word) (x : Bool) (k : Nat) : (s.chkLoaded b n v x).mayMove k = s.mayMove k := rfl
@[simp] theorem chkLoaded_tai (s : State) (b n : Nat) (v : Word) (x : Bool) : (s.chkLoaded b n v x).tai = s.tai := rfl
@[simp] theorem chkLoaded_now (s : State) (b n : Nat) (v : Word) (x : Bool) : (s.chkLoaded b n v x).now = s.now := rfl
@[simp] theorem chkLoaded_port (s : State) (b n : Nat) (v : Word) (x : Bool) (k : Nat) : (s.chkLoaded b n v x).port k = s.port k := rfl
@[simp] theorem chkLoaded_point (s : State) (b n : Nat) (v : Word) (x : Bool) (k : Nat) : (s.chkLoaded b n v x).point k = s.point k := rfl
@[simp] theorem chkLoaded_defined (s : State) (b n : Nat) (v : Word) (x : Bool) (k : Nat) : (s.chkLoaded b n v x).defined k = s.defined k := rfl
@[simp] theorem chkLoaded_failedPt (s : State) (b n : Nat) (v : Word) (x : Bool) (k : Nat) : (s.chkLoaded b n v x).failedPt k = s.failedPt k := rfl
@[simp] theorem chkLoaded_task (s : State) (b n : Nat) (v : Word) (x : Bool) (k : Nat) : (s.chkLoaded b n v x).task k = s.task k := rfl
@[simp] theorem chkLoaded_box (s : State) (b n : Nat) (v : Word) (x : Bool) (k : Nat) : (s.chkLoaded b n v x).box k = s.box k := rfl
@[simp] theorem chkLoaded_chan (s : State) (b n : Nat) (v : Word) (x : Bool) (k : Nat) : (s.chkLoaded b n v x).chan k = s.chan k := rfl
@[simp] theorem chkLoaded_acc (s : State) (b n : Nat) (v : Word) (x : Bool) (k : Nat) : (s.chkLoaded b n v x).acc k = s.acc k := rfl
@[simp] theorem chkLoaded_loop (s : State) (b n : Nat) (v : Word) (x : Bool) (k : Nat) : (s.chkLoaded b n v x).loop k = s.loop k := rfl
@[simp] theorem chkLoaded_group (s : State) (b n : Nat) (v : Word) (x : Bool) (k : Nat) : (s.chkLoaded b n v x).group k = s.group k := rfl
@[simp] theorem chkLoaded_controls (s : State) (b n : Nat) (v : Word) (x : Bool) : (s.chkLoaded b n v x).controls = s.controls := rfl
@[simp] theorem chkLoaded_shadow (s : State) (b n : Nat) (v : Word) (x : Bool) : (s.chkLoaded b n v x).shadow = s.shadow := rfl
@[simp] theorem chkLoaded_acts (s : State) (b n : Nat) (v : Word) (x : Bool) : (s.chkLoaded b n v x).acts = s.acts := rfl

/-! ### logEvent -/

@[simp] theorem logEvent_pending (s : State) (v b c j d : Nat) : (s.logEvent v b c j d).pending = s.pending := rfl
@[simp] theorem logEvent_freeCtr (s : State) (v b c j d : Nat) : (s.logEvent v b c j d).freeCtr = s.freeCtr := rfl
@[simp] theorem logEvent_outs (s : State) (v b c j d : Nat) : (s.logEvent v b c j d).outs = s.outs := rfl
@[simp] theorem logEvent_clock (s : State) (v b c j d : Nat) : (s.logEvent v b c j d).clock = s.clock := rfl
@[simp] theorem logEvent_islands (s : State) (v b c j d : Nat) : (s.logEvent v b c j d).islands = s.islands := rfl
@[simp] theorem logEvent_fabric (s : State) (v b c j d : Nat) : (s.logEvent v b c j d).fabric = s.fabric := rfl
@[simp] theorem logEvent_harvest (s : State) (v b c j d : Nat) : (s.logEvent v b c j d).harvest = s.harvest := rfl
@[simp] theorem logEvent_mail (s : State) (v b c j d : Nat) : (s.logEvent v b c j d).mail = s.mail := rfl
@[simp] theorem logEvent_thyme (s : State) (v b c j d : Nat) : (s.logEvent v b c j d).thyme = s.thyme := rfl
@[simp] theorem logEvent_loops (s : State) (v b c j d : Nat) : (s.logEvent v b c j d).loops = s.loops := rfl
@[simp] theorem logEvent_meter (s : State) (v b c j d : Nat) : (s.logEvent v b c j d).meter = s.meter := rfl
@[simp] theorem logEvent_switch (s : State) (v b c j d : Nat) : (s.logEvent v b c j d).switch = s.switch := rfl
@[simp] theorem logEvent_almanac (s : State) (v b c j d : Nat) : (s.logEvent v b c j d).almanac = s.almanac := rfl
@[simp] theorem logEvent_bus (s : State) (v b c j d : Nat) : (s.logEvent v b c j d).bus = s.bus := rfl
@[simp] theorem logEvent_twin (s : State) (v b c j d : Nat) : (s.logEvent v b c j d).twin = s.twin := rfl
@[simp] theorem logEvent_vault (s : State) (v b c j d : Nat) : (s.logEvent v b c j d).vault = s.vault := rfl
@[simp] theorem logEvent_update (s : State) (v b c j d : Nat) : (s.logEvent v b c j d).update = s.update := rfl
@[simp] theorem logEvent_irq (s : State) (v b c j d : Nat) : (s.logEvent v b c j d).irq = s.irq := rfl
@[simp] theorem logEvent_chk (s : State) (v b c j d : Nat) : (s.logEvent v b c j d).chk = s.chk := rfl
@[simp] theorem logEvent_isl (s : State) (v b c j d : Nat) (k : Nat) : (s.logEvent v b c j d).isl k = s.isl k := rfl
@[simp] theorem logEvent_running (s : State) (v b c j d : Nat) (k : Nat) : (s.logEvent v b c j d).running k = s.running k := rfl
@[simp] theorem logEvent_mayMove (s : State) (v b c j d : Nat) (k : Nat) : (s.logEvent v b c j d).mayMove k = s.mayMove k := rfl
@[simp] theorem logEvent_tai (s : State) (v b c j d : Nat) : (s.logEvent v b c j d).tai = s.tai := rfl
@[simp] theorem logEvent_now (s : State) (v b c j d : Nat) : (s.logEvent v b c j d).now = s.now := rfl
@[simp] theorem logEvent_port (s : State) (v b c j d : Nat) (k : Nat) : (s.logEvent v b c j d).port k = s.port k := rfl
@[simp] theorem logEvent_point (s : State) (v b c j d : Nat) (k : Nat) : (s.logEvent v b c j d).point k = s.point k := rfl
@[simp] theorem logEvent_defined (s : State) (v b c j d : Nat) (k : Nat) : (s.logEvent v b c j d).defined k = s.defined k := rfl
@[simp] theorem logEvent_failedPt (s : State) (v b c j d : Nat) (k : Nat) : (s.logEvent v b c j d).failedPt k = s.failedPt k := rfl
@[simp] theorem logEvent_task (s : State) (v b c j d : Nat) (k : Nat) : (s.logEvent v b c j d).task k = s.task k := rfl
@[simp] theorem logEvent_box (s : State) (v b c j d : Nat) (k : Nat) : (s.logEvent v b c j d).box k = s.box k := rfl
@[simp] theorem logEvent_chan (s : State) (v b c j d : Nat) (k : Nat) : (s.logEvent v b c j d).chan k = s.chan k := rfl
@[simp] theorem logEvent_acc (s : State) (v b c j d : Nat) (k : Nat) : (s.logEvent v b c j d).acc k = s.acc k := rfl
@[simp] theorem logEvent_loop (s : State) (v b c j d : Nat) (k : Nat) : (s.logEvent v b c j d).loop k = s.loop k := rfl
@[simp] theorem logEvent_group (s : State) (v b c j d : Nat) (k : Nat) : (s.logEvent v b c j d).group k = s.group k := rfl
@[simp] theorem logEvent_chkChan (s : State) (v b c j d : Nat) (k : Nat) : (s.logEvent v b c j d).chkChan k = s.chkChan k := rfl
@[simp] theorem logEvent_controls (s : State) (v b c j d : Nat) : (s.logEvent v b c j d).controls = s.controls := rfl
@[simp] theorem logEvent_shadow (s : State) (v b c j d : Nat) : (s.logEvent v b c j d).shadow = s.shadow := rfl
@[simp] theorem logEvent_acts (s : State) (v b c j d : Nat) : (s.logEvent v b c j d).acts = s.acts := rfl

/-! ### mbEvent -/

@[simp] theorem mbEvent_pending (s : State) (b : Nat) : (s.mbEvent b).pending = s.pending := rfl
@[simp] theorem mbEvent_freeCtr (s : State) (b : Nat) : (s.mbEvent b).freeCtr = s.freeCtr := rfl
@[simp] theorem mbEvent_outs (s : State) (b : Nat) : (s.mbEvent b).outs = s.outs := rfl
@[simp] theorem mbEvent_clock (s : State) (b : Nat) : (s.mbEvent b).clock = s.clock := rfl
@[simp] theorem mbEvent_islands (s : State) (b : Nat) : (s.mbEvent b).islands = s.islands := rfl
@[simp] theorem mbEvent_fabric (s : State) (b : Nat) : (s.mbEvent b).fabric = s.fabric := rfl
@[simp] theorem mbEvent_harvest (s : State) (b : Nat) : (s.mbEvent b).harvest = s.harvest := rfl
@[simp] theorem mbEvent_mail (s : State) (b : Nat) : (s.mbEvent b).mail = s.mail := rfl
@[simp] theorem mbEvent_thyme (s : State) (b : Nat) : (s.mbEvent b).thyme = s.thyme := rfl
@[simp] theorem mbEvent_loops (s : State) (b : Nat) : (s.mbEvent b).loops = s.loops := rfl
@[simp] theorem mbEvent_meter (s : State) (b : Nat) : (s.mbEvent b).meter = s.meter := rfl
@[simp] theorem mbEvent_switch (s : State) (b : Nat) : (s.mbEvent b).switch = s.switch := rfl
@[simp] theorem mbEvent_almanac (s : State) (b : Nat) : (s.mbEvent b).almanac = s.almanac := rfl
@[simp] theorem mbEvent_bus (s : State) (b : Nat) : (s.mbEvent b).bus = s.bus := rfl
@[simp] theorem mbEvent_twin (s : State) (b : Nat) : (s.mbEvent b).twin = s.twin := rfl
@[simp] theorem mbEvent_power (s : State) (b : Nat) : (s.mbEvent b).power = s.power := rfl
@[simp] theorem mbEvent_vault (s : State) (b : Nat) : (s.mbEvent b).vault = s.vault := rfl
@[simp] theorem mbEvent_update (s : State) (b : Nat) : (s.mbEvent b).update = s.update := rfl
@[simp] theorem mbEvent_irq (s : State) (b : Nat) : (s.mbEvent b).irq = s.irq := rfl
@[simp] theorem mbEvent_chk (s : State) (b : Nat) : (s.mbEvent b).chk = s.chk := rfl
@[simp] theorem mbEvent_isl (s : State) (b : Nat) (k : Nat) : (s.mbEvent b).isl k = s.isl k := rfl
@[simp] theorem mbEvent_running (s : State) (b : Nat) (k : Nat) : (s.mbEvent b).running k = s.running k := rfl
@[simp] theorem mbEvent_mayMove (s : State) (b : Nat) (k : Nat) : (s.mbEvent b).mayMove k = s.mayMove k := rfl
@[simp] theorem mbEvent_tai (s : State) (b : Nat) : (s.mbEvent b).tai = s.tai := rfl
@[simp] theorem mbEvent_now (s : State) (b : Nat) : (s.mbEvent b).now = s.now := rfl
@[simp] theorem mbEvent_port (s : State) (b : Nat) (k : Nat) : (s.mbEvent b).port k = s.port k := rfl
@[simp] theorem mbEvent_point (s : State) (b : Nat) (k : Nat) : (s.mbEvent b).point k = s.point k := rfl
@[simp] theorem mbEvent_defined (s : State) (b : Nat) (k : Nat) : (s.mbEvent b).defined k = s.defined k := rfl
@[simp] theorem mbEvent_failedPt (s : State) (b : Nat) (k : Nat) : (s.mbEvent b).failedPt k = s.failedPt k := rfl
@[simp] theorem mbEvent_task (s : State) (b : Nat) (k : Nat) : (s.mbEvent b).task k = s.task k := rfl
@[simp] theorem mbEvent_box (s : State) (b : Nat) (k : Nat) : (s.mbEvent b).box k = s.box k := rfl
@[simp] theorem mbEvent_chan (s : State) (b : Nat) (k : Nat) : (s.mbEvent b).chan k = s.chan k := rfl
@[simp] theorem mbEvent_acc (s : State) (b : Nat) (k : Nat) : (s.mbEvent b).acc k = s.acc k := rfl
@[simp] theorem mbEvent_loop (s : State) (b : Nat) (k : Nat) : (s.mbEvent b).loop k = s.loop k := rfl
@[simp] theorem mbEvent_group (s : State) (b : Nat) (k : Nat) : (s.mbEvent b).group k = s.group k := rfl
@[simp] theorem mbEvent_chkChan (s : State) (b : Nat) (k : Nat) : (s.mbEvent b).chkChan k = s.chkChan k := rfl
@[simp] theorem mbEvent_controls (s : State) (b : Nat) : (s.mbEvent b).controls = s.controls := rfl
@[simp] theorem mbEvent_shadow (s : State) (b : Nat) : (s.mbEvent b).shadow = s.shadow := rfl
@[simp] theorem mbEvent_acts (s : State) (b : Nat) : (s.mbEvent b).acts = s.acts := rfl

/-! ### twEvent -/

@[simp] theorem twEvent_pending (s : State) (b : Nat) : (s.twEvent b).pending = s.pending := rfl
@[simp] theorem twEvent_freeCtr (s : State) (b : Nat) : (s.twEvent b).freeCtr = s.freeCtr := rfl
@[simp] theorem twEvent_outs (s : State) (b : Nat) : (s.twEvent b).outs = s.outs := rfl
@[simp] theorem twEvent_clock (s : State) (b : Nat) : (s.twEvent b).clock = s.clock := rfl
@[simp] theorem twEvent_islands (s : State) (b : Nat) : (s.twEvent b).islands = s.islands := rfl
@[simp] theorem twEvent_fabric (s : State) (b : Nat) : (s.twEvent b).fabric = s.fabric := rfl
@[simp] theorem twEvent_harvest (s : State) (b : Nat) : (s.twEvent b).harvest = s.harvest := rfl
@[simp] theorem twEvent_mail (s : State) (b : Nat) : (s.twEvent b).mail = s.mail := rfl
@[simp] theorem twEvent_thyme (s : State) (b : Nat) : (s.twEvent b).thyme = s.thyme := rfl
@[simp] theorem twEvent_loops (s : State) (b : Nat) : (s.twEvent b).loops = s.loops := rfl
@[simp] theorem twEvent_meter (s : State) (b : Nat) : (s.twEvent b).meter = s.meter := rfl
@[simp] theorem twEvent_switch (s : State) (b : Nat) : (s.twEvent b).switch = s.switch := rfl
@[simp] theorem twEvent_almanac (s : State) (b : Nat) : (s.twEvent b).almanac = s.almanac := rfl
@[simp] theorem twEvent_bus (s : State) (b : Nat) : (s.twEvent b).bus = s.bus := rfl
@[simp] theorem twEvent_twin (s : State) (b : Nat) : (s.twEvent b).twin = s.twin := rfl
@[simp] theorem twEvent_power (s : State) (b : Nat) : (s.twEvent b).power = s.power := rfl
@[simp] theorem twEvent_vault (s : State) (b : Nat) : (s.twEvent b).vault = s.vault := rfl
@[simp] theorem twEvent_update (s : State) (b : Nat) : (s.twEvent b).update = s.update := rfl
@[simp] theorem twEvent_irq (s : State) (b : Nat) : (s.twEvent b).irq = s.irq := rfl
@[simp] theorem twEvent_chk (s : State) (b : Nat) : (s.twEvent b).chk = s.chk := rfl
@[simp] theorem twEvent_isl (s : State) (b : Nat) (k : Nat) : (s.twEvent b).isl k = s.isl k := rfl
@[simp] theorem twEvent_running (s : State) (b : Nat) (k : Nat) : (s.twEvent b).running k = s.running k := rfl
@[simp] theorem twEvent_mayMove (s : State) (b : Nat) (k : Nat) : (s.twEvent b).mayMove k = s.mayMove k := rfl
@[simp] theorem twEvent_tai (s : State) (b : Nat) : (s.twEvent b).tai = s.tai := rfl
@[simp] theorem twEvent_now (s : State) (b : Nat) : (s.twEvent b).now = s.now := rfl
@[simp] theorem twEvent_port (s : State) (b : Nat) (k : Nat) : (s.twEvent b).port k = s.port k := rfl
@[simp] theorem twEvent_point (s : State) (b : Nat) (k : Nat) : (s.twEvent b).point k = s.point k := rfl
@[simp] theorem twEvent_defined (s : State) (b : Nat) (k : Nat) : (s.twEvent b).defined k = s.defined k := rfl
@[simp] theorem twEvent_failedPt (s : State) (b : Nat) (k : Nat) : (s.twEvent b).failedPt k = s.failedPt k := rfl
@[simp] theorem twEvent_task (s : State) (b : Nat) (k : Nat) : (s.twEvent b).task k = s.task k := rfl
@[simp] theorem twEvent_box (s : State) (b : Nat) (k : Nat) : (s.twEvent b).box k = s.box k := rfl
@[simp] theorem twEvent_chan (s : State) (b : Nat) (k : Nat) : (s.twEvent b).chan k = s.chan k := rfl
@[simp] theorem twEvent_acc (s : State) (b : Nat) (k : Nat) : (s.twEvent b).acc k = s.acc k := rfl
@[simp] theorem twEvent_loop (s : State) (b : Nat) (k : Nat) : (s.twEvent b).loop k = s.loop k := rfl
@[simp] theorem twEvent_group (s : State) (b : Nat) (k : Nat) : (s.twEvent b).group k = s.group k := rfl
@[simp] theorem twEvent_chkChan (s : State) (b : Nat) (k : Nat) : (s.twEvent b).chkChan k = s.chkChan k := rfl
@[simp] theorem twEvent_controls (s : State) (b : Nat) : (s.twEvent b).controls = s.controls := rfl
@[simp] theorem twEvent_shadow (s : State) (b : Nat) : (s.twEvent b).shadow = s.shadow := rfl
@[simp] theorem twEvent_acts (s : State) (b : Nat) : (s.twEvent b).acts = s.acts := rfl

/-! ### wrapAdd -/

@[simp] theorem wrapAdd_pending (s : State) (b n : Nat) : (s.wrapAdd b n).pending = s.pending := rfl
@[simp] theorem wrapAdd_freeCtr (s : State) (b n : Nat) : (s.wrapAdd b n).freeCtr = s.freeCtr := rfl
@[simp] theorem wrapAdd_outs (s : State) (b n : Nat) : (s.wrapAdd b n).outs = s.outs := rfl
@[simp] theorem wrapAdd_clock (s : State) (b n : Nat) : (s.wrapAdd b n).clock = s.clock := rfl
@[simp] theorem wrapAdd_islands (s : State) (b n : Nat) : (s.wrapAdd b n).islands = s.islands := rfl
@[simp] theorem wrapAdd_fabric (s : State) (b n : Nat) : (s.wrapAdd b n).fabric = s.fabric := rfl
@[simp] theorem wrapAdd_harvest (s : State) (b n : Nat) : (s.wrapAdd b n).harvest = s.harvest := rfl
@[simp] theorem wrapAdd_mail (s : State) (b n : Nat) : (s.wrapAdd b n).mail = s.mail := rfl
@[simp] theorem wrapAdd_thyme (s : State) (b n : Nat) : (s.wrapAdd b n).thyme = s.thyme := rfl
@[simp] theorem wrapAdd_loops (s : State) (b n : Nat) : (s.wrapAdd b n).loops = s.loops := rfl
@[simp] theorem wrapAdd_meter (s : State) (b n : Nat) : (s.wrapAdd b n).meter = s.meter := rfl
@[simp] theorem wrapAdd_switch (s : State) (b n : Nat) : (s.wrapAdd b n).switch = s.switch := rfl
@[simp] theorem wrapAdd_almanac (s : State) (b n : Nat) : (s.wrapAdd b n).almanac = s.almanac := rfl
@[simp] theorem wrapAdd_bus (s : State) (b n : Nat) : (s.wrapAdd b n).bus = s.bus := rfl
@[simp] theorem wrapAdd_twin (s : State) (b n : Nat) : (s.wrapAdd b n).twin = s.twin := rfl
@[simp] theorem wrapAdd_power (s : State) (b n : Nat) : (s.wrapAdd b n).power = s.power := rfl
@[simp] theorem wrapAdd_vault (s : State) (b n : Nat) : (s.wrapAdd b n).vault = s.vault := rfl
@[simp] theorem wrapAdd_update (s : State) (b n : Nat) : (s.wrapAdd b n).update = s.update := rfl
@[simp] theorem wrapAdd_irq (s : State) (b n : Nat) : (s.wrapAdd b n).irq = s.irq := rfl
@[simp] theorem wrapAdd_chk (s : State) (b n : Nat) : (s.wrapAdd b n).chk = s.chk := rfl
@[simp] theorem wrapAdd_isl (s : State) (b n : Nat) (k : Nat) : (s.wrapAdd b n).isl k = s.isl k := rfl
@[simp] theorem wrapAdd_running (s : State) (b n : Nat) (k : Nat) : (s.wrapAdd b n).running k = s.running k := rfl
@[simp] theorem wrapAdd_mayMove (s : State) (b n : Nat) (k : Nat) : (s.wrapAdd b n).mayMove k = s.mayMove k := rfl
@[simp] theorem wrapAdd_tai (s : State) (b n : Nat) : (s.wrapAdd b n).tai = s.tai := rfl
@[simp] theorem wrapAdd_now (s : State) (b n : Nat) : (s.wrapAdd b n).now = s.now := rfl
@[simp] theorem wrapAdd_port (s : State) (b n : Nat) (k : Nat) : (s.wrapAdd b n).port k = s.port k := rfl
@[simp] theorem wrapAdd_point (s : State) (b n : Nat) (k : Nat) : (s.wrapAdd b n).point k = s.point k := rfl
@[simp] theorem wrapAdd_defined (s : State) (b n : Nat) (k : Nat) : (s.wrapAdd b n).defined k = s.defined k := rfl
@[simp] theorem wrapAdd_failedPt (s : State) (b n : Nat) (k : Nat) : (s.wrapAdd b n).failedPt k = s.failedPt k := rfl
@[simp] theorem wrapAdd_task (s : State) (b n : Nat) (k : Nat) : (s.wrapAdd b n).task k = s.task k := rfl
@[simp] theorem wrapAdd_box (s : State) (b n : Nat) (k : Nat) : (s.wrapAdd b n).box k = s.box k := rfl
@[simp] theorem wrapAdd_chan (s : State) (b n : Nat) (k : Nat) : (s.wrapAdd b n).chan k = s.chan k := rfl
@[simp] theorem wrapAdd_acc (s : State) (b n : Nat) (k : Nat) : (s.wrapAdd b n).acc k = s.acc k := rfl
@[simp] theorem wrapAdd_loop (s : State) (b n : Nat) (k : Nat) : (s.wrapAdd b n).loop k = s.loop k := rfl
@[simp] theorem wrapAdd_group (s : State) (b n : Nat) (k : Nat) : (s.wrapAdd b n).group k = s.group k := rfl
@[simp] theorem wrapAdd_chkChan (s : State) (b n : Nat) (k : Nat) : (s.wrapAdd b n).chkChan k = s.chkChan k := rfl
@[simp] theorem wrapAdd_controls (s : State) (b n : Nat) : (s.wrapAdd b n).controls = s.controls := rfl
@[simp] theorem wrapAdd_shadow (s : State) (b n : Nat) : (s.wrapAdd b n).shadow = s.shadow := rfl
@[simp] theorem wrapAdd_acts (s : State) (b n : Nat) : (s.wrapAdd b n).acts = s.acts := rfl

end Sys2Proof.Machine
end

