-- ==== Sys2Proof/Laws/Tab.lean ====
section
/-! SUPPORT. Sparse tables and memories: reading back, leaving the rest alone, and keeping the canonical form. -/

namespace Sys2Proof.Machine

theorem tabWfFrom_mono {β : Type} {lo hi : Nat} (h : lo ≤ hi) :
    ∀ {t : Tab β}, tabWfFrom hi t = true → tabWfFrom lo t = true
  | [], _ => rfl
  | (k, v) :: t, ht => by
    simp only [tabWfFrom, Bool.and_eq_true, decide_eq_true_eq] at ht ⊢
    exact ⟨Nat.le_trans h ht.1, ht.2⟩

theorem tabSet_wfFrom {β : Type} (i : Nat) (v : β) :
    ∀ {lo : Nat} {t : Tab β}, tabWfFrom lo t = true → lo ≤ i → tabWfFrom lo (tabSet t i v) = true
  | _, [], _, hi => by simp [tabSet, tabWfFrom, hi]
  | lo, (k, w) :: t, h, hi => by
    simp only [tabWfFrom, Bool.and_eq_true, decide_eq_true_eq] at h
    simp only [tabSet]
    split
    · next e => subst e; simp [tabWfFrom, h.1, h.2]
    · split
      · next n l => simp [tabWfFrom, hi, h.2]; omega
      · next n l => simp [tabWfFrom, h.1]; exact tabSet_wfFrom i v h.2 (by omega)

theorem tabDel_wfFrom {β : Type} (i : Nat) :
    ∀ {lo : Nat} {t : Tab β}, tabWfFrom lo t = true → tabWfFrom lo (tabDel t i) = true
  | _, [], _ => rfl
  | lo, (k, w) :: t, h => by
    have h' := h
    simp only [tabWfFrom, Bool.and_eq_true, decide_eq_true_eq] at h
    simp only [tabDel]
    split
    · exact tabWfFrom_mono (by omega) h.2
    · split
      · exact h'
      · simp [tabWfFrom, h.1]; exact tabDel_wfFrom i h.2

/-- Setting an entry keeps the canonical form. -/
theorem tabSet_wf {β : Type} {t : Tab β} (i : Nat) (v : β) (h : tabWf t = true) : tabWf (tabSet t i v) = true :=
  tabSet_wfFrom i v h (Nat.zero_le i)

/-- Removing an entry keeps the canonical form. -/
theorem tabDel_wf {β : Type} {t : Tab β} (i : Nat) (h : tabWf t = true) : tabWf (tabDel t i) = true :=
  tabDel_wfFrom i h

theorem tabGet_below {β : Type} : ∀ {lo : Nat} {t : Tab β} {i : Nat}, tabWfFrom lo t = true → i < lo → tabGet t i = none
  | _, [], _, _, _ => rfl
  | lo, (k, w) :: t, i, h, hi => by
    simp only [tabWfFrom, Bool.and_eq_true, decide_eq_true_eq] at h
    have : i ≠ k := by omega
    have : i < k := by omega
    simp [tabGet, *]

/-- The entry set is read back. -/
@[simp] theorem tabGet_set_same {β : Type} (i : Nat) (v : β) : ∀ (t : Tab β), tabGet (tabSet t i v) i = some v
  | [] => by simp [tabSet, tabGet]
  | (k, w) :: t => by
    simp only [tabSet]
    split
    · simp [tabGet]
    · split
      · simp [tabGet]
      · next n l => simp [tabGet, n, l, tabGet_set_same i v t]

/-- Setting an entry leaves the others alone. -/
theorem tabGet_set_other {β : Type} {i j : Nat} (v : β) (hj : j ≠ i) : ∀ (t : Tab β), tabGet (tabSet t i v) j = tabGet t j
  | [] => by simp [tabSet, tabGet, hj]
  | (k, w) :: t => by
    simp only [tabSet]
    split
    · next e => subst e; simp [tabGet, hj]
    · split
      · next n l =>
        by_cases h : j < i
        · have a : j ≠ k := by omega
          have b : j < k := by omega
          simp [tabGet, hj, h, a, b]
        · simp [tabGet, hj, h]
      · next n l => simp [tabGet, tabGet_set_other v hj t]

/-- A removed entry is gone. -/
theorem tabGet_del_same {β : Type} (i : Nat) : ∀ {lo : Nat} {t : Tab β}, tabWfFrom lo t = true → tabGet (tabDel t i) i = none
  | _, [], _ => rfl
  | lo, (k, w) :: t, h => by
    simp only [tabWfFrom, Bool.and_eq_true, decide_eq_true_eq] at h
    simp only [tabDel]
    split
    · next e => subst e; exact tabGet_below h.2 (Nat.lt_succ_self _)
    · split
      · next n l => simp [tabGet, n, l]
      · next n l => simp [tabGet, n, l, tabGet_del_same i h.2]

/-- Removing an entry leaves the others alone. -/
theorem tabGet_del_other {β : Type} {i j : Nat} (hj : j ≠ i) :
    ∀ {lo : Nat} {t : Tab β}, tabWfFrom lo t = true → tabGet (tabDel t i) j = tabGet t j
  | _, [], _ => rfl
  | lo, (k, w) :: t, h => by
    simp only [tabWfFrom, Bool.and_eq_true, decide_eq_true_eq] at h
    simp only [tabDel]
    split
    · next e =>
      subst e
      by_cases l : j < i
      · simp [tabGet, hj, l, tabGet_below h.2 (Nat.lt_succ_of_lt l)]
      · simp [tabGet, hj, l]
    · split
      · rfl
      · simp [tabGet, tabGet_del_other hj h.2]

/-! ## Memories -/

theorem tabSet_all {β : Type} (f : Nat × β → Bool) (i : Nat) (v : β) (hv : f (i, v) = true) :
    ∀ {t : Tab β}, t.all f = true → (tabSet t i v).all f = true
  | [], _ => by simp [tabSet, hv]
  | (k, w) :: t, h => by
    simp only [List.all_cons, Bool.and_eq_true] at h
    simp only [tabSet]
    split
    · simp [hv, h.2]
    · split
      · simp only [List.all_cons, hv, h.1, h.2, Bool.and_self]
      · simp only [List.all_cons, h.1, Bool.true_and]; exact tabSet_all f i v hv h.2

theorem tabDel_all {β : Type} (f : Nat × β → Bool) (i : Nat) : ∀ {t : Tab β}, t.all f = true → (tabDel t i).all f = true
  | [], _ => rfl
  | (k, w) :: t, h => by
    simp only [List.all_cons, Bool.and_eq_true] at h
    simp only [tabDel]
    split
    · exact h.2
    · split
      · simp only [List.all_cons, h.1, h.2, Bool.and_self]
      · simp only [List.all_cons, h.1, Bool.true_and]; exact tabDel_all f i h.2

/-- Writing a byte keeps a memory's canonical form. -/
theorem memWrite_wf {m : Mem} (a : Nat) (b : Byte) (h : m.wf = true) : (memWrite m a b).wf = true := by
  simp only [Mem.wf, Bool.and_eq_true] at h ⊢
  unfold memWrite
  split
  · exact ⟨tabDel_wf a h.1, tabDel_all _ a h.2⟩
  · next n => exact ⟨tabSet_wf a b h.1, tabSet_all _ a b (by simpa using n) h.2⟩

/-- Writing bytes keeps a memory's canonical form. -/
theorem memWriteList_wf : ∀ (bs : List Byte) {m : Mem} (a : Nat), m.wf = true → (memWriteList m a bs).wf = true
  | [], _, _, h => h
  | b :: bs, _, a, h => memWriteList_wf bs (a + 1) (memWrite_wf a b h)

/-- A byte written is read back. -/
theorem memRead_write_same {m : Mem} (a : Nat) (b : Byte) (h : m.wf = true) : memRead (memWrite m a b) a = b := by
  simp only [Mem.wf, Bool.and_eq_true] at h
  unfold memWrite memRead tabGetD
  split
  · next e => rw [tabGet_del_same a h.1, e]; rfl
  · simp

/-- Writing a byte leaves every other address alone. -/
theorem memRead_write_other {m : Mem} {a c : Nat} (b : Byte) (h : m.wf = true) (hc : c ≠ a) :
    memRead (memWrite m a b) c = memRead m c := by
  simp only [Mem.wf, Bool.and_eq_true] at h
  unfold memWrite memRead tabGetD
  split
  · rw [tabGet_del_other hc h.1]
  · rw [tabGet_set_other b hc]

/-- Writing bytes leaves every address outside them alone. -/
theorem memRead_writeList_other {c : Nat} : ∀ (bs : List Byte) {m : Mem} (a : Nat), m.wf = true → c < a ∨ a + bs.length ≤ c →
    memRead (memWriteList m a bs) c = memRead m c
  | [], _, _, _, _ => rfl
  | b :: bs, m, a, h, hc => by
    simp only [List.length_cons] at hc
    rw [memWriteList, memRead_writeList_other bs (a + 1) (memWrite_wf a b h) (by omega),
      memRead_write_other b h (by omega)]

/-- Bytes written are read back. -/
theorem memReadList_writeList : ∀ (bs : List Byte) {m : Mem} (a : Nat), m.wf = true →
    memReadList (memWriteList m a bs) a bs.length = bs
  | [], _, _, _ => rfl
  | b :: bs, m, a, h => by
    simp only [List.length_cons, memReadList, memWriteList]
    rw [memRead_writeList_other bs (a + 1) (memWrite_wf a b h) (by omega), memRead_write_same a b h,
      memReadList_writeList bs (a + 1) (memWrite_wf a b h)]

end Sys2Proof.Machine
end

