-- ==== Sys2Proof/Laws/Steward.lean ====
section
/-! SUPPORT. What the wrapper of Steward's commands and its crossings do: a request that Steward takes and an island that is
open to it. Byte strings of numbers: their lengths and their reading back. -/

namespace Sys2Proof.Machine

open Sys2Proof.Safety

/-! ## Numbers as bytes -/

@[simp] theorem leBytes_length : ∀ (n v : Nat), (leBytes n v).length = n
  | 0, _ => rfl
  | n + 1, v => by simp [leBytes, leBytes_length n]

/-- A number is read back from its bytes, modulo their width. -/
theorem leNat_leBytes : ∀ (n v : Nat), leNat (leBytes n v) = v % 256 ^ n
  | 0, v => by simp [leBytes, leNat, Nat.mod_one]
  | n + 1, v => by
    simp only [leBytes, leNat, leNat_leBytes n, BitVec.toNat_ofNat]
    have e : 256 ^ (n + 1) = 256 * 256 ^ n := by rw [Nat.pow_succ, Nat.mul_comm]
    rw [e, Nat.mod_mul]

@[simp] theorem padTo_length (n : Nat) (p : List Byte) : (padTo n p).length = n := by
  simp only [padTo, List.length_append, List.length_take, List.length_replicate]; omega

/-! ## Crossings -/

@[simp] theorem lastError_ok (s : State) (a b c : Nat) : s.lastError a b c stOk = s := by simp [State.lastError]

@[simp] theorem lastError_pended (s : State) (a b c : Nat) : s.lastError a b c stPending = s := by simp [State.lastError]

/-- An open island performs the request, and Sage records its status when it failed. -/
theorem toIsland_open {s : State} {i : Nat} (f : State → Ans) (h : Open s i) :
    toIsland s i f = ((f (crossed s i)).1, (f (crossed s i)).2.lastError iSAGE i 1 (f (crossed s i)).1.1) := by
  obtain ⟨h0, h1, h2, h3⟩ := h
  have hp : portStatus (s.isl i) (s.epochOf iSAGE i) = stOk := by
    rcases h3 with h3 | h3 <;> simp [portStatus, h1, h2, h3]
  simp only [toIsland, crossing, if_neg (Ne.symm h0), reach, hp, if_true]
  simp [State.wakeIsl, h1, crossed]

/-- An open island that performs the request with OK. -/
theorem toIsland_ok {s : State} {i : Nat} {f : State → Ans} {w : State} {p : List Byte} (h : Open s i)
    (hf : f (crossed s i) = ((stOk, p), w)) : toIsland s i f = ((stOk, p), w) := by
  rw [toIsland_open f h, hf]; simp

/-! ## Lists of entries -/

@[simp] theorem entriesAt_length (p : List Byte) (k : Nat) : ∀ (n off : Nat), (entriesAt p off k n).length = n
  | 0, _ => rfl
  | n + 1, off => by simp [entriesAt, entriesAt_length p k n]

/-- A left fold over a list whose steps each add one entry to a growing list of results. -/
theorem foldl_grow {α β σ : Type} (g : α → σ → β × σ) : ∀ (es : List α) (l : List β) (s : σ),
    ((es.foldl (fun (a : List β × σ) e => (a.1 ++ [(g e a.2).1], (g e a.2).2)) (l, s)).1).length = l.length + es.length
  | [], _, _ => by simp
  | e :: es, l, s => by
    simp only [List.foldl_cons]
    rw [foldl_grow g es]
    simp; omega

/-- What each step of such a fold relates, the whole fold relates. -/
theorem foldl_related {α β σ : Type} (g : α → σ → β × σ) (R : σ → σ → Prop) (h0 : ∀ s, R s s)
    (h2 : ∀ a b c, R a b → R b c → R a c) (h : ∀ e s, R s (g e s).2) : ∀ (es : List α) (l : List β) (s : σ),
    R s (es.foldl (fun (a : List β × σ) e => (a.1 ++ [(g e a.2).1], (g e a.2).2)) (l, s)).2
  | [], _, s => h0 s
  | e :: es, l, s => by
    simp only [List.foldl_cons]
    exact h2 _ _ _ (h e s) (foldl_related g R h0 h2 h es _ _)

/-- What holds of every result of such a fold. -/
theorem foldl_results {α β σ : Type} (g : α → σ → β × σ) (P : β → Prop) (h : ∀ e s, P (g e s).1) :
    ∀ (es : List α) (l : List β) (s : σ), (∀ b ∈ l, P b) →
    ∀ b ∈ (es.foldl (fun (a : List β × σ) e => (a.1 ++ [(g e a.2).1], (g e a.2).2)) (l, s)).1, P b
  | [], _, _, hl => hl
  | e :: es, l, s, hl => by
    simp only [List.foldl_cons]
    refine foldl_results g P h es _ _ ?_
    intro b hb
    rcases List.mem_append.mp hb with hb | hb
    · exact hl b hb
    · simp only [List.mem_singleton] at hb; subst hb; exact h e s

theorem flatten_length_of {α : Type} {k : Nat} : ∀ {l : List (List α)}, (∀ b ∈ l, b.length = k) →
    l.flatten.length = k * l.length
  | [], _ => by simp
  | b :: l, h => by
    simp only [List.flatten_cons, List.length_append, List.length_cons]
    rw [flatten_length_of fun c hc => h c (List.mem_cons_of_mem _ hc), h b List.mem_cons_self]
    rw [Nat.mul_add]; omega

/-- The entries answered are as many as those asked. -/
@[simp] theorem eachEntry_length (s : State) (es : List (List Byte)) (f : List Byte → State → (Nat × List Byte) × State) :
    (eachEntry s es f).1.length = es.length := by
  have := foldl_grow f es [] s
  simpa [eachEntry] using this

/-- What each entry relates, the list relates. -/
theorem eachEntry_related (R : State → State → Prop) (h0 : ∀ s, R s s) (h2 : ∀ a b c, R a b → R b c → R a c)
    (s : State) (es : List (List Byte)) (f : List Byte → State → (Nat × List Byte) × State) (h : ∀ e s, R s (f e s).2) :
    R s (eachEntry s es f).2 := foldl_related f R h0 h2 h es [] s

/-- The response of a list whose entries have k bytes each. -/
theorem listResponse_length {k : Nat} (s : State) (es : List (List Byte))
    (f : List Byte → State → (Nat × List Byte) × State) (h : ∀ e s, (f e s).1.2.length = k) :
    (listResponse (eachEntry s es f).1).length = 8 + k * es.length := by
  have a : ∀ b ∈ ((eachEntry s es f).1.map Prod.snd), b.length = k := by
    intro b hb
    obtain ⟨x, hx, rfl⟩ := List.mem_map.mp hb
    exact foldl_results f (fun x => x.2.length = k) h es [] s (by simp) x hx
  simp only [listResponse, List.length_append, leBytes_length]
  rw [flatten_length_of a]; simp

theorem listResponse_take (rs : List (Nat × List Byte)) : (listResponse rs).take 2 = leBytes 2 rs.length := by
  simp [listResponse, List.append_assoc]

/-! ## Parts -/

theorem Only.refl (ps : List StatePart) (s : State) : Only ps s s := by
  intro p _; cases p <;> rfl

theorem Only.trans {ps : List StatePart} {a b c : State} (h : Only ps a b) (k : Only ps b c) : Only ps a c := by
  intro p hp
  have h := h p hp; have k := k p hp
  cases p <;> simp only [StatePart.same] at h k ⊢ <;> rw [k, h]

theorem Only.mono {ps qs : List StatePart} {a b : State} (h : Only ps a b) (hq : ∀ p ∈ ps, p ∈ qs) : Only qs a b :=
  fun p hp => h p fun hp' => hp (hq p hp')

/-! ## The wrapper -/

/-- A command that Steward takes is answered with what the command gives. -/
theorem serve_served {s : State} {r : Route} {tag code : Nat} {q : Req} {c : Cmd} (f : Req → State → Ans)
    (h : Served s r tag code q) (hc : cmdOf code = some c) :
    serve code s r tag f = respond (f q s).2 q (f q s).1.1 (f q s).1.2 := by
  obtain ⟨h1, h2, h3⟩ := h
  simp [serve, h1, h2, h3, hc]

/-- Without a request that waits for it a command does nothing. -/
theorem serve_idle {s : State} {r : Route} {tag code : Nat} (f : Req → State → Ans) (h : findReq s code r tag = none) :
    serve code s r tag f = s := by
  simp [serve, h]

end Sys2Proof.Machine
end

