-- ==== Sys2Proof/Tests/Bench.lean ====
section
/-! SUPPORT. Small states for the tests and the witnesses. -/

namespace Sys2Proof.Tests

open Sys2Proof Sys2Proof.Machine Sys2Proof.Safety

/-- Every island in RUN, Steward ready, mailbox 0 bound to the house. -/
def board : State :=
  { State.reset with
    islands := (List.range 12).map fun k => (k, { state := .run })
    mail := { State.reset.mail with ready := true } }

/-- A request of mailbox 0 in progress. -/
def ask (code : Nat) (p : List Byte) : Req :=
  { route := .mailbox 0, command := code, seq := 1, tag := 7, session := 0, more := false, payload := p, pended := false }

/-- A state with one request in progress. -/
def benchOn (s : State) (code : Nat) (p : List Byte) : State :=
  { s with mail := { s.mail with inProgress := [ask code p] } }

def bench (code : Nat) (p : List Byte) : State := benchOn board code p

/-- A point record with its check value. -/
def record (flags : Nat) (writer : Nat := 0) (share : Nat := 0) : PointRec :=
  PointRec.sealed
    { value := 5, time := 9, owner := 0, type := 1, quality := 0, flags := flags, writer := writer, share := share
      series := 0, check := 0 }

/-- The house's slice of 16 identifiers and four of its points: plain, forced, claimed by mailbox 0, shared. -/
def pointBoard : State :=
  { board with
    fabric := { board.fabric with
      slices := [(0, { base := 0x0100000, count := 16, tenant := 0 })]
      shares := [(2, { owner := 0, grants := [(5, 1), (0, 0), (0, 0)] })]
      forces := [(3, { pt := 0x0100001, type := 1, value := 8, time := 4, entryValue := 6, entryTime := 2, entryQuality := 0 })]
      store := [(0x0100000, record 0), (0x0100001, record 2), (0x0100002, record 16 0x60000000), (0x0100003, record 4 0 2)] } }

/-- A one-word program with one task and no maps. -/
def smallProgram : Program :=
  { id := 9, mask := 1, code := [0x7D000000#32]
    tasks := [(0, { entry := 0, period := 1000, phase := 0, tenant := 0, priority := 1, ovrLimit := 0, bitSlots := 8
                    wordSlots := 8, authOff := 0, authLen := 0 })]
    maps := [], insts := [], image := [] }

/-- It is staged. -/
def stagedBoard : State := { board with thyme := { staged := some smallProgram } }

/-- It is loaded, stopped or running. -/
def loadedBoard (run : Bool) : State :=
  { (if run then board.raise rThCtrl 0 else board) with
    thyme := { loaded := some { prog := smallProgram }, tasks := [(0, { state := if run then .waiting else .stopped })] } }

/-- A request that was answered PENDING. -/
def pendedOn (s : State) (code : Nat) (p : List Byte) : State :=
  { s with mail := { s.mail with inProgress := [{ ask code p with pended := true }] } }

/-- An image of one END word and no tasks. -/
def smallImage : List Byte :=
  ascii "THY1" ++ leBytes 4 9 ++ leBytes 4 580 ++ leBytes 4 1 ++ leBytes 4 576 ++ leBytes 4 580 ++ leBytes 4 0 ++
    leBytes 4 580 ++ leBytes 4 0 ++ leBytes 2 0 ++ leBytes 2 1 ++ leBytes 24 0 ++ leBytes 512 0 ++ leBytes 4 0x7D000000

/-- A two-state loop of the house on the first two points, as table bytes and as an entry. -/
def loopBytes (n : Nat) : List Byte :=
  leBytes 2 n ++ leBytes 1 1 ++ leBytes 1 0 ++ leBytes 2 0 ++ leBytes 1 0 ++ leBytes 1 0 ++ leBytes 4 0x0100000 ++
    leBytes 4 0x0100004 ++ leBytes 4 0 ++ leBytes 4 0 ++ leBytes 4 0 ++ leBytes 4 0x3F800000 ++ leBytes 4 0x3F800000 ++
    leBytes 28 0

/-- A digital point without a claim. -/
def bitRecord : PointRec :=
  PointRec.sealed
    { value := 1, time := 9, owner := 0, type := 0, quality := 0, flags := 0, writer := 0, share := 0, series := 0, check := 0 }

/-- Loop 3 defined, off or on, its points in the store; loop 3 traced on channel 2. -/
def loopBoard (on : Bool) : State :=
  { pointBoard with
    fabric := { pointBoard.fabric with store := pointBoard.fabric.store ++ [(0x0100004, bitRecord)] }
    loops := { pointBoard.loops with
      loops := [(3, { cfg := loopCfgOf (loopBytes 3), enabled := on })], traces := [(2, { node := 3, samples := [7, 8] })] } }

/-- Circuit 1 mapped; the readable points of accumulator 0 and of the circuit. -/
def meterBoard : State :=
  { board with
    fabric := { board.fabric with store := [(0x001002C, bitRecord), (0x0011002, bitRecord)] }
    meter := { board.meter with
      circuits := [(1, { cfg := { kind := 1, volt := 0, curr := 0, nominal60 := false, invA := false, invB := false, invC := false }
                         out := { values := List.replicate 22 0x3F800000#32, valid := true } })]
      accs := [(2, { master := 300000, wraps := 1, time := 77 })]
      demands := [(2, { history := [{ start := 9, imp := 5, exp := 6 }, { start := 3, imp := 1, exp := 2 }] })] } }

/-- A calibration set at the default constants. -/
def defaultCal : List Byte :=
  let body := ((List.range 60).map fun c => leBytes 1 c ++ leBytes 3 0 ++ leBytes 4 0x3F800000 ++ leBytes 8 0).flatten
  leBytes 4 0x4C41434D ++ leBytes 2 1 ++ leBytes 2 60 ++ leBytes 4 (crcIscsi body).toNat ++ leBytes 4 5 ++ body

/-- Series 4 of the house on the first point. -/
def seriesBoard : State :=
  { pointBoard with
    harvest := { pointBoard.harvest with
      series := [(4, { tenant := 0, pt := 0x0100000, bins := 2, low := 0, width := 0x3FF0000000000000, linked := false
                       next := none, current := { HvRecord.empty 2 0 with count := 3 }, closed := [], seq := 6 })] } }

/-- A key of the house in a slot. -/
def houseKey (slot purpose : Nat) : StoredKey :=
  { handle := slot, tenant := 0, purpose := purpose, expire := false, uses := none, void := false, material := 7
    credential := false, operational := none, test := false }

/-- One key of each purpose, in slots 1 to 4. -/
def keyBoard : State :=
  { board with vault := { board.vault with
      ready := true, keys := [(1, houseKey 1 0), (2, houseKey 2 1), (3, houseKey 3 2), (4, houseKey 4 3)] } }

/-- Tenant 5 enrolled, mailbox 2 bound to it. -/
def tenantBoard : State :=
  { board with
    vault := { board.vault with keys := [(1, { houseKey 1 3 with tenant := 5, credential := true })] }
    mail := { board.mail with boxes := board.mail.boxes ++ [(2, { bind := some { tenant := 5, role := 1 } })] } }

/-- A header that passes the first seven checks, for an image of 4,096 bytes. -/
def updateHeader : List Byte :=
  let h := [0x4B, 0x57, 0x55, 0x50] ++ leBytes 2 1 ++ leBytes 2 128 ++ padTo 16 (ascii "CFM-8420") ++ leBytes 8 0 ++ leBytes 4 4096 ++
    leBytes 2 1 ++ leBytes 86 0
  h ++ leBytes 4 (crcIscsi h).toNat

/-- The inactive slot receives an image of 200 bytes. -/
def receiveBoard : State :=
  { board with update := Update.commit { board.update with
      stage := 1, slotB := { state := 1, header := leBytes 32 0 ++ leBytes 4 200 ++ leBytes 92 0 } } }

/-- A trial runs from slot B. -/
def trialBoard : State :=
  { board with update := Update.commit { board.update with
      active := true, slotA := { state := 2, ran := true }, slotB := { state := 4 } } }

/-- A program of the words given and one more END, run by task 0. -/
def thProgram (ws : List Nat) : Program :=
  { smallProgram with code := ws.map (BitVec.ofNat 32) ++ [0x7D000000#32] }

def thCfg : TaskCfg :=
  { entry := 0, period := 1000, phase := 0, tenant := 0, priority := 1, ovrLimit := 0, bitSlots := 8, wordSlots := 8
    authOff := 0, authLen := 0 }

def thLoaded (ws : List Nat) : Loaded := { prog := thProgram ws }

/-- Task 0 is ready at the first word with the contents given. -/
def thBoard (ws : List Nat) (m : Mach) : State :=
  { board.raise rThCtrl 0 with
    thyme := { loaded := some (thLoaded ws), tasks := [(0, { state := .ready, mach := m })] } }

/-- A Jiosh frame with the kind, source and sequence given, sealed. -/
def jioshFrame (kind src seq : Nat) (base : Nat) (entries : List (List Byte)) : List Byte :=
  let p := leBytes 1 (1 + kind * 16) ++ leBytes 1 0 ++ leBytes 2 0 ++ leBytes 2 src ++ leBytes 2 seq ++ leBytes 2 0 ++
    leBytes 2 entries.length ++ leBytes 4 0 ++ leBytes 8 base ++ entries.flatten
  p ++ leBytes 4 (crcIscsi p).toNat

/-- Port 4 and the ring are up; a device of four points of the house stands bound there, silent for long. -/
def fieldBoard : State :=
  { pointBoard with
    clock := { pointBoard.clock with up := 2000000000 }
    fabric := { pointBoard.fabric with
      devices := [{ port := 4, serial := 9, tenant := 0, address := 2, base := 0x0100000, count := 4, refresh := 100
                    heard := 0, stale := false, absent := false }]
      imports := [(1, { sender := 77, remote := 0x0123456, localPt := 0x0100000, tenant := 0 })]
      exports := [(6, { period := 10, pt := 0x0100000, dest := 99, tenant := 0, sentAt := 1 })] }
    switch := { pointBoard.switch with
      ports := [(0, { Port.factory 0 with link := .up }), (1, { Port.factory 1 with link := .up })
        , (4, { Port.factory 4 with link := .up })] } }

/-- Loop 3 alone, enabled and joined, its state 1 pending, its group and points as given. -/
def cycleBoard (ph : GroupPhase) (second : Option (Bool × Bool)) (mode : Nat) : State :=
  { ((loopBoard true).setReg rLpCtrl 15) with
    loops := { (loopBoard true).loops with
      traces := []
      groups := [(0, { phase := ph })]
      loops := [(3, { cfg := { loopCfgOf (loopBytes 3) with outMode := mode }, enabled := true, joined := true
                      state := 1, pending := some 1, secondBit := second })] } }

/-- A partner in a role, 8 s after reset: the twin link and the ring are up. -/
def twinBoard (role : TwinRole) : State :=
  { board with
    clock := { board.clock with up := 8000000000 }
    twin := { board.twin with role := role, partner := 2, partnerSerial := leBytes 12 5 }
    switch := { board.switch with
      ports := [(0, { Port.factory 0 with link := .up }), (1, { Port.factory 1 with link := .up })
        , (2, { Port.factory 2 with link := .up })] } }

/-- A twin frame received whole. -/
def twinFrameIn (body : List Byte) : TwinRx :=
  { seq := 6, last := true, frag := 0, time := 0, body := body, checkOk := true, sender := 9, secured := true }

/-- The numbers of the sensor points after 0x100 (22 R571). -/
def sensorPlaces : List Nat := [0, 1, 2, 3, 4] ++ (List.range 12).map (16 + ·) ++ (List.range 5).map (32 + ·)

/-- The store restored, the sensor points of the house in it. -/
def sensorBoard : State :=
  { (board.raise rPfStatus 0) with
    fabric := { board.fabric with
      store := sensorPlaces.map fun k => (0x100 + k, PointRec.sealed
        { value := 0, time := 9, owner := house, type := 5, quality := 0, flags := 0, writer := 0, share := 0, series := 0
          check := 0 }) } }

/-- A hub connection of the house. -/
def bacSession : Session :=
  { stage := .bacnet, id := 9, tenant := 0, role := 1, credential := 1, transcript := [], kemSeed := 3, keys := 2, rxNext := 0
    txNext := 0, heard := 0, kept := [] }

/-- An analog object of the house on its first point. -/
def bacObject : BacObject :=
  { tenant := 0, type := 1, pt := 0x0100000, priority := List.replicate 16 none, relinquish := 0, configError := false }

/-- BACnet runs: the house's connection stands in slot 4, with object 7. -/
def bacBoard : State :=
  { tenantBoard.setReg rMbCtrl 7 with
    vault := { tenantBoard.vault with ready := true }
    fabric := pointBoard.fabric
    mail := { tenantBoard.mail with sessions := [(4, bacSession)], bacObjects := [(7, bacObject)] } }

/-- The bypass is open and ring port 0 holds a receive association with sender 77. -/
def ringBoard : State :=
  { fieldBoard with switch := { fieldBoard.switch with
      bypassClosed := false
      ports := [(0, { Port.factory 0 with
          link := .up
          macsec := some { sci := 77 * 65536, keyHandle := 1, txNow := none, txNext := none, rxNow := some { key := 1, pn := 1 }
                           rxNext := none } })
        , (1, { Port.factory 1 with link := .up }), (4, { Port.factory 4 with link := .up })] } }

/-- A request to cross from island 3 to island 4 in slot 2. -/
def crossAsk : XRequest :=
  { src := 3, dst := 4, slot := 2, gen := 0, reqEpoch := 1, targetEpoch := 1, path := .ordinary, source := 1, op := .readReg 0x40100010 }

/-- The reply to it. -/
def crossAnswer : XReply :=
  { target := 4, requester := 3, slot := 2, gen := 0, reqEpoch := 1, targetEpoch := 1, status := 0, data := 7 }

end Sys2Proof.Tests
end

