-- ==== Sys2Proof/Tests/Slice0.lean ====
section
/-! SUPPORT. Tests of the model: terms that the well-formedness checks refuse, states that meet the hypotheses of each
statement, and single steps on small states. -/

namespace Sys2Proof.Tests

open Sys2Proof Sys2Proof.Machine Sys2Proof.Safety

set_option maxRecDepth 30000
set_option linter.unusedVariables false

theorem witness_StatusReadsAnswer_1 : ∃ (s : State) (r : Route) (tag : Nat) (q : Req), q.payload = [] ∧ Served s r
  tag 0x0101 q :=
  ⟨bench 0x0101 [], .mailbox 0, 7, ask 0x0101 [], by decide⟩

theorem witness_StatusReadsAnswer_2 : ∃ (s : State) (r : Route) (tag : Nat) (q : Req), q.payload = [] ∧ Served s r
  tag 0x0302 q ∧ Open s iTHY :=
  ⟨bench 0x0302 [], .mailbox 0, 7, ask 0x0302 [], by decide⟩

theorem witness_StatusReadsAnswer_3 : ∃ (s : State) (r : Route) (tag : Nat) (q : Req), q.payload = [] ∧ Served s r
  tag 0x0B01 q ∧ Open s iMGT :=
  ⟨bench 0x0B01 [], .mailbox 0, 7, ask 0x0B01 [], by decide⟩

theorem witness_StatusReadsAnswer_4 : ∃ (s : State) (r : Route) (tag : Nat) (q : Req), q.payload = [] ∧ Served s r
  tag 0x0B02 q ∧ Open s iMGT :=
  ⟨bench 0x0B02 [], .mailbox 0, 7, ask 0x0B02 [], by decide⟩

theorem witness_StatusReadsAnswer_5 : ∃ (s : State) (r : Route) (tag : Nat) (q : Req), q.payload = [] ∧ Served s r
  tag 0x0701 q ∧ Open s iTIME :=
  ⟨bench 0x0701 [], .mailbox 0, 7, ask 0x0701 [], by decide⟩

theorem witness_StatusReadsAnswer_6 : ∃ (s : State) (r : Route) (tag : Nat) (q : Req), q.payload = [] ∧ Served s r
  tag 0x0D06 q ∧ Open s iMGT :=
  ⟨bench 0x0D06 [], .mailbox 0, 7, ask 0x0D06 [], by decide⟩

theorem witness_StatusReadsAnswer_7 : ∃ (s : State) (r : Route) (tag : Nat) (q : Req), q.payload = [] ∧ Served s r
  tag 0x0E01 q ∧ Open s iMGT :=
  ⟨bench 0x0E01 [], .mailbox 0, 7, ask 0x0E01 [], by decide⟩

theorem witness_StatusReadsAnswer_8 : ∃ (s : State) (r : Route) (tag : Nat) (q : Req), q.payload = [] ∧ Served s r
  tag 0x0605 q ∧ Open s iPF :=
  ⟨bench 0x0605 [], .mailbox 0, 7, ask 0x0605 [], by decide⟩

theorem witness_ListCommandsAnswer_1 : ∃ (s : State) (r : Route) (tag : Nat) (q : Req) (n : Nat), Served s r tag
  0x0201 q ∧ q.payload.length = 4 + 4 * n ∧ fld q.payload 0 2 = n ∧ fld q.payload 2 2 = 0 ∧ 1 ≤ n ∧ n ≤ 169 :=
  ⟨bench 0x0201 (leBytes 2 1 ++ leBytes 2 0 ++ leBytes 4 1048576), .mailbox 0, 7, ask 0x0201 (leBytes 2 1 ++ leBytes 2 0 ++ leBytes 4 1048576), 1, by decide⟩

theorem witness_ListCommandsAnswer_2 : ∃ (s : State) (r : Route) (tag : Nat) (q : Req) (n : Nat), Served s r tag
  0x0202 q ∧ q.payload.length = 8 + 24 * n ∧ fld q.payload 0 2 = n ∧ allZero (sub q.payload 2 6) = true ∧ (∀ e ∈
  entriesAt q.payload 8 24 n, fld e 6 2 = 0) ∧ 1 ≤ n ∧ n ≤ 169 :=
  ⟨bench 0x0202 (leBytes 2 1 ++ leBytes 6 0 ++ leBytes 4 1048576 ++ leBytes 20 0), .mailbox 0, 7, ask 0x0202 (leBytes 2 1 ++ leBytes 6 0 ++ leBytes 4 1048576 ++ leBytes 20 0), 1, by decide⟩

theorem witness_ListCommandsAnswer_3 : ∃ (s : State) (r : Route) (tag : Nat) (q : Req) (n : Nat), Served s r tag
  0x0203 q ∧ q.payload.length = 4 + 8 * n ∧ fld q.payload 0 2 = n ∧ fld q.payload 2 2 = 0 ∧ (∀ e ∈ entriesAt
  q.payload 4 8 n, fld e 6 2 = 0) :=
  ⟨bench 0x0203 (leBytes 2 1 ++ leBytes 2 0 ++ leBytes 4 1048576 ++ leBytes 4 1), .mailbox 0, 7, ask 0x0203 (leBytes 2 1 ++ leBytes 2 0 ++ leBytes 4 1048576 ++ leBytes 4 1), 1, by decide⟩

theorem witness_ListCommandsAnswer_4 : ∃ (s : State) (r : Route) (tag : Nat) (q : Req) (n : Nat), Served s r tag
  0x0204 q ∧ q.payload.length = 4 + 4 * n ∧ fld q.payload 0 2 = n ∧ fld q.payload 2 2 = 0 ∧ n ≤ 507 :=
  ⟨bench 0x0204 (leBytes 2 1 ++ leBytes 2 0 ++ leBytes 4 1048576), .mailbox 0, 7, ask 0x0204 (leBytes 2 1 ++ leBytes 2 0 ++ leBytes 4 1048576), 1, by decide⟩

theorem witness_ListCommandsAnswer_5 : ∃ (s : State) (r : Route) (tag : Nat) (q : Req) (n : Nat), Served s r tag
  0x0205 q ∧ q.payload.length = 4 + 4 * n ∧ fld q.payload 0 2 = n ∧ fld q.payload 2 2 = 0 ∧ n ≤ 507 :=
  ⟨bench 0x0205 (leBytes 2 1 ++ leBytes 2 0 ++ leBytes 4 1048576), .mailbox 0, 7, ask 0x0205 (leBytes 2 1 ++ leBytes 2 0 ++ leBytes 4 1048576), 1, by decide⟩

theorem witness_ListCommandsAnswer_6 : ∃ (s : State) (r : Route) (tag : Nat) (q : Req) (n : Nat), Served s r tag
  0x0206 q ∧ q.payload.length = 4 + 4 * n ∧ fld q.payload 0 2 = n ∧ fld q.payload 2 2 = 0 ∧ n ≤ 507 :=
  ⟨bench 0x0206 (leBytes 2 1 ++ leBytes 2 0 ++ leBytes 4 1048576), .mailbox 0, 7, ask 0x0206 (leBytes 2 1 ++ leBytes 2 0 ++ leBytes 4 1048576), 1, by decide⟩

theorem witness_ListCommandsAnswer_7 : ∃ (s : State) (r : Route) (tag : Nat) (q : Req) (n : Nat), Served s r tag
  0x020C q ∧ q.payload.length = 4 + 4 * n ∧ fld q.payload 2 2 = n ∧ n ≤ 507 :=
  ⟨bench 0x020C (leBytes 2 65535 ++ leBytes 2 1 ++ leBytes 4 1048576), .mailbox 0, 7, ask 0x020C (leBytes 2 65535 ++ leBytes 2 1 ++ leBytes 4 1048576), 1, by decide⟩

theorem witness_ListCommandsAnswer_8 : ∃ (s : State) (r : Route) (tag : Nat) (q : Req) (n : Nat), Served s r tag
  0x0905 q ∧ q.payload.length = 4 + 32 * n ∧ fld q.payload 2 2 = n ∧ fld q.payload 1 1 = 0 ∧ 4 ≤ fld q.payload 0 1 ∧
  fld q.payload 0 1 < 20 :=
  ⟨bench 0x0905 (leBytes 1 4 ++ leBytes 1 0 ++ leBytes 2 1 ++ leBytes 32 0), .mailbox 0, 7, ask 0x0905 (leBytes 1 4 ++ leBytes 1 0 ++ leBytes 2 1 ++ leBytes 32 0), 1, by decide⟩

theorem witness_ListCommandsAnswer_9 : ∃ (s : State) (r : Route) (tag : Nat) (q : Req) (n : Nat), Served s r tag
  0x0906 q ∧ q.payload.length = 4 + 16 * n ∧ fld q.payload 2 2 = n ∧ fld q.payload 1 1 = 0 ∧ fld q.payload 0 1 < 2
  :=
  ⟨bench 0x0906 (leBytes 1 0 ++ leBytes 1 0 ++ leBytes 2 1 ++ leBytes 16 0), .mailbox 0, 7, ask 0x0906 (leBytes 1 0 ++ leBytes 1 0 ++ leBytes 2 1 ++ leBytes 16 0), 1, by decide⟩

theorem witness_ListCommandsAnswer_10 : ∃ (s : State) (r : Route) (tag : Nat) (q : Req) (n : Nat), Served s r tag
  0x0402 q ∧ q.payload.length = 8 ∧ fld q.payload 2 2 = n ∧ 1 ≤ n ∧ n ≤ 1016 ∧ fld q.payload 0 2 + n ≤ 1024 ∧ fld
  q.payload 4 1 ≤ 1 ∧ allZero (q.payload.drop 5) = true :=
  ⟨bench 0x0402 (leBytes 2 3 ++ leBytes 2 1 ++ leBytes 4 1), .mailbox 0, 7, ask 0x0402 (leBytes 2 3 ++ leBytes 2 1 ++ leBytes 4 1), 1, by decide⟩

theorem witness_ListCommandsAnswer_11 : ∃ (s : State) (r : Route) (tag : Nat) (q : Req) (n : Nat), Served s r tag
  0x0403 q ∧ q.payload.length = 4 ∧ fld q.payload 2 2 = n ∧ 1 ≤ n ∧ n ≤ 252 ∧ fld q.payload 0 2 + n ≤ 1024 :=
  ⟨bench 0x0403 (leBytes 2 3 ++ leBytes 2 1), .mailbox 0, 7, ask 0x0403 (leBytes 2 3 ++ leBytes 2 1), 1, by decide⟩

theorem witness_ListCommandsAnswer_12 : ∃ (s : State) (r : Route) (tag : Nat) (q : Req) (n : Nat), Served s r tag
  0x0501 q ∧ q.payload.length = 4 ∧ fld q.payload 2 2 = n ∧ 1 ≤ n ∧ n ≤ 126 :=
  ⟨bench 0x0501 (leBytes 2 0 ++ leBytes 2 1), .mailbox 0, 7, ask 0x0501 (leBytes 2 0 ++ leBytes 2 1), 1, by decide⟩

theorem witness_ListCommandsAnswer_13 : ∃ (s : State) (r : Route) (tag : Nat) (q : Req) (n : Nat), Served s r tag
  0x0508 q ∧ q.payload.length = 4 ∧ fld q.payload 2 2 = n ∧ 1 ≤ n ∧ n ≤ 127 :=
  ⟨bench 0x0508 (leBytes 2 0 ++ leBytes 2 1), .mailbox 0, 7, ask 0x0508 (leBytes 2 0 ++ leBytes 2 1), 1, by decide⟩

theorem witness_PointAccessEffect_1 : ∃ (s : State) (r : Route) (tag : Nat) (q : Req) (pt : Nat), Served s r tag
  0x0201 q ∧ Open s iPF ∧ q.payload = (leBytes 2 1 ++ leBytes 2 0 ++ leBytes 4 pt) ∧ Sound s pt ∧ bitOf (rightsOf s
  (s.point pt) (routeTenant s q.route)) 0 = true ∧ forceOf s pt = none :=
  ⟨benchOn pointBoard 0x0201 (leBytes 2 1 ++ leBytes 2 0 ++ leBytes 4 1048576), .mailbox 0, 7, ask 0x0201 (leBytes 2 1 ++ leBytes 2 0 ++ leBytes 4 1048576), 0x0100000, by decide⟩

theorem witness_PointAccessEffect_2 : ∃ (s : State) (r : Route) (tag : Nat) (q : Req) (pt : Nat) (f : Force), Served
  s r tag 0x0201 q ∧ Open s iPF ∧ q.payload = (leBytes 2 1 ++ leBytes 2 0 ++ leBytes 4 pt) ∧ Sound s pt ∧ bitOf
  (rightsOf s (s.point pt) (routeTenant s q.route)) 0 = true ∧ forceOf s pt = some f :=
  ⟨benchOn pointBoard 0x0201 (leBytes 2 1 ++ leBytes 2 0 ++ leBytes 4 1048577), .mailbox 0, 7, ask 0x0201 (leBytes 2 1 ++ leBytes 2 0 ++ leBytes 4 1048577), 0x0100001, { pt := 0x0100001, type := 1, value := 8, time := 4, entryValue := 6, entryTime := 2, entryQuality := 0 }, by decide⟩

theorem witness_PointAccessEffect_3 : ∃ (s : State) (r : Route) (tag : Nat) (q : Req) (pt : Nat) (ql v tm : Nat),
  Served s r tag 0x0202 q ∧ Open s iPF ∧ q.payload = (leBytes 2 1 ++ leBytes 6 0 ++ leBytes 4 pt ++ leBytes 1
  (s.point pt).type ++ leBytes 1 ql ++ leBytes 2 0 ++ leBytes 8 v ++ leBytes 8 tm) ∧ Sound s pt ∧ bitOf (rightsOf s
  (s.point pt) (routeTenant s q.route)) 1 = true ∧ ((s.point pt).flag fLocked = false ∨ (s.point pt).writer =
  routeWriter q.route) ∧ (s.point pt).type < 8 ∧ (ql = qGood ∨ ql = qSubstituted ∨ ql = qOutOfRange) ∧ tm < 2 ^ 64 ∧
  forceIndex s pt = none ∧ forceOf s pt = none :=
  ⟨benchOn pointBoard 0x0202 (leBytes 2 1 ++ leBytes 6 0 ++ leBytes 4 1048576 ++ leBytes 1 1 ++ leBytes 1 0 ++ leBytes 2 0 ++ leBytes 8 77 ++ leBytes 8 0), .mailbox 0, 7, ask 0x0202 (leBytes 2 1 ++ leBytes 6 0 ++ leBytes 4 1048576 ++ leBytes 1 1 ++ leBytes 1 0 ++ leBytes 2 0 ++ leBytes 8 77 ++ leBytes 8 0), 0x0100000, 0, 77, 0, by decide⟩

theorem witness_PointAccessEffect_4 : ∃ (s : State) (r : Route) (tag : Nat) (q : Req) (pt : Nat) (ql v tm i : Nat)
  (f : Force), Served s r tag 0x0202 q ∧ Open s iPF ∧ q.payload = (leBytes 2 1 ++ leBytes 6 0 ++ leBytes 4 pt ++
  leBytes 1 (s.point pt).type ++ leBytes 1 ql ++ leBytes 2 0 ++ leBytes 8 v ++ leBytes 8 tm) ∧ Sound s pt ∧ bitOf
  (rightsOf s (s.point pt) (routeTenant s q.route)) 1 = true ∧ ((s.point pt).flag fLocked = false ∨ (s.point
  pt).writer = routeWriter q.route) ∧ (s.point pt).type < 8 ∧ (ql = qGood ∨ ql = qSubstituted ∨ ql = qOutOfRange) ∧
  tm < 2 ^ 64 ∧ forceIndex s pt = some i ∧ forceOf s pt = some f :=
  ⟨benchOn pointBoard 0x0202 (leBytes 2 1 ++ leBytes 6 0 ++ leBytes 4 1048577 ++ leBytes 1 1 ++ leBytes 1 4 ++ leBytes 2 0 ++ leBytes 8 77 ++ leBytes 8 3), .mailbox 0, 7, ask 0x0202 (leBytes 2 1 ++ leBytes 6 0 ++ leBytes 4 1048577 ++ leBytes 1 1 ++ leBytes 1 4 ++ leBytes 2 0 ++ leBytes 8 77 ++ leBytes 8 3), 0x0100001, 4, 77, 3, 3, { pt := 0x0100001, type := 1, value := 8, time := 4, entryValue := 6, entryTime := 2, entryQuality := 0 }, by decide⟩

theorem witness_PointDefinitionEffect_1 : ∃ (s : State) (r : Route) (tag : Nat) (q : Req) (pt : Nat) (ty ret : Nat),
  Served s r tag 0x0203 q ∧ Open s iPF ∧ q.payload = (leBytes 2 1 ++ leBytes 2 0 ++ leBytes 4 pt ++ leBytes 1 ty ++
  leBytes 1 ret ++ leBytes 2 0) ∧ firstAssignable ≤ pt ∧ pt < pointCount ∧ sliceTenant s pt = some (routeTenant s
  q.route) ∧ s.defined pt = false ∧ s.failedPt pt = false ∧ ty < 8 ∧ ret < 2 ∧ (ret = 1 → placesFull s pt = false) ∧
  (∀ d ∈ s.fabric.devices, pt < d.base ∨ d.base + d.count ≤ pt) :=
  ⟨benchOn pointBoard 0x0203 (leBytes 2 1 ++ leBytes 2 0 ++ leBytes 4 1048581 ++ leBytes 1 2 ++ leBytes 1 1 ++ leBytes 2 0), .mailbox 0, 7, ask 0x0203 (leBytes 2 1 ++ leBytes 2 0 ++ leBytes 4 1048581 ++ leBytes 1 2 ++ leBytes 1 1 ++ leBytes 2 0), 0x0100005, 2, 1, by decide⟩

theorem witness_PointDefinitionEffect_2 : ∃ (s : State) (r : Route) (tag : Nat) (q : Req) (pt : Nat), Served s r tag
  0x0204 q ∧ Open s iPF ∧ q.payload = (leBytes 2 1 ++ leBytes 2 0 ++ leBytes 4 pt) ∧ firstAssignable ≤ pt ∧ pt <
  pointCount ∧ sliceTenant s pt = some (routeTenant s q.route) ∧ s.defined pt = true :=
  ⟨benchOn pointBoard 0x0204 (leBytes 2 1 ++ leBytes 2 0 ++ leBytes 4 1048577), .mailbox 0, 7, ask 0x0204 (leBytes 2 1 ++ leBytes 2 0 ++ leBytes 4 1048577), 0x0100001, by decide⟩

theorem witness_PointDefinitionEffect_3 : ∃ (s : State) (r : Route) (tag : Nat) (q : Req) (pt : Nat), Served s r tag
  0x0205 q ∧ Open s iPF ∧ q.payload = (leBytes 2 1 ++ leBytes 2 0 ++ leBytes 4 pt) ∧ Sound s pt ∧ firstAssignable ≤
  pt ∧ bitOf (rightsOf s (s.point pt) (routeTenant s q.route)) 1 = true ∧ (s.point pt).flag fLocked = false :=
  ⟨benchOn pointBoard 0x0205 (leBytes 2 1 ++ leBytes 2 0 ++ leBytes 4 1048576), .mailbox 0, 7, ask 0x0205 (leBytes 2 1 ++ leBytes 2 0 ++ leBytes 4 1048576), 0x0100000, by decide⟩

theorem witness_PointDefinitionEffect_4 : ∃ (s : State) (r : Route) (tag : Nat) (q : Req) (pt : Nat), Served s r tag
  0x0206 q ∧ Open s iPF ∧ q.payload = (leBytes 2 1 ++ leBytes 2 0 ++ leBytes 4 pt) ∧ Sound s pt ∧ firstAssignable ≤
  pt ∧ bitOf (rightsOf s (s.point pt) (routeTenant s q.route)) 1 = true ∧ (s.point pt).flag fLocked = true ∧
  (s.point pt).writer = routeWriter r :=
  ⟨benchOn pointBoard 0x0206 (leBytes 2 1 ++ leBytes 2 0 ++ leBytes 4 1048578), .mailbox 0, 7, ask 0x0206 (leBytes 2 1 ++ leBytes 2 0 ++ leBytes 4 1048578), 0x0100002, by decide⟩

theorem witness_PointDefinitionEffect_5 : ∃ (s : State) (r : Route) (tag : Nat) (q : Req) (pt : Nat) (k : Nat) (e :
  Share), Served s r tag 0x020C q ∧ Open s iPF ∧ q.payload = (leBytes 2 k ++ leBytes 2 1 ++ leBytes 4 pt) ∧ Sound s
  pt ∧ (s.point pt).owner = routeTenant s q.route ∧ k < 4096 ∧ tabGet s.fabric.shares k = some e ∧ e.owner =
  routeTenant s q.route :=
  ⟨benchOn pointBoard 0x020C (leBytes 2 2 ++ leBytes 2 1 ++ leBytes 4 1048576), .mailbox 0, 7, ask 0x020C (leBytes 2 2 ++ leBytes 2 1 ++ leBytes 4 1048576), 0x0100000, 2, { owner := 0, grants := [(5, 1), (0, 0), (0, 0)] }, by decide⟩

theorem witness_ForceEffect_1 : ∃ (s : State) (r : Route) (tag : Nat) (q : Req) (pt : Nat) (v i : Nat), Served s r
  tag 0x0207 q ∧ Open s iPF ∧ q.payload = (leBytes 4 pt ++ leBytes 1 (s.point pt).type ++ leBytes 3 0 ++ leBytes 8
  v) ∧ Sound s pt ∧ bitOf (rightsOf s (s.point pt) (routeTenant s q.route)) 2 = true ∧ (s.point pt).type < 8 ∧
  forceIndex s pt = none ∧ forceOf s pt = none ∧ tabFree s.fabric.forces 0 1024 = some i :=
  ⟨benchOn pointBoard 0x0207 (leBytes 4 1048576 ++ leBytes 1 1 ++ leBytes 3 0 ++ leBytes 8 44), .mailbox 0, 7, ask 0x0207 (leBytes 4 1048576 ++ leBytes 1 1 ++ leBytes 3 0 ++ leBytes 8 44), 0x0100000, 44, 0, by decide⟩

theorem witness_ForceEffect_2 : ∃ (s : State) (r : Route) (tag : Nat) (q : Req) (pt : Nat) (v i : Nat) (f : Force),
  Served s r tag 0x0207 q ∧ Open s iPF ∧ q.payload = (leBytes 4 pt ++ leBytes 1 (s.point pt).type ++ leBytes 3 0 ++
  leBytes 8 v) ∧ Sound s pt ∧ bitOf (rightsOf s (s.point pt) (routeTenant s q.route)) 2 = true ∧ (s.point pt).type <
  8 ∧ forceIndex s pt = some i ∧ forceOf s pt = some f :=
  ⟨benchOn pointBoard 0x0207 (leBytes 4 1048577 ++ leBytes 1 1 ++ leBytes 3 0 ++ leBytes 8 44), .mailbox 0, 7, ask 0x0207 (leBytes 4 1048577 ++ leBytes 1 1 ++ leBytes 3 0 ++ leBytes 8 44), 0x0100001, 44, 3, { pt := 0x0100001, type := 1, value := 8, time := 4, entryValue := 6, entryTime := 2, entryQuality := 0 }, by decide⟩

theorem witness_ForceEffect_3 : ∃ (s : State) (r : Route) (tag : Nat) (q : Req) (pt : Nat) (i : Nat) (f : Force),
  Served s r tag 0x0208 q ∧ Open s iPF ∧ q.payload = (leBytes 4 pt) ∧ Sound s pt ∧ bitOf (rightsOf s (s.point pt)
  (routeTenant s q.route)) 2 = true ∧ forceIndex s pt = some i ∧ tabGet s.fabric.forces i = some f ∧ f.pt = pt :=
  ⟨benchOn pointBoard 0x0208 (leBytes 4 1048577), .mailbox 0, 7, ask 0x0208 (leBytes 4 1048577), 0x0100001, 3, { pt := 0x0100001, type := 1, value := 8, time := 4, entryValue := 6, entryTime := 2, entryQuality := 0 }, by decide⟩

theorem witness_ForceEffect_4 : ∃ (s : State) (r : Route) (tag : Nat) (q : Req) (pt : Nat), Served s r tag 0x0208 q
  ∧ Open s iPF ∧ q.payload = (leBytes 4 pt) ∧ Sound s pt ∧ bitOf (rightsOf s (s.point pt) (routeTenant s q.route)) 2
  = true ∧ forceIndex s pt = none :=
  ⟨benchOn pointBoard 0x0208 (leBytes 4 1048576), .mailbox 0, 7, ask 0x0208 (leBytes 4 1048576), 0x0100000, by decide⟩

theorem witness_ForceEffect_5 : ∃ (s : State) (r : Route) (tag : Nat) (q : Req) (pt : Nat), Served s r tag 0x0208 q
  ∧ Open s iPF ∧ q.payload = (leBytes 4 0xFFFFFFFF) :=
  ⟨benchOn pointBoard 0x0208 (leBytes 4 0xFFFFFFFF), .mailbox 0, 7, ask 0x0208 (leBytes 4 0xFFFFFFFF), 0, by decide⟩

theorem witness_ForceEffect_6 : ∃ (s : State) (r : Route) (tag : Nat) (q : Req) (pt : Nat) (n : Nat), Served s r tag
  0x0209 q ∧ Open s iPF ∧ q.payload = (leBytes 2 n ++ leBytes 2 0) ∧ n < 65536 :=
  ⟨benchOn pointBoard 0x0209 (leBytes 2 0 ++ leBytes 2 0), .mailbox 0, 7, ask 0x0209 (leBytes 2 0 ++ leBytes 2 0), 0, 0, by decide⟩

theorem witness_ShareAndSliceEffect_1 : ∃ (s : State) (r : Route) (tag : Nat) (q : Req) (e k o g0 g1 g2 : Nat),
  Served s r tag 0x020A q ∧ Open s iPF ∧ q.payload = (leBytes 2 e ++ leBytes 2 0 ++ leBytes 2 o ++ leBytes 2 g0 ++
  leBytes 2 g1 ++ leBytes 2 g2) ∧ o = routeTenant s q.route ∧ o < 4096 ∧ g0 < 65536 ∧ g1 < 65536 ∧ g2 < 65536 ∧ ((e
  = 0xFFFF ∧ tabFree s.fabric.shares 0 4096 = some k) ∨ (e = k ∧ k < 4096 ∧ (tabGet s.fabric.shares k).all (·.owner
  == o) = true)) :=
  ⟨benchOn pointBoard 0x020A (leBytes 2 0xFFFF ++ leBytes 2 0 ++ leBytes 2 0 ++ leBytes 2 4101 ++ leBytes 2 0 ++ leBytes 2 0), .mailbox 0, 7, ask 0x020A (leBytes 2 0xFFFF ++ leBytes 2 0 ++ leBytes 2 0 ++ leBytes 2 4101 ++ leBytes 2 0 ++ leBytes 2 0), 0xFFFF, 0, 0, 0x1005, 0, 0, by decide⟩

theorem witness_ShareAndSliceEffect_2 : ∃ (s : State) (r : Route) (tag : Nat) (q : Req) (k : Nat) (e : Share),
  Served s r tag 0x020B q ∧ Open s iPF ∧ q.payload = (leBytes 2 k ++ leBytes 2 0) ∧ k < 65536 ∧ tabGet
  s.fabric.shares k = some e ∧ e.owner = routeTenant s q.route :=
  ⟨benchOn pointBoard 0x020B (leBytes 2 2 ++ leBytes 2 0), .mailbox 0, 7, ask 0x020B (leBytes 2 2 ++ leBytes 2 0), 2, { owner := 0, grants := [(5, 1), (0, 0), (0, 0)] }, by decide⟩

theorem witness_ShareAndSliceEffect_3 : ∃ (s : State) (r : Route) (tag : Nat) (q : Req) (k base count t : Nat),
  Served s r tag 0x020D q ∧ Open s iPF ∧ q.payload = (leBytes 2 k ++ leBytes 2 0 ++ leBytes 4 base ++ leBytes 4
  count ++ leBytes 2 t ++ leBytes 2 0) ∧ k < 1024 ∧ t < nobody ∧ 0 < count ∧ firstAssignable ≤ base ∧ base + count ≤
  pointCount ∧ (∀ y ∈ s.fabric.slices, y.1 ≠ k → base + count ≤ y.2.base ∨ y.2.base + y.2.count ≤ base) ∧ tabGet
  s.fabric.slices k = none :=
  ⟨benchOn pointBoard 0x020D (leBytes 2 1 ++ leBytes 2 0 ++ leBytes 4 1048592 ++ leBytes 4 8 ++ leBytes 2 5 ++ leBytes 2 0), .mailbox 0, 7, ask 0x020D (leBytes 2 1 ++ leBytes 2 0 ++ leBytes 4 1048592 ++ leBytes 4 8 ++ leBytes 2 5 ++ leBytes 2 0), 1, 0x0100010, 8, 5, by decide⟩

theorem witness_ShareAndSliceEffect_4 : ∃ (s : State) (r : Route) (tag : Nat) (q : Req) (k base t : Nat) (x :
  Slice), Served s r tag 0x020D q ∧ Open s iPF ∧ q.payload = (leBytes 2 k ++ leBytes 2 0 ++ leBytes 4 base ++
  leBytes 4 0 ++ leBytes 2 t ++ leBytes 2 0) ∧ k < 1024 ∧ t < nobody ∧ tabGet s.fabric.slices k = some x ∧ definedIn
  s x.base x.count = false :=
  ⟨benchOn ({ board with fabric := { board.fabric with slices := [(1, { base := 0x0100000, count := 4, tenant := 5 })] } }) 0x020D (leBytes 2 1 ++ leBytes 2 0 ++ leBytes 4 0 ++ leBytes 4 0 ++ leBytes 2 5 ++ leBytes 2 0), .mailbox 0, 7, ask 0x020D (leBytes 2 1 ++ leBytes 2 0 ++ leBytes 4 0 ++ leBytes 4 0 ++ leBytes 2 5 ++ leBytes 2 0), 1, 0, 5, { base := 0x0100000, count := 4, tenant := 5 }, by decide⟩

theorem witness_ShareAndSliceEffect_5 : ∃ (s : State) (r : Route) (tag : Nat) (q : Req) (n : Nat), Served s r tag
  0x020E q ∧ Open s iPF ∧ q.payload = (leBytes 2 n ++ leBytes 2 0) ∧ n < 65536 :=
  ⟨benchOn pointBoard 0x020E (leBytes 2 0 ++ leBytes 2 0), .mailbox 0, 7, ask 0x020E (leBytes 2 0 ++ leBytes 2 0), 0, by decide⟩

theorem witness_ProgramLoadEffect_1 : ∃ (s : State) (r : Route) (tag : Nat) (q : Req) (total c : Nat) (d : List
  Byte), Served s r tag 0x0301 q ∧ Open s iTHY ∧ s.thyme.exchange = none ∧ s.thyme.checking = none ∧ q.payload =
  leBytes 4 0 ++ leBytes 4 total ++ leBytes 4 c ++ leBytes 4 0 ++ d ∧ 64 ≤ total ∧ total ≤ 2097152 ∧ c < 2 ^ 32 ∧
  transferOf s 0x0301 = none ∧ q.more = true ∧ d.length < total ∧ q.command = 0x0301 :=
  ⟨{ board with mail := { board.mail with inProgress := [{ ask 0x0301 (leBytes 4 0 ++ leBytes 4 80 ++ leBytes 4 5 ++ leBytes 4 0 ++ (leBytes 64 0)) with more := true }] } }, .mailbox 0, 7, { ask 0x0301 (leBytes 4 0 ++ leBytes 4 80 ++ leBytes 4 5 ++ leBytes 4 0 ++ (leBytes 64 0)) with more := true }, 80, 5, (leBytes 64 0), by decide⟩

theorem witness_ProgramLoadEffect_2 : ∃ (s : State) (r : Route) (tag : Nat) (q : Req) (c : Nat) (d : List Byte),
  Served s r tag 0x0301 q ∧ Open s iTHY ∧ s.thyme.exchange = none ∧ s.thyme.checking = none ∧ q.payload = leBytes 4
  0 ++ leBytes 4 d.length ++ leBytes 4 c ++ leBytes 4 0 ++ d ∧ 64 ≤ d.length ∧ d.length ≤ 2097152 ∧ c < 2 ^ 32 ∧
  transferOf s 0x0301 = none ∧ q.more = false ∧ q.command = 0x0301 :=
  ⟨{ board with mail := { board.mail with inProgress := [{ ask 0x0301 (leBytes 4 0 ++ leBytes 4 64 ++ leBytes 4 5 ++ leBytes 4 0 ++ (leBytes 64 0)) with more := false }] } }, .mailbox 0, 7, { ask 0x0301 (leBytes 4 0 ++ leBytes 4 64 ++ leBytes 4 5 ++ leBytes 4 0 ++ (leBytes 64 0)) with more := false }, 5, (leBytes 64 0), by decide⟩

theorem witness_ProgramLoadEffect_3 : ∃ (s : State) (r : Route) (tag : Nat) (q : Req) (c : Nat) (d : List Byte) (t :
  Transfer), Served s r tag 0x0301 q ∧ Open s iTHY ∧ s.thyme.exchange = none ∧ s.thyme.checking = none ∧ q.payload =
  leBytes 4 t.received ++ leBytes 4 t.total ++ leBytes 4 c ++ leBytes 4 0 ++ d ∧ 64 ≤ t.total ∧ t.total ≤ 2097152 ∧
  c < 2 ^ 32 ∧ transferOf s 0x0301 = some t ∧ t.route = q.route ∧ t.tag = q.tag ∧ t.check = c ∧ 0 < t.received ∧
  t.received + d.length = t.total ∧ q.more = false ∧ q.command = 0x0301 :=
  ⟨{ board with mail := { board.mail with inProgress := [ask 0x0301 (leBytes 4 64 ++ leBytes 4 128 ++ leBytes 4 5 ++ leBytes 4 0 ++ (leBytes 64 0))], transfers := [{ command := 0x0301, route := .mailbox 0, tag := 7, total := 128, data := leBytes 64 0, received := 64, last := 0, check := 5 }] } }, .mailbox 0, 7, ask 0x0301 (leBytes 4 64 ++ leBytes 4 128 ++ leBytes 4 5 ++ leBytes 4 0 ++ (leBytes 64 0)), 5, (leBytes 64 0), { command := 0x0301, route := .mailbox 0, tag := 7, total := 128, data := leBytes 64 0, received := 64, last := 0, check := 5 }, by decide⟩

theorem witness_ProgramLoadEffect_house : ∃ (s : State) (r : Route) (tag : Nat) (q : Req) (b : List Byte) (c : Nat) (p
  : Program), s.thyme.checking = some (b, c) ∧ (checkImage { s with thyme := { s.thyme with checking := none } } b
  c).toOption = some p ∧ pendedReq s 0x0301 = some q ∧ (tasksIn b).all (fun t => (taskAt b t).tenant == house) =
  true :=
  ⟨{ pendedOn board 0x0301 [] with thyme := { checking := some (smallImage, 2856952705) } }, .mailbox 0, 7, { ask 0x0301 [] with pended := true }, smallImage, 2856952705, { id := 9, mask := 0, code := [0x7D000000#32], tasks := [], maps := [], insts := [], image := smallImage }, by decide +kernel⟩

theorem witness_ProgramLoadEffect_4 : ∃ (s : State) (r : Route) (tag : Nat) (q : Req) (b : List Byte) (c : Nat) (p :
  Program), s.thyme.checking = some (b, c) ∧ (checkImage { s with thyme := { s.thyme with checking := none } } b
  c).toOption = some p ∧ pendedReq s 0x0301 = some q :=
  ⟨{ pendedOn board 0x0301 [] with thyme := { checking := some (smallImage, 2856952705) } }, .mailbox 0, 7, { ask 0x0301 [] with pended := true }, smallImage, 2856952705, { id := 9, mask := 0, code := [0x7D000000#32], tasks := [], maps := [], insts := [], image := smallImage }, by decide +kernel⟩

theorem witness_ProgramLoadEffect_5 : ∃ (s : State) (r : Route) (tag : Nat) (q : Req) (b : List Byte) (c : Nat) (e :
  Nat × Nat), s.thyme.checking = some (b, c) ∧ (match checkImage { s with thyme := { s.thyme with checking := none }
  } b c with | .ok _ => none | .error x => some x) = some e ∧ pendedReq s 0x0301 = some q ∧ e.1 < 9 :=
  ⟨{ pendedOn board 0x0301 [] with thyme := { checking := some ([], 1) } }, .mailbox 0, 7, { ask 0x0301 [] with pended := true }, [], 1, (1, 0), by decide⟩

theorem witness_ProgramRunEffect_1 : ∃ (s : State) (r : Route) (tag : Nat) (q : Req) (p : Program) (m : Nat), Served
  s r tag 0x0303 q ∧ Open s iTHY ∧ s.mail.inProgress = [q] ∧ s.thyme.staged = some p ∧ s.thyme.loaded = none ∧
  s.thyme.exchange = none ∧ s.thyme.unloading = false ∧ anyBusy s = false ∧ outputsOf p = [] ∧ pairShips s = false ∧
  q.payload = leBytes 1 m ++ leBytes 3 0 ++ leBytes 4 p.id ∧ m < 2 ∧ p.id < 2 ^ 32 :=
  ⟨benchOn stagedBoard 0x0303 (leBytes 1 1 ++ leBytes 3 0 ++ leBytes 4 9), .mailbox 0, 7, ask 0x0303 (leBytes 1 1 ++ leBytes 3 0 ++ leBytes 4 9), smallProgram, 1, by decide⟩

theorem witness_ProgramRunEffect_pair : ∃ (s : State) (r : Route) (tag : Nat) (q : Req) (p : Program) (m : Nat),
  Served s r tag 0x0303 q ∧ Open s iTHY ∧ s.thyme.staged = some p ∧ s.thyme.loaded = none ∧ s.thyme.exchange = none
  ∧ outputsOf p = [] ∧ pairShips s = true ∧ q.payload = leBytes 1 m ++ leBytes 3 0 ++ leBytes 4 p.id ∧ m < 2 ∧ p.id
  < 2 ^ 32 :=
  ⟨benchOn { stagedBoard with twin := { board.twin with role := .active, partner := 2, ready := true } } 0x0303 (leBytes 1 1 ++ leBytes 3 0 ++ leBytes 4 9), .mailbox 0, 7, ask 0x0303 (leBytes 1 1 ++ leBytes 3 0 ++ leBytes 4 9), smallProgram, 1, by decide⟩

theorem witness_ProgramRunEffect_2 : ∃ (s : State) (r : Route) (tag : Nat) (q : Req), Served s r tag 0x0304 q ∧ Open
  s iTHY ∧ q.payload = leBytes 4 0 ∧ s.rbit rThCtrl 0 = true ∧ s.thyme.unloading = false ∧ s.thyme.exchange = none
  :=
  ⟨benchOn (loadedBoard true) 0x0304 (leBytes 4 0), .mailbox 0, 7, ask 0x0304 (leBytes 4 0), by decide⟩

theorem witness_ProgramRunEffect_3 : ∃ (s : State) (r : Route) (tag : Nat) (q : Req) (l : Loaded), Served s r tag
  0x0304 q ∧ Open s iTHY ∧ q.payload = leBytes 4 1 ∧ s.rbit rThCtrl 0 = false ∧ s.thyme.loaded = some l :=
  ⟨benchOn (loadedBoard false) 0x0304 (leBytes 4 1), .mailbox 0, 7, ask 0x0304 (leBytes 4 1), { prog := smallProgram }, by decide⟩

theorem witness_ProgramRunEffect_4 : ∃ (s : State) (r : Route) (tag : Nat) (q : Req) (b : Bool), Served s r tag
  0x0304 q ∧ Open s iTHY ∧ q.payload = leBytes 4 (b2n b) ∧ s.rbit rThCtrl 0 = b ∧ s.thyme.loaded.isSome = true :=
  ⟨benchOn (loadedBoard true) 0x0304 (leBytes 4 1), .mailbox 0, 7, ask 0x0304 (leBytes 4 1), true, by decide⟩

theorem witness_ProgramRunEffect_5 : ∃ (s : State) (r : Route) (tag : Nat) (q : Req), Served s r tag 0x0305 q ∧ Open
  s iTHY ∧ q.payload = [] ∧ s.thyme.exchange = none ∧ s.thyme.loaded = none ∧ s.thyme.unloading = false :=
  ⟨bench 0x0305 [], .mailbox 0, 7, ask 0x0305 [], by decide⟩

theorem witness_ProgramRunEffect_6 : ∃ (s : State) (r : Route) (tag : Nat) (q : Req), Served s r tag 0x0305 q ∧ Open
  s iTHY ∧ q.payload = [] ∧ s.mail.inProgress = [q] ∧ s.thyme.exchange = none ∧ s.thyme.loaded.isSome = true ∧
  anyBusy s = false :=
  ⟨benchOn (loadedBoard true) 0x0305 [], .mailbox 0, 7, ask 0x0305 [], by decide⟩

theorem witness_LoopCommandEffect_1 : ∃ (s : State) (r : Route) (tag : Nat) (q : Req) (e : List Byte), Served s r
  tag 0x0401 q ∧ Open s iLOOP ∧ q.payload = leBytes 4 0 ++ leBytes 4 64 ++ e ∧ e.length = 64 ∧ q.more = false ∧
  q.command = 0x0401 ∧ transferOf s 0x0401 = none ∧ checkLoopEntry s (routeTenant s q.route) [] e = stOk ∧
  (loopCfgOf e).kind ≠ 0 ∧ s.loop (fld e 0 2) = none :=
  ⟨bench 0x0401 (leBytes 4 0 ++ leBytes 4 64 ++ loopBytes 3), .mailbox 0, 7, ask 0x0401 (leBytes 4 0 ++ leBytes 4 64 ++ loopBytes 3), loopBytes 3, by decide⟩

theorem witness_LoopCommandEffect_2 : ∃ (s : State) (r : Route) (tag : Nat) (q : Req) (e : List Byte) (st : Nat),
  Served s r tag 0x0401 q ∧ Open s iLOOP ∧ q.payload = leBytes 4 0 ++ leBytes 4 64 ++ e ∧ e.length = 64 ∧ q.more =
  false ∧ q.command = 0x0401 ∧ transferOf s 0x0401 = none ∧ checkLoopEntry s (routeTenant s q.route) [] e = st ∧ st
  ≠ stOk :=
  ⟨bench 0x0401 (leBytes 4 0 ++ leBytes 4 64 ++ loopBytes 1024), .mailbox 0, 7, ask 0x0401 (leBytes 4 0 ++ leBytes 4 64 ++ loopBytes 1024), loopBytes 1024, stBadArgument, by decide⟩

theorem witness_LoopCommandEffect_3 : ∃ (s : State) (r : Route) (tag : Nat) (q : Req) (n : Nat) (x : Loop), Served s
  r tag 0x0402 q ∧ Open s iLOOP ∧ q.payload = (leBytes 2 n ++ leBytes 2 1 ++ leBytes 1 1 ++ leBytes 3 0) ∧ n < 1024
  ∧ s.loop n = some x ∧ x.enabled = false ∧ x.cfg.tenant = routeTenant s q.route ∧ x.cfg.initAdopt = false ∧
  (judgeEnable (crossed s iLOOP) n x.cfg).1 = stOk :=
  ⟨benchOn (loopBoard false) 0x0402 (leBytes 2 3 ++ leBytes 2 1 ++ leBytes 1 1 ++ leBytes 3 0), .mailbox 0, 7, ask 0x0402 (leBytes 2 3 ++ leBytes 2 1 ++ leBytes 1 1 ++ leBytes 3 0), 3, { cfg := loopCfgOf (loopBytes 3) }, by decide +kernel⟩

theorem witness_LoopCommandEffect_4 : ∃ (s : State) (r : Route) (tag : Nat) (q : Req) (n : Nat) (x : Loop) (b :
  Bool), Served s r tag 0x0402 q ∧ Open s iLOOP ∧ q.payload = (leBytes 2 n ++ leBytes 2 1 ++ leBytes 1 (b2n b) ++
  leBytes 3 0) ∧ n < 1024 ∧ s.loop n = some x ∧ x.enabled = true ∧ x.cfg.tenant = routeTenant s q.route :=
  ⟨benchOn (loopBoard true) 0x0402 (leBytes 2 3 ++ leBytes 2 1 ++ leBytes 1 0 ++ leBytes 3 0), .mailbox 0, 7, ask 0x0402 (leBytes 2 3 ++ leBytes 2 1 ++ leBytes 1 0 ++ leBytes 3 0), 3, { cfg := loopCfgOf (loopBytes 3), enabled := true }, false, by decide⟩

theorem witness_LoopCommandEffect_5 : ∃ (s : State) (r : Route) (tag : Nat) (q : Req) (n : Nat) (x : Loop), Served s
  r tag 0x0403 q ∧ Open s iLOOP ∧ q.payload = (leBytes 2 n ++ leBytes 2 1) ∧ n < 1024 ∧ s.loop n = some x ∧
  x.cfg.tenant = routeTenant s q.route :=
  ⟨benchOn (loopBoard true) 0x0403 (leBytes 2 3 ++ leBytes 2 1), .mailbox 0, 7, ask 0x0403 (leBytes 2 3 ++ leBytes 2 1), 3, { cfg := loopCfgOf (loopBytes 3), enabled := true }, by decide⟩

theorem witness_LoopCommandEffect_6 : ∃ (s : State) (r : Route) (tag : Nat) (q : Req) (c nd m pr : Nat), Served s r
  tag 0x0404 q ∧ Open s iLOOP ∧ q.payload = (leBytes 1 c ++ leBytes 1 0 ++ leBytes 2 nd ++ leBytes 4 (m + pr *
  65536)) ∧ c < 16 ∧ nd / 1024 ≤ 8 ∧ m ≤ 4 ∧ pr < 4096 ∧ mayTrace s (routeTenant s q.route) nd = true :=
  ⟨benchOn (loopBoard false) 0x0404 (leBytes 1 2 ++ leBytes 1 0 ++ leBytes 2 3 ++ leBytes 4 (1 + 5 * 65536)), .mailbox 0, 7, ask 0x0404 (leBytes 1 2 ++ leBytes 1 0 ++ leBytes 2 3 ++ leBytes 4 (1 + 5 * 65536)), 2, 3, 1, 5, by decide⟩

theorem witness_LoopCommandEffect_7 : ∃ (s : State) (r : Route) (tag : Nat) (q : Req) (c off : Nat), Served s r tag
  0x0405 q ∧ Open s iLOOP ∧ q.payload = (leBytes 4 off ++ leBytes 4 16384 ++ leBytes 1 c) ∧ off < 16384 ∧ c < 16 ∧
  mayTrace s (routeTenant s q.route) (s.trace c).node = true :=
  ⟨benchOn (loopBoard false) 0x0405 (leBytes 4 0 ++ leBytes 4 16384 ++ leBytes 1 2), .mailbox 0, 7, ask 0x0405 (leBytes 4 0 ++ leBytes 4 16384 ++ leBytes 1 2), 2, 0, by decide⟩

theorem witness_MeteringCommandEffect_1 : ∃ (s : State) (r : Route) (tag : Nat) (q : Req), Served s r tag 0x0502 q ∧
  Open s iMTR ∧ q.payload.length = 12 ∧ fld q.payload 0 2 = 1 ∧ fld q.payload 2 2 = 0 ∧ circuitFormed (sub q.payload
  4 8) = true ∧ (circuitOf (sub q.payload 4 8)).2.kind ≠ 0 ∧ mapSound (tabSet (latestMap s) (circuitOf (sub
  q.payload 4 8)).1 (circuitOf (sub q.payload 4 8)).2) s.meter.cal = true ∧ tabGet s.meter.circuits (circuitOf (sub
  q.payload 4 8)).1 = none :=
  ⟨bench 0x0502 (leBytes 2 1 ++ leBytes 2 0 ++ leBytes 1 5 ++ leBytes 1 1 ++ leBytes 1 0 ++ leBytes 1 3 ++ leBytes 4 0), .mailbox 0, 7, ask 0x0502 (leBytes 2 1 ++ leBytes 2 0 ++ leBytes 1 5 ++ leBytes 1 1 ++ leBytes 1 0 ++ leBytes 1 3 ++ leBytes 4 0), by decide⟩

theorem witness_MeteringCommandEffect_2 : ∃ (s : State) (r : Route) (tag : Nat) (q : Req) (d : List Byte), Served s
  r tag 0x0503 q ∧ Open s iMTR ∧ q.payload = leBytes 4 0 ++ leBytes 4 976 ++ d ∧ d.length = 976 ∧ q.more = false ∧
  q.command = 0x0503 ∧ transferOf s 0x0503 = none ∧ s.meter.calDue = none :=
  ⟨bench 0x0503 (leBytes 4 0 ++ leBytes 4 976 ++ defaultCal), .mailbox 0, 7, ask 0x0503 (leBytes 4 0 ++ leBytes 4 976 ++ defaultCal), defaultCal, by decide +kernel⟩

theorem witness_MeteringCommandEffect_checked : ∃ (s : State) (r : Route) (tag : Nat) (q : Req) (d : List Byte),
  s.meter.calDue = some d ∧ s.running iMTR = true ∧ pendedReq s 0x0503 = some q ∧ s.twin.role = .single :=
  ⟨{ pendedOn board 0x0503 [] with meter := { board.meter with calDue := some [] } }, .mailbox 0, 7, { ask 0x0503 [] with pended := true }, [], by decide⟩

theorem witness_MeteringCommandEffect_3 : ∃ (s : State) (r : Route) (tag : Nat) (q : Req) (n m : Nat), Served s r
  tag 0x0504 q ∧ Open s iMTR ∧ q.payload = (leBytes 2 n ++ leBytes 1 m ++ leBytes 1 0) ∧ n < 65536 ∧ m < 2 ∧
  accAssigned n = true ∧ accCombined n = true :=
  ⟨benchOn meterBoard 0x0504 (leBytes 2 2 ++ leBytes 1 1 ++ leBytes 1 0), .mailbox 0, 7, ask 0x0504 (leBytes 2 2 ++ leBytes 1 1 ++ leBytes 1 0), 2, 1, by decide⟩

theorem witness_MeteringCommandEffect_4 : ∃ (s : State) (r : Route) (tag : Nat) (q : Req) (te c v k : Nat), Served s
  r tag 0x0505 q ∧ Open s iMTR ∧ q.payload = (leBytes 2 te ++ leBytes 2 1 ++ leBytes 2 c ++ leBytes 2 0 ++ leBytes 4
  v) ∧ te ≠ house ∧ te < nobody ∧ enrolled s te = true ∧ c < 48 ∧ v ≤ wholeShare ∧ s.meter.slots = [] ∧ k = 0 ∧
  (tabGet s.meter.circuits c).isSome = true :=
  ⟨benchOn { meterBoard with vault := { meterBoard.vault with keys := [(0, { handle := 1, tenant := 5, purpose := 3, expire := false, uses := none, void := false, material := 0, credential := true, operational := none, test := false })] } } 0x0505 (leBytes 2 5 ++ leBytes 2 1 ++ leBytes 2 1 ++ leBytes 2 0 ++ leBytes 4 9), .mailbox 0, 7, ask 0x0505 (leBytes 2 5 ++ leBytes 2 1 ++ leBytes 2 1 ++ leBytes 2 0 ++ leBytes 4 9), 5, 1, 9, 0, by decide⟩

theorem witness_MeteringCommandEffect_5 : ∃ (s : State) (r : Route) (tag : Nat) (q : Req) (o n th wd : Nat), Served
  s r tag 0x0506 q ∧ Open s iMTR ∧ q.payload = (leBytes 1 o ++ leBytes 1 0 ++ leBytes 2 n ++ leBytes 4 th ++ leBytes
  2 wd ++ leBytes 2 0) ∧ o < 8 ∧ n < 65536 ∧ th < 2 ^ 32 ∧ 10 ≤ wd ∧ wd ≤ 100 ∧ accAssigned n = true :=
  ⟨benchOn meterBoard 0x0506 (leBytes 1 1 ++ leBytes 1 0 ++ leBytes 2 2 ++ leBytes 4 1000 ++ leBytes 2 50 ++ leBytes 2 0), .mailbox 0, 7, ask 0x0506 (leBytes 1 1 ++ leBytes 1 0 ++ leBytes 2 2 ++ leBytes 4 1000 ++ leBytes 2 50 ++ leBytes 2 0), 1, 2, 1000, 50, by decide⟩

theorem witness_MeteringCommandEffect_6 : ∃ (s : State) (r : Route) (tag : Nat) (q : Req) (n : Nat), Served s r tag
  0x0501 q ∧ Open s iMTR ∧ q.payload = (leBytes 2 n ++ leBytes 2 1) ∧ n < 65536 ∧ accAssigned n = true ∧
  (accReadable (crossed s iMTR) (routeTenant s q.route) n).1 = stOk ∧ (s.acc n).failed = false :=
  ⟨benchOn meterBoard 0x0501 (leBytes 2 2 ++ leBytes 2 1), .mailbox 0, 7, ask 0x0501 (leBytes 2 2 ++ leBytes 2 1), 2, by decide +kernel⟩

theorem witness_MeteringCommandEffect_7 : ∃ (s : State) (r : Route) (tag : Nat) (q : Req) (c : Nat) (x : Circuit),
  Served s r tag 0x0508 q ∧ Open s iMTR ∧ q.payload = (leBytes 2 c ++ leBytes 2 1) ∧ c < 65536 ∧ tabGet
  s.meter.circuits c = some x ∧ (crossStatus (crossed s iMTR) iMTR iPF 0 fun s => judged s (circuitBase c + 0xC)
  (routeTenant s q.route) 0 .read).1 = stOk ∧ x.out.valid = true ∧ x.cfg.kind = 1 :=
  ⟨benchOn meterBoard 0x0508 (leBytes 2 1 ++ leBytes 2 1), .mailbox 0, 7, ask 0x0508 (leBytes 2 1 ++ leBytes 2 1), 1, { cfg := { kind := 1, volt := 0, curr := 0, nominal60 := false, invA := false, invB := false, invC := false }, out := { values := List.replicate 22 0x3F800000#32, valid := true } }, by decide +kernel⟩

theorem witness_MeteringCommandEffect_8 : ∃ (s : State) (r : Route) (tag : Nat) (q : Req) (n m : Nat), Served s r
  tag 0x0507 q ∧ Open s iMTR ∧ q.payload = (leBytes 2 n ++ leBytes 2 m) ∧ n < 65536 ∧ 1 ≤ m ∧ m ≤ 126 ∧ accAssigned
  n = true ∧ accDemand n = true ∧ s.defined (accPoint n) = true ∧ (accReadable (crossed s iMTR) (routeTenant s
  q.route) n).1 = stOk :=
  ⟨benchOn meterBoard 0x0507 (leBytes 2 2 ++ leBytes 2 1), .mailbox 0, 7, ask 0x0507 (leBytes 2 2 ++ leBytes 2 1), 2, 1, by decide +kernel⟩

theorem witness_SeriesCommandEffect_1 : ∃ (s : State) (r : Route) (tag : Nat) (q : Req) (bins pt lo wd k : Nat),
  Served s r tag 0x0601 q ∧ Open s iPF ∧ q.payload = (leBytes 2 0xFFFF ++ leBytes 1 bins ++ leBytes 1 0 ++ leBytes 4
  pt ++ leBytes 8 lo ++ leBytes 8 wd) ∧ 1 ≤ bins ∧ bins ≤ 64 ∧ Sound s pt ∧ bitOf (rightsOf s (s.point pt)
  (routeTenant s q.route)) 3 = true ∧ lo < 2 ^ 64 ∧ wd < 2 ^ 64 ∧ fisFin fmt64 lo = true ∧ fisFin fmt64 wd = true ∧
  flt fmt64 0 wd = true ∧ hvUsed s + 32 + recordBytes bins ≤ regionBytes ∧ tabFree s.harvest.series 0 65536 = some k
  ∧ tabGet s.harvest.series k = none :=
  ⟨benchOn seriesBoard 0x0601 (leBytes 2 0xFFFF ++ leBytes 1 4 ++ leBytes 1 0 ++ leBytes 4 0x0100000 ++ leBytes 8 0 ++ leBytes 8 0x3FF0000000000000), .mailbox 0, 7, ask 0x0601 (leBytes 2 0xFFFF ++ leBytes 1 4 ++ leBytes 1 0 ++ leBytes 4 0x0100000 ++ leBytes 8 0 ++ leBytes 8 0x3FF0000000000000), 4, 0x0100000, 0, 0x3FF0000000000000, 0, by decide +kernel⟩

theorem witness_SeriesCommandEffect_2 : ∃ (s : State) (r : Route) (tag : Nat) (q : Req) (k : Nat) (x : HvSeries),
  Served s r tag 0x0602 q ∧ Open s iPF ∧ q.payload = (leBytes 2 k ++ leBytes 2 0) ∧ k < 65536 ∧ tabGet
  s.harvest.series k = some x ∧ x.tenant = routeTenant s q.route ∧ x.linked = false :=
  ⟨benchOn seriesBoard 0x0602 (leBytes 2 4 ++ leBytes 2 0), .mailbox 0, 7, ask 0x0602 (leBytes 2 4 ++ leBytes 2 0), 4, { tenant := 0, pt := 0x0100000, bins := 2, low := 0, width := 0x3FF0000000000000, linked := false, next := none, current := { HvRecord.empty 2 0 with count := 3 }, closed := [], seq := 6 }, by decide⟩

theorem witness_SeriesCommandEffect_3 : ∃ (s : State) (r : Route) (tag : Nat) (q : Req) (k : Nat) (x : HvSeries),
  Served s r tag 0x0604 q ∧ Open s iPF ∧ q.payload = (leBytes 2 k ++ leBytes 2 0) ∧ k < 65536 ∧ tabGet
  s.harvest.series k = some x ∧ x.tenant = routeTenant s q.route :=
  ⟨benchOn seriesBoard 0x0604 (leBytes 2 4 ++ leBytes 2 0), .mailbox 0, 7, ask 0x0604 (leBytes 2 4 ++ leBytes 2 0), 4, { tenant := 0, pt := 0x0100000, bins := 2, low := 0, width := 0x3FF0000000000000, linked := false, next := none, current := { HvRecord.empty 2 0 with count := 3 }, closed := [], seq := 6 }, by decide⟩

theorem witness_SeriesCommandEffect_4 : ∃ (s : State) (r : Route) (tag : Nat) (q : Req) (k : Nat) (x : HvSeries),
  Served s r tag 0x0603 q ∧ Open s iPF ∧ q.payload = (leBytes 2 k ++ leBytes 2 k) ∧ k < 65536 ∧ tabGet
  s.harvest.series k = some x ∧ x.tenant = routeTenant s q.route ∧ x.current.bins.length ≤ 64 :=
  ⟨benchOn seriesBoard 0x0603 (leBytes 2 4 ++ leBytes 2 4), .mailbox 0, 7, ask 0x0603 (leBytes 2 4 ++ leBytes 2 4), 4, { tenant := 0, pt := 0x0100000, bins := 2, low := 0, width := 0x3FF0000000000000, linked := false, next := none, current := { HvRecord.empty 2 0 with count := 3 }, closed := [], seq := 6 }, by decide⟩

theorem witness_SystemCommandEffect_1 : ∃ (s : State) (r : Route) (tag : Nat) (q : Req) (m ro : Nat), Served s r tag
  0x0102 q ∧ q.payload = (leBytes 1 m ++ leBytes 1 ro ++ leBytes 2 0 ++ leBytes 2 0 ++ leBytes 2 0) ∧ 1 ≤ m ∧ m ≤ 15
  ∧ ro ≤ 3 :=
  ⟨bench 0x0102 (leBytes 1 3 ++ leBytes 1 2 ++ leBytes 2 0 ++ leBytes 2 0 ++ leBytes 2 0), .mailbox 0, 7, ask 0x0102 (leBytes 1 3 ++ leBytes 1 2 ++ leBytes 2 0 ++ leBytes 2 0 ++ leBytes 2 0), 3, 2, by decide⟩

theorem witness_SystemCommandEffect_2 : ∃ (s : State) (r : Route) (tag : Nat) (q : Req) (m ro : Nat), Served s r tag
  0x0102 q ∧ q.payload = (leBytes 1 m ++ leBytes 1 ro ++ leBytes 2 0xFFF ++ leBytes 2 0 ++ leBytes 2 0) ∧ 1 ≤ m ∧ m
  ≤ 15 ∧ ro ≤ 3 ∧ routeTenant s q.route = house :=
  ⟨bench 0x0102 (leBytes 1 3 ++ leBytes 1 0 ++ leBytes 2 0xFFF ++ leBytes 2 0 ++ leBytes 2 0), .mailbox 0, 7, ask 0x0102 (leBytes 1 3 ++ leBytes 1 0 ++ leBytes 2 0xFFF ++ leBytes 2 0 ++ leBytes 2 0), 3, 0, by decide⟩

theorem witness_SystemCommandEffect_3 : ∃ (s : State) (r : Route) (tag : Nat) (q : Req) (i l : Nat) (a : List Byte),
  Served s r tag 0x0103 q ∧ q.payload = leBytes 1 i ++ leBytes 1 l ++ leBytes 2 0 ++ a ∧ i < 2 ∧ l ≤ 128 ∧ a.length
  = 32 :=
  ⟨bench 0x0103 (leBytes 1 1 ++ leBytes 1 24 ++ leBytes 2 0 ++ leBytes 32 7), .mailbox 0, 7, ask 0x0103 (leBytes 1 1 ++ leBytes 1 24 ++ leBytes 2 0 ++ leBytes 32 7), 1, 24, leBytes 32 7, by decide⟩

theorem witness_SystemCommandEffect_4 : ∃ (s : State) (r : Route) (tag : Nat) (q : Req) (k : Nat), Served s r tag
  0x0104 q ∧ q.payload = (leBytes 1 k ++ leBytes 3 0) ∧ k < 2 ∧ s.twin.role = .single :=
  ⟨bench 0x0104 (leBytes 1 1 ++ leBytes 3 0), .mailbox 0, 7, ask 0x0104 (leBytes 1 1 ++ leBytes 3 0), 1, by decide⟩

theorem witness_SystemCommandEffect_5 : ∃ (s : State) (r : Route) (tag : Nat) (q : Req) (k : Nat), Served s r tag
  0x0104 q ∧ q.payload = (leBytes 1 k ++ leBytes 3 0) ∧ k < 2 :=
  ⟨bench 0x0104 (leBytes 1 0 ++ leBytes 3 0), .mailbox 0, 7, ask 0x0104 (leBytes 1 0 ++ leBytes 3 0), 0, by decide⟩

theorem witness_TimeCommandEffect_1 : ∃ (s : State) (r : Route) (tag : Nat) (q : Req) (d p1 p2 : Nat) (a : List
  Byte), Served s r tag 0x0702 q ∧ Open s iTIME ∧ q.payload = leBytes 1 d ++ leBytes 1 p1 ++ leBytes 1 p2 ++ leBytes
  1 0 ++ a ∧ a.length = 32 ∧ d < 256 ∧ p1 < 256 ∧ p2 < 256 ∧ (∀ g ∈ [0, 1, 2, 3], fld q.payload (4 + 8 * g + 6) 2 =
  0) :=
  ⟨bench 0x0702 (leBytes 1 3 ++ leBytes 1 128 ++ leBytes 1 127 ++ leBytes 1 0 ++ leBytes 32 0), .mailbox 0, 7, ask 0x0702 (leBytes 1 3 ++ leBytes 1 128 ++ leBytes 1 127 ++ leBytes 1 0 ++ leBytes 32 0), 3, 128, 127, leBytes 32 0, by decide⟩

theorem witness_TimeCommandEffect_2 : ∃ (s : State) (r : Route) (tag : Nat) (q : Req) (e o : Nat), Served s r tag
  0x0703 q ∧ Open s iTIME ∧ q.payload = (leBytes 1 e ++ leBytes 3 0 ++ leBytes 4 o) ∧ e < 4 ∧ o < 2 ^ 32 ∧
  -500000000 ≤ sInt 32 o ∧ sInt 32 o ≤ 499999999 :=
  ⟨bench 0x0703 (leBytes 1 3 ++ leBytes 3 0 ++ leBytes 4 1000), .mailbox 0, 7, ask 0x0703 (leBytes 1 3 ++ leBytes 3 0 ++ leBytes 4 1000), 3, 1000, by decide⟩

theorem witness_TimeCommandEffect_3 : ∃ (s : State) (r : Route) (tag : Nat) (q : Req), Served s r tag 0x0801 q ∧
  Open s iALM ∧ q.payload = [] :=
  ⟨bench 0x0801 [], .mailbox 0, 7, ask 0x0801 [], by decide⟩

theorem witness_TimeCommandEffect_4 : ∃ (s : State) (r : Route) (tag : Nat) (q : Req) (t d : Nat), Served s r tag
  0x0802 q ∧ Open s iALM ∧ q.payload = (leBytes 4 t ++ leBytes 4 d) ∧ calReserved t d = false ∧ t < 2 ^ 32 ∧ d < 2 ^
  32 :=
  ⟨bench 0x0802 (leBytes 4 0x030C1E05 ++ leBytes 4 0x001A0706), .mailbox 0, 7, ask 0x0802 (leBytes 4 0x030C1E05 ++ leBytes 4 0x001A0706), 0x030C1E05, 0x001A0706, by decide⟩

theorem witness_TimeCommandEffect_5 : ∃ (s : State) (r : Route) (tag : Nat) (q : Req) (k m ra t d : Nat), Served s r
  tag 0x0803 q ∧ Open s iALM ∧ q.payload = (leBytes 1 k ++ leBytes 1 m ++ leBytes 1 ra ++ leBytes 1 0 ++ leBytes 4 t
  ++ leBytes 4 d) ∧ k < 2 ∧ m < 128 ∧ ra < 2 ∧ calReserved t d = false ∧ t < 2 ^ 32 ∧ d < 2 ^ 32 :=
  ⟨bench 0x0803 (leBytes 1 1 ++ leBytes 1 7 ++ leBytes 1 1 ++ leBytes 1 0 ++ leBytes 4 0x00071E05 ++ leBytes 4 0), .mailbox 0, 7, ask 0x0803 (leBytes 1 1 ++ leBytes 1 7 ++ leBytes 1 1 ++ leBytes 1 0 ++ leBytes 4 0x00071E05 ++ leBytes 4 0), 1, 7, 1, 0x00071E05, 0, by decide⟩

theorem witness_TimeCommandEffect_6 : ∃ (s : State) (r : Route) (tag : Nat) (q : Req) (v : Nat), Served s r tag
  0x0804 q ∧ Open s iALM ∧ q.payload = (leBytes 2 v ++ leBytes 2 0) ∧ v < 65536 ∧ -8192 ≤ sInt 16 v ∧ sInt 16 v ≤
  8192 :=
  ⟨bench 0x0804 (leBytes 2 0xFFF0 ++ leBytes 2 0), .mailbox 0, 7, ask 0x0804 (leBytes 2 0xFFF0 ++ leBytes 2 0), 0xFFF0, by decide⟩

theorem witness_TimeCommandEffect_7 : ∃ (s : State) (r : Route) (tag : Nat) (q : Req), Served s r tag 0x0805 q ∧
  Open s iALM ∧ q.payload = [] ∧ s.rfield rAlStatus 8 8 = 0 ∧ (∀ k ∈ List.range 8, (bkpRec s k).copy1 = (bkpRec s
  k).copy0 ∧ (bkpRec s k).check0 = crc8 (bkpRec s k).copy0 ∧ (bkpRec s k).check1 = crc8 (bkpRec s k).copy1) :=
  ⟨bench 0x0805 [], .mailbox 0, 7, ask 0x0805 [], by decide⟩

theorem witness_TimeCommandEffect_8 : ∃ (s : State) (r : Route) (tag : Nat) (q : Req) (k : Nat) (d : List Byte),
  Served s r tag 0x0806 q ∧ Open s iALM ∧ q.payload = leBytes 1 (8 * k) ++ leBytes 1 8 ++ leBytes 2 0 ++ d ∧
  d.length = 8 ∧ k < 8 :=
  ⟨bench 0x0806 (leBytes 1 16 ++ leBytes 1 8 ++ leBytes 2 0 ++ leBytes 8 0x0102030405060708), .mailbox 0, 7, ask 0x0806 (leBytes 1 16 ++ leBytes 1 8 ++ leBytes 2 0 ++ leBytes 8 0x0102030405060708), 2, leBytes 8 0x0102030405060708, by decide⟩

theorem witness_PortCommandEffect_1 : ∃ (s : State) (r : Route) (tag : Nat) (q : Req) (f n : Nat), Served s r tag
  0x0901 q ∧ Open s iSW ∧ q.payload = (leBytes 1 f ++ leBytes 1 n) ∧ f + n ≤ 20 :=
  ⟨bench 0x0901 (leBytes 1 3 ++ leBytes 1 2), .mailbox 0, 7, ask 0x0901 (leBytes 1 3 ++ leBytes 1 2), 3, 2, by decide⟩

theorem witness_PortCommandEffect_2 : ∃ (s : State) (r : Route) (tag : Nat) (q : Req) (n : Nat), Served s r tag
  0x0902 q ∧ Open s iSW ∧ q.payload.length = 64 ∧ fld q.payload 0 1 = n ∧ fld q.payload 1 3 = 0 ∧ n < 20 ∧ portCfgOk
  n (portCfgOf (q.payload.drop 4)) (q.payload.drop 36) = true :=
  ⟨bench 0x0902 (leBytes 4 5 ++ leBytes 2 1 ++ leBytes 2 1518 ++ leBytes 4 0 ++ leBytes 8 0 ++ leBytes 16 0 ++ leBytes 28 0), .mailbox 0, 7, ask 0x0902 (leBytes 4 5 ++ leBytes 2 1 ++ leBytes 2 1518 ++ leBytes 4 0 ++ leBytes 8 0 ++ leBytes 16 0 ++ leBytes 28 0), 5, by decide⟩

theorem witness_PortCommandEffect_3 : ∃ (s : State) (r : Route) (tag : Nat) (q : Req) (n : Nat), Served s r tag
  0x0903 q ∧ Open s iSW ∧ q.payload = (leBytes 1 n ++ leBytes 3 0) ∧ n < 20 :=
  ⟨bench 0x0903 (leBytes 1 4 ++ leBytes 3 0), .mailbox 0, 7, ask 0x0903 (leBytes 1 4 ++ leBytes 3 0), 4, by decide⟩

theorem witness_PortCommandEffect_4 : ∃ (s : State) (r : Route) (tag : Nat) (q : Req) (d : List Byte), Served s r
  tag 0x0904 q ∧ Open s iSW ∧ q.payload = leBytes 4 0 ++ leBytes 4 d.length ++ d ∧ q.more = false ∧ q.command =
  0x0904 ∧ transferOf s 0x0904 = none ∧ gateListOk d = true :=
  ⟨bench 0x0904 (leBytes 4 0 ++ leBytes 4 32 ++ (leBytes 1 5 ++ leBytes 1 0 ++ leBytes 2 1 ++ leBytes 4 1000 ++ leBytes 16 0 ++ leBytes 1 255 ++ leBytes 3 0 ++ leBytes 4 1000)), .mailbox 0, 7, ask 0x0904 (leBytes 4 0 ++ leBytes 4 32 ++ (leBytes 1 5 ++ leBytes 1 0 ++ leBytes 2 1 ++ leBytes 4 1000 ++ leBytes 16 0 ++ leBytes 1 255 ++ leBytes 3 0 ++ leBytes 4 1000)), (leBytes 1 5 ++ leBytes 1 0 ++ leBytes 2 1 ++ leBytes 4 1000 ++ leBytes 16 0 ++ leBytes 1 255 ++ leBytes 3 0 ++ leBytes 4 1000), by decide⟩

theorem witness_PortCommandEffect_5 : ∃ (s : State) (r : Route) (tag : Nat) (q : Req) (n h sci : Nat) (k :
  StoredKey), Served s r tag 0x0907 q ∧ Open s iSW ∧ Open s iVLT ∧ q.payload = (leBytes 1 n ++ leBytes 3 0 ++
  leBytes 4 h ++ leBytes 8 sci) ∧ n < 4 ∧ h < 2 ^ 32 ∧ sci < 2 ^ 64 ∧ (judgeKey s h house 3).toOption = some k ∧
  k.uses = none :=
  ⟨benchOn { board with vault := { board.vault with ready := true, keys := [(1, { handle := 1, tenant := 0, purpose := 3, expire := false, uses := none, void := false, material := 7, credential := false, operational := none, test := false })] } } 0x0907 (leBytes 1 2 ++ leBytes 3 0 ++ leBytes 4 1 ++ leBytes 8 9), .mailbox 0, 7, ask 0x0907 (leBytes 1 2 ++ leBytes 3 0 ++ leBytes 4 1 ++ leBytes 8 9), 2, 1, 9, { handle := 1, tenant := 0, purpose := 3, expire := false, uses := none, void := false, material := 7, credential := false, operational := none, test := false }, by decide⟩

theorem witness_PortCommandEffect_6 : ∃ (s : State) (r : Route) (tag : Nat) (q : Req) (n sn te ct bs rf : Nat),
  Served s r tag 0x0905 q ∧ Open s iPF ∧ q.payload = leBytes 1 n ++ leBytes 1 0 ++ leBytes 2 1 ++ (leBytes 8 sn ++
  leBytes 4 0 ++ leBytes 2 te ++ leBytes 2 ct ++ leBytes 4 bs ++ leBytes 4 rf ++ leBytes 8 0) ∧ 4 ≤ n ∧ n < 20 ∧ 0 <
  sn ∧ sn < 2 ^ 64 ∧ te < nobody ∧ 1 ≤ ct ∧ ct ≤ 4095 ∧ bs < pointCount ∧ 10 ≤ rf ∧ rf ≤ 60000 ∧ withinSlices s te
  bs ct = true ∧ (∀ d ∈ s.fabric.devices, d.port ≠ n) ∧ (∀ x ∈ s.fabric.store, bs ≤ x.1 → x.1 < bs + ct → x.2.flag
  fLocked = false) :=
  ⟨benchOn pointBoard 0x0905 (leBytes 1 4 ++ leBytes 1 0 ++ leBytes 2 1 ++ (leBytes 8 77 ++ leBytes 4 0 ++ leBytes 2 0 ++ leBytes 2 2 ++ leBytes 4 0x0100000 ++ leBytes 4 100 ++ leBytes 8 0)), .mailbox 0, 7, ask 0x0905 (leBytes 1 4 ++ leBytes 1 0 ++ leBytes 2 1 ++ (leBytes 8 77 ++ leBytes 4 0 ++ leBytes 2 0 ++ leBytes 2 2 ++ leBytes 4 0x0100000 ++ leBytes 4 100 ++ leBytes 8 0)), 4, 77, 0, 2, 0x0100000, 100, by decide⟩

theorem witness_PortCommandEffect_7 : ∃ (s : State) (r : Route) (tag : Nat) (q : Req) (i rm pt : Nat) (a : List
  Byte), Served s r tag 0x0906 q ∧ Open s iPF ∧ q.payload = leBytes 1 0 ++ leBytes 1 0 ++ leBytes 2 1 ++ (leBytes 2
  i ++ a ++ leBytes 4 rm ++ leBytes 4 pt) ∧ a.length = 6 ∧ isUnicast (beNat a) = true ∧ i < 65536 ∧ rm < pointCount
  ∧ pt < pointCount ∧ tabGet s.fabric.imports i = none ∧ Sound s pt ∧ (s.point pt).owner = routeTenant s q.route ∧
  (s.point pt).flag fLocked = false :=
  ⟨benchOn pointBoard 0x0906 (leBytes 1 0 ++ leBytes 1 0 ++ leBytes 2 1 ++ (leBytes 2 9 ++ leBytes 6 2 ++ leBytes 4 5 ++ leBytes 4 0x0100000)), .mailbox 0, 7, ask 0x0906 (leBytes 1 0 ++ leBytes 1 0 ++ leBytes 2 1 ++ (leBytes 2 9 ++ leBytes 6 2 ++ leBytes 4 5 ++ leBytes 4 0x0100000)), 9, 5, 0x0100000, leBytes 6 2, by decide⟩

theorem witness_BusCommandEffect_1 : ∃ (s : State) (r : Route) (tag : Nat) (q : Req) (c : Nat), Served s r tag
  0x0A01 q ∧ Open s iBUS ∧ q.payload.length = 32 ∧ fld q.payload 0 1 = c ∧ c < 8 ∧ fld q.payload 1 3 = 0 ∧ fld
  q.payload 5 1 = 0 ∧ fld q.payload 11 1 = 0 ∧ allZero (q.payload.drop 23) = true ∧ busCfgOk c (busCfgOf
  (q.payload.drop 4)) = true :=
  ⟨bench 0x0A01 (leBytes 4 3 ++ leBytes 1 0 ++ leBytes 1 0 ++ leBytes 2 1 ++ leBytes 1 63 ++ leBytes 1 16 ++ leBytes 1 16 ++ leBytes 1 0 ++ leBytes 1 1 ++ leBytes 1 14 ++ leBytes 1 5 ++ leBytes 1 5 ++ leBytes 6 0 ++ leBytes 1 1 ++ leBytes 9 0), .mailbox 0, 7, ask 0x0A01 (leBytes 4 3 ++ leBytes 1 0 ++ leBytes 1 0 ++ leBytes 2 1 ++ leBytes 1 63 ++ leBytes 1 16 ++ leBytes 1 16 ++ leBytes 1 0 ++ leBytes 1 1 ++ leBytes 1 14 ++ leBytes 1 5 ++ leBytes 1 5 ++ leBytes 6 0 ++ leBytes 1 1 ++ leBytes 9 0), 3, by decide⟩

theorem witness_BusCommandEffect_2 : ∃ (s : State) (r : Route) (tag : Nat) (q : Req) (c n : Nat), Served s r tag
  0x0A02 q ∧ Open s iBUS ∧ q.payload.length = 28 ∧ fld q.payload 0 1 = c ∧ c < 8 ∧ fld q.payload 1 1 = n ∧ fld
  q.payload 2 2 = 0 ∧ objCfgOk c (objCfgOf (q.payload.drop 4)) = true ∧ (objCfgOf (q.payload.drop 4)).kind = 4 ∧
  (objCfgOf (q.payload.drop 4)).flag 3 = false ∧ routeTenant s q.route = s.mail.partition ∧ s.obj c n = none :=
  ⟨bench 0x0A02 (leBytes 1 3 ++ leBytes 1 9 ++ leBytes 2 0 ++ leBytes 1 4 ++ leBytes 3 0 ++ leBytes 4 0x123 ++ leBytes 11 0 ++ leBytes 1 8 ++ leBytes 4 0), .mailbox 0, 7, ask 0x0A02 (leBytes 1 3 ++ leBytes 1 9 ++ leBytes 2 0 ++ leBytes 1 4 ++ leBytes 3 0 ++ leBytes 4 0x123 ++ leBytes 11 0 ++ leBytes 1 8 ++ leBytes 4 0), 3, 9, by decide⟩

theorem witness_BusCommandEffect_3 : ∃ (s : State) (r : Route) (tag : Nat) (q : Req) (c : Nat), Served s r tag
  0x0A03 q ∧ Open s iBUS ∧ q.payload = (leBytes 1 c ++ leBytes 3 0) ∧ c < 8 :=
  ⟨bench 0x0A03 (leBytes 1 2 ++ leBytes 3 0), .mailbox 0, 7, ask 0x0A03 (leBytes 1 2 ++ leBytes 3 0), 2, by decide⟩

theorem witness_BusCommandEffect_4 : ∃ (s : State) (r : Route) (tag : Nat) (q : Req) (c m : Nat), Served s r tag
  0x0A04 q ∧ Open s iBUS ∧ q.payload = (leBytes 1 c ++ leBytes 1 m ++ leBytes 2 0) ∧ c < 8 ∧ (m = 1 ∨ (m = 2 ∧
  (s.chan c).objects.any (fun x => x.2.cfg.kind == 5) = true) ∨ (m = 0 ∧ (s.chan c).state ≠ .asleep)) :=
  ⟨bench 0x0A04 (leBytes 1 2 ++ leBytes 1 1 ++ leBytes 2 0), .mailbox 0, 7, ask 0x0A04 (leBytes 1 2 ++ leBytes 1 1 ++ leBytes 2 0), 2, 1, by decide⟩

theorem witness_BusCommandEffect_5 : ∃ (s : State) (r : Route) (tag : Nat) (q : Req) (c : Nat), Served s r tag
  0x0A04 q ∧ Open s iBUS ∧ q.payload = (leBytes 1 c ++ leBytes 1 0 ++ leBytes 2 0) ∧ c < 8 ∧ (s.chan c).state =
  .asleep :=
  ⟨benchOn { board with bus := { board.bus with chans := [(2, { state := .asleep, sleepMode := 1 })] } } 0x0A04 (leBytes 1 2 ++ leBytes 1 0 ++ leBytes 2 0), .mailbox 0, 7, ask 0x0A04 (leBytes 1 2 ++ leBytes 1 0 ++ leBytes 2 0), 2, by decide⟩



theorem witness_TwinCommandEffect_2 : ∃ (s : State) (r : Route) (tag : Nat) (q : Req) (sn : List Byte), Served s r
  tag 0x0B03 q ∧ Open s iMGT ∧ q.payload = sn ++ leBytes 1 0 ++ leBytes 3 0 ∧ s.twin.role = .pairing ∧ sn.length =
  12 :=
  ⟨benchOn { board with twin := { board.twin with role := .pairing } } 0x0B03 (leBytes 12 0 ++ leBytes 1 0 ++ leBytes 3 0), .mailbox 0, 7, ask 0x0B03 (leBytes 12 0 ++ leBytes 1 0 ++ leBytes 3 0), leBytes 12 0, by decide⟩

theorem witness_TwinCommandEffect_3 : ∃ (s : State) (r : Route) (tag : Nat) (q : Req) (sn : List Byte), Served s r
  tag 0x0B03 q ∧ Open s iMGT ∧ q.payload = sn ++ leBytes 1 0 ++ leBytes 3 0 ∧ s.twin.role = .single ∧ sn.length = 12
  :=
  ⟨bench 0x0B03 (leBytes 12 0 ++ leBytes 1 0 ++ leBytes 3 0), .mailbox 0, 7, ask 0x0B03 (leBytes 12 0 ++ leBytes 1 0 ++ leBytes 3 0), leBytes 12 0, by decide⟩

theorem witness_TwinCommandEffect_4 : ∃ (s : State) (r : Route) (tag : Nat) (q : Req), Served s r tag 0x0B04 q ∧
  Open s iMGT ∧ q.payload = [] ∧ s.twin.role = .active ∧ s.twin.alone = false ∧ s.twin.ready = true ∧ pendedReq s
  0x0B04 = none :=
  ⟨benchOn { board with twin := { board.twin with role := .active, partner := 2, ready := true } } 0x0B04 [], .mailbox 0, 7, ask 0x0B04 [], by decide⟩

theorem witness_TwinCommandEffect_5 : ∃ (s : State) (r : Route) (tag : Nat) (q : Req), Served s r tag 0x0B04 q ∧
  Open s iMGT ∧ q.payload = [] ∧ (s.twin.role ≠ .active ∨ s.twin.alone = true ∨ s.twin.ready = false) :=
  ⟨bench 0x0B04 [], .mailbox 0, 7, ask 0x0B04 [], by decide⟩

theorem witness_TwinCommandEffect_6 : ∃ (s : State) (r : Route) (tag : Nat) (q : Req) (n : Nat), Served s r tag
  0x0B05 q ∧ Open s iMGT ∧ q.payload.length = 4 + 12 * n ∧ fld q.payload 0 1 = n ∧ n ≤ 16 ∧ fld q.payload 1 3 = 0 :=
  ⟨bench 0x0B05 (leBytes 1 1 ++ leBytes 3 0 ++ leBytes 12 5), .mailbox 0, 7, ask 0x0B05 (leBytes 1 1 ++ leBytes 3 0 ++ leBytes 12 5), 1, by decide⟩

theorem witness_KeyCommandEffect_1 : ∃ (s : State) (r : Route) (tag : Nat) (q : Req) (h : Nat) (a d n : List Byte)
  (k : StoredKey), Served s r tag 0x0C08 q ∧ Open s iVLT ∧ q.payload = leBytes 4 h ++ leBytes 2 a.length ++ leBytes
  2 d.length ++ a ++ d ∧ h < 2 ^ 32 ∧ a.length + d.length ≤ 4028 ∧ (judgeKey s h (routeTenant s q.route) 0).toOption
  = some k ∧ n = (State.drawBytes s 12).1 :=
  ⟨benchOn keyBoard 0x0C08 (leBytes 4 1 ++ leBytes 2 1 ++ leBytes 2 2 ++ leBytes 1 4 ++ leBytes 2 5), .mailbox 0, 7, ask 0x0C08 (leBytes 4 1 ++ leBytes 2 1 ++ leBytes 2 2 ++ leBytes 1 4 ++ leBytes 2 5), 1, leBytes 1 4, leBytes 2 5, (State.drawBytes keyBoard 12).1, { handle := 1, tenant := 0, purpose := 0, expire := false, uses := none, void := false, material := 7, credential := false, operational := none, test := false }, by (repeat' apply And.intro) <;> first | rfl | decide⟩

theorem witness_KeyCommandEffect_2 : ∃ (s : State) (r : Route) (tag : Nat) (q : Req) (h : Nat) (n a d t : List Byte)
  (k : StoredKey), Served s r tag 0x0C09 q ∧ Open s iVLT ∧ q.payload = leBytes 4 h ++ leBytes 2 a.length ++ leBytes
  2 d.length ++ n ++ a ++ d ++ t ∧ h < 2 ^ 32 ∧ n.length = 12 ∧ t.length = 16 ∧ a.length + d.length ≤ 4028 ∧
  (judgeKey s h (routeTenant s q.route) 1).toOption = some k :=
  ⟨benchOn keyBoard 0x0C09 (leBytes 4 2 ++ leBytes 2 1 ++ leBytes 2 2 ++ leBytes 12 3 ++ leBytes 1 4 ++ leBytes 2 5 ++ leBytes 16 6), .mailbox 0, 7, ask 0x0C09 (leBytes 4 2 ++ leBytes 2 1 ++ leBytes 2 2 ++ leBytes 12 3 ++ leBytes 1 4 ++ leBytes 2 5 ++ leBytes 16 6), 2, leBytes 12 3, leBytes 1 4, leBytes 2 5, leBytes 16 6, { handle := 2, tenant := 0, purpose := 1, expire := false, uses := none, void := false, material := 7, credential := false, operational := none, test := false }, by decide⟩

theorem witness_KeyCommandEffect_3 : ∃ (s : State) (r : Route) (tag : Nat) (q : Req) (h g : Nat) (n : List Byte) (k
  x : StoredKey), Served s r tag 0x0C0A q ∧ Open s iVLT ∧ q.payload = (leBytes 4 h ++ leBytes 4 g) ∧ h < 2 ^ 32 ∧ g
  < 2 ^ 32 ∧ (judgeKey s h (routeTenant s q.route) 2).toOption = some k ∧ (judgeKey s g (routeTenant s q.route)
  0).toOption = some x ∧ x.expire = false ∧ n = (State.drawBytes s 12).1 :=
  ⟨benchOn keyBoard 0x0C0A (leBytes 4 3 ++ leBytes 4 1), .mailbox 0, 7, ask 0x0C0A (leBytes 4 3 ++ leBytes 4 1), 3, 1, (State.drawBytes keyBoard 12).1, { handle := 3, tenant := 0, purpose := 2, expire := false, uses := none, void := false, material := 7, credential := false, operational := none, test := false }, { handle := 1, tenant := 0, purpose := 0, expire := false, uses := none, void := false, material := 7, credential := false, operational := none, test := false }, by (repeat' apply And.intro) <;> first | rfl | decide⟩

theorem witness_KeyCommandEffect_4 : ∃ (s : State) (r : Route) (tag : Nat) (q : Req) (h i : Nat) (u : List Byte) (k
  : StoredKey), Served s r tag 0x0C0B q ∧ Open s iVLT ∧ q.payload = leBytes 4 h ++ u ∧ u.length = 68 ∧ h < 2 ^ 32 ∧
  wrappedForm u [32] = true ∧ (judgeKey s h (routeTenant s q.route) 2).toOption = some k ∧ fld u 4 2 = k.tenant ∧
  bitsOf (fld u 1 1) 0 2 ≤ 1 ∧ k.uses = none ∧ tabFree s.vault.keys 0 256 = some i :=
  ⟨benchOn keyBoard 0x0C0B (leBytes 4 3 ++ (leBytes 1 1 ++ leBytes 1 0 ++ leBytes 4 0 ++ leBytes 2 32 ++ leBytes 60 9)), .mailbox 0, 7, ask 0x0C0B (leBytes 4 3 ++ (leBytes 1 1 ++ leBytes 1 0 ++ leBytes 4 0 ++ leBytes 2 32 ++ leBytes 60 9)), 3, 0, (leBytes 1 1 ++ leBytes 1 0 ++ leBytes 4 0 ++ leBytes 2 32 ++ leBytes 60 9), { handle := 3, tenant := 0, purpose := 2, expire := false, uses := none, void := false, material := 7, credential := false, operational := none, test := false }, by decide⟩

theorem witness_KeyCommandEffect_5 : ∃ (s : State) (r : Route) (tag : Nat) (q : Req) (h i pu us : Nat) (c : List
  Byte) (k : StoredKey), Served s r tag 0x0C0C q ∧ Open s iVLT ∧ q.payload = leBytes 4 h ++ leBytes 1 pu ++ leBytes
  1 c.length ++ leBytes 2 us ++ c ∧ h < 2 ^ 32 ∧ pu < 4 ∧ us < 65536 ∧ 1 ≤ c.length ∧ c.length ≤ 64 ∧ (judgeKey s h
  (routeTenant s q.route) 3).toOption = some k ∧ k.uses = none ∧ tabFree s.vault.keys 0 256 = some i :=
  ⟨benchOn keyBoard 0x0C0C (leBytes 4 4 ++ leBytes 1 1 ++ leBytes 1 2 ++ leBytes 2 0 ++ leBytes 2 7), .mailbox 0, 7, ask 0x0C0C (leBytes 4 4 ++ leBytes 1 1 ++ leBytes 1 2 ++ leBytes 2 0 ++ leBytes 2 7), 4, 0, 1, 0, leBytes 2 7, { handle := 4, tenant := 0, purpose := 3, expire := false, uses := none, void := false, material := 7, credential := false, operational := none, test := false }, by decide⟩

theorem witness_KeyCommandEffect_6 : ∃ (s : State) (r : Route) (tag : Nat) (q : Req) (h : Nat) (a d : List Byte) (k
  : StoredKey), Served s r tag 0x0C08 q ∧ Open s iVLT ∧ q.payload = leBytes 4 h ++ leBytes 2 a.length ++ leBytes 2
  d.length ++ a ++ d ∧ h < 2 ^ 32 ∧ a.length + d.length ≤ 4028 ∧ keyOf s h = some k ∧ k.tenant = routeTenant s
  q.route ∧ usable s k = true ∧ k.purpose ≠ 0 :=
  ⟨benchOn keyBoard 0x0C08 (leBytes 4 2 ++ leBytes 2 1 ++ leBytes 2 2 ++ leBytes 1 4 ++ leBytes 2 5), .mailbox 0, 7, ask 0x0C08 (leBytes 4 2 ++ leBytes 2 1 ++ leBytes 2 2 ++ leBytes 1 4 ++ leBytes 2 5), 2, leBytes 1 4, leBytes 2 5, { handle := 2, tenant := 0, purpose := 1, expire := false, uses := none, void := false, material := 7, credential := false, operational := none, test := false }, by decide⟩

theorem witness_VaultCommandEffect_1 : ∃ (s : State) (r : Route) (tag : Nat) (q : Req) (t i : Nat) (u : List Byte),
  Served s r tag 0x0C01 q ∧ Open s iVLT ∧ q.payload = leBytes 2 t ++ leBytes 2 0 ++ u ∧ u.length = wrappedSize (fld
  u 6 2) ∧ t < nobody ∧ wrappedForm u [32, 64] = true ∧ fld u 1 1 = 3 ∧ fld u 2 2 = 0 ∧ fld u 4 2 = t ∧ l3Hold s =
  false ∧ credentialOf s t = none ∧ tabFree s.vault.keys 0 256 = some i :=
  ⟨bench 0x0C01 (leBytes 2 5 ++ leBytes 2 0 ++ (leBytes 1 1 ++ leBytes 1 3 ++ leBytes 2 0 ++ leBytes 2 5 ++ leBytes 2 32 ++ leBytes 1628 9)), .mailbox 0, 7, ask 0x0C01 (leBytes 2 5 ++ leBytes 2 0 ++ (leBytes 1 1 ++ leBytes 1 3 ++ leBytes 2 0 ++ leBytes 2 5 ++ leBytes 2 32 ++ leBytes 1628 9)), 5, 0, (leBytes 1 1 ++ leBytes 1 3 ++ leBytes 2 0 ++ leBytes 2 5 ++ leBytes 2 32 ++ leBytes 1628 9), by decide⟩

theorem witness_VaultCommandEffect_2 : ∃ (s : State) (r : Route) (tag : Nat) (q : Req) (t : Nat), Served s r tag
  0x0C02 q ∧ Open s iVLT ∧ q.payload = (leBytes 2 t ++ leBytes 2 0) ∧ t < nobody ∧ t ≠ house ∧ (s.isl iMTR).state =
  .run ∧ (s.isl iMTR).draining = false ∧ (s.epochOf iSAGE iMTR = 0 ∨ s.epochOf iSAGE iMTR = (s.isl iMTR).epoch) ∧
  (s.isl iPF).state = .run ∧ (s.isl iPF).draining = false ∧ (s.epochOf iSAGE iPF = 0 ∨ s.epochOf iSAGE iPF = (s.isl
  iPF).epoch) ∧ s.vault.keys.all (fun p => p.2.handle % 256 == p.1) = true ∧ tabWf s.vault.keys = true :=
  ⟨benchOn tenantBoard 0x0C02 (leBytes 2 5 ++ leBytes 2 0), .mailbox 0, 7, ask 0x0C02 (leBytes 2 5 ++ leBytes 2 0), 5, by decide⟩

theorem witness_VaultCommandEffect_3 : ∃ (s : State) (r : Route) (tag : Nat) (q : Req) (i : Nat) (u : List Byte),
  Served s r tag 0x0C03 q ∧ Open s iVLT ∧ q.payload = leBytes 1 (fld u 1 1) ++ leBytes 1 0 ++ leBytes 2 (fld u 2 2)
  ++ u ∧ u.length = wrappedSize (fld u 6 2) ∧ wrappedForm u [32] = true ∧ fld u 4 2 = 0 ∧ l3Hold s = false ∧ tabFree
  s.vault.keys 0 256 = some i :=
  ⟨bench 0x0C03 (leBytes 1 1 ++ leBytes 1 0 ++ leBytes 2 9 ++ (leBytes 1 1 ++ leBytes 1 1 ++ leBytes 2 9 ++ leBytes 2 0 ++ leBytes 2 32 ++ leBytes 1628 9)), .mailbox 0, 7, ask 0x0C03 (leBytes 1 1 ++ leBytes 1 0 ++ leBytes 2 9 ++ (leBytes 1 1 ++ leBytes 1 1 ++ leBytes 2 9 ++ leBytes 2 0 ++ leBytes 2 32 ++ leBytes 1628 9)), 0, (leBytes 1 1 ++ leBytes 1 1 ++ leBytes 2 9 ++ leBytes 2 0 ++ leBytes 2 32 ++ leBytes 1628 9), by decide⟩

theorem witness_VaultCommandEffect_4 : ∃ (s : State) (r : Route) (tag : Nat) (q : Req) (h : Nat) (k : StoredKey),
  Served s r tag 0x0C04 q ∧ Open s iVLT ∧ q.payload = (leBytes 4 h) ∧ h < 2 ^ 32 ∧ keyOf s h = some k ∧ k.credential
  = false :=
  ⟨benchOn keyBoard 0x0C04 (leBytes 4 2), .mailbox 0, 7, ask 0x0C04 (leBytes 4 2), 2, { handle := 2, tenant := 0, purpose := 1, expire := false, uses := none, void := false, material := 7, credential := false, operational := none, test := false }, by decide⟩

theorem witness_VaultCommandEffect_5 : ∃ (s : State) (r : Route) (tag : Nat) (q : Req) (n : Nat), Served s r tag
  0x0C05 q ∧ Open s iVLT ∧ q.payload = (leBytes 2 n ++ leBytes 2 0) ∧ n < 65536 :=
  ⟨benchOn keyBoard 0x0C05 (leBytes 2 0 ++ leBytes 2 0), .mailbox 0, 7, ask 0x0C05 (leBytes 2 0 ++ leBytes 2 0), 0, by decide⟩

theorem witness_VaultCommandEffect_6 : ∃ (s : State) (r : Route) (tag : Nat) (q : Req), Served s r tag 0x0C06 q ∧
  Open s iVLT ∧ q.payload.length = 32 ∧ leNat q.payload ≠ 0 :=
  ⟨bench 0x0C06 (leBytes 32 5), .mailbox 0, 7, ask 0x0C06 (leBytes 32 5), by decide⟩

theorem witness_VaultCommandEffect_7 : ∃ (s : State) (r : Route) (tag : Nat) (q : Req) (x : Statement), Served s r
  tag 0x0C06 q ∧ Open s iVLT ∧ q.payload = leBytes 32 0 ∧ heldStatement s r = some x ∧ 4056 * x.next <
  x.bytes.length ∧ s.now < x.made + 60 * nsSec :=
  ⟨benchOn { board with vault := { board.vault with statements := [{ route := .mailbox 0, bytes := leBytes 5000 3, next := 1, made := 0 }] } } 0x0C06 (leBytes 32 0), .mailbox 0, 7, ask 0x0C06 (leBytes 32 0), { route := .mailbox 0, bytes := leBytes 5000 3, next := 1, made := 0 }, by decide⟩

theorem witness_VaultCommandEffect_8 : ∃ (s : State) (r : Route) (tag : Nat) (q : Req) (c e : Nat) (a : List Byte),
  Served s r tag 0x0C07 q ∧ Open s iVLT ∧ a = leBytes 1 1 ++ leBytes 3 0 ++ serialBytes ++ leBytes 4 c ++ leBytes 8
  e ++ leBytes 4 0 ∧ q.payload = a ++ leBytes 32 (Config.kmac (leBytes 32 Config.debugKey) a 256 "CFM-8420 debug") ∧
  s.reg rKvDebugCtr < c ∧ s.tai < e ∧ c < 2 ^ 32 ∧ e < 2 ^ 64 ∧ l3Hold s = false ∧ s.mail.sessions = [] :=
  ⟨bench 0x0C07 ((leBytes 1 1 ++ leBytes 3 0 ++ serialBytes ++ leBytes 4 9 ++ leBytes 8 (2 ^ 63) ++ leBytes 4 0) ++ leBytes 32 (Config.kmac (leBytes 32 Config.debugKey) (leBytes 1 1 ++ leBytes 3 0 ++ serialBytes ++ leBytes 4 9 ++ leBytes 8 (2 ^ 63) ++ leBytes 4 0) 256 "CFM-8420 debug")), .mailbox 0, 7, ask 0x0C07 ((leBytes 1 1 ++ leBytes 3 0 ++ serialBytes ++ leBytes 4 9 ++ leBytes 8 (2 ^ 63) ++ leBytes 4 0) ++ leBytes 32 (Config.kmac (leBytes 32 Config.debugKey) (leBytes 1 1 ++ leBytes 3 0 ++ serialBytes ++ leBytes 4 9 ++ leBytes 8 (2 ^ 63) ++ leBytes 4 0) 256 "CFM-8420 debug")), 9, 2 ^ 63, (leBytes 1 1 ++ leBytes 3 0 ++ serialBytes ++ leBytes 4 9 ++ leBytes 8 (2 ^ 63) ++ leBytes 4 0), by (repeat' apply And.intro) <;> first | rfl | decide⟩

theorem witness_VaultCommandEffect_9 : ∃ (s : State) (r : Route) (tag : Nat) (q : Req), Served s r tag 0x0C07 q ∧
  Open s iVLT ∧ q.payload.length = 64 ∧ fld q.payload 1 3 = 0 ∧ fld q.payload 28 4 = 0 ∧ (fld q.payload 0 1 ≠ 1 ∨
  fld q.payload 16 4 ≤ s.reg rKvDebugCtr ∨ fld q.payload 20 8 ≤ s.tai ∨ l3Hold s = true) :=
  ⟨bench 0x0C07 (leBytes 64 0), .mailbox 0, 7, ask 0x0C07 (leBytes 64 0), by decide⟩

theorem witness_UpdateCommandEffect_1 : ∃ (s : State) (r : Route) (tag : Nat) (q : Req), Served s r tag 0x0D01 q ∧
  Open s iMGT ∧ q.payload.length = 128 ∧ s.update.trialing = false ∧ s.update.stage ≠ 2 ∧ s.mail.transfers.all (fun
  t => t.command != 0x0D02 || t.route == r) = true ∧ firstStep (headerChecks s q.payload) = none :=
  ⟨bench 0x0D01 updateHeader, .mailbox 0, 7, ask 0x0D01 updateHeader, by decide +kernel⟩

theorem witness_UpdateCommandEffect_2 : ∃ (s : State) (r : Route) (tag : Nat) (q : Req) (k : Nat), Served s r tag
  0x0D01 q ∧ Open s iMGT ∧ q.payload.length = 128 ∧ s.update.trialing = false ∧ s.update.stage ≠ 2 ∧
  s.mail.transfers.all (fun t => t.command != 0x0D02 || t.route == r) = true ∧ firstStep (headerChecks s q.payload)
  = some k :=
  ⟨bench 0x0D01 (leBytes 128 0), .mailbox 0, 7, ask 0x0D01 (leBytes 128 0), 1, by decide +kernel⟩

theorem witness_UpdateCommandEffect_3 : ∃ (s : State) (r : Route) (tag : Nat) (q : Req) (total : Nat) (d : List
  Byte), Served s r tag 0x0D02 q ∧ Open s iMGT ∧ q.payload = leBytes 4 0 ++ leBytes 4 total ++ d ∧ s.update.stage =
  1 ∧ total < 2 ^ 32 ∧ fld (spareSlot s).header 32 4 = total ∧ q.command = 0x0D02 ∧ q.more = true ∧ 0 < d.length ∧
  d.length < total ∧ transferOf s 0x0D02 = none ∧ headerKept (spareSlot s).header d = true :=
  ⟨{ receiveBoard with mail := { receiveBoard.mail with inProgress := [{ ask 0x0D02 (leBytes 4 0 ++ leBytes 4 200 ++ ((leBytes 32 0 ++ leBytes 4 200 ++ leBytes 92 0).take 64)) with more := true }] } }, .mailbox 0, 7, { ask 0x0D02 (leBytes 4 0 ++ leBytes 4 200 ++ ((leBytes 32 0 ++ leBytes 4 200 ++ leBytes 92 0).take 64)) with more := true }, 200, ((leBytes 32 0 ++ leBytes 4 200 ++ leBytes 92 0).take 64), by decide⟩

theorem witness_UpdateCommandEffect_4 : ∃ (s : State) (r : Route) (tag : Nat) (q : Req) (total : Nat) (d : List
  Byte), Served s r tag 0x0D02 q ∧ Open s iMGT ∧ q.payload = leBytes 4 0 ++ leBytes 4 total ++ d ∧ s.update.stage =
  1 ∧ total < 2 ^ 32 ∧ fld (spareSlot s).header 32 4 = total ∧ q.command = 0x0D02 ∧ q.more = false ∧ 0 < d.length ∧
  d.length = total ∧ transferOf s 0x0D02 = none ∧ headerKept (spareSlot s).header d = true :=
  ⟨{ receiveBoard with mail := { receiveBoard.mail with inProgress := [{ ask 0x0D02 (leBytes 4 0 ++ leBytes 4 200 ++ (leBytes 32 0 ++ leBytes 4 200 ++ leBytes 164 0)) with more := false }] } }, .mailbox 0, 7, { ask 0x0D02 (leBytes 4 0 ++ leBytes 4 200 ++ (leBytes 32 0 ++ leBytes 4 200 ++ leBytes 164 0)) with more := false }, 200, (leBytes 32 0 ++ leBytes 4 200 ++ leBytes 164 0), by decide⟩

theorem witness_UpdateCommandEffect_5 : ∃ (s : State) (r : Route) (tag : Nat) (q : Req), Served s r tag 0x0D03 q ∧
  Open s iMGT ∧ q.payload = [] ∧ s.update.trialing = false ∧ (spareSlot s).state = 2 ∧ s.twin.role = .single ∧
  s.running iFLD = true ∧ s.running iMTR = true ∧ (s.isl iFLD).draining = false ∧ (s.isl iMTR).draining = false :=
  ⟨bench 0x0D03 [], .mailbox 0, 7, ask 0x0D03 [], by decide⟩

theorem witness_UpdateCommandEffect_6 : ∃ (s : State) (r : Route) (tag : Nat) (q : Req), Served s r tag 0x0D04 q ∧
  Open s iMGT ∧ q.payload = [] ∧ s.update.trialing = true :=
  ⟨benchOn trialBoard 0x0D04 [], .mailbox 0, 7, ask 0x0D04 [], by decide⟩

theorem witness_UpdateCommandEffect_7 : ∃ (s : State) (r : Route) (tag : Nat) (q : Req), Served s r tag 0x0D05 q ∧
  Open s iMGT ∧ q.payload = [] ∧ s.update.trialing = true :=
  ⟨benchOn trialBoard 0x0D05 [], .mailbox 0, 7, ask 0x0D05 [], by decide⟩

theorem witness_UpdateCommandEffect_8 : ∃ (s : State) (r : Route) (tag : Nat) (q : Req), Served s r tag 0x0D04 q ∧
  Open s iMGT ∧ q.payload = [] ∧ s.update.trialing = false :=
  ⟨bench 0x0D04 [], .mailbox 0, 7, ask 0x0D04 [], by decide⟩

theorem witness_PlatformCommandEffect_1 : ∃ (s : State) (r : Route) (tag : Nat) (q : Req) (f n : Nat), Served s r
  tag 0x0E02 q ∧ Open s iMGT ∧ q.payload = (leBytes 2 f ++ leBytes 2 n) ∧ f < 65536 ∧ 1 ≤ n ∧ n ≤ 253 :=
  ⟨bench 0x0E02 (leBytes 2 0 ++ leBytes 2 5), .mailbox 0, 7, ask 0x0E02 (leBytes 2 0 ++ leBytes 2 5), 0, 5, by decide⟩

theorem witness_PlatformCommandEffect_2 : ∃ (s : State) (r : Route) (tag : Nat) (q : Req) (l rf : Nat), Served s r
  tag 0x0E03 q ∧ Open s iMGT ∧ q.payload = (leBytes 2 l ++ leBytes 1 rf ++ leBytes 1 0) ∧ 180 ≤ l ∧ l ≤ 480 ∧ rf ≤ 2
  :=
  ⟨bench 0x0E03 (leBytes 2 240 ++ leBytes 1 1 ++ leBytes 1 0), .mailbox 0, 7, ask 0x0E03 (leBytes 2 240 ++ leBytes 1 1 ++ leBytes 1 0), 240, 1, by decide⟩

theorem witness_PlatformCommandEffect_3 : ∃ (s : State) (r : Route) (tag : Nat) (q : Req) (m : Nat), Served s r tag
  0x0E04 q ∧ Open s iMGT ∧ q.payload.length = 36 ∧ fld q.payload 0 2 = m ∧ fld q.payload 2 2 = 0 ∧ fieldPowerOk
  q.payload = true ∧ (s.isl iFLD).state = .run ∧ (s.isl iFLD).draining = false ∧ (s.epochOf iMGT iFLD = 0 ∨
  s.epochOf iMGT iFLD = (s.isl iFLD).epoch) :=
  ⟨bench 0x0E04 (leBytes 2 3 ++ leBytes 2 0 ++ leBytes 2 10 ++ leBytes 2 11 ++ leBytes 28 0), .mailbox 0, 7, ask 0x0E04 (leBytes 2 3 ++ leBytes 2 0 ++ leBytes 2 10 ++ leBytes 2 11 ++ leBytes 28 0), 3, by decide⟩

theorem witness_PlatformCommandEffect_4 : ∃ (s : State) (r : Route) (tag : Nat) (q : Req) (i v : Nat) (st :
  IslState), Served s r tag 0x0E05 q ∧ Open s iMGT ∧ q.payload = (leBytes 1 i ++ leBytes 1 v ++ leBytes 2 0) ∧ i ≤
  11 ∧ i ≠ iMTR ∧ i ≠ iSAGE ∧ v < 8 ∧ reqTarget v = some st ∧ askable (crossed s iMGT) .steward i v = true ∧ (s.isl
  i).state = .run ∧ (s.isl i).draining = false ∧ s.twin.role = .single :=
  ⟨bench 0x0E05 (leBytes 1 10 ++ leBytes 1 1 ++ leBytes 2 0), .mailbox 0, 7, ask 0x0E05 (leBytes 1 10 ++ leBytes 1 1 ++ leBytes 2 0), 10, 1, .reset, by decide⟩

theorem witness_PlatformCommandEffect_5 : ∃ (s : State) (r : Route) (tag : Nat) (q : Req) (i v f : Nat), Served s r
  tag 0x0E05 q ∧ Open s iMGT ∧ q.payload = (leBytes 1 i ++ leBytes 1 v ++ leBytes 1 f ++ leBytes 1 0) ∧ i ≤ 11 ∧ v <
  8 ∧ f < 2 ∧ askable (crossed s iMGT) .steward i v = false ∧ atRest (s.isl i) = true :=
  ⟨bench 0x0E05 (leBytes 1 10 ++ leBytes 1 3 ++ leBytes 2 0), .mailbox 0, 7, ask 0x0E05 (leBytes 1 10 ++ leBytes 1 3 ++ leBytes 2 0), 10, 3, 0, by decide⟩

theorem witness_PlatformCommandEffect_6 : ∃ (s : State) (r : Route) (tag : Nat) (q : Req), Served s r tag 0x0E06 q ∧
  q.payload = [0x4B, 0x57, 0x46, 0x52, 0, 0, 0, 0] ∧ s.mail.transfers = [] ∧ s.update = s.update.commit ∧
  s.update.slotA.state ≠ 1 ∧ s.update.slotB.state ≠ 1 :=
  ⟨bench 0x0E06 [0x4B, 0x57, 0x46, 0x52, 0, 0, 0, 0], .mailbox 0, 7, ask 0x0E06 [0x4B, 0x57, 0x46, 0x52, 0, 0, 0, 0], by decide⟩

theorem witness_PlatformCommandEffect_7 : ∃ (s : State) (r : Route) (tag : Nat) (q : Req) (a : Nat), Served s r tag
  0x0F01 q ∧ Open s (addrIsl a) ∧ q.payload = (leBytes 4 a ++ leBytes 2 1 ++ leBytes 2 0) ∧ a < 2 ^ 32 ∧ gate s
  .block a 0 false = stOk :=
  ⟨bench 0x0F01 (leBytes 4 rTuOffset ++ leBytes 2 1 ++ leBytes 2 0), .mailbox 0, 7, ask 0x0F01 (leBytes 4 rTuOffset ++ leBytes 2 1 ++ leBytes 2 0), rTuOffset, by decide⟩

theorem witness_PlatformCommandEffect_8 : ∃ (s : State) (r : Route) (tag : Nat) (q : Req) (a v : Nat), Served s r
  tag 0x0F02 q ∧ Open s (addrIsl a) ∧ q.payload = (leBytes 4 a ++ leBytes 2 1 ++ leBytes 2 0 ++ leBytes 4 v) ∧ a < 2
  ^ 32 ∧ v < 2 ^ 32 ∧ gate s .block a v true = stOk ∧ addrBlk a ≠ 0 ∧ (writeReg (crossed s (addrIsl a)) .block a
  v).1 = stOk :=
  ⟨bench 0x0F02 (leBytes 4 rTuPtp ++ leBytes 2 1 ++ leBytes 2 0 ++ leBytes 4 5), .mailbox 0, 7, ask 0x0F02 (leBytes 4 rTuPtp ++ leBytes 2 1 ++ leBytes 2 0 ++ leBytes 4 5), rTuPtp, 5, by decide⟩

theorem witness_StepIdles_bare : ∃ (s : State), s.pending = [] ∧ s.rbit rPfStatus 0 = false ∧ pendedReq s 0x0D02 =
  none ∧ s.meter.calDue = none ∧ s.thyme.exchange = none :=
  ⟨board, by decide⟩

theorem witness_StepIdles_segment : ∃ (s : State) (q : Req), s.pending = [] ∧ s.rbit rPfStatus 0 = false ∧ pendedReq
  s 0x0D02 = some q ∧ s.update.stage ≠ 2 ∧ s.running iMGT = true ∧ s.meter.calDue = none ∧ s.thyme.exchange = none
  :=
  ⟨pendedOn board 0x0D02 [], { ask 0x0D02 [] with pended := true }, by decide⟩

theorem witness_StepIdles_calibration : ∃ (s : State) (d : List Byte), s.pending = [] ∧ s.rbit rPfStatus 0 = false ∧
  pendedReq s 0x0D02 = none ∧ s.meter.calDue = some d ∧ s.thyme.exchange = none :=
  ⟨{ board with meter := { board.meter with calDue := some [] } }, [], by decide⟩

theorem witness_StepIdles_points : ∃ (s : State), s.pending = [] ∧ s.rbit rPfStatus 0 = true ∧ pendedReq s 0x0D02 =
  none ∧ s.meter.calDue = none ∧ s.thyme.exchange = none :=
  ⟨board.raise rPfStatus 0, by decide⟩

theorem witness_StepIdles_settled : ∃ (s : State) (i : Nat), (s.point (16 * i)).value.toNat = (s.isl i).state.code ∧
  (s.point (16 * i + 1)).value.toNat = (s.isl i).epoch ∧ (s.point (16 * i + 2)).value.toNat = s.reg (rIslFault i) ∧
  (s.point (16 * i)).quality = qGood ∧ (s.point (16 * i + 1)).quality = qGood ∧ (s.point (16 * i + 2)).quality =
  qGood :=
  ⟨({ board.setIsl 0 { state := .off, epoch := 0 } with fabric := { board.fabric with store := [(0, { bitRecord with value := 0 }), (1, { bitRecord with value := 0 }), (2, { bitRecord with value := 0 })] } }), 0, by decide⟩

theorem witness_QueueKept_1 : ∃ (s t : State), step s = .next t :=
  ⟨board, idleStep board, rfl⟩

theorem witness_QueueKept_2 : ∃ (s t : State), (∀ c ∈ s.pending, c.wf = true) ∧ step s = .next t :=
  ⟨board, idleStep board, by exact ⟨by decide, rfl⟩⟩

theorem witness_TwinFrameRoundTrip_1 : ∃ (s : State) (kind seq frag : Nat) (last : Bool) (body pad : List Byte)
  (sender : Nat) (secured : Bool), kind < 256 ∧ seq < 65536 ∧ frag < 256 ∧ body.length ≤ 2000 :=
  ⟨board, 1, 2, 3, true, [5, 6], [], 7, false, by decide⟩

theorem witness_UnassignedCommand_refused : ∃ (s a : State) (r : Route) (p payload : List Byte) (carried : Option
  Nat) (q : Req), p.length = 32 ∧ fld p 16 4 = payload.length ∧ payload.length ≤ 4064 ∧ (carried = none ∨ carried =
  some payload.length) ∧ (crcIscsi (p.take 24 ++ payload)).toNat = fld p 24 4 ∧ (keptOf s r).find? (·.seq == fld p 2
  2) = none ∧ (s.mail.inProgress.any fun x => x.route == r && x.seq == fld p 2 2 && x.command == fld p 0 2 && x.tag
  == fld p 20 4) = false ∧ cmdOf (fld p 0 2) = none ∧ q =
  { route := r, command := fld p 0 2, seq := fld p 2 2, tag := fld p 20 4, session := fld p 8 4, more := bitOf (fld p 6 2) 1, payload := payload, pended := false }
  ∧ a = abandonWhere (s.chkUnit 0 (24 + payload.length) (crcIscsi (p.take 24 ++ payload)) true) r fun t => t.command
  != q.command || t.tag != q.tag :=
  ⟨board, (board.chkUnit 0 24 (crcIscsi ((leBytes 2 0x0777 ++ leBytes 2 5 ++ leBytes 4 0 ++ leBytes 12 0 ++ leBytes 4 9 ++ leBytes 4 (crcIscsi (leBytes 2 0x0777 ++ leBytes 2 5 ++ leBytes 4 0 ++ leBytes 12 0 ++ leBytes 4 9)).toNat ++ leBytes 4 0).take 24)) true), .mailbox 0, (leBytes 2 0x0777 ++ leBytes 2 5 ++ leBytes 4 0 ++ leBytes 12 0 ++ leBytes 4 9 ++ leBytes 4 (crcIscsi (leBytes 2 0x0777 ++ leBytes 2 5 ++ leBytes 4 0 ++ leBytes 12 0 ++ leBytes 4 9)).toNat ++ leBytes 4 0), [], none, { route := .mailbox 0, command := 0x0777, seq := 5, tag := 9, session := 0, more := false, payload := [], pended := false }, by decide +kernel⟩

theorem witness_StandbyRefusesMarked_1 : ∃ (s : State) (r : Route) (tag : Nat) (q : Req) (p : Instr × Nat), p ∈
  ([(.netConfig r tag, 0x0103), (.pointWrite r tag, 0x0202), (.pointDefine r tag, 0x0203), (.pointUndefine r tag,
  0x0204), (.pointClaim r tag, 0x0205), (.pointRelease r tag, 0x0206), (.forceSet r tag, 0x0207), (.forceClear r
  tag, 0x0208), (.shareSet r tag, 0x020A), (.shareDelete r tag, 0x020B), (.shareLink r tag, 0x020C), (.sliceSet r
  tag, 0x020D), (.programLoad r tag, 0x0301), (.programExchange r tag, 0x0303), (.programRun r tag, 0x0304),
  (.programUnload r tag, 0x0305), (.loopTableLoad r tag, 0x0401), (.loopEnable r tag, 0x0402), (.traceConfig r tag,
  0x0404), (.circuitMap r tag, 0x0502), (.calibrationLoad r tag, 0x0503), (.accConfig r tag, 0x0504), (.apportionSet
  r tag, 0x0505), (.spillConfig r tag, 0x0506), (.seriesDefine r tag, 0x0601), (.seriesDelete r tag, 0x0602),
  (.seriesClear r tag, 0x0604), (.ptpConfig r tag, 0x0702), (.ppsConfig r tag, 0x0703), (.portConfig r tag, 0x0902),
  (.gateListLoad r tag, 0x0904), (.deviceTable r tag, 0x0905), (.ringTables r tag, 0x0906), (.macsecConfig r tag,
  0x0907), (.busConfig r tag, 0x0A01), (.busObjectSet r tag, 0x0A02), (.busSleep r tag, 0x0A04), (.twinHandover r
  tag, 0x0B04), (.fieldPower r tag, 0x0E04)] : List (Instr × Nat)) ∧ stewardReady s = true ∧ findReq s p.2 r tag =
  some q ∧ s.twin.role = .standby ∧ (∀ x ∈ s.mail.inProgress, x.pended = false) ∧ s.thyme.unloading = false :=
  ⟨{ bench 0x0202 [1] with twin := { board.twin with role := .standby } }, .mailbox 0, 7, ask 0x0202 [1], (.pointWrite (.mailbox 0) 7, 0x0202), by exact ⟨by simp, by decide⟩⟩

theorem witness_NoRequestNoEffect_1 : ∃ (s : State) (r : Route) (tag : Nat) (p : Instr × Nat), p ∈ ([(.systemInfo r
  tag, 0x0101), (.mailboxBind r tag, 0x0102), (.netConfig r tag, 0x0103), (.systemReset r tag, 0x0104), (.pointRead
  r tag, 0x0201), (.pointWrite r tag, 0x0202), (.pointDefine r tag, 0x0203), (.pointUndefine r tag, 0x0204),
  (.pointClaim r tag, 0x0205), (.pointRelease r tag, 0x0206), (.forceSet r tag, 0x0207), (.forceClear r tag,
  0x0208), (.forceList r tag, 0x0209), (.shareSet r tag, 0x020A), (.shareDelete r tag, 0x020B), (.shareLink r tag,
  0x020C), (.sliceSet r tag, 0x020D), (.sliceList r tag, 0x020E), (.programLoad r tag, 0x0301), (.programStatus r
  tag, 0x0302), (.programExchange r tag, 0x0303), (.programRun r tag, 0x0304), (.programUnload r tag, 0x0305),
  (.loopTableLoad r tag, 0x0401), (.loopEnable r tag, 0x0402), (.loopStatus r tag, 0x0403), (.traceConfig r tag,
  0x0404), (.traceRead r tag, 0x0405), (.meterRead r tag, 0x0501), (.circuitMap r tag, 0x0502), (.calibrationLoad r
  tag, 0x0503), (.accConfig r tag, 0x0504), (.apportionSet r tag, 0x0505), (.spillConfig r tag, 0x0506),
  (.demandRead r tag, 0x0507), (.instantRead r tag, 0x0508), (.seriesDefine r tag, 0x0601), (.seriesDelete r tag,
  0x0602), (.recorderRead r tag, 0x0603), (.seriesClear r tag, 0x0604), (.recorderStatus r tag, 0x0605), (.timeRead
  r tag, 0x0701), (.ptpConfig r tag, 0x0702), (.ppsConfig r tag, 0x0703), (.calRead r tag, 0x0801), (.calSet r tag,
  0x0802), (.alarmSet r tag, 0x0803), (.trimSet r tag, 0x0804), (.backupRead r tag, 0x0805), (.backupWrite r tag,
  0x0806), (.portStatus r tag, 0x0901), (.portConfig r tag, 0x0902), (.portCounters r tag, 0x0903), (.gateListLoad r
  tag, 0x0904), (.deviceTable r tag, 0x0905), (.ringTables r tag, 0x0906), (.macsecConfig r tag, 0x0907),
  (.busConfig r tag, 0x0A01), (.busObjectSet r tag, 0x0A02), (.busStatus r tag, 0x0A03), (.busSleep r tag, 0x0A04),
  (.twinStatus r tag, 0x0B01), (.twinHealth r tag, 0x0B02), (.twinConfig r tag, 0x0B03), (.twinHandover r tag,
  0x0B04), (.witnessConfig r tag, 0x0B05), (.tenantEnrol r tag, 0x0C01), (.tenantRemove r tag, 0x0C02), (.keyImport
  r tag, 0x0C03), (.keyDelete r tag, 0x0C04), (.keyList r tag, 0x0C05), (.attest r tag, 0x0C06), (.debugEnable r
  tag, 0x0C07), (.keyEncrypt r tag, 0x0C08), (.keyDecrypt r tag, 0x0C09), (.keyWrap r tag, 0x0C0A), (.keyUnwrap r
  tag, 0x0C0B), (.keyDerive r tag, 0x0C0C), (.updateBegin r tag, 0x0D01), (.updateSegment r tag, 0x0D02),
  (.updateActivate r tag, 0x0D03), (.updateConfirm r tag, 0x0D04), (.updateFallback r tag, 0x0D05), (.updateStatus r
  tag, 0x0D06), (.sensorsRead r tag, 0x0E01), (.faultLogRead r tag, 0x0E02), (.powerConfig r tag, 0x0E03),
  (.fieldPower r tag, 0x0E04), (.islandControl r tag, 0x0E05), (.factoryReset r tag, 0x0E06), (.blockRead r tag,
  0x0F01), (.blockWrite r tag, 0x0F02)] : List (Instr × Nat)) ∧ (stewardReady s = false ∨ findReq s p.2 r tag =
  none) ∧ s.thyme.unloading = false ∧ s.thyme.exchange = none ∧ s.thyme.checking = none :=
  ⟨board, .mailbox 0, 7, (.pointWrite (.mailbox 0) 7, 0x0202), by exact ⟨by simp, by decide⟩⟩

theorem witness_ThymeBitLogic_combine : ∃ (s : State) (t w : Nat) (l : Loaded) (c : TaskCfg) (p : Instr × Nat ×
  (Bool → Bool → Bool)) (b : Bool), p ∈ ([(.thLd, 1, fun _ b => b), (.thLdn, 2, fun _ b => !b), (.thAnd, 3, fun a b
  => a && b), (.thAndn, 4, fun a b => a && !b), (.thOr, 5, fun a b => a || b), (.thOrn, 6, fun a b => a || !b),
  (.thXor, 7, fun a b => a != b), (.thXorn, 8, fun a b => a != !b)] : List (Instr × Nat × (Bool → Bool → Bool))) ∧
  Executes s p.2.1 t l c w ∧ (bitOperand (around s t c) w (workOf s t l)).toOption = some b :=
  ⟨thBoard [0x03000002] { ba := true }, 0, 0x03000002, thLoaded [0x03000002], thCfg, (.thAnd, 3, fun a b => a && b), false, by exact ⟨by simp, by decide⟩⟩

theorem witness_ThymeBitLogic_combineIndex : ∃ (s : State) (t w : Nat) (l : Loaded) (c : TaskCfg) (p : Instr × Nat ×
  (Bool → Bool → Bool)), p ∈ ([(.thLd, 1, fun _ b => b), (.thLdn, 2, fun _ b => !b), (.thAnd, 3, fun a b => a && b),
  (.thAndn, 4, fun a b => a && !b), (.thOr, 5, fun a b => a || b), (.thOrn, 6, fun a b => a || !b), (.thXor, 7, fun
  a b => a != b), (.thXorn, 8, fun a b => a != !b)] : List (Instr × Nat × (Bool → Bool → Bool))) ∧ Executes s p.2.1
  t l c w ∧ (bitOperand (around s t c) w (workOf s t l)).toOption = none :=
  ⟨thBoard [0x01000009] {}, 0, 0x01000009, thLoaded [0x01000009], thCfg, (.thLd, 1, fun _ b => b), by exact ⟨by simp, by decide⟩⟩

theorem witness_ThymeBitLogic_store : ∃ (s : State) (t w : Nat) (l : Loaded) (c : TaskCfg) (p : Instr × Nat × (Bool
  → Bool) × (Bool → Bool)) (a : Nat), p ∈ ([(.thSt, 9, fun _ => true, fun a => a), (.thStn, 10, fun _ => true, fun a
  => !a), (.thSet, 11, fun a => a, fun _ => true), (.thRst, 12, fun a => a, fun _ => false)] : List (Instr × Nat ×
  (Bool → Bool) × (Bool → Bool))) ∧ Executes s p.2.1 t l c w ∧ (bitAddr (around s t c) w (workOf s t l)).toOption =
  some a :=
  ⟨thBoard [0x0B000002] { ba := true }, 0, 0x0B000002, thLoaded [0x0B000002], thCfg, (.thSet, 11, fun a => a, fun _ => true), 2, by exact ⟨by simp, by decide⟩⟩

theorem witness_ThymeBitLogic_storeIndex : ∃ (s : State) (t w : Nat) (l : Loaded) (c : TaskCfg) (p : Instr × Nat ×
  (Bool → Bool) × (Bool → Bool)), p ∈ ([(.thSt, 9, fun _ => true, fun a => a), (.thStn, 10, fun _ => true, fun a =>
  !a), (.thSet, 11, fun a => a, fun _ => true), (.thRst, 12, fun a => a, fun _ => false)] : List (Instr × Nat ×
  (Bool → Bool) × (Bool → Bool))) ∧ Executes s p.2.1 t l c w ∧ (bitAddr (around s t c) w (workOf s t l)).toOption =
  none :=
  ⟨thBoard [0x0C000009] {}, 0, 0x0C000009, thLoaded [0x0C000009], thCfg, (.thRst, 12, fun a => a, fun _ => false), by exact ⟨by simp, by decide⟩⟩

theorem witness_ThymeBitLogic_5 : ∃ (s : State) (t w : Nat) (l : Loaded) (c : TaskCfg), Executes s 13 t l c w :=
  ⟨thBoard [0x0D000000] {}, 0, 0x0D000000, thLoaded [0x0D000000], thCfg, by decide⟩

theorem witness_ThymeBitLogic_6 : ∃ (s : State) (t w : Nat) (l : Loaded) (c : TaskCfg), Executes s 14 t l c w :=
  ⟨thBoard [0x0E000000] {}, 0, 0x0E000000, thLoaded [0x0E000000], thCfg, by decide⟩

theorem witness_ThymeBitLogic_7 : ∃ (s : State) (t w : Nat) (l : Loaded) (c : TaskCfg), Executes s 15 t l c w :=
  ⟨thBoard [0x0F000000] {}, 0, 0x0F000000, thLoaded [0x0F000000], thCfg, by decide⟩

theorem witness_ThymeBitLogic_8 : ∃ (s : State) (t w : Nat) (l : Loaded) (c : TaskCfg), Executes s 0 t l c w :=
  ⟨thBoard [0x00000000] {}, 0, 0x00000000, thLoaded [0x00000000], thCfg, by decide⟩

theorem witness_ThymeStacks_push : ∃ (s : State) (t w : Nat) (l : Loaded) (c : TaskCfg) (p : Instr × Nat × BrOp ×
  (Bool → Bool)), p ∈ ([(.thAndb, 16, .and, fun _ => true), (.thOrb, 17, .or, fun _ => false), (.thXorb, 18, .xor,
  fun _ => false), (.thPush, 20, .none, fun a => a)] : List (Instr × Nat × BrOp × (Bool → Bool))) ∧ Executes s p.2.1
  t l c w ∧ (workOf s t l).m.branch.length < 16 :=
  ⟨thBoard [0x10000000] { ba := true }, 0, 0x10000000, thLoaded [0x10000000], thCfg, (.thAndb, 16, .and, fun _ => true), by exact ⟨by simp, by decide⟩⟩

theorem witness_ThymeStacks_pushOver : ∃ (s : State) (t w : Nat) (l : Loaded) (c : TaskCfg) (p : Instr × Nat × BrOp
  × (Bool → Bool)), p ∈ ([(.thAndb, 16, .and, fun _ => true), (.thOrb, 17, .or, fun _ => false), (.thXorb, 18, .xor,
  fun _ => false), (.thPush, 20, .none, fun a => a)] : List (Instr × Nat × BrOp × (Bool → Bool))) ∧ Executes s p.2.1
  t l c w ∧ 16 ≤ (workOf s t l).m.branch.length :=
  ⟨thBoard [0x14000000] { branch := List.replicate 16 (true, .and) }, 0, 0x14000000, thLoaded [0x14000000], thCfg, (.thPush, 20, .none, fun a => a), by exact ⟨by simp, by decide⟩⟩

theorem witness_ThymeStacks_close : ∃ (s : State) (t w : Nat) (l : Loaded) (c : TaskCfg) (b : Bool) (o : BrOp) (rest
  : List (Bool × BrOp)), Executes s 19 t l c w ∧ (workOf s t l).m.branch = (b, o) :: rest :=
  ⟨thBoard [0x13000000] { ba := true, branch := [(false, .and)] }, 0, 0x13000000, thLoaded [0x13000000], thCfg, false, .and, [], by decide⟩

theorem witness_ThymeStacks_read : ∃ (s : State) (t w : Nat) (l : Loaded) (c : TaskCfg) (b : Bool) (o : BrOp) (rest
  : List (Bool × BrOp)), Executes s 21 t l c w ∧ (workOf s t l).m.branch = (b, o) :: rest :=
  ⟨thBoard [0x15000000] { branch := [(true, .or)] }, 0, 0x15000000, thLoaded [0x15000000], thCfg, true, .or, [], by decide⟩

theorem witness_ThymeStacks_pop : ∃ (s : State) (t w : Nat) (l : Loaded) (c : TaskCfg) (b : Bool) (o : BrOp) (rest :
  List (Bool × BrOp)), Executes s 22 t l c w ∧ (workOf s t l).m.branch = (b, o) :: rest :=
  ⟨thBoard [0x16000000] { branch := [(true, .or)] }, 0, 0x16000000, thLoaded [0x16000000], thCfg, true, .or, [], by decide⟩

theorem witness_ThymeStacks_under : ∃ (s : State) (t w : Nat) (l : Loaded) (c : TaskCfg) (p : Instr × Nat), p ∈
  ([(.thClose, 19), (.thRead, 21), (.thPop, 22)] : List (Instr × Nat)) ∧ Executes s p.2 t l c w ∧ (workOf s t
  l).m.branch = [] :=
  ⟨thBoard [0x15000000] {}, 0, 0x15000000, thLoaded [0x15000000], thCfg, (.thRead, 21), by exact ⟨by simp, by decide⟩⟩

theorem witness_ThymeStacks_jump : ∃ (s : State) (t w : Nat) (l : Loaded) (c : TaskCfg) (p : Instr × Nat × (Bool →
  Bool)), p ∈ ([(.thJmp, 120, fun _ => true), (.thJt, 121, fun a => a), (.thJf, 122, fun a => !a)] : List (Instr ×
  Nat × (Bool → Bool))) ∧ Executes s p.2.1 t l c w :=
  ⟨thBoard [0x79000001] {}, 0, 0x79000001, thLoaded [0x79000001], thCfg, (.thJt, 121, fun a => a), by exact ⟨by simp, by decide⟩⟩

theorem witness_ThymeStacks_call : ∃ (s : State) (t w : Nat) (l : Loaded) (c : TaskCfg), Executes s 123 t l c w ∧
  (workOf s t l).m.calls.length < 16 :=
  ⟨thBoard [0x7B000001] {}, 0, 0x7B000001, thLoaded [0x7B000001], thCfg, by decide⟩

theorem witness_ThymeStacks_callOver : ∃ (s : State) (t w : Nat) (l : Loaded) (c : TaskCfg), Executes s 123 t l c w
  ∧ 16 ≤ (workOf s t l).m.calls.length :=
  ⟨thBoard [0x7B000001] { calls := List.replicate 16 1 }, 0, 0x7B000001, thLoaded [0x7B000001], thCfg, by decide⟩

theorem witness_ThymeStacks_ret : ∃ (s : State) (t w : Nat) (l : Loaded) (c : TaskCfg) (a : Nat) (rest : List Nat),
  Executes s 124 t l c w ∧ (workOf s t l).m.calls = a :: rest :=
  ⟨thBoard [0x7C000000] { calls := [1] }, 0, 0x7C000000, thLoaded [0x7C000000], thCfg, 1, [], by decide⟩

theorem witness_ThymeStacks_retUnder : ∃ (s : State) (t w : Nat) (l : Loaded) (c : TaskCfg), Executes s 124 t l c w
  ∧ (workOf s t l).m.calls = [] :=
  ⟨thBoard [0x7C000000] {}, 0, 0x7C000000, thLoaded [0x7C000000], thCfg, by decide⟩

theorem witness_ThymeStacks_end : ∃ (s : State) (t w : Nat) (l : Loaded) (c : TaskCfg), Executes s 125 t l c w :=
  ⟨thBoard [0x7D000000] {}, 0, 0x7D000000, thLoaded [0x7D000000], thCfg, by decide⟩

theorem witness_ThymeStacks_clrv : ∃ (s : State) (t w : Nat) (l : Loaded) (c : TaskCfg), Executes s 127 t l c w :=
  ⟨thBoard [0x7F000000] { v := true }, 0, 0x7F000000, thLoaded [0x7F000000], thCfg, by decide⟩

theorem witness_ThymeInstances_edge : ∃ (s : State) (t w : Nat) (l : Loaded) (c : TaskCfg) (p : Instr × Nat × (Bool
  → Bool → Bool)), p ∈ ([(.thEdgp, 24, fun i v => i && !v), (.thEdgn, 25, fun i v => !i && v)] : List (Instr × Nat ×
  (Bool → Bool → Bool))) ∧ Executes s p.2.1 t l c w :=
  ⟨thBoard [0x18000003] { ba := true }, 0, 0x18000003, thLoaded [0x18000003], thCfg, (.thEdgp, 24, fun i v => i && !v), by exact ⟨by simp, by decide⟩⟩

theorem witness_ThymeInstances_timer : ∃ (s : State) (t w : Nat) (l : Loaded) (c : TaskCfg) (p : Instr × Nat ×
  (TimerInst → Bool → Nat → Nat → TimerInst)), p ∈ ([(.thTon, 26, tonEval), (.thTof, 27, tofEval), (.thTp, 28,
  tpEval)] : List (Instr × Nat × (TimerInst → Bool → Nat → Nat → TimerInst))) ∧ Executes s p.2.1 t l c w :=
  ⟨thBoard [0x1A800003] { ba := true, wacc := 30 }, 0, 0x1A800003, thLoaded [0x1A800003], thCfg, (.thTon, 26, tonEval), by exact ⟨by simp, by decide⟩⟩

theorem witness_ThymeInstances_3 : ∃ (s : State) (t w : Nat) (l : Loaded) (c : TaskCfg), Executes s 29 t l c w :=
  ⟨thBoard [0x1D000003] {}, 0, 0x1D000003, thLoaded [0x1D000003], thCfg, by decide⟩

theorem witness_ThymeInstances_ctu : ∃ (s : State) (t w : Nat) (l : Loaded) (c : TaskCfg) (cv : Int), Executes s 30
  t l c w ∧ (cv = if (workOf s t l).m.ba = true ∧ (tabGetD (workOf s t l).counters (w % 2 ^ 15) {}).upFresh = false
  ∧ (tabGetD (workOf s t l).counters (w % 2 ^ 15) {}).upPrev = false ∧ (tabGetD (workOf s t l).counters (w % 2 ^ 15)
  {}).cv < 2147483647 then (tabGetD (workOf s t l).counters (w % 2 ^ 15) {}).cv + 1 else (tabGetD (workOf s t
  l).counters (w % 2 ^ 15) {}).cv) :=
  ⟨thBoard [0x1E000003] { ba := true, wacc := 0 }, 0, 0x1E000003, thLoaded [0x1E000003], thCfg, 0, by decide⟩

theorem witness_ThymeInstances_ctd : ∃ (s : State) (t w : Nat) (l : Loaded) (c : TaskCfg) (cv : Int), Executes s 31
  t l c w ∧ (cv = if (workOf s t l).m.ba = true ∧ (tabGetD (workOf s t l).counters (w % 2 ^ 15) {}).dnFresh = false
  ∧ (tabGetD (workOf s t l).counters (w % 2 ^ 15) {}).dnPrev = false ∧ -2147483648 < (tabGetD (workOf s t
  l).counters (w % 2 ^ 15) {}).cv then (tabGetD (workOf s t l).counters (w % 2 ^ 15) {}).cv - 1 else (tabGetD
  (workOf s t l).counters (w % 2 ^ 15) {}).cv) :=
  ⟨thBoard [0x1F000003] { ba := true, wacc := 0 }, 0, 0x1F000003, thLoaded [0x1F000003], thCfg, 0, by decide⟩

theorem witness_ThymeInstances_6 : ∃ (s : State) (t w : Nat) (l : Loaded) (c : TaskCfg), Executes s 32 t l c w :=
  ⟨thBoard [0x20000003] { ba := true }, 0, 0x20000003, thLoaded [0x20000003], thCfg, by decide⟩

theorem witness_ThymeInstances_7 : ∃ (s : State) (t w : Nat) (l : Loaded) (c : TaskCfg), Executes s 33 t l c w :=
  ⟨thBoard [0x21000003] { ba := true, wacc := 7 }, 0, 0x21000003, thLoaded [0x21000003], thCfg, by decide⟩

theorem witness_ThymeInstances_8 : ∃ (s : State) (t w : Nat) (l : Loaded) (c : TaskCfg), Executes s 34 t l c w :=
  ⟨thBoard [0x22000003] {}, 0, 0x22000003, thLoaded [0x22000003], thCfg, by decide⟩

theorem witness_ThymeWordMoves_ldw : ∃ (s : State) (t w : Nat) (l : Loaded) (c : TaskCfg) (v : Nat), Executes s 40 t
  l c w ∧ (wordOperand (fun i => uNat 32 i) (around s t c) w (workOf s t l)).toOption = some v :=
  ⟨thBoard [0x28400005] {}, 0, 0x28400005, thLoaded [0x28400005], thCfg, 5, by decide⟩

theorem witness_ThymeWordMoves_ldb : ∃ (s : State) (t w : Nat) (l : Loaded) (c : TaskCfg) (b : Bool), Executes s 41
  t l c w ∧ (bitOperand (around s t c) w (workOf s t l)).toOption = some b :=
  ⟨thBoard [0x29800007] {}, 0, 0x29800007, thLoaded [0x29800007], thCfg, true, by decide⟩

theorem witness_ThymeWordMoves_ldwh : ∃ (s : State) (t w : Nat) (l : Loaded) (c : TaskCfg), Executes s 42 t l c w :=
  ⟨thBoard [0x2A400005] {}, 0, 0x2A400005, thLoaded [0x2A400005], thCfg, by decide⟩

theorem witness_ThymeWordMoves_stw : ∃ (s : State) (t w : Nat) (l : Loaded) (c : TaskCfg) (a : Nat), Executes s 43 t
  l c w ∧ (wordAddr (around s t c) w (workOf s t l)).toOption = some a :=
  ⟨thBoard [0x2B000002] { wacc := 9 }, 0, 0x2B000002, thLoaded [0x2B000002], thCfg, 2, by decide⟩

theorem witness_ThymeWordMoves_stwc : ∃ (s : State) (t w : Nat) (l : Loaded) (c : TaskCfg) (a : Nat), Executes s 44
  t l c w ∧ (wordAddr (around s t c) w (workOf s t l)).toOption = some a :=
  ⟨thBoard [0x2C000002] { wacc := 9 }, 0, 0x2C000002, thLoaded [0x2C000002], thCfg, 2, by decide⟩

theorem witness_ThymeWordMoves_wordIndex : ∃ (s : State) (t w : Nat) (l : Loaded) (c : TaskCfg) (p : Instr × Nat), p
  ∈ ([(.thStw, 43), (.thStwc, 44), (.thLdq, 45)] : List (Instr × Nat)) ∧ Executes s p.2 t l c w ∧ (wordAddr (around
  s t c) w (workOf s t l)).toOption = none :=
  ⟨thBoard [0x2C00000A] {}, 0, 0x2C00000A, thLoaded [0x2C00000A], thCfg, (.thStwc, 44), by exact ⟨by simp, by decide⟩⟩

theorem witness_ThymeWordMoves_ldq : ∃ (s : State) (t w : Nat) (l : Loaded) (c : TaskCfg) (a : Nat), Executes s 45 t
  l c w ∧ (wordAddr (around s t c) w (workOf s t l)).toOption = some a :=
  ⟨thBoard [0x2D000002] {}, 0, 0x2D000002, thLoaded [0x2D000002], thCfg, 2, by decide⟩

theorem witness_ThymeWordMoves_ldqb : ∃ (s : State) (t w : Nat) (l : Loaded) (c : TaskCfg) (a : Nat), Executes s 46
  t l c w ∧ (bitAddr (around s t c) w (workOf s t l)).toOption = some a :=
  ⟨thBoard [0x2E000002] {}, 0, 0x2E000002, thLoaded [0x2E000002], thCfg, 2, by decide⟩

theorem witness_ThymeWordMoves_ldix : ∃ (s : State) (t w : Nat) (l : Loaded) (c : TaskCfg), Executes s 47 t l c w :=
  ⟨thBoard [0x2F000000] { wacc := 0x12345 }, 0, 0x2F000000, thLoaded [0x2F000000], thCfg, by decide⟩

theorem witness_ThymeWordMoves_ldw64 : ∃ (s : State) (t w : Nat) (l : Loaded) (c : TaskCfg) (v : Nat), Executes s 48
  t l c w ∧ (wideOperand (fun i => uNat 64 i) (around s t c) w (workOf s t l)).toOption = some v :=
  ⟨thBoard [0x30400005] {}, 0, 0x30400005, thLoaded [0x30400005], thCfg, 5, by decide⟩

theorem witness_ThymeWordMoves_stw64 : ∃ (s : State) (t w : Nat) (l : Loaded) (c : TaskCfg) (a : Nat), Executes s 49
  t l c w ∧ (wideAddr (around s t c) w (workOf s t l)).toOption = some a :=
  ⟨thBoard [0x31000002] { wacc := 9, wext := 4 }, 0, 0x31000002, thLoaded [0x31000002], thCfg, 2, by decide⟩

theorem witness_ThymeWordMoves_xch : ∃ (s : State) (t w : Nat) (l : Loaded) (c : TaskCfg), Executes s 50 t l c w :=
  ⟨thBoard [0x32000000] { wacc := 9 }, 0, 0x32000000, thLoaded [0x32000000], thCfg, by decide⟩

theorem witness_ThymeWordMoves_stnz : ∃ (s : State) (t w : Nat) (l : Loaded) (c : TaskCfg) (a : Nat), Executes s 51
  t l c w ∧ (bitAddr (around s t c) w (workOf s t l)).toOption = some a :=
  ⟨thBoard [0x33000002] { wacc := 9 }, 0, 0x33000002, thLoaded [0x33000002], thCfg, 2, by decide⟩

theorem witness_ThymeArithmetic32_add : ∃ (s : State) (t w : Nat) (l : Loaded) (c : TaskCfg) (p : Instr × Nat × (Int
  → Int → Int)) (v : Nat), p ∈ ([(.thAdd, 56, fun a b => a + b), (.thSub, 57, fun a b => a - b), (.thMul, 58, fun a
  b => a * b)] : List (Instr × Nat × (Int → Int → Int))) ∧ Executes s p.2.1 t l c w ∧ (wordOperand (fun i => uNat 32
  i) (around s t c) w (workOf s t l)).toOption = some v :=
  ⟨thBoard [0x38400005] { wacc := 0x7FFFFFFF }, 0, 0x38400005, thLoaded [0x38400005], thCfg, (.thAdd, 56, fun a b => a + b), 5, by exact ⟨by simp, by decide⟩⟩

theorem witness_ThymeArithmetic32_div : ∃ (s : State) (t w : Nat) (l : Loaded) (c : TaskCfg) (p : Instr × Nat × (Int
  → Int → Int)) (v : Nat), p ∈ ([(.thDiv, 59, Int.tdiv), (.thMod, 60, Int.tmod)] : List (Instr × Nat × (Int → Int →
  Int))) ∧ Executes s p.2.1 t l c w ∧ (wordOperand (fun i => uNat 32 i) (around s t c) w (workOf s t l)).toOption =
  some v ∧ 0 < v ∧ v < 2 ^ 32 :=
  ⟨thBoard [0x3B400005] { wacc := 0x7FFFFFFF }, 0, 0x3B400005, thLoaded [0x3B400005], thCfg, (.thDiv, 59, Int.tdiv), 5, by exact ⟨by simp, by decide⟩⟩

theorem witness_ThymeArithmetic32_divu : ∃ (s : State) (t w : Nat) (l : Loaded) (c : TaskCfg) (p : Instr × Nat ×
  (Nat → Nat → Nat)) (v : Nat), p ∈ ([(.thDivu, 61, fun a b => a / b), (.thModu, 62, fun a b => a % b), (.thAndw,
  65, fun a b => a &&& b), (.thOrw, 66, fun a b => a ||| b), (.thXorw, 67, fun a b => a ^^^ b)] : List (Instr × Nat
  × (Nat → Nat → Nat))) ∧ Executes s p.2.1 t l c w ∧ (wordOperand (fun i => uNat 32 i) (around s t c) w (workOf s t
  l)).toOption = some v ∧ (0 < v ∨ 65 ≤ p.2.1) :=
  ⟨thBoard [0x3D400005] { wacc := 0xFFFFFFFF }, 0, 0x3D400005, thLoaded [0x3D400005], thCfg, (.thDivu, 61, fun a b => a / b), 5, by exact ⟨by simp, by decide⟩⟩

theorem witness_ThymeArithmetic32_divZero : ∃ (s : State) (t w : Nat) (l : Loaded) (c : TaskCfg) (p : Instr × Nat),
  p ∈ ([(.thDiv, 59), (.thMod, 60), (.thDivu, 61), (.thModu, 62)] : List (Instr × Nat)) ∧ Executes s p.2 t l c w ∧
  (wordOperand (fun i => uNat 32 i) (around s t c) w (workOf s t l)).toOption = some 0 :=
  ⟨thBoard [0x3B400000] { wacc := 0xFFFFFFFF }, 0, 0x3B400000, thLoaded [0x3B400000], thCfg, (.thDiv, 59), by exact ⟨by simp, by decide⟩⟩

theorem witness_ThymeArithmetic32_operandIndex : ∃ (s : State) (t w : Nat) (l : Loaded) (c : TaskCfg) (p : Instr ×
  Nat), p ∈ ([(.thLdw, 40), (.thAdd, 56), (.thSub, 57), (.thMul, 58), (.thDiv, 59), (.thMod, 60), (.thDivu, 61),
  (.thModu, 62), (.thAndw, 65), (.thOrw, 66), (.thXorw, 67)] : List (Instr × Nat)) ∧ Executes s p.2 t l c w ∧
  (wordOperand (fun i => uNat 32 i) (around s t c) w (workOf s t l)).toOption = none :=
  ⟨thBoard [0x38000009] {}, 0, 0x38000009, thLoaded [0x38000009], thCfg, (.thAdd, 56), by exact ⟨by simp, by decide⟩⟩

theorem witness_ThymeArithmetic32_neg : ∃ (s : State) (t w : Nat) (l : Loaded) (c : TaskCfg), Executes s 63 t l c w
  :=
  ⟨thBoard [0x3F000000] { wacc := 5 }, 0, 0x3F000000, thLoaded [0x3F000000], thCfg, by decide⟩

theorem witness_ThymeArithmetic32_abs : ∃ (s : State) (t w : Nat) (l : Loaded) (c : TaskCfg), Executes s 64 t l c w
  :=
  ⟨thBoard [0x40000000] { wacc := 0x80000000 }, 0, 0x40000000, thLoaded [0x40000000], thCfg, by decide⟩

theorem witness_ThymeArithmetic32_shift : ∃ (s : State) (t w : Nat) (l : Loaded) (c : TaskCfg) (p : Instr × Nat ×
  (Word → Nat → Word)), p ∈ ([(.thNotw, 68, fun a _ => ~~~a), (.thShl, 69, fun a n => a <<< n), (.thShr, 70, fun a n
  => a >>> n), (.thSar, 71, fun a n => a.sshiftRight n), (.thRol, 72, fun a n => a.rotateLeft n)] : List (Instr ×
  Nat × (Word → Nat → Word))) ∧ Executes s p.2.1 t l c w :=
  ⟨thBoard [0x47000003] { wacc := 0x80000005 }, 0, 0x47000003, thLoaded [0x47000003], thCfg, (.thSar, 71, fun a n => a.sshiftRight n), by exact ⟨by simp, by decide⟩⟩

theorem witness_ThymeArithmetic64_add : ∃ (s : State) (t w : Nat) (l : Loaded) (c : TaskCfg) (p : Instr × Nat × (Int
  → Int → Int)) (v : Nat), p ∈ ([(.thAdd64, 80, fun a b => a + b), (.thSub64, 81, fun a b => a - b), (.thMul64, 82,
  fun a b => a * b)] : List (Instr × Nat × (Int → Int → Int))) ∧ Executes s p.2.1 t l c w ∧ (wideOperand (fun i =>
  uNat 64 i) (around s t c) w (workOf s t l)).toOption = some v :=
  ⟨thBoard [0x50400005] { wacc := 0xFFFFFFFF, wext := 0x7FFFFFFF }, 0, 0x50400005, thLoaded [0x50400005], thCfg, (.thAdd64, 80, fun a b => a + b), 5, by exact ⟨by simp, by decide⟩⟩

theorem witness_ThymeArithmetic64_div : ∃ (s : State) (t w : Nat) (l : Loaded) (c : TaskCfg) (p : Instr × Nat × (Int
  → Int → Int)) (v : Nat), p ∈ ([(.thDiv64, 83, Int.tdiv), (.thMod64, 84, Int.tmod)] : List (Instr × Nat × (Int →
  Int → Int))) ∧ Executes s p.2.1 t l c w ∧ (wideOperand (fun i => uNat 64 i) (around s t c) w (workOf s t
  l)).toOption = some v ∧ 0 < v ∧ v < 2 ^ 64 :=
  ⟨thBoard [0x53400005] { wacc := 0xFFFFFFFF, wext := 0x7FFFFFFF }, 0, 0x53400005, thLoaded [0x53400005], thCfg, (.thDiv64, 83, Int.tdiv), 5, by exact ⟨by simp, by decide⟩⟩

theorem witness_ThymeArithmetic64_divZero : ∃ (s : State) (t w : Nat) (l : Loaded) (c : TaskCfg) (p : Instr × Nat),
  p ∈ ([(.thDiv64, 83), (.thMod64, 84)] : List (Instr × Nat)) ∧ Executes s p.2 t l c w ∧ (wideOperand (fun i => uNat
  64 i) (around s t c) w (workOf s t l)).toOption = some 0 :=
  ⟨thBoard [0x53400000] { wacc := 0xFFFFFFFF }, 0, 0x53400000, thLoaded [0x53400000], thCfg, (.thDiv64, 83), by exact ⟨by simp, by decide⟩⟩

theorem witness_ThymeArithmetic64_operandIndex : ∃ (s : State) (t w : Nat) (l : Loaded) (c : TaskCfg) (p : Instr ×
  Nat), p ∈ ([(.thLdw64, 48), (.thAdd64, 80), (.thSub64, 81), (.thMul64, 82), (.thDiv64, 83), (.thMod64, 84),
  (.thCmpl, 115)] : List (Instr × Nat)) ∧ Executes s p.2 t l c w ∧ (wideOperand (fun i => uNat 64 i) (around s t c)
  w (workOf s t l)).toOption = none :=
  ⟨thBoard [0x50000007] {}, 0, 0x50000007, thLoaded [0x50000007], thCfg, (.thAdd64, 80), by exact ⟨by simp, by decide⟩⟩

theorem witness_ThymeArithmetic64_cmp32 : ∃ (s : State) (t w : Nat) (l : Loaded) (c : TaskCfg) (p : Instr × Nat ×
  (Nat → Nat → Option Ordering)) (v : Nat) (g : Bool), p ∈ ([(.thCmpi, 112, fun a b => cmpInt (sInt 32 a) (sInt 32
  b)), (.thCmpu, 113, fun a b => cmpInt a b)] : List (Instr × Nat × (Nat → Nat → Option Ordering))) ∧ Executes s
  p.2.1 t l c w ∧ (wordOperand (fun i => uNat 32 i) (around s t c) w (workOf s t l)).toOption = some v ∧ g =
  relation (w / 2 ^ 16 % 16) (p.2.2 ((workOf s t l).m.wacc.toNat) v) :=
  ⟨thBoard [0x70400006] { wacc := 5 }, 0, 0x70400006, thLoaded [0x70400006], thCfg, (.thCmpi, 112, fun a b => cmpInt (sInt 32 a) (sInt 32 b)), 6, false, by exact ⟨by simp, by decide⟩⟩

theorem witness_ThymeArithmetic64_cmpF32 : ∃ (s : State) (t w : Nat) (l : Loaded) (c : TaskCfg) (p : Instr × Nat ×
  (Nat → Nat → Option Ordering)) (v : Nat) (g : Bool), p ∈ ([(.thCmpf, 114, fcmp fmt32)] : List (Instr × Nat × (Nat
  → Nat → Option Ordering))) ∧ Executes s p.2.1 t l c w ∧ (wordOperand (fofInt fmt32) (around s t c) w (workOf s t
  l)).toOption = some v ∧ g = relation (w / 2 ^ 16 % 16) (p.2.2 ((workOf s t l).m.wacc.toNat) v) :=
  ⟨thBoard [0x72640023] { wacc := 5 }, 0, 0x72640023, thLoaded [0x72640023], thCfg, (.thCmpf, 114, fcmp fmt32), 0x420C0000, false, by exact ⟨by simp, by decide⟩⟩

theorem witness_ThymeArithmetic64_cmp64 : ∃ (s : State) (t w : Nat) (l : Loaded) (c : TaskCfg) (p : Instr × Nat ×
  (Nat → Nat → Option Ordering)) (v : Nat) (g : Bool), p ∈ ([(.thCmpl, 115, fun a b => cmpInt (sInt 64 a) (sInt 64
  b))] : List (Instr × Nat × (Nat → Nat → Option Ordering))) ∧ Executes s p.2.1 t l c w ∧ (wideOperand (fun i =>
  uNat 64 i) (around s t c) w (workOf s t l)).toOption = some v ∧ g = relation (w / 2 ^ 16 % 16) (p.2.2 ((workOf s t
  l).m.wacc.toNat + (workOf s t l).m.wext.toNat * 2 ^ 32) v) :=
  ⟨thBoard [0x73400006] { wacc := 5 }, 0, 0x73400006, thLoaded [0x73400006], thCfg, (.thCmpl, 115, fun a b => cmpInt (sInt 64 a) (sInt 64 b)), 6, false, by exact ⟨by simp, by decide⟩⟩

theorem witness_ThymeArithmetic64_cmpF64 : ∃ (s : State) (t w : Nat) (l : Loaded) (c : TaskCfg) (p : Instr × Nat ×
  (Nat → Nat → Option Ordering)) (v : Nat) (g : Bool), p ∈ ([(.thCmpd, 116, fcmp fmt64)] : List (Instr × Nat × (Nat
  → Nat → Option Ordering))) ∧ Executes s p.2.1 t l c w ∧ (wideOperand (fofInt fmt64) (around s t c) w (workOf s t
  l)).toOption = some v ∧ g = relation (w / 2 ^ 16 % 16) (p.2.2 ((workOf s t l).m.wacc.toNat + (workOf s t
  l).m.wext.toNat * 2 ^ 32) v) :=
  ⟨thBoard [0x74640006] { wacc := 5 }, 0, 0x74640006, thLoaded [0x74640006], thCfg, (.thCmpd, 116, fcmp fmt64), 0x4018000000000000, false, by exact ⟨by simp, by decide⟩⟩

theorem witness_ThymeFloat_f32 : ∃ (s : State) (t w : Nat) (l : Loaded) (c : TaskCfg) (p : Instr × Nat × (Nat → Nat
  → Nat) × Bool) (v : Nat), p ∈ ([(.thAddf, 88, fadd fmt32, false), (.thSubf, 89, fsub fmt32, false), (.thMulf, 90,
  fmul fmt32, false), (.thDivf, 91, fdiv fmt32, true)] : List (Instr × Nat × (Nat → Nat → Nat) × Bool)) ∧ Executes s
  p.2.1 t l c w ∧ (wordOperand (fofInt fmt32) (around s t c) w (workOf s t l)).toOption = some v :=
  ⟨thBoard [0x5B600000] { wacc := 0x3F800000 }, 0, 0x5B600000, thLoaded [0x5B600000], thCfg, (.thDivf, 91, fdiv fmt32, true), 0, by exact ⟨by simp, by decide⟩⟩

theorem witness_ThymeFloat_f64 : ∃ (s : State) (t w : Nat) (l : Loaded) (c : TaskCfg) (p : Instr × Nat × (Nat → Nat
  → Nat) × Bool) (v : Nat), p ∈ ([(.thAddd, 96, fadd fmt64, false), (.thSubd, 97, fsub fmt64, false), (.thMuld, 98,
  fmul fmt64, false), (.thDivd, 99, fdiv fmt64, true)] : List (Instr × Nat × (Nat → Nat → Nat) × Bool)) ∧ Executes s
  p.2.1 t l c w ∧ (wideOperand (fofInt fmt64) (around s t c) w (workOf s t l)).toOption = some v :=
  ⟨thBoard [0x63600000] { wext := 0x3FF00000 }, 0, 0x63600000, thLoaded [0x63600000], thCfg, (.thDivd, 99, fdiv fmt64, true), 0, by exact ⟨by simp, by decide⟩⟩

theorem witness_ThymeFloat_index32 : ∃ (s : State) (t w : Nat) (l : Loaded) (c : TaskCfg) (p : Instr × Nat), p ∈
  ([(.thAddf, 88), (.thSubf, 89), (.thMulf, 90), (.thDivf, 91), (.thCmpf, 114)] : List (Instr × Nat)) ∧ Executes s
  p.2 t l c w ∧ (wordOperand (fofInt fmt32) (around s t c) w (workOf s t l)).toOption = none :=
  ⟨thBoard [0x5B000009] {}, 0, 0x5B000009, thLoaded [0x5B000009], thCfg, (.thDivf, 91), by exact ⟨by simp, by decide⟩⟩

theorem witness_ThymeFloat_index64 : ∃ (s : State) (t w : Nat) (l : Loaded) (c : TaskCfg) (p : Instr × Nat), p ∈
  ([(.thAddd, 96), (.thSubd, 97), (.thMuld, 98), (.thDivd, 99), (.thCmpd, 116)] : List (Instr × Nat)) ∧ Executes s
  p.2 t l c w ∧ (wideOperand (fofInt fmt64) (around s t c) w (workOf s t l)).toOption = none :=
  ⟨thBoard [0x63000007] {}, 0, 0x63000007, thLoaded [0x63000007], thCfg, (.thDivd, 99), by exact ⟨by simp, by decide⟩⟩

theorem witness_ThymeFloat_conv32 : ∃ (s : State) (t w : Nat) (l : Loaded) (c : TaskCfg) (p : Instr × Nat × (Nat →
  Nat × Bool)), p ∈ ([(.thSqrtf, 92, fun a => (fsqrt fmt32 a, flt fmt32 a 0)), (.thAbsf, 93, fun a => (a % 2 ^ 31,
  false)), (.thNegf, 94, fun a => ((a + 2 ^ 31) % 2 ^ 32, false)), (.thItof, 104, fun a => (fofInt fmt32 (sInt 32
  a), false)), (.thUtof, 105, fun a => (fofInt fmt32 a, false)), (.thFtoi, 106, fun a => (uNat 32 (ftoInt fmt32 32
  a).1, (ftoInt fmt32 32 a).2))] : List (Instr × Nat × (Nat → Nat × Bool))) ∧ Executes s p.2.1 t l c w :=
  ⟨thBoard [0x68000000] { wacc := 7 }, 0, 0x68000000, thLoaded [0x68000000], thCfg, (.thItof, 104, fun a => (fofInt fmt32 (sInt 32 a), false)), by exact ⟨by simp, by decide⟩⟩

theorem witness_ThymeFloat_conv64 : ∃ (s : State) (t w : Nat) (l : Loaded) (c : TaskCfg) (p : Instr × Nat × (Nat →
  Nat × Bool)), p ∈ ([(.thSqrtd, 100, fun a => (fsqrt fmt64 a, flt fmt64 a 0)), (.thDtof, 108, fun a => (fconv fmt64
  fmt32 a, fisFin fmt64 a && !fisFin fmt32 (fconv fmt64 fmt32 a))), (.thLtod, 110, fun a => (fofInt fmt64 (sInt 64
  a), false)), (.thDtol, 111, fun a => (uNat 64 (ftoInt fmt64 64 a).1, (ftoInt fmt64 64 a).2)), (.thFtod, 107, fun a
  => (fconv fmt32 fmt64 (a % 2 ^ 32), false)), (.thItol, 109, fun a => (uNat 64 (sInt 32 a), false))] : List (Instr
  × Nat × (Nat → Nat × Bool))) ∧ Executes s p.2.1 t l c w :=
  ⟨thBoard [0x6B000000] { wacc := 0x3F800000 }, 0, 0x6B000000, thLoaded [0x6B000000], thCfg, (.thFtod, 107, fun a => (fconv fmt32 fmt64 (a % 2 ^ 32), false)), by exact ⟨by simp, by decide⟩⟩

theorem witness_RegisterAccess_rc : ∃ (s : State) (by_ : Agent) (a : Nat) (row : RegRow), Reaches s by_ a 0 false ∧
  specialRead (met s by_ a) a = none ∧ regRow a = some row ∧ row.rc = true :=
  ⟨(board.setReg (rIslRefused 4) 3), .steward, rIslRefused 4, ((regRow (rIslRefused 4)).getD { base := 0 }), by decide⟩

theorem witness_RegisterAccess_read : ∃ (s : State) (by_ : Agent) (a : Nat) (row : RegRow), Reaches s by_ a 0 false
  ∧ specialRead (met s by_ a) a = none ∧ regRow a = some row ∧ row.rc = false :=
  ⟨(board.setReg rThEventEn 3), .core1, rThEventEn, ((regRow (rThEventEn)).getD { base := 0 }), by decide⟩

theorem witness_RegisterAccess_write : ∃ (s : State) (by_ : Agent) (a : Nat) (v : Word) (row : RegRow), Reaches s
  by_ a v.toNat true ∧ specialWrite (met s by_ a) by_ a v.toNat = none ∧ regRow a = some row ∧ row.rc = false ∧ a ≠
  rThCtrl ∧ (addrBlk a ≠ 0 ∨ addrOff a ≠ 0x00C) :=
  ⟨(board.setReg rThEvent 7), .steward, rThEvent, 2, ((regRow (rThEvent)).getD { base := 0 }), by decide⟩

theorem witness_RegisterAccess_writeRc : ∃ (s : State) (by_ : Agent) (a : Nat) (v : Word) (row : RegRow), Reaches s
  by_ a v.toNat true ∧ specialWrite (met s by_ a) by_ a v.toNat = none ∧ regRow a = some row ∧ row.rc = true ∧ a ≠
  rThCtrl ∧ (addrBlk a ≠ 0 ∨ addrOff a ≠ 0x00C) :=
  ⟨(board.setReg (rIslRefused 4) 3), .steward, rIslRefused 4, 0, ((regRow (rIslRefused 4)).getD { base := 0 }), by decide⟩

theorem witness_RegisterAccess_refused : ∃ (s : State) (by_ : Agent) (i : Instr) (a : Nat) (v : Word) (st : Nat),
  ((i = .rcRead by_ ⟨a, 4⟩ ∧ st = gate s by_ a 0 false) ∨ (i = .registerWrite by_ ⟨a, 4⟩ v ∧ st = gate s by_ a v.toNat true))
  ∧ st ≠ 0 ∧ st ≠ 1 ∧ s.running (agentIsland by_) = true ∧ (by_ = .spi → spiOpen s = true) :=
  ⟨board, .core1, .registerWrite .core1 ⟨rThEvent, 4⟩ 1, rThEvent, 1, stNotPermitted, by decide⟩

theorem witness_RegisterAccess_width : ∃ (s : State) (by_ : Agent) (i : Instr) (a n : Nat) (v : Word), (i = .rcRead
  by_ ⟨a, n⟩ ∨ i = .registerWrite by_ ⟨a, n⟩ v) ∧ n ≠ 4 ∧ s.running (agentIsland by_) = true ∧ (by_ = .spi → spiOpen s =
  true) :=
  ⟨board, .core1, .rcRead .core1 ⟨rThEvent, 8⟩, rThEvent, 8, 0, by exact ⟨.inl rfl, by decide⟩⟩

theorem witness_AbsentRegisters_block : ∃ (s : State) (by_ : Agent) (i : Instr) (a : Nat) (v : Word), (i = .rcRead
  by_ ⟨a, 4⟩ ∨ i = .registerWrite by_ ⟨a, 4⟩ v) ∧ (12 ≤ addrIsl a ∨ (addrBlk a ≠ 0 ∧ (islandBlocks (addrIsl a)).contains
  (addrBlk a) = false)) ∧ s.running (agentIsland by_) = true ∧ (by_ = .spi → spiOpen s = true) :=
  ⟨board, .steward, .rcRead .steward ⟨0xC0000000, 4⟩, 0xC0000000, 0, by decide⟩

theorem witness_AbsentRegisters_readsZero : ∃ (s : State) (by_ : Agent) (a : Nat), Reaches s by_ a 0 false ∧
  specialRead (met s by_ a) a = none ∧ regRow a = none :=
  ⟨board, .steward, 0x90000030, by decide⟩

theorem witness_AbsentRegisters_ignores : ∃ (s : State) (by_ : Agent) (a : Nat) (v : Word), Reaches s by_ a v.toNat
  true ∧ specialWrite (met s by_ a) by_ a v.toNat = none ∧ regRow a = none ∧ a ≠ rThCtrl ∧ (addrBlk a ≠ 0 ∨ addrOff
  a ≠ 0x00C) :=
  ⟨board, .steward, 0x90000030, 5, by decide⟩

theorem witness_SpiAndDoorbells_read : ∃ (s : State) (i : Instr) (a n : Nat), (i = .spiRead a n ∨ i = .readQuad a n)
  ∧ spiOpen s = true ∧ (s.isl iSAGE).state = .run ∧ a < 0x20000 :=
  ⟨{ board with mail := { board.mail with buf := [(8, 9)] } }, .readQuad 7 3, 7, 3, by decide⟩

theorem witness_SpiAndDoorbells_write : ∃ (s : State) (i : Instr) (a : Nat) (d : List Byte), (i = .spiWrite a d ∨ i
  = .writeQuad a d) ∧ spiOpen s = true ∧ (s.isl iSAGE).state = .run ∧ s.mail.buf.wf = true ∧ a < 0x20000 ∧ a /
  0x1000 % 2 = 0 ∧ 0 < d.length ∧ d.length ≤ 4096 ∧ ((s.box (a / 0x2000)).state = .idle ∨ (s.box (a / 0x2000)).state
  = .done) :=
  ⟨board, .spiWrite 0x2FFE [1, 2, 3], 0x2FFE, [1, 2, 3], by decide⟩

theorem witness_SpiAndDoorbells_locked : ∃ (s : State) (i : Instr) (a : Nat) (d : List Byte), (i = .spiWrite a d ∨ i
  = .writeQuad a d) ∧ spiOpen s = true ∧ (s.isl iSAGE).state = .run ∧ a < 0x20000 ∧ a / 0x1000 % 2 = 0 ∧ 0 <
  d.length ∧ ((s.box (a / 0x2000)).state = .working ∨ (s.box (a / 0x2000)).state = .pending) :=
  ⟨board.setBox 1 { state := .working }, .spiWrite 0x2FFE [1, 2, 3], 0x2FFE, [1, 2, 3], by decide⟩

theorem witness_SpiAndDoorbells_ignored : ∃ (s : State) (i : Instr) (a : Nat) (d : List Byte), (i = .spiWrite a d ∨
  i = .writeQuad a d) ∧ (spiOpen s = false ∨ ((s.isl iSAGE).state = .run ∧ ((a < 0x20000 ∧ a / 0x1000 % 2 = 1) ∨
  (0x20000 ≤ a ∧ a + d.length ≤ 0x100000)))) ∧ a < 2 ^ 24 :=
  ⟨board, .writeQuad 0x1000 [1, 2, 3], 0x1000, [1, 2, 3], by decide⟩

theorem witness_SpiAndDoorbells_closed : ∃ (s : State) (i : Instr) (a n : Nat), (i = .spiRead a n ∨ i = .readQuad a
  n) ∧ spiOpen s = false :=
  ⟨State.reset, .spiRead 7 3, 7, 3, by decide⟩

theorem witness_SpiAndDoorbells_accepted : ∃ (s : State) (m : Nat), spiOpen s = true ∧ (s.isl iSAGE).state = .run ∧
  m < 16 ∧ ((s.box m).state = .idle ∨ (s.box m).state = .done) :=
  ⟨board, 3, by decide⟩

theorem witness_SpiAndDoorbells_lost : ∃ (s : State) (m : Nat), spiOpen s = true ∧ (s.isl iSAGE).state = .run ∧ m <
  16 ∧ ((s.box m).state = .working ∨ (s.box m).state = .pending) :=
  ⟨board.setBox 3 { state := .pending }, 3, by decide⟩

theorem witness_SpiAndDoorbells_inside : ∃ (s : State) (by_ : Agent) (v : Word), by_ ≠ .spi ∧ s.running (agentIsland
  by_) = true ∧ (s.isl iSAGE).state = .run :=
  ⟨board, .steward, 8, by decide⟩

theorem witness_SpiAndDoorbells_timeout : ∃ (s : State) (code : Nat) (t : Transfer), transferOf s code = some t ∧
  t.last + 60 * nsSec ≤ s.now :=
  ⟨{ board with mail := { board.mail with transfers := [{ command := 0x0301, route := .mailbox 0, tag := 1, total := 9, data := [1], received := 1, last := 0, check := 0 }] }, clock := { board.clock with up := 61000000000 } }, 0x0301, { command := 0x0301, route := .mailbox 0, tag := 1, total := 9, data := [1], received := 1, last := 0, check := 0 }, by decide⟩

theorem witness_SpiAndDoorbells_early : ∃ (s : State) (code : Nat), (transferOf s code = none ∨ (∀ t ∈
  s.mail.transfers, s.now < t.last + 60 * nsSec)) :=
  ⟨board, 0x0301, by decide⟩

theorem witness_InterruptEffect_claim : ∃ (s : State) (by_ : Agent) (t n : Nat), t < 3 ∧ Reaches s by_ (rIcTClaim t)
  0 false ∧ (s.target t).frozen = false ∧ n ≠ 0 ∧ deliverable (met s by_ (rIcTClaim t)) t n = true ∧ (∀ k ∈
  sourceNumbers, deliverable (met s by_ (rIcTClaim t)) t k = true → srcPrio s k < srcPrio s n ∨ (srcPrio s k =
  srcPrio s n ∧ n ≤ k)) ∧ n ∈ sourceNumbers :=
  ⟨{ board.setReg (rIcSrc 130) 0x104 with irq := { board.irq with soft := [130] } }, .steward, 0, 130, by decide⟩

theorem witness_InterruptEffect_complete : ∃ (s : State) (by_ : Agent) (t n : Nat) (v : Word), t < 3 ∧ Reaches s by_
  (rIcTComplete t) v.toNat true ∧ (s.target t).frozen = false ∧ v.toNat % 256 = n ∧ n ≠ 0 ∧ ((s.target
  t).stack.head?.map Prod.fst) = some n ∧ tabWf s.irq.held = true :=
  ⟨{ board with irq := { board.irq with targets := [(0, { stack := [(130, 4)] })], active := [130] } }, .steward, 0, 130, 130, by decide⟩

theorem witness_InterruptEffect_order : ∃ (s : State) (by_ : Agent) (t : Nat) (v : Word), t < 3 ∧ Reaches s by_
  (rIcTComplete t) v.toNat true ∧ (s.target t).frozen = false ∧ v.toNat % 256 ≠ 0 ∧ (s.target t).top.1 ≠ v.toNat %
  256 ∧ (s.target t).top.1 < 256 :=
  ⟨{ board with irq := { board.irq with targets := [(0, { stack := [(130, 4)] })], active := [130] } }, .steward, 0, 21, by decide⟩

theorem witness_InterruptEffect_unfreeze : ∃ (s : State) (by_ : Agent) (t : Nat) (v : Word), t < 3 ∧ Reaches s by_
  (rIcTCtrl t) v.toNat true ∧ (s.target t).frozen = true ∧ bitOf v.toNat 0 = true :=
  ⟨{ board with irq := { board.irq with targets := [(0, { stack := [(130, 4)], frozen := true })], active := [130, 7] } }, .steward, 0, 1, by decide⟩

theorem witness_InterruptEffect_swset : ∃ (s : State) (by_ : Agent) (n : Nat) (v : Word), Reaches s by_ rIcSwSet
  v.toNat true ∧ v.toNat % 256 = n ∧ 128 ≤ n ∧ s.irq.soft.contains n = false :=
  ⟨board, .core1, 200, 200, by decide⟩

theorem witness_InterruptEffect_swclr : ∃ (s : State) (by_ : Agent) (v : Word), Reaches s by_ rIcSwClr v.toNat true
  :=
  ⟨board, .core1, 200, by decide⟩

theorem witness_InterruptEffect_source : ∃ (s : State) (by_ : Agent) (n : Nat) (v : Word), n < 256 ∧ by_ ≠ .core1 ∧
  Reaches s by_ (rIcSrc n) v.toNat true ∧ s.irq.active.contains n = false ∧ (n < 48 ∨ 50 < n ∨ v.toNat / 16 % 4 ≠ n
  - 48) :=
  ⟨board, .steward, 21, 0x114, by decide⟩

theorem witness_InterruptEffect_orderSource : ∃ (s : State) (by_ : Agent) (n : Nat) (v : Word), 48 ≤ n ∧ n ≤ 50 ∧
  by_ ≠ .core1 ∧ Reaches s by_ (rIcSrc n) v.toNat true ∧ v.toNat / 16 % 4 = n - 48 :=
  ⟨board, .steward, 49, 0x114, by decide⟩

theorem witness_InterruptEffect_heldSource : ∃ (s : State) (by_ : Agent) (n : Nat) (v : Word), n < 256 ∧ by_ ≠
  .core1 ∧ Reaches s by_ (rIcSrc n) v.toNat true ∧ s.irq.active.contains n = true ∧ (n < 48 ∨ 50 < n ∨ v.toNat / 16
  % 4 ≠ n - 48) ∧ v.toNat % 64 ≠ s.rfield (rIcSrc n) 0 6 :=
  ⟨{ board with irq := { board.irq with active := [21] } }, .steward, 21, 0x114, by decide⟩

theorem witness_InterruptEffect_moderation : ∃ (s : State) (by_ : Agent) (t e : Nat), t < 3 ∧ (targetIdle s t = true
  ∨ (s.target t).holdUntil = some e ∧ e ≤ s.now) :=
  ⟨{ board with irq := { board.irq with targets := [(0, { holdUntil := some 0 })] } }, .steward, 0, 0, by decide⟩

theorem witness_SpuriousClaim_claim : ∃ (s : State) (by_ : Agent) (t : Nat), t < 3 ∧ Reaches s by_ (rIcTClaim t) 0
  false ∧ (∀ k ∈ sourceNumbers, deliverable (met s by_ (rIcTClaim t)) t k = false) :=
  ⟨board, .steward, 0, by decide⟩

theorem witness_SpuriousClaim_zero : ∃ (s : State) (by_ : Agent) (t : Nat) (v : Word), t < 3 ∧ Reaches s by_
  (rIcTComplete t) v.toNat true ∧ v.toNat % 256 = 0 :=
  ⟨board, .steward, 0, 256, by decide⟩

theorem witness_CheckUnitEffect_start : ∃ (s : State) (by_ : Agent) (c : Nat) (v : Word), 10 ≤ c ∧ c < 16 ∧ Reaches
  s by_ (rChkCtrl c) (v.toNat ||| 0x100) true ∧ bitOf v.toNat 9 = false ∧ (s.chkChan c).aborts ≤ 0xFFFFFFFF :=
  ⟨board, .steward, 12, 5, by decide⟩

theorem witness_CheckUnitEffect_feed : ∃ (s : State) (by_ : Agent) (c : Nat) (v : Word) (p : Instr × Nat × Nat), p ∈
  ([(.chkIn8Write by_ c v, rChkIn8 c, 1), (.chkIn16Write by_ c v, rChkIn16 c, 2), (.chkIn32Write by_ c v, rChkIn32
  c, 4)] : List (Instr × Nat × Nat)) ∧ 10 ≤ c ∧ c < 16 ∧ Reaches s by_ p.2.1 v.toNat true :=
  ⟨board.setChkChan 12 { poly := 0, dir := false, value := 0xFFFFFFFF, running := true }, .steward, 12, 0x3231, (.chkIn16Write .steward 12 0x3231, rChkIn16 12, 2), by exact ⟨by simp, by decide⟩⟩

theorem witness_CheckUnitEffect_held : ∃ (s : State) (by_ : Agent) (x : ChkChan) (bs : List Byte) (k : Nat), (k = if
  x.dir = true then polyWidth x.poly else 0) :=
  ⟨board, .steward, { poly := 3, dir := true, value := 0, running := true }, [1, 2], 1, by decide⟩

theorem witness_CheckUnitEffect_finish : ∃ (s : State) (by_ : Agent) (c : Nat) (v : Word), 10 ≤ c ∧ c < 16 ∧ Reaches
  s by_ (rChkCtrl c) (v.toNat ||| 0x200) true ∧ bitOf v.toNat 8 = false ∧ (s.chkChan c).running = true ∧ ((s.chkChan
  c).dir = false ∨ polyWidth (s.chkChan c).poly ≤ (s.chkChan c).held.length) ∧ (s.chkChan c).units ≤ 0xFFFFFFFF ∧
  (s.chkChan c).fails ≤ 0xFFFFFFFF :=
  ⟨board.setChkChan 12 { poly := 3, dir := true, value := 5, held := [4], running := true }, .steward, 12, 0, by decide⟩

theorem witness_CheckUnitEffect_short : ∃ (s : State) (by_ : Agent) (c : Nat) (v : Word), 10 ≤ c ∧ c < 16 ∧ Reaches
  s by_ (rChkCtrl c) (v.toNat ||| 0x200) true ∧ bitOf v.toNat 8 = false ∧ (s.chkChan c).running = true ∧ (s.chkChan
  c).dir = true ∧ (s.chkChan c).held.length < polyWidth (s.chkChan c).poly ∧ (s.chkChan c).aborts ≤ 0xFFFFFFFF :=
  ⟨board.setChkChan 12 { poly := 1, dir := true, value := 5, held := [4], running := true }, .steward, 12, 0, by decide⟩

theorem witness_CheckUnitEffect_system : ∃ (s : State) (by_ : Agent) (c : Nat) (v : Word) (p : Instr × Nat × Nat), p
  ∈ ([(.chkStart by_ c v, rChkCtrl c, v.toNat ||| 0x100), (.chkFinish by_ c v, rChkCtrl c, v.toNat ||| 0x200),
  (.chkIn8Write by_ c v, rChkIn8 c, v.toNat)] : List (Instr × Nat × Nat)) ∧ c < 10 ∧ Reaches s by_ p.2.1 p.2.2 true
  :=
  ⟨board, .steward, 3, 0, (.chkStart .steward 3 0, rChkCtrl 3, 0x100), by exact ⟨by simp, by decide⟩⟩

theorem witness_SessionSteps_hello : ∃ (s : State) (n : Nat) (p : List Byte), stewardReady s = true ∧ s.rbit rMbCtrl
  1 = true ∧ tabGet s.mail.sessions n = none ∧ helloOk s n p = true ∧ vaultUp s = true :=
  ⟨({ (tenantBoard.setReg rMbCtrl 7) with vault := { tenantBoard.vault with ready := true } }), 4, (leBytes 2 1 ++ leBytes 32 0 ++ leBytes 2 5 ++ leBytes 1 1 ++ leBytes 1 0 ++ leBytes 4 1), by decide⟩

theorem witness_SessionSteps_helloRefused : ∃ (s : State) (n : Nat) (p : List Byte), stewardReady s = true ∧ s.rbit
  rMbCtrl 1 = true ∧ tabGet s.mail.sessions n = none ∧ (helloOk s n p = false ∨ vaultUp s = false) :=
  ⟨({ (tenantBoard.setReg rMbCtrl 7) with vault := { tenantBoard.vault with ready := true } }), 4, [1], by decide⟩

theorem witness_SessionSteps_accept : ∃ (s : State) (n : Nat) (p : List Byte) (x : Session), stewardReady s = true ∧
  tabGet s.mail.sessions n = some x ∧ x.stage = .offered ∧ p.length = 1568 ∧ vaultUp s = true :=
  ⟨({ ({ (tenantBoard.setReg rMbCtrl 7) with vault := { tenantBoard.vault with ready := true } }) with mail := { ({ (tenantBoard.setReg rMbCtrl 7) with vault := { tenantBoard.vault with ready := true } }).mail with sessions := [(4, { stage := .offered, id := 9, tenant := 0, role := 1, credential := 1, transcript := [], kemSeed := 3, keys := 2, rxNext := 0, txNext := 0, heard := 0, kept := [] })] } }), 4, leBytes 1568 0, { stage := .offered, id := 9, tenant := 0, role := 1, credential := 1, transcript := [], kemSeed := 3, keys := 2, rxNext := 0, txNext := 0, heard := 0, kept := [] }, by decide⟩

theorem witness_SessionSteps_acceptRefused : ∃ (s : State) (n : Nat) (p : List Byte) (x : Session), stewardReady s =
  true ∧ tabGet s.mail.sessions n = some x ∧ x.stage = .offered ∧ (p.length ≠ 1568 ∨ vaultUp s = false) :=
  ⟨({ ({ (tenantBoard.setReg rMbCtrl 7) with vault := { tenantBoard.vault with ready := true } }) with mail := { ({ (tenantBoard.setReg rMbCtrl 7) with vault := { tenantBoard.vault with ready := true } }).mail with sessions := [(4, { stage := .offered, id := 9, tenant := 0, role := 1, credential := 1, transcript := [], kemSeed := 3, keys := 2, rxNext := 0, txNext := 0, heard := 0, kept := [] })] } }), 4, [], { stage := .offered, id := 9, tenant := 0, role := 1, credential := 1, transcript := [], kemSeed := 3, keys := 2, rxNext := 0, txNext := 0, heard := 0, kept := [] }, by decide⟩

theorem witness_SessionSteps_proof : ∃ (s : State) (n : Nat) (p : List Byte) (x : Session), stewardReady s = true ∧
  tabGet s.mail.sessions n = some x ∧ x.stage = .accepted ∧ vaultUp s = true :=
  ⟨({ ({ (tenantBoard.setReg rMbCtrl 7) with vault := { tenantBoard.vault with ready := true } }) with mail := { ({ (tenantBoard.setReg rMbCtrl 7) with vault := { tenantBoard.vault with ready := true } }).mail with sessions := [(4, { stage := .accepted, id := 9, tenant := 0, role := 1, credential := 1, transcript := [], kemSeed := 3, keys := 2, rxNext := 0, txNext := 0, heard := 0, kept := [] })] } }), 4, [], { stage := .accepted, id := 9, tenant := 0, role := 1, credential := 1, transcript := [], kemSeed := 3, keys := 2, rxNext := 0, txNext := 0, heard := 0, kept := [] }, by decide⟩

theorem witness_SessionSteps_record : ∃ (s : State) (n : Nat) (p : List Byte) (x : Session), stewardReady s = true ∧
  tabGet s.mail.sessions n = some x ∧ x.stage = .established :=
  ⟨({ ({ (tenantBoard.setReg rMbCtrl 7) with vault := { tenantBoard.vault with ready := true } }) with mail := { ({ (tenantBoard.setReg rMbCtrl 7) with vault := { tenantBoard.vault with ready := true } }).mail with sessions := [(4, { stage := .established, id := 9, tenant := 0, role := 1, credential := 1, transcript := [], kemSeed := 3, keys := 2, rxNext := 0, txNext := 0, heard := 0, kept := [] })] } }), 4, [], { stage := .established, id := 9, tenant := 0, role := 1, credential := 1, transcript := [], kemSeed := 3, keys := 2, rxNext := 0, txNext := 0, heard := 0, kept := [] }, by decide⟩

theorem witness_SessionSteps_close : ∃ (s : State) (i : Instr) (n : Nat) (x : Session), (i = .sessionTcpClose n ∨ (i
  = .sessionIdleTimeout n ∧ s.running iSAGE = true ∧ x.heard + max 10 (s.rfield rMbCtrl 8 8) * nsSec ≤ s.now)) ∧
  tabGet s.mail.sessions n = some x :=
  ⟨({ ({ (tenantBoard.setReg rMbCtrl 7) with vault := { tenantBoard.vault with ready := true } }) with mail := { ({ (tenantBoard.setReg rMbCtrl 7) with vault := { tenantBoard.vault with ready := true } }).mail with sessions := [(4, { stage := .established, id := 9, tenant := 0, role := 1, credential := 1, transcript := [], kemSeed := 3, keys := 2, rxNext := 0, txNext := 0, heard := 0, kept := [] })] } }), .sessionTcpClose 4, 4, { stage := .established, id := 9, tenant := 0, role := 1, credential := 1, transcript := [], kemSeed := 3, keys := 2, rxNext := 0, txNext := 0, heard := 0, kept := [] }, by decide⟩

theorem witness_SessionSteps_idle : ∃ (s : State) (n : Nat) (x : Session), tabGet s.mail.sessions n = some x ∧ s.now
  < x.heard + max 10 (s.rfield rMbCtrl 8 8) * nsSec :=
  ⟨({ ({ (tenantBoard.setReg rMbCtrl 7) with vault := { tenantBoard.vault with ready := true } }) with mail := { ({ (tenantBoard.setReg rMbCtrl 7) with vault := { tenantBoard.vault with ready := true } }).mail with sessions := [(4, { stage := .established, id := 9, tenant := 0, role := 1, credential := 1, transcript := [], kemSeed := 3, keys := 2, rxNext := 0, txNext := 0, heard := 0, kept := [] })] } }), 4, { stage := .established, id := 9, tenant := 0, role := 1, credential := 1, transcript := [], kemSeed := 3, keys := 2, rxNext := 0, txNext := 0, heard := 0, kept := [] }, by decide⟩

theorem witness_BacnetServices_whoIs : ∃ (s : State) (n : Nat) (x : Session), tabGet s.mail.sessions n = some x ∧
  x.stage = .bacnet ∧ stewardReady s = true ∧ s.rbit rMbCtrl 2 = true :=
  ⟨({ ({ ({ (tenantBoard.setReg rMbCtrl 7) with vault := { tenantBoard.vault with ready := true } }) with mail := { ({ (tenantBoard.setReg rMbCtrl 7) with vault := { tenantBoard.vault with ready := true } }).mail with sessions := [(4, { stage := .bacnet, id := 9, tenant := 0, role := 1, credential := 1, transcript := [], kemSeed := 3, keys := 2, rxNext := 0, txNext := 0, heard := 0, kept := [] })] } }) with fabric := pointBoard.fabric, mail := { ({ ({ (tenantBoard.setReg rMbCtrl 7) with vault := { tenantBoard.vault with ready := true } }) with mail := { ({ (tenantBoard.setReg rMbCtrl 7) with vault := { tenantBoard.vault with ready := true } }).mail with sessions := [(4, { stage := .bacnet, id := 9, tenant := 0, role := 1, credential := 1, transcript := [], kemSeed := 3, keys := 2, rxNext := 0, txNext := 0, heard := 0, kept := [] })] } }).mail with bacObjects := [(7, { tenant := 0, type := 1, pt := 0x0100000, priority := List.replicate 16 none, relinquish := 0, configError := false })] } }), 4, { stage := .bacnet, id := 9, tenant := 0, role := 1, credential := 1, transcript := [], kemSeed := 3, keys := 2, rxNext := 0, txNext := 0, heard := 0, kept := [] }, by decide⟩

theorem witness_BacnetServices_unknown : ∃ (s : State) (n : Nat) (x : Session) (o p : Nat), tabGet s.mail.sessions n
  = some x ∧ x.stage = .bacnet ∧ stewardReady s = true ∧ s.rbit rMbCtrl 2 = true ∧ bacObj s x.tenant o = none :=
  ⟨bacBoard, 4, bacSession, 8, 85, by decide⟩

theorem witness_BacnetServices_read : ∃ (s : State) (n : Nat) (x : Session) (o p : Nat), tabGet s.mail.sessions n =
  some x ∧ x.stage = .bacnet ∧ stewardReady s = true ∧ s.rbit rMbCtrl 2 = true :=
  ⟨({ ({ ({ (tenantBoard.setReg rMbCtrl 7) with vault := { tenantBoard.vault with ready := true } }) with mail := { ({ (tenantBoard.setReg rMbCtrl 7) with vault := { tenantBoard.vault with ready := true } }).mail with sessions := [(4, { stage := .bacnet, id := 9, tenant := 0, role := 1, credential := 1, transcript := [], kemSeed := 3, keys := 2, rxNext := 0, txNext := 0, heard := 0, kept := [] })] } }) with fabric := pointBoard.fabric, mail := { ({ ({ (tenantBoard.setReg rMbCtrl 7) with vault := { tenantBoard.vault with ready := true } }) with mail := { ({ (tenantBoard.setReg rMbCtrl 7) with vault := { tenantBoard.vault with ready := true } }).mail with sessions := [(4, { stage := .bacnet, id := 9, tenant := 0, role := 1, credential := 1, transcript := [], kemSeed := 3, keys := 2, rxNext := 0, txNext := 0, heard := 0, kept := [] })] } }).mail with bacObjects := [(7, { tenant := 0, type := 1, pt := 0x0100000, priority := List.replicate 16 none, relinquish := 0, configError := false })] } }), 4, { stage := .bacnet, id := 9, tenant := 0, role := 1, credential := 1, transcript := [], kemSeed := 3, keys := 2, rxNext := 0, txNext := 0, heard := 0, kept := [] }, 7, 85, by decide⟩

theorem witness_BacnetServices_readMany : ∃ (s : State) (n : Nat) (x : Session) (l : List (Nat × Nat)), tabGet
  s.mail.sessions n = some x ∧ x.stage = .bacnet ∧ stewardReady s = true ∧ s.rbit rMbCtrl 2 = true :=
  ⟨({ ({ ({ (tenantBoard.setReg rMbCtrl 7) with vault := { tenantBoard.vault with ready := true } }) with mail := { ({ (tenantBoard.setReg rMbCtrl 7) with vault := { tenantBoard.vault with ready := true } }).mail with sessions := [(4, { stage := .bacnet, id := 9, tenant := 0, role := 1, credential := 1, transcript := [], kemSeed := 3, keys := 2, rxNext := 0, txNext := 0, heard := 0, kept := [] })] } }) with fabric := pointBoard.fabric, mail := { ({ ({ (tenantBoard.setReg rMbCtrl 7) with vault := { tenantBoard.vault with ready := true } }) with mail := { ({ (tenantBoard.setReg rMbCtrl 7) with vault := { tenantBoard.vault with ready := true } }).mail with sessions := [(4, { stage := .bacnet, id := 9, tenant := 0, role := 1, credential := 1, transcript := [], kemSeed := 3, keys := 2, rxNext := 0, txNext := 0, heard := 0, kept := [] })] } }).mail with bacObjects := [(7, { tenant := 0, type := 1, pt := 0x0100000, priority := List.replicate 16 none, relinquish := 0, configError := false })] } }), 4, { stage := .bacnet, id := 9, tenant := 0, role := 1, credential := 1, transcript := [], kemSeed := 3, keys := 2, rxNext := 0, txNext := 0, heard := 0, kept := [] }, [(7, 85), (8, 85)], by decide⟩

theorem witness_BacnetServices_subscribe : ∃ (s : State) (n : Nat) (x : Session) (o : Nat), tabGet s.mail.sessions n
  = some x ∧ x.stage = .bacnet ∧ stewardReady s = true ∧ s.rbit rMbCtrl 2 = true ∧ (bacObj s x.tenant o).isSome =
  true ∧ bacSubscribed s n o = false ∧ (s.mail.cov.filter (·.session == n)).length < 1024 :=
  ⟨bacBoard, 4, bacSession, 7, by decide⟩

theorem witness_BacnetServices_full : ∃ (s : State) (n : Nat) (x : Session) (o : Nat), tabGet s.mail.sessions n =
  some x ∧ x.stage = .bacnet ∧ stewardReady s = true ∧ s.rbit rMbCtrl 2 = true ∧ (bacObj s x.tenant o).isSome = true
  ∧ bacSubscribed s n o = false ∧ 1024 ≤ (s.mail.cov.filter (·.session == n)).length :=
  ⟨{ bacBoard with mail := { bacBoard.mail with cov := List.replicate 1024 { session := 4, object := 9, last := none } } }, 4, bacSession, 7, by decide +kernel⟩

theorem witness_BacnetServices_unsubscribe : ∃ (s : State) (n : Nat) (x : Session) (o : Nat), tabGet s.mail.sessions
  n = some x ∧ x.stage = .bacnet ∧ stewardReady s = true ∧ s.rbit rMbCtrl 2 = true ∧ (bacObj s x.tenant o).isSome =
  true :=
  ⟨{ bacBoard with mail := { bacBoard.mail with cov := [{ session := 4, object := 7, last := none }] } }, 4, bacSession, 7, by decide⟩

theorem witness_BacnetServices_denied : ∃ (s : State) (n : Nat) (x : Session) (o p pr : Nat) (v : Option Word64) (y
  : BacObject), tabGet s.mail.sessions n = some x ∧ x.stage = .bacnet ∧ stewardReady s = true ∧ s.rbit rMbCtrl 2 =
  true ∧ bacObj s x.tenant o = some y ∧ (p ≠ bpPresentValue ∨ bacCommandable y.type = false ∨ pr = 0 ∨ 16 < pr ∨
  s.twin.role = .standby) :=
  ⟨bacBoard, 4, bacSession, 7, 85, 17, none, bacObject, by decide⟩

theorem witness_BacnetServices_notify : ∃ (s : State) (n : Nat) (x : Session) (o : Nat) (c : CovSub) (y :
  BacObject), tabGet s.mail.sessions n = some x ∧ x.stage = .bacnet ∧ stewardReady s = true ∧ s.rbit rMbCtrl 2 =
  true ∧ s.mail.cov = [c] ∧ c.session = n ∧ c.object = o ∧ c.last = none ∧ bacObj s x.tenant o = some y ∧ Sound s
  y.pt ∧ (s.isl iPF).state = .run ∧ (s.isl iPF).draining = false ∧ (s.epochOf iSAGE iPF = 0 ∨ s.epochOf iSAGE iPF =
  (s.isl iPF).epoch) ∧ bitOf (rightsOf s (s.point y.pt) x.tenant) 0 = true ∧ bacFits y.type (s.point y.pt).type =
  true ∧ forceOf s y.pt = none :=
  ⟨{ bacBoard with mail := { bacBoard.mail with cov := [{ session := 4, object := 7, last := none }] } }, 4, bacSession, 7, { session := 4, object := 7, last := none }, bacObject, by decide⟩

theorem witness_BacnetServices_unsubscribed : ∃ (s : State) (n : Nat) (x : Session) (o : Nat), tabGet
  s.mail.sessions n = some x ∧ x.stage = .bacnet ∧ stewardReady s = true ∧ s.rbit rMbCtrl 2 = true ∧ bacSubscribed s
  n o = false :=
  ⟨bacBoard, 4, bacSession, 7, by decide⟩

theorem witness_BacnetServices_other : ∃ (s : State) (n : Nat) (x : Session) (k : Nat), tabGet s.mail.sessions n =
  some x ∧ x.stage = .bacnet ∧ stewardReady s = true ∧ s.rbit rMbCtrl 2 = true :=
  ⟨({ ({ ({ (tenantBoard.setReg rMbCtrl 7) with vault := { tenantBoard.vault with ready := true } }) with mail := { ({ (tenantBoard.setReg rMbCtrl 7) with vault := { tenantBoard.vault with ready := true } }).mail with sessions := [(4, { stage := .bacnet, id := 9, tenant := 0, role := 1, credential := 1, transcript := [], kemSeed := 3, keys := 2, rxNext := 0, txNext := 0, heard := 0, kept := [] })] } }) with fabric := pointBoard.fabric, mail := { ({ ({ (tenantBoard.setReg rMbCtrl 7) with vault := { tenantBoard.vault with ready := true } }) with mail := { ({ (tenantBoard.setReg rMbCtrl 7) with vault := { tenantBoard.vault with ready := true } }).mail with sessions := [(4, { stage := .bacnet, id := 9, tenant := 0, role := 1, credential := 1, transcript := [], kemSeed := 3, keys := 2, rxNext := 0, txNext := 0, heard := 0, kept := [] })] } }).mail with bacObjects := [(7, { tenant := 0, type := 1, pt := 0x0100000, priority := List.replicate 16 none, relinquish := 0, configError := false })] } }), 4, { stage := .bacnet, id := 9, tenant := 0, role := 1, credential := 1, transcript := [], kemSeed := 3, keys := 2, rxNext := 0, txNext := 0, heard := 0, kept := [] }, 99, by decide⟩

theorem witness_BacnetServices_ask : ∃ (s : State) (n : Nat) (t : Nat) (p f : List Byte), stewardReady s = true ∧ t
  < 0xFFF ∧ enrolled s t = true :=
  ⟨bacBoard, 4, 5, [1], [], by decide⟩

theorem witness_BacnetServices_connect : ∃ (s : State) (n : Nat) (t : Nat) (b : Bool), stewardReady s = true ∧
  bacMayConnect s n t b = true :=
  ⟨{ bacBoard with mail := { bacBoard.mail with bacHubs := [(5, { primary := [1], failover := [] })] }, vault := { bacBoard.vault with keys := [(1, { houseKey 1 3 with tenant := 5, credential := true, operational := some 2 })] } }, 6, 5, false, by decide⟩

theorem witness_BacnetServices_connected : ∃ (s : State) (n : Nat) (t : Nat) (b : Bool), stewardReady s = true ∧
  bacConnected s t = true :=
  ⟨bacBoard, 6, 0, true, by decide⟩

theorem witness_BacnetServices_map : ∃ (s : State) (n : Nat) (t o ty pt : Nat) (v : Word64), stewardReady s = true ∧
  (tabGet s.mail.bacHubs t).isSome = true ∧ bacFits ty (s.point pt).type = true ∧ s.mail.bacObjects.length < 65536 ∧
  (s.mail.bacObjects.filter fun p => p.2.tenant == t).length < 8192 :=
  ⟨{ bacBoard with mail := { bacBoard.mail with bacHubs := [(0, { primary := [1], failover := [] })] } }, 4, 0, 8, 1, 0x0100000, 0, by decide⟩

theorem witness_BacnetServices_mapFull : ∃ (s : State) (n : Nat) (t o ty pt : Nat) (v : Word64), stewardReady s =
  true ∧ (tabGet s.mail.bacHubs t).isSome = true ∧ bacFits ty (s.point pt).type = true ∧ bacObj s t o = none ∧
  (65536 ≤ s.mail.bacObjects.length ∨ 8192 ≤ (s.mail.bacObjects.filter fun p => p.2.tenant == t).length) :=
  ⟨{ bacBoard with mail := { bacBoard.mail with bacHubs := [(5, { primary := [1], failover := [] })], bacObjects := (List.range 8192).map fun k => (5 * 2 ^ 32 + k, { bacObject with tenant := 5 }) } }, 4, 5, 9000, 1, 0x0100000, 0, by decide +kernel⟩

theorem witness_CrossingEffect_stopped : ∃ (s : State) (q : XRequest), q.src < 12 ∧ q.dst < 12 ∧ q.src ≠ q.dst ∧
  q.slot < 32 ∧ q.gen < 8 ∧ s.running q.src = false :=
  ⟨board.setIsl 3 {}, crossAsk, by decide⟩

theorem witness_CrossingEffect_send : ∃ (s : State) (q p : XRequest), q.src < 12 ∧ q.dst < 12 ∧ q.src ≠ q.dst ∧
  q.slot < 32 ∧ q.gen < 8 ∧ s.running q.src = true ∧ slotFree (s.isl q.src) q.dst q.slot = true ∧ p =
  { q with gen := tabGetD (s.isl q.src).gens (q.dst * 32 + q.slot) 0 } :=
  ⟨board, crossAsk, crossAsk, by decide⟩

theorem witness_CrossingEffect_other : ∃ (s : State) (q p : XRequest) (k : Nat), q.src < 12 ∧ q.dst < 12 ∧ q.src ≠
  q.dst ∧ q.slot < 32 ∧ q.gen < 8 ∧ s.running q.src = true ∧ slotFree (s.isl q.src) q.dst q.slot = false ∧ xFreeSlot
  (s.isl q.src) q.dst = some k ∧ p = { q with slot := k, gen := tabGetD (s.isl q.src).gens (q.dst * 32 + k) 0 } :=
  ⟨board.setIsl 3 { state := .run, slots := [{ target := 4, slot := 2, gen := 0, source := 1 }] }, crossAsk, { crossAsk with slot := 0 }, 0, by decide⟩

theorem witness_CrossingEffect_wait : ∃ (s : State) (q : XRequest), q.src < 12 ∧ q.dst < 12 ∧ q.src ≠ q.dst ∧ q.slot
  < 32 ∧ q.gen < 8 ∧ s.running q.src = true ∧ (∀ k, k < 32 → slotFree (s.isl q.src) q.dst k = false) :=
  ⟨board.setIsl 3 { state := .run, slots := (List.range 32).map fun k => { target := 4, slot := k, gen := 0, source := 1 } }, crossAsk, by decide⟩

theorem witness_CrossingEffect_ill : ∃ (s : State) (q : XRequest), q.dst < 12 ∧ (12 ≤ q.src ∨ q.src = q.dst ∨ 32 ≤
  q.slot ∨ 8 ≤ q.gen) :=
  ⟨board, { crossAsk with slot := 32 }, by decide⟩

theorem witness_CrossingEffect_performs : ∃ (s : State) (q : XRequest) (r : (Nat × Word64) × State), ((s.isl
  q.dst).state = .run ∨ (s.isl q.dst).state = .idle) ∧ (s.isl q.dst).draining = false ∧ (q.targetEpoch = 0 ∨
  q.targetEpoch = (s.isl q.dst).epoch) ∧ r = xPerform (s.wakeIsl q.dst) q :=
  ⟨board, { src := 3, dst := 4, slot := 2, gen := 0, reqEpoch := 1, targetEpoch := 1, path := .ordinary, source := 1, op := .readReg 0x40100010 }, (xPerform board { src := 3, dst := 4, slot := 2, gen := 0, reqEpoch := 1, targetEpoch := 1, path := .ordinary, source := 1, op := .readReg 0x40100010 }), by decide⟩

theorem witness_CrossingEffect_refuses : ∃ (s : State) (q : XRequest) (st e : Nat) (u : State), q.path = .ordinary ∧
  (((s.isl q.dst).state ≠ .run ∧ (s.isl q.dst).state ≠ .idle ∧ st = 0x0301 ∧ e = 0) ∨ (s.running q.dst = true ∧
  (s.isl q.dst).draining = true ∧ st = 0x0303 ∧ e = (s.isl q.dst).epoch) ∨ (s.running q.dst = true ∧ (s.isl
  q.dst).draining = false ∧ q.targetEpoch ≠ 0 ∧ q.targetEpoch ≠ (s.isl q.dst).epoch ∧ st = 0x0302 ∧ e = (s.isl
  q.dst).epoch)) ∧ u = State.stick (s.wakeIsl q.dst) (rIslRefused q.dst) (rIslFault q.dst) 7 :=
  ⟨board.setIsl 4 { state := .run, epoch := 5 }, { src := 3, dst := 4, slot := 2, gen := 0, reqEpoch := 1, targetEpoch := 1, path := .ordinary, source := 1, op := .readReg 0x40100010 }, 0x0302, 5, ((board.setIsl 4 { state := .run, epoch := 5 }).stick (rIslRefused 4) (rIslFault 4) 7), by decide⟩

theorem witness_CrossingEffect_freed : ∃ (s : State) (i j k : Nat) (q p : XRequest), s.running i = true ∧ (s.isl
  i).waiting.find? (·.dst == j) = some q ∧ xFreeSlot (s.isl i) j = some k ∧ p =
  { q with slot := k, gen := tabGetD (s.isl i).gens (q.dst * 32 + k) 0 } :=
  ⟨board.setIsl 3 { state := .run, waiting := [crossAsk] }, 3, 4, 0, crossAsk, { crossAsk with slot := 0 }, by decide⟩

theorem witness_CrossingEffect_freedNone : ∃ (s : State) (i j : Nat), (s.running i = false ∨ (s.isl i).waiting.find?
  (·.dst == j) = none ∨ xFreeSlot (s.isl i) j = none) :=
  ⟨board, 3, 4, by decide⟩

theorem witness_CrossingEffect_illReply : ∃ (s : State) (p : XReply), p.requester < 12 ∧ (12 ≤ p.target ∨ 32 ≤
  p.slot ∨ 8 ≤ p.gen) :=
  ⟨board, { crossAnswer with gen := 8 }, by decide⟩

theorem witness_CrossingEffect_later : ∃ (s : State) (p x : XReply), p.requester < 12 ∧ p.target < 12 ∧ p.slot < 32
  ∧ p.gen < 8 ∧ s.outs.replies.find? (fun y => y.target == p.target && y.requester == p.requester) = some x ∧ x ≠ p
  :=
  ⟨{ board with outs := { board.outs with replies := [{ crossAnswer with slot := 1 }] } }, crossAnswer, { crossAnswer with slot := 1 }, by decide⟩

theorem witness_CrossingEffect_discard : ∃ (s : State) (p : XReply), p.requester < 12 ∧ p.target < 12 ∧ p.slot < 32
  ∧ p.gen < 8 ∧ inTurn s p = true ∧ s.outs.notices = [] ∧ (s.running p.requester = false ∨ p.reqEpoch ≠ (s.isl
  p.requester).epoch ∨ ((s.isl p.requester).slots.find? fun o => o.target == p.target && o.slot == p.slot && o.gen
  == p.gen) = none) :=
  ⟨board, { target := 4, requester := 3, slot := 2, gen := 0, reqEpoch := 1, targetEpoch := 1, status := 0, data := 7 }, by decide⟩

theorem witness_CrossingEffect_stale : ∃ (s : State) (p : XReply) (o : OutSlot), p.requester < 12 ∧ p.target < 12 ∧
  p.slot < 32 ∧ p.gen < 8 ∧ inTurn s p = true ∧ s.outs.notices = [] ∧ s.running p.requester = true ∧ p.reqEpoch =
  (s.isl p.requester).epoch ∧ ((s.isl p.requester).slots.find? fun o => o.target == p.target && o.slot == p.slot &&
  o.gen == p.gen) = some o ∧ p.targetEpoch ≠ 0 ∧ s.epochOf p.requester p.target ≠ 0 ∧ 1 ≤ (s.epochOf p.requester
  p.target + 65535 - p.targetEpoch) % 65535 ∧ (s.epochOf p.requester p.target + 65535 - p.targetEpoch) % 65535 ≤
  32767 :=
  ⟨{ { board.setIsl 3 { state := .run, slots := [{ target := 4, slot := 2, gen := 0, source := 1 }] } with outs := { board.outs with replies := [{ target := 4, requester := 3, slot := 2, gen := 0, reqEpoch := 1, targetEpoch := 1, status := 0, data := 7 }] } } with islands := tabSet ({ board.setIsl 3 { state := .run, slots := [{ target := 4, slot := 2, gen := 0, source := 1 }] } with outs := { board.outs with replies := [{ target := 4, requester := 3, slot := 2, gen := 0, reqEpoch := 1, targetEpoch := 1, status := 0, data := 7 }] } }).islands 3 { ({ board.setIsl 3 { state := .run, slots := [{ target := 4, slot := 2, gen := 0, source := 1 }] } with outs := { board.outs with replies := [{ target := 4, requester := 3, slot := 2, gen := 0, reqEpoch := 1, targetEpoch := 1, status := 0, data := 7 }] } }).isl 3 with records := [(4, 3)] } }, { target := 4, requester := 3, slot := 2, gen := 0, reqEpoch := 1, targetEpoch := 1, status := 0, data := 7 }, { target := 4, slot := 2, gen := 0, source := 1 }, by decide⟩

theorem witness_CrossingEffect_completes : ∃ (s : State) (p : XReply) (o : OutSlot), p.requester < 12 ∧ p.target <
  12 ∧ p.slot < 32 ∧ p.gen < 8 ∧ inTurn s p = true ∧ s.outs.notices = [] ∧ s.running p.requester = true ∧ p.reqEpoch
  = (s.isl p.requester).epoch ∧ ((s.isl p.requester).slots.find? fun o => o.target == p.target && o.slot == p.slot
  && o.gen == p.gen) = some o ∧ (p.targetEpoch = 0 ∨ s.epochOf p.requester p.target = 0 ∨ s.epochOf p.requester
  p.target = p.targetEpoch) :=
  ⟨{ board.setIsl 3 { state := .run, slots := [{ target := 4, slot := 2, gen := 0, source := 1 }] } with outs := { board.outs with replies := [{ target := 4, requester := 3, slot := 2, gen := 0, reqEpoch := 1, targetEpoch := 1, status := 0, data := 7 }] } }, { target := 4, requester := 3, slot := 2, gen := 0, reqEpoch := 1, targetEpoch := 1, status := 0, data := 7 }, { target := 4, slot := 2, gen := 0, source := 1 }, by decide⟩

theorem witness_CrossingEffect_notice : ∃ (s : State) (i r e : Nat), i < 12 ∧ r < 12 ∧ 1 ≤ e ∧ e ≤ 0xFFFF ∧
  s.outs.notices = [] :=
  ⟨board, 3, 4, 9, by decide⟩

theorem witness_IslandRequestEffect_drain : ∃ (s : State) (p : Instr × Nat × IslState) (i : Nat) (v : Word) (by_ :
  Agent), p ∈ ([(.islReqStateOff by_ i v, 0, .off), (.islReqStateReset by_ i v, 1, .reset), (.islReqStateRetain by_
  i v, 5, .retain), (.islReqStateUpdate by_ i v, 6, .update)] : List (Instr × Nat × IslState)) ∧ v.toNat % 8 = p.2.1
  ∧ bitOf v.toNat 8 = false ∧ i < 12 ∧ s.running (agentIsland by_) = true ∧ askable s by_ i p.2.1 = true ∧ (s.isl
  i).state = .run ∧ (s.isl i).draining = false ∧ selfIslands.contains i = false ∧ i ≠ iMTR :=
  ⟨board, (.islReqStateRetain .chervil 2 0x15, 5, .retain), 2, 0x15, .chervil, by exact ⟨by simp, by decide⟩⟩

theorem witness_IslandRequestEffect_retained : ∃ (s : State) (i : Nat) (v : Word) (by_ : Agent), v.toNat % 8 = 3 ∧ i
  < 12 ∧ s.running (agentIsland by_) = true ∧ askable s by_ i 3 = true ∧ (s.isl i).state = .retain ∧ (s.isl
  i).draining = false :=
  ⟨board.setIsl 8 { state := .retain }, 8, 0x13, .chervil, by decide⟩

theorem witness_IslandRequestEffect_powers : ∃ (s : State) (p : Instr × Nat) (i : Nat) (v : Word) (by_ : Agent), p ∈
  ([(.islReqStateReset by_ i v, 1), (.islReqStateRun by_ i v, 3)] : List (Instr × Nat)) ∧ v.toNat % 8 = p.2 ∧ i < 12
  ∧ s.running (agentIsland by_) = true ∧ askable s by_ i p.2 = true ∧ (s.isl i).state = .off ∧ (s.isl i).draining =
  false :=
  ⟨board.setIsl 8 { state := .off }, (.islReqStateRun .chervil 8 0x13, 3), 8, 0x13, .chervil, by exact ⟨by simp, by decide⟩⟩

theorem witness_IslandRequestEffect_ignored : ∃ (s : State) (p : Instr × Nat) (i : Nat) (v : Word) (by_ : Agent), p
  ∈ ([(.islReqStateOff by_ i v, 0), (.islReqStateReset by_ i v, 1), (.islReqStateRun by_ i v, 3),
  (.islReqStateRetain by_ i v, 5), (.islReqStateUpdate by_ i v, 6)] : List (Instr × Nat)) ∧ v.toNat % 8 = p.2 ∧ i <
  12 ∧ (by_ = .steward ∨ by_ = .chervil ∨ by_ = .block) ∧ s.running (agentIsland by_) = true ∧ askable (s.setField
  (rIslCtrl i) 4 1 (bitsOf v.toNat 4 1)) by_ i p.2 = false :=
  ⟨board, (.islReqStateRun .chervil 8 0x13, 3), 8, 0x13, .chervil, by exact ⟨by simp, by decide⟩⟩

theorem witness_IslandRequestEffect_core1 : ∃ (s : State) (p : Instr × Nat) (i : Nat) (v : Word), p ∈
  ([(.islReqStateOff .core1 i v, 0), (.islReqStateReset .core1 i v, 1), (.islReqStateRun .core1 i v, 3),
  (.islReqStateRetain .core1 i v, 5), (.islReqStateUpdate .core1 i v, 6)] : List (Instr × Nat)) ∧ v.toNat % 8 = p.2
  ∧ i < 12 ∧ s.running iSAGE = true :=
  ⟨board, (.islReqStateRun .core1 8 0x13, 3), 8, 0x13, by exact ⟨by simp, by decide⟩⟩

theorem witness_IslandLifeEffect_drainEnd : ∃ (s : State) (i : Nat), i < 12 ∧ (s.isl i).draining = true ∧ (i = iMGT
  ∨ s.running iMGT = true) ∧ (((s.isl i).slots = [] ∧ (s.isl i).waiting = [] ∧ ((i = iPF ∨ i = iTHY) →
  s.fabric.imageQueue = [])) ∨ (s.isl i).drainStart + 2 * nsMs ≤ s.now) :=
  ⟨board.setIsl 2 { state := .run, draining := true, target := .retain }, 2, by decide⟩

theorem witness_IslandLifeEffect_drainOpen : ∃ (s : State) (i : Nat), ((s.isl i).draining = false ∨ (((s.isl
  i).slots ≠ [] ∨ (s.isl i).waiting ≠ [] ∨ ((i = iPF ∨ i = iTHY) ∧ s.fabric.imageQueue ≠ [])) ∧ s.now < (s.isl
  i).drainStart + 2 * nsMs)) :=
  ⟨board, 2, by decide⟩

theorem witness_IslandLifeEffect_release : ∃ (s : State) (i : Nat), i < 12 ∧ releasable s i = true ∧ (∀ p ∈
  s.outs.replies, p.target ≠ i) :=
  ⟨{ State.reset with power := { State.reset.power with started := true } }, 1, by decide⟩

theorem witness_IslandLifeEffect_boot : ∃ (s : State) (i : Nat), i < 12 ∧ i ≠ iMGT ∧ (s.isl i).state = .boot ∧
  s.running iMGT = true ∧ ((s.isl i).restart = false ∨ s.now ≤ (s.isl i).since + bootBound i * nsMs) :=
  ⟨board.setIsl 2 { state := .boot }, 2, by decide⟩

theorem witness_IslandLifeEffect_bootTimeout : ∃ (s : State) (i : Nat), i < 12 ∧ selfIslands.contains i = false ∧
  (s.isl i).state = .boot ∧ (s.isl i).restart = true ∧ (s.isl i).since + bootBound i * nsMs ≤ s.now :=
  ⟨{ board.setIsl 2 { state := .boot, restart := true } with clock := { board.clock with up := 15000000 } }, 2, by decide⟩

theorem witness_IslandLifeEffect_fault : ∃ (s : State) (i c l : Nat), i < 12 ∧ selfIslands.contains i = false ∧
  (s.isl i).state ≠ .off ∧ 3 ≤ c ∧ c ≤ 6 :=
  ⟨board, 2, 4, 7, by decide⟩

theorem witness_IslandLifeEffect_mgtFault : ∃ (s : State), (s.isl iMGT).state = .fault ∧ (s.isl iMGT).since + 1000 *
  nsMs ≤ s.now :=
  ⟨{ board.setIsl 1 { state := .fault } with clock := { board.clock with up := 1000000000 } }, by decide⟩

theorem witness_IslandLifeEffect_recovery : ∃ (s : State) (i : Nat), i < 12 ∧ i ≠ iMGT ∧ (s.isl i).state = .fault ∧
  (s.isl i).draining = false ∧ s.running iMGT = true ∧ s.rbit rMgCtrl 0 = true ∧ (s.isl i).since + 100 * nsMs ≤
  s.now ∧ ((s.isl i).recoveries.filter fun x => decide (s.now < x + 3600 * nsSec)).length < 3 :=
  ⟨{ (board.setIsl 2 { state := .fault }).setReg rMgCtrl 1 with clock := { board.clock with up := 1000000000 } }, 2, by decide⟩

theorem witness_IslandLifeEffect_recoveryEnds : ∃ (s : State) (i : Nat), i < 12 ∧ i ≠ iMGT ∧ (s.isl i).state =
  .fault ∧ s.running iMGT = true ∧ s.rbit rMgCtrl 0 = true ∧ (s.isl i).since + 100 * nsMs ≤ s.now ∧ 3 ≤ ((s.isl
  i).recoveries.filter fun x => decide (s.now < x + 3600 * nsSec)).length :=
  ⟨{ (board.setIsl 2 { state := .fault, recoveries := [5, 6, 7] }).setReg rMgCtrl 1 with clock := { board.clock with up := 1000000000 } }, 2, by decide⟩

theorem witness_IslandLifeEffect_idle : ∃ (s : State) (i : Nat), i < 12 ∧ i ≠ iALM ∧ i ≠ iTIME ∧ (s.isl i).state =
  .run ∧ (s.isl i).draining = false ∧ s.rbit (rIslCtrl i) 4 = true ∧ s.mayMove i = true ∧ hasWork s i = false :=
  ⟨board, 2, by decide⟩

theorem witness_IslandLifeEffect_busy : ∃ (s : State) (i : Nat), i < 12 ∧ hasWork s i = true :=
  ⟨loopBoard true |>.setIsl 2 { state := .run, waiting := [crossAsk] }, 2, by decide⟩

theorem witness_IslandLifeEffect_wakeRetained : ∃ (s : State) (i : Nat), i < 12 ∧ (s.isl i).state = .retain ∧ i ≠
  iMGT ∧ s.running iMGT = true ∧ s.power.shed = false :=
  ⟨board.setIsl 2 { state := .retain }, 2, by decide⟩

theorem witness_IslandLifeEffect_wake : ∃ (s : State) (i : Nat), i < 12 ∧ (s.isl i).state = .idle ∧ s.mayMove i =
  true ∧ s.power.shed = false :=
  ⟨board.setIsl 2 { state := .idle }, 2, by decide⟩

theorem witness_IslandLifeEffect_out : ∃ (s : State) (i k : Nat), i < 12 ∧ (s.isl i).state = .run ∧ (100 * k < 98 *
  nominalKHz i ∨ 102 * nominalKHz i < 100 * k) :=
  ⟨board, 5, 500000, by decide⟩

theorem witness_IslandLifeEffect_within : ∃ (s : State) (i k : Nat), ((s.isl i).state ≠ .run ∨ (98 * nominalKHz i ≤
  100 * k ∧ 100 * k ≤ 102 * nominalKHz i)) :=
  ⟨board, 5, 400000, by decide⟩

theorem witness_IslandLifeEffect_lost : ∃ (s : State), s.power.refExt = true :=
  ⟨{ board with power := { board.power with refExt := true } }, by decide⟩

theorem witness_IslandLifeEffect_lostUnused : ∃ (s : State), s.power.refExt = false :=
  ⟨board, by decide⟩

theorem witness_IslandLifeEffect_return : ∃ (s : State), s.power.refExt = false ∧ s.rfield rPwCtrl 12 2 = 2 ∧
  s.running iMGT = true :=
  ⟨board.setReg rPwCtrl 0x2000, by decide⟩

theorem witness_IslandLifeEffect_stays : ∃ (s : State), (s.rfield rPwCtrl 12 2 ≠ 2 ∨ s.running iMGT = false ∨
  s.power.refExt = true) :=
  ⟨board.setReg rPwCtrl 0x1000, by decide⟩

theorem witness_FabricEvents_read : ∃ (s : State) (who : Requester) (pt : Nat), who.island ≠ iPF ∧ (s.isl iPF).state
  = .run ∧ (s.isl iPF).draining = false ∧ (s.epochOf who.island iPF = 0 ∨ s.epochOf who.island iPF = (s.isl
  iPF).epoch) ∧ Sound s pt ∧ bitOf (rightsOf s (s.point pt) (pathOf s who).tenant) 0 = true ∧ forceOf s pt = none :=
  ⟨pointBoard, { tenant := 0, writer := 0x10000000, island := 5 }, 0x0100000, by decide⟩

theorem witness_FabricEvents_write : ∃ (s : State) (who : Requester) (pt ql tm : Nat) (v : Word64), who.island ≠ iPF
  ∧ (s.isl iPF).state = .run ∧ (s.isl iPF).draining = false ∧ (s.epochOf who.island iPF = 0 ∨ s.epochOf who.island
  iPF = (s.isl iPF).epoch) ∧ Sound s pt ∧ bitOf (rightsOf s (s.point pt) (pathOf s who).tenant) 1 = true ∧ ((s.point
  pt).flag fLocked = false ∨ (s.point pt).writer = (pathOf s who).writer) ∧ (ql = qGood ∨ ql = qSubstituted ∨ ql =
  qOutOfRange) ∧ tm < 2 ^ 64 ∧ forceIndex s pt = none ∧ forceOf s pt = none :=
  ⟨pointBoard, { tenant := 0, writer := 0x10000000, island := 5 }, 0x0100000, 4, 0, 77, by decide⟩

theorem witness_FabricEvents_core1 : ∃ (s : State) (who : Requester), who.writer / 2 ^ 28 = 7 :=
  ⟨pointBoard, { tenant := 9, writer := 0x70000000, island := 0 }, by decide⟩

theorem witness_FabricEvents_route : ∃ (s : State) (who : Requester) (x : Bind), who.writer = routeWriter (.mailbox
  (who.writer % 16)) ∧ routeBind s (.mailbox (who.writer % 16)) = some x :=
  ⟨pointBoard, { tenant := 9, writer := 0x60000000, island := 0 }, { tenant := 0, role := 3 }, by decide⟩

theorem witness_FabricEvents_refused : ∃ (s : State) (p : Instr) (who : Requester) (pt ty ql tm : Nat) (v : Word64),
  p ∈ ([.fabricRead who pt, .fabricWrite who pt ty ql v tm] : List Instr) ∧ who.island ≠ iPF ∧ (s.isl iPF).state =
  .run ∧ (s.isl iPF).draining = false ∧ (s.epochOf who.island iPF = 0 ∨ s.epochOf who.island iPF = (s.isl
  iPF).epoch) ∧ Sound s pt ∧ rightsOf s (s.point pt) (pathOf s who).tenant = 0 :=
  ⟨pointBoard, .fabricRead { tenant := 6, writer := 0x10000000, island := 5 } 0x0100000, { tenant := 6, writer := 0x10000000, island := 5 }, 0x0100000, 1, 4, 0, 77, by exact ⟨by simp, by decide⟩⟩

theorem witness_FabricEvents_gather : ∃ (s : State) (k : Nat) (rest : List ImageOp) (l : Loaded) (c : TaskCfg) (r :
  (Tab Slot × Nat) × State), s.running iPF = true ∧ s.rbit rPfStatus 0 = true ∧ s.fabric.imageQueue =
  { task := k, gather := true } :: rest ∧ (s.task k).state = .gathering ∧ k < 16 ∧ progOf s k = some l ∧ cfgOf s k =
  some c ∧ r = performGather (popImage s) k c.tenant (mappedOf l.prog k 0) :=
  ⟨({ ((loadedBoard true).raise rPfStatus 0) with fabric := { pointBoard.fabric with imageQueue := [{ task := 0, gather := true }] }, thyme := { (loadedBoard true).thyme with tasks := [(0, { state := .gathering, release := 50, offered := [] })] } }), 0, [], thLoaded [], thCfg, performGather (popImage ({ ((loadedBoard true).raise rPfStatus 0) with fabric := { pointBoard.fabric with imageQueue := [{ task := 0, gather := true }] }, thyme := { (loadedBoard true).thyme with tasks := [(0, { state := .gathering, release := 50, offered := [] })] } })) 0 0 [], by decide⟩

theorem witness_FabricEvents_scatter : ∃ (s : State) (k : Nat) (rest : List ImageOp) (c : TaskCfg) (o : Offer),
  s.running iPF = true ∧ s.rbit rPfStatus 0 = true ∧ s.fabric.imageQueue = { task := k, gather := false } :: rest ∧
  (s.task k).state = .scattering ∧ k < 16 ∧ cfgOf s k = some c ∧ (s.task k).offered = [o] ∧ 0 < (s.task k).release ∧
  (s.task k).release < 2 ^ 64 ∧ Sound s o.pt ∧ o.type = (s.point o.pt).type ∧ bitOf (rightsOf s (s.point o.pt)
  c.tenant) 1 = true ∧ ((s.point o.pt).flag fLocked = false ∨ (s.point o.pt).writer = 0x10000000 + k) ∧ forceIndex s
  o.pt = none ∧ forceOf s o.pt = none :=
  ⟨({ ((loadedBoard true).raise rPfStatus 0) with fabric := { pointBoard.fabric with imageQueue := [{ task := 0, gather := false }] }, thyme := { (loadedBoard true).thyme with tasks := [(0, { state := .scattering, release := 50, offered := [{ key := 0, pt := 0x0100000, type := 1, value := 44 }] })] } }), 0, [], thCfg, { key := 0, pt := 0x0100000, type := 1, value := 44 }, by decide⟩

theorem witness_FabricEvents_imageGone : ∃ (s : State) (p : Instr × Bool) (k : Nat) (rest : List ImageOp), p ∈
  ([(.imageGather, true), (.imageScatter, false)] : List (Instr × Bool)) ∧ s.running iPF = true ∧ s.rbit rPfStatus 0
  = true ∧ s.fabric.imageQueue = { task := k, gather := p.2 } :: rest ∧ (s.task k).state = .faulted :=
  ⟨({ ((loadedBoard true).raise rPfStatus 0) with fabric := { pointBoard.fabric with imageQueue := [{ task := 0, gather := true }] }, thyme := { (loadedBoard true).thyme with tasks := [(0, { state := .faulted, release := 50, offered := [] })] } }), (.imageGather, true), 0, [], by exact ⟨by simp, by decide⟩⟩

theorem witness_FabricEvents_notReady : ∃ (s : State) (i : Instr), i ∈ ([.imageGather, .imageScatter] : List Instr)
  ∧ s.rbit rPfStatus 0 = false :=
  ⟨board.setReg rPfCtrl 0, .imageGather, by exact ⟨by simp, by decide⟩⟩

theorem witness_FabricEvents_scrubGood : ∃ (s : State), s.running iPF = true ∧ s.rbit rPfCtrl 0 = true ∧ (s.defined
  (s.rfield rPfScrubPos 0 25) = false ∨ (s.point (s.rfield rPfScrubPos 0 25)).check = (s.point (s.rfield rPfScrubPos
  0 25)).right) ∧ s.rfield rPfScrubPos 0 25 + 1 < pointCount :=
  ⟨board.setReg rPfCtrl 1, by decide⟩

theorem witness_FabricEvents_scrubBad : ∃ (s : State), s.running iPF = true ∧ s.rbit rPfCtrl 0 = true ∧ s.defined
  (s.rfield rPfScrubPos 0 25) = true ∧ s.failedPt (s.rfield rPfScrubPos 0 25) = false ∧ (s.point (s.rfield
  rPfScrubPos 0 25)).check ≠ (s.point (s.rfield rPfScrubPos 0 25)).right ∧ s.rfield rPfScrubPos 0 25 + 1 <
  pointCount :=
  ⟨({ pointBoard with fabric := { pointBoard.fabric with store := [(0x0000005, { record 0 with check := 1 })] } }.setReg rPfCtrl 1 |>.setReg rPfScrubPos 5), by decide⟩

theorem witness_FabricEvents_scrubOff : ∃ (s : State), (s.running iPF = false ∨ s.rbit rPfCtrl 0 = false) :=
  ⟨board.setReg rPfCtrl 0, by decide⟩

theorem witness_FabricEvents_save : ∃ (s : State), s.running iPF = true ∧ s.power.retainBack = true ∧
  s.power.forcesBack = true ∧ s.fabric.saveDue.Nodup ∧ s.fabric.forceDue.Nodup ∧ (∀ pt ∈ s.fabric.saveDue, Sound s
  pt) :=
  ⟨({ pointBoard with power := { pointBoard.power with retainBack := true, forcesBack := true }, fabric := { pointBoard.fabric with store := [(0x0100000, record 1)], saveDue := [0x0100000], forceDue := [3], places := [(6, RetPlace.new 0x0100000 (record 0))] } }), by decide⟩

theorem witness_FabricEvents_restore : ∃ (s : State), ([iMTR, iSW, iBUS, iFLD, iTHY, iLOOP].all fun i => pastBoot s
  i) = true ∧ s.running iPF = true ∧ stewardReady s = true ∧ s.rbit rPfStatus 0 = false ∧ s.power.storeReady = true
  ∧ s.twin.role ≠ .single ∧ s.twin.role ≠ .active :=
  ⟨({ board with power := { board.power with storeReady := true }, twin := { board.twin with role := .pairing } }), by decide⟩

theorem witness_FabricEvents_restoreWaits : ∃ (s : State), ([iMTR, iSW, iBUS, iFLD, iTHY, iLOOP].all fun i =>
  pastBoot s i) = false :=
  ⟨State.reset, by decide⟩

theorem witness_JioshEvents_accepts : ∃ (s : State) (port : Nat) (frame : List Byte) (src : JSource), jFormed frame
  = true ∧ (crcIscsi (jCovered frame)).toNat = fld frame (24 + 16 * jCount frame) 4 ∧ jNewer (tabGet
  s.fabric.jioshSeq (jKey (jKind frame) src)) (jSeq frame) = true :=
  ⟨fieldBoard, 4, (jioshFrame 0 2 5 1000 [jMake 0 1 0 3 8]), .field 4 2, by decide⟩

theorem witness_JioshEvents_badCheck : ∃ (s : State) (port : Nat) (frame : List Byte) (p : Instr × Nat), p ∈
  ([(.jioshReport port frame, 0), (.jioshAnnounce port frame, 2), (.jioshAck port frame, 4)] : List (Instr × Nat)) ∧
  fieldOpen s port = true ∧ s.running iPF = true ∧ jFormed frame = true ∧ fieldAddressed frame = true ∧ jKind frame
  = p.2 ∧ (jSrc frame = 0x3FE ↔ p.2 = 2) ∧ (crcIscsi (jCovered frame)).toNat ≠ fld frame (24 + 16 * jCount frame) 4
  :=
  ⟨fieldBoard, 4, (overlay (jioshFrame 0 2 5 1000 [jMake 0 1 0 3 8]) 30 [1]), (.jioshReport 4 (overlay (jioshFrame 0 2 5 1000 [jMake 0 1 0 3 8]) 30 [1]), 0), by exact ⟨by simp, by decide⟩⟩

theorem witness_JioshEvents_duplicate : ∃ (s : State) (port : Nat) (frame : List Byte) (p : Instr × Nat), p ∈
  ([(.jioshAnnounce port frame, 2), (.jioshAck port frame, 4)] : List (Instr × Nat)) ∧ fieldOpen s port = true ∧
  s.running iPF = true ∧ jFormed frame = true ∧ fieldAddressed frame = true ∧ jKind frame = p.2 ∧ (jSrc frame =
  0x3FE ↔ p.2 = 2) ∧ (crcIscsi (jCovered frame)).toNat = fld frame (24 + 16 * jCount frame) 4 ∧ jNewer (tabGet
  s.fabric.jioshSeq (jKey p.2 (.field port (jSrc frame)))) (jSeq frame) = false :=
  ⟨{ fieldBoard with fabric := { fieldBoard.fabric with jioshSeq := [(jKey 4 (.field 4 2), 5)] } }, 4, (jioshFrame 4 2 5 0 []), (.jioshAck 4 (jioshFrame 4 2 5 0 []), 4), by exact ⟨by simp, by decide⟩⟩

theorem witness_JioshEvents_report : ∃ (s : State) (port : Nat) (frame : List Byte) (v : JVerdict × State) (d :
  Device), fieldOpen s port = true ∧ s.running iPF = true ∧ s.twin.role ≠ .standby ∧ jFormed frame = true ∧
  fieldAddressed frame = true ∧ bitOf (jFlags frame) 0 = false ∧ jKind frame = 0 ∧ v = jAccept s (.field port (jSrc
  frame)) frame ∧ v.1.accepted = true ∧ jCount frame = 1 ∧ deviceAt s port (fun x => x.address == jSrc frame) = some
  d ∧ bitsOf (fld (jEntry frame 0) 0 4) 12 16 = 0 ∧ bitsOf (fld (jEntry frame 0) 0 4) 0 12 < d.count ∧ fld (jEntry
  frame 0) 5 1 = 0 ∧ Sound s (d.base + bitsOf (fld (jEntry frame 0) 0 4) 0 12) ∧ bitsOf (fld (jEntry frame 0) 0 4)
  28 4 = (s.point (d.base + bitsOf (fld (jEntry frame 0) 0 4) 0 12)).type ∧ (fld (jEntry frame 0) 4 1 = qGood ∨ fld
  (jEntry frame 0) 4 1 = qSubstituted ∨ fld (jEntry frame 0) 4 1 = qOutOfRange) ∧ (s.point (d.base + bitsOf (fld
  (jEntry frame 0) 0 4) 0 12)).owner = d.tenant ∧ ((s.point (d.base + bitsOf (fld (jEntry frame 0) 0 4) 0 12)).flag
  fLocked = false ∨ (s.point (d.base + bitsOf (fld (jEntry frame 0) 0 4) 0 12)).writer = deviceWriter port
  d.address) ∧ forceIndex s (d.base + bitsOf (fld (jEntry frame 0) 0 4) 0 12) = none ∧ forceOf s (d.base + bitsOf
  (fld (jEntry frame 0) 0 4) 0 12) = none :=
  ⟨fieldBoard, 4, (jioshFrame 0 2 5 1000 [jMake 0 1 0 3 8]), (jAccept fieldBoard (.field 4 2) (jioshFrame 0 2 5 1000 [jMake 0 1 0 3 8])), { port := 4, serial := 9, tenant := 0, address := 2, base := 0x0100000, count := 4, refresh := 100, heard := 0, stale := false, absent := false }, by decide⟩

theorem witness_JioshEvents_reportUnknown : ∃ (s : State) (port : Nat) (frame : List Byte) (v : JVerdict × State),
  fieldOpen s port = true ∧ s.running iPF = true ∧ s.twin.role ≠ .standby ∧ jFormed frame = true ∧ fieldAddressed
  frame = true ∧ bitOf (jFlags frame) 0 = false ∧ jKind frame = 0 ∧ v = jAccept s (.field port (jSrc frame)) frame ∧
  v.1.accepted = true ∧ deviceAt s port (fun x => x.address == jSrc frame) = none :=
  ⟨fieldBoard, 4, (jioshFrame 0 3 5 1000 [jMake 0 1 0 3 8]), (jAccept fieldBoard (.field 4 3) (jioshFrame 0 3 5 1000 [jMake 0 1 0 3 8])), by decide⟩

theorem witness_JioshEvents_ack : ∃ (s : State) (port : Nat) (frame : List Byte) (v : JVerdict × State), fieldOpen s
  port = true ∧ s.running iPF = true ∧ s.twin.role ≠ .standby ∧ jFormed frame = true ∧ fieldAddressed frame = true ∧
  bitOf (jFlags frame) 0 = false ∧ jKind frame = 4 ∧ v = jAccept s (.field port (jSrc frame)) frame ∧ v.1.accepted =
  true :=
  ⟨fieldBoard, 4, (jioshFrame 4 2 5 0 []), (jAccept fieldBoard (.field 4 2) (jioshFrame 4 2 5 0 [])), by decide⟩

theorem witness_JioshEvents_announce : ∃ (s : State) (port : Nat) (frame : List Byte) (v : JVerdict × State) (d :
  Device), fieldOpen s port = true ∧ s.running iPF = true ∧ s.twin.role ≠ .standby ∧ jFormed frame = true ∧
  fieldAddressed frame = true ∧ bitOf (jFlags frame) 0 = false ∧ jKind frame = 2 ∧ jSrc frame = 0x3FE ∧ v = jAccept
  s (.field port (jSrc frame)) frame ∧ v.1.accepted = true ∧ s.acts = false ∧ jCount frame = 1 ∧ bitsOf (fld (jEntry
  frame 0) 0 4) 28 4 = 4 ∧ fld (jEntry frame 0) 8 8 ≠ 0 ∧ jHops frame < 0x200 ∧ deviceAt s port (fun x => x.serial
  == fld (jEntry frame 0) 8 8) = some d :=
  ⟨{ fieldBoard with twin := { fieldBoard.twin with silent := true } }, 4, (jioshFrame 2 0x3FE 5 0 [jMake 4 4 0 0 9]), (jAccept { fieldBoard with twin := { fieldBoard.twin with silent := true } } (.field 4 1022) (jioshFrame 2 0x3FE 5 0 [jMake 4 4 0 0 9])), { port := 4, serial := 9, tenant := 0, address := 2, base := 0x0100000, count := 4, refresh := 100, heard := 0, stale := false, absent := false }, by decide⟩

theorem witness_JioshEvents_assign : ∃ (s : State) (port : Nat) (frame : List Byte) (v : JVerdict × State) (d :
  Device) (w : State), fieldOpen s port = true ∧ s.running iPF = true ∧ s.twin.role ≠ .standby ∧ jFormed frame =
  true ∧ fieldAddressed frame = true ∧ bitOf (jFlags frame) 0 = false ∧ jKind frame = 2 ∧ jSrc frame = 0x3FE ∧ v =
  jAccept s (.field port (jSrc frame)) frame ∧ v.1.accepted = true ∧ s.acts = true ∧ jCount frame = 1 ∧ bitsOf (fld
  (jEntry frame 0) 0 4) 28 4 = 4 ∧ fld (jEntry frame 0) 8 8 ≠ 0 ∧ jHops frame < 0x200 ∧ deviceAt s port (fun x =>
  x.serial == fld (jEntry frame 0) 8 8) = some d ∧ definedFrom s d.base d.count = [] ∧ w = shipConfig (putDevice v.2
  { d with address := jHops frame + 1 }) 0x0905 (deviceHead d.port 1 ++ deviceEntry { d with address := jHops frame
  + 1 } 0) :=
  ⟨{ fieldBoard with fabric := { fieldBoard.fabric with store := [] } }, 4, jioshFrame 2 0x3FE 5 0 [jMake 4 4 0 0 9], jAccept { fieldBoard with fabric := { fieldBoard.fabric with store := [] } } (.field 4 0x3FE) (jioshFrame 2 0x3FE 5 0 [jMake 4 4 0 0 9]), { port := 4, serial := 9, tenant := 0, address := 2, base := 0x0100000, count := 4, refresh := 100, heard := 0, stale := false, absent := false }, shipConfig (putDevice (jAccept { fieldBoard with fabric := { fieldBoard.fabric with store := [] } } (.field 4 0x3FE) (jioshFrame 2 0x3FE 5 0 [jMake 4 4 0 0 9])).2 { ({ port := 4, serial := 9, tenant := 0, address := 2, base := 0x0100000, count := 4, refresh := 100, heard := 0, stale := false, absent := false } : Device) with address := 1 }) 0x0905 (deviceHead 4 1 ++ deviceEntry { ({ port := 4, serial := 9, tenant := 0, address := 2, base := 0x0100000, count := 4, refresh := 100, heard := 0, stale := false, absent := false } : Device) with address := 1 } 0), by decide⟩

theorem witness_JioshEvents_announceUnknown : ∃ (s : State) (port : Nat) (frame : List Byte) (v : JVerdict × State),
  fieldOpen s port = true ∧ s.running iPF = true ∧ s.twin.role ≠ .standby ∧ jFormed frame = true ∧ fieldAddressed
  frame = true ∧ bitOf (jFlags frame) 0 = false ∧ jKind frame = 2 ∧ jSrc frame = 0x3FE ∧ v = jAccept s (.field port
  (jSrc frame)) frame ∧ v.1.accepted = true ∧ deviceAt s port (fun x => x.serial == fld (jEntry frame 0) 8 8) = none
  ∧ tabGet s.fabric.enrol port = none :=
  ⟨fieldBoard, 4, (jioshFrame 2 0x3FE 5 0 [jMake 4 4 0 0 8]), (jAccept fieldBoard (.field 4 1022) (jioshFrame 2 0x3FE 5 0 [jMake 4 4 0 0 8])), by decide⟩

theorem witness_JioshEvents_peer : ∃ (s : State) (port : Nat) (frame : List Byte) (sender i : Nat) (secured : Bool)
  (v : JVerdict × State) (x : ImportEntry), port < 2 ∧ s.running iSW = true ∧ (s.port port).link = .up ∧ s.running
  iPF = true ∧ s.switch.bypassClosed = false ∧ ((secured = true ∧ securedWith s port sender = true) ∨ s.rbit rPfCtrl
  1 = true) ∧ jFormed frame = true ∧ jKind frame = 6 ∧ jAccept s (.ring sender) frame = v ∧ v.1.accepted = true ∧
  jCount frame = 1 ∧ bitsOf (fld (jEntry frame 0) 0 4) 25 3 = 0 ∧ fld (jEntry frame 0) 5 1 = 0 ∧
  (s.fabric.imports.filter fun e => e.2.sender == sender && e.2.remote == bitsOf (fld (jEntry frame 0) 0 4) 0 25) =
  [(i, x)] ∧ Sound s x.localPt ∧ (s.point x.localPt).owner = jTenant frame ∧ bitsOf (fld (jEntry frame 0) 0 4) 28 4
  = (s.point x.localPt).type ∧ (fld (jEntry frame 0) 4 1 = qGood ∨ fld (jEntry frame 0) 4 1 = qSubstituted ∨ fld
  (jEntry frame 0) 4 1 = qOutOfRange) ∧ ((s.point x.localPt).flag fLocked = false ∨ (s.point x.localPt).writer =
  0x80000000 + i) ∧ forceIndex s x.localPt = none ∧ forceOf s x.localPt = none :=
  ⟨ringBoard, 0, (jioshFrame 6 0 5 0 [jMake 0x0123456 1 0 0 8]), 77, 1, true, jAccept ringBoard (.ring 77) (jioshFrame 6 0 5 0 [jMake 0x0123456 1 0 0 8]), { sender := 77, remote := 0x0123456, localPt := 0x0100000, tenant := 0 }, by decide⟩

theorem witness_JioshEvents_unsecured : ∃ (s : State) (port : Nat) (frame : List Byte) (sender : Nat) (secured :
  Bool), port < 2 ∧ s.running iSW = true ∧ (s.port port).link = .up ∧ s.running iPF = true ∧ s.switch.bypassClosed =
  false ∧ s.rbit rPfCtrl 1 = false ∧ (secured = false ∨ securedWith s port sender = false) :=
  ⟨ringBoard.setReg rPfCtrl 0, 1, (jioshFrame 6 0 5 0 [jMake 0x0123456 1 0 0 8]), 77, true, by decide⟩

theorem witness_JioshEvents_stale : ∃ (s : State) (port : Nat) (frame : List Byte) (serial : Nat) (d : Device),
  s.running iPF = true ∧ deviceAt s port (fun x => x.serial == serial) = some d ∧ d.stale = false ∧ d.absent = false
  ∧ d.heard + 3 * d.refresh * nsMs ≤ s.now :=
  ⟨fieldBoard, 4, [], 9, { port := 4, serial := 9, tenant := 0, address := 2, base := 0x0100000, count := 4, refresh := 100, heard := 0, stale := false, absent := false }, by decide⟩

theorem witness_JioshEvents_absent : ∃ (s : State) (port : Nat) (frame : List Byte) (serial : Nat) (d : Device),
  s.running iPF = true ∧ deviceAt s port (fun x => x.serial == serial) = some d ∧ d.absent = false ∧ d.heard + 10 *
  d.refresh * nsMs ≤ s.now :=
  ⟨fieldBoard, 4, [], 9, { port := 4, serial := 9, tenant := 0, address := 2, base := 0x0100000, count := 4, refresh := 100, heard := 0, stale := false, absent := false }, by decide⟩

theorem witness_JioshEvents_fresh : ∃ (s : State) (port : Nat) (frame : List Byte) (serial : Nat) (d : Device),
  deviceAt s port (fun x => x.serial == serial) = some d ∧ s.now < d.heard + 3 * d.refresh * nsMs :=
  ⟨{ fieldBoard with clock := { fieldBoard.clock with up := 200000000 } }, 4, [], 9, { port := 4, serial := 9, tenant := 0, address := 2, base := 0x0100000, count := 4, refresh := 100, heard := 0, stale := false, absent := false }, by decide⟩

theorem witness_JioshEvents_export : ∃ (s : State) (port : Nat) (frame : List Byte) (i : Nat) (x : ExportEntry),
  s.running iPF = true ∧ s.shadow = false ∧ s.fabric.exports = [(i, x)] ∧ x.sentAt ≠ exportDue s x ∧ (fabRead ({ s
  with fabric := { s.fabric with exports := [(i, { x with sentAt := exportDue s x })] } }) x.tenant x.pt).1.status =
  0 :=
  ⟨fieldBoard, 0, [], 6, { period := 10, pt := 0x0100000, dest := 99, tenant := 0, sentAt := 1 }, by decide⟩

theorem witness_JioshEvents_exportShadow : ∃ (s : State) (port : Nat) (frame : List Byte), (s.running iPF = false ∨
  s.shadow = true) :=
  ⟨{ fieldBoard with twin := { fieldBoard.twin with role := .standby } }, 0, [], by decide⟩

theorem witness_TaskCycleEffect_release : ∃ (s : State) (k : Nat) (c : TaskCfg), k < 16 ∧ s.running iTHY = true ∧
  thRun s = true ∧ (s.task k).state = .waiting ∧ (s.task k).stopping = false ∧ (s.task k).nextRelease ≤ s.tai ∧
  cfgOf s k = some c ∧ s.thyme.exchange = none ∧ (s.isl iTHY).draining = false ∧ s.shadow = false ∧ (s.isl
  iPF).state = .run ∧ (s.isl iPF).draining = false ∧ (s.epochOf iTHY iPF = 0 ∨ s.epochOf iTHY iPF = (s.isl
  iPF).epoch) :=
  ⟨loadedBoard true, 0, { entry := 0, period := 1000, phase := 0, tenant := 0, priority := 1, ovrLimit := 0, bitSlots := 8, wordSlots := 8, authOff := 0, authLen := 0 }, by decide⟩

theorem witness_TaskCycleEffect_overrun : ∃ (s : State) (k : Nat) (c : TaskCfg), k < 16 ∧ s.running iTHY = true ∧
  thRun s = true ∧ (s.task k).busy = true ∧ (s.task k).stopping = false ∧ (s.task k).nextRelease ≤ s.tai ∧ cfgOf s k
  = some c ∧ s.thyme.exchange = none ∧ (s.isl iTHY).draining = false :=
  ⟨{ (loadedBoard true) with thyme := { (loadedBoard true).thyme with tasks := [(0, { state := .running })] } }, 0, { entry := 0, period := 1000, phase := 0, tenant := 0, priority := 1, ovrLimit := 0, bitSlots := 8, wordSlots := 8, authOff := 0, authLen := 0 }, by decide⟩

theorem witness_TaskCycleEffect_notYet : ∃ (s : State) (k : Nat), (s.tai < (s.task k).nextRelease ∨ thRun s = false)
  :=
  ⟨{ (loadedBoard true) with thyme := { (loadedBoard true).thyme with tasks := [(0, { state := .waiting, nextRelease := 1000000000000000000 })] } }, 0, by decide⟩

theorem witness_TaskCycleEffect_gathered : ∃ (s : State) (k : Nat) (g : Tab Slot) (l : Loaded) (c : TaskCfg), k < 16
  ∧ s.running iTHY = true ∧ (s.task k).state = .gathering ∧ (s.task k).gathered = some g ∧ progOf s k = some l ∧
  cfgOf s k = some c ∧ (s.task k).gfail = 0 :=
  ⟨{ (loadedBoard true) with thyme := { (loadedBoard true).thyme with tasks := [(0, { state := .gathering, gathered := some [(1, { value := 5 })] })] } }, 0, [(1, { value := 5 })], thLoaded [], { entry := 0, period := 1000, phase := 0, tenant := 0, priority := 1, ovrLimit := 0, bitSlots := 8, wordSlots := 8, authOff := 0, authLen := 0 }, by decide⟩

theorem witness_TaskCycleEffect_gatherLost : ∃ (s : State) (k : Nat) (st : Nat), k < 16 ∧ s.running iTHY = true ∧
  thRun s = true ∧ (s.task k).state = .gathering ∧ (s.task k).stopping = false ∧ (st = 0x0301 ∨ st = 0x0302 ∨ st =
  0x0303) ∧ s.thyme.exchange = none ∧ s.thyme.unloading = false :=
  ⟨{ (loadedBoard true) with thyme := { (loadedBoard true).thyme with tasks := [(0, { state := .gathering })] } }, 0, 0x0301, by decide⟩

theorem witness_TaskCycleEffect_scattered : ∃ (s : State) (k : Nat) (c : TaskCfg), k < 16 ∧ s.running iTHY = true ∧
  thRun s = true ∧ (s.task k).state = .scattering ∧ (s.task k).stopping = false ∧ ((s.task k).offered.all
  (·.status.isSome)) = true ∧ cfgOf s k = some c ∧ c.ovrLimit = 0 ∧ s.tai < (s.task k).nextRelease ∧ s.twin.role =
  .single ∧ s.thyme.exchange = none ∧ s.thyme.unloading = false :=
  ⟨{ (loadedBoard true) with thyme := { (loadedBoard true).thyme with tasks := [(0, { state := .scattering, nextRelease := 1000000000000000000, offered := [{ key := 3, pt := 0x0100000, type := 1, value := 44, status := some 0 }] })] } }, 0, { entry := 0, period := 1000, phase := 0, tenant := 0, priority := 1, ovrLimit := 0, bitSlots := 8, wordSlots := 8, authOff := 0, authLen := 0 }, by decide⟩

theorem witness_TaskCycleEffect_scatterOpen : ∃ (s : State) (k : Nat), k < 16 ∧ s.running iTHY = true ∧ (s.task
  k).state = .scattering ∧ ((s.task k).offered.all (·.status.isSome)) = false :=
  ⟨{ (loadedBoard true) with thyme := { (loadedBoard true).thyme with tasks := [(0, { state := .scattering, offered := [{ key := 3, pt := 0x0100000, type := 1, value := 44 }] })] } }, 0, by decide⟩

theorem witness_TaskCycleEffect_ctrl : ∃ (s : State) (k : Nat) (by_ : Agent) (v : Word), k < 16 ∧ Reaches s by_
  rThCtrl v.toNat true ∧ bitOf v.toNat 0 = thRun s ∧ onStandby s = false ∧ (s.isl iTHY).state = .run :=
  ⟨loadedBoard true, 0, .steward, 3, by decide⟩

theorem witness_TaskCycleEffect_stop : ∃ (s : State) (k : Nat) (by_ : Agent) (v : Word), k < 16 ∧ Reaches s by_
  rThCtrl v.toNat true ∧ bitOf v.toNat 0 = false ∧ thRun s = true ∧ onStandby s = false ∧ (s.isl iTHY).state = .run
  ∧ s.thyme.exchange = none ∧ s.thyme.unloading = false :=
  ⟨loadedBoard true, 0, .steward, 2, by decide⟩

theorem witness_LoopCycleEffect_release : ∃ (s : State) (x : Loop) (g n o : Nat), g < 4 ∧ s.running iLOOP = true ∧
  (s.group g).nextRelease ≤ s.tai ∧ (s.group g).nextRelease < 2 ^ 64 ∧ s.rbit rLpCtrl g = true ∧ (s.isl
  iLOOP).draining = false ∧ (s.group g).phase = .idle ∧ s.shadow = false ∧ s.loops.loops = [(n, x)] ∧ n < 1024 ∧
  x.cfg.group = g ∧ x.enabled = true ∧ x.pending = some 1 ∧ x.written = none ∧ x.cfg.outMode = 0 ∧ x.newCfg = none ∧
  x.disableDue = false ∧ x.pointDue = false ∧ Sound s o ∧ o = x.cfg.outPt ∧ (s.point o).type = 0 ∧ (s.point o).owner
  = x.cfg.tenant ∧ ((s.point o).flag fLocked = false ∨ (s.point o).writer = 0x20000000 + n) ∧ forceIndex s o = none
  ∧ forceOf s o = none ∧ firstAssignable ≤ o ∧ (s.isl iPF).state = .run ∧ (s.isl iPF).draining = false ∧ (s.epochOf
  iLOOP iPF = 0 ∨ s.epochOf iLOOP iPF = (s.isl iPF).epoch) :=
  ⟨(cycleBoard .idle (none) 0), { cfg := { loopCfgOf (loopBytes 3) with outMode := 0 }, enabled := true, joined := true, state := 1, pending := some 1, secondBit := none }, 0, 3, 0x0100004, by decide⟩

theorem witness_LoopCycleEffect_off : ∃ (s : State) (x : Loop) (g : Nat), g < 4 ∧ s.running iLOOP = true ∧ (s.group
  g).nextRelease ≤ s.tai ∧ (∀ h : Nat, h < g → (s.group h).nextRelease ≠ (s.group g).nextRelease) ∧ s.rbit rLpCtrl g
  = false :=
  ⟨{ board.setReg rLpCtrl 0 with loops := { board.loops with groups := [(0, { nextRelease := 1 }), (1, { nextRelease := 1 })] } }, { cfg := loopCfgOf [] }, 2, by decide⟩

theorem witness_LoopCycleEffect_overrun : ∃ (s : State) (x : Loop) (g : Nat), g < 4 ∧ s.running iLOOP = true ∧
  (s.group g).nextRelease ≤ s.tai ∧ (∀ h : Nat, h < g → (s.group h).nextRelease ≠ (s.group g).nextRelease) ∧ s.rbit
  rLpCtrl g = true ∧ (s.isl iLOOP).draining = false ∧ (s.group g).phase ≠ .idle :=
  ⟨(cycleBoard .sampled (none) 0), { cfg := { loopCfgOf (loopBytes 3) with outMode := 0 }, enabled := true, joined := true, state := 1, pending := some 1, secondBit := none }, 0, by decide⟩

theorem witness_LoopCycleEffect_notYet : ∃ (s : State) (x : Loop) (g : Nat), s.tai < (s.group g).nextRelease :=
  ⟨{ board with loops := { board.loops with groups := [(1, { nextRelease := 1000000000000000000 })] } }, { cfg := loopCfgOf [] }, 1, by decide⟩

theorem witness_LoopCycleEffect_together : ∃ (s : State) (x : Loop) (g h : Nat), g < 4 ∧ h < g ∧ s.running iLOOP =
  true ∧ (s.isl iLOOP).draining = false ∧ s.loops.loops = [] ∧ (s.group h).nextRelease = (s.group g).nextRelease ∧
  (s.group g).nextRelease ≤ s.tai ∧ s.rbit rLpCtrl g = true ∧ s.rbit rLpCtrl h = true ∧ (s.group g).phase = .idle ∧
  (s.group h).phase = .idle :=
  ⟨board.setReg rLpCtrl 15, { cfg := loopCfgOf [] }, 1, 0, by decide⟩

theorem witness_LoopCycleEffect_sample : ∃ (s : State) (x : Loop) (g n : Nat), s.running iLOOP = true ∧ s.shadow =
  false ∧ (s.group g).phase = .applied ∧ servedBefore s g = false ∧ s.loops.loops = [(n, x)] ∧ x.cfg.group = g ∧
  x.enabled = true ∧ x.joined = true ∧ x.secondBit = none ∧ x.cfg.spFromPt = false ∧ x.cfg.useEnable = false ∧ Sound
  s x.cfg.inPt ∧ (s.point x.cfg.inPt).owner = x.cfg.tenant ∧ forceOf s x.cfg.inPt = none ∧ (s.isl iPF).state = .run
  ∧ (s.isl iPF).draining = false ∧ (s.epochOf iLOOP iPF = 0 ∨ s.epochOf iLOOP iPF = (s.isl iPF).epoch) :=
  ⟨(cycleBoard .applied (none) 0), { cfg := { loopCfgOf (loopBytes 3) with outMode := 0 }, enabled := true, joined := true, state := 1, pending := some 1, secondBit := none }, 0, 3, by decide⟩

theorem witness_LoopCycleEffect_evaluate : ∃ (s : State) (x : Loop) (g n : Nat), g < 4 ∧ s.running iLOOP = true ∧
  s.shadow = false ∧ (s.group g).phase = .sampled ∧ s.loops.loops = [(n, x)] ∧ x.cfg.group = g ∧ x.enabled = true ∧
  x.joined = true ∧ s.loops.traces = [] ∧ s.twin.role = .single :=
  ⟨(cycleBoard .sampled (none) 0), { cfg := { loopCfgOf (loopBytes 3) with outMode := 0 }, enabled := true, joined := true, state := 1, pending := some 1, secondBit := none }, 0, 3, by decide⟩

theorem witness_LoopCycleEffect_idle : ∃ (s : State) (x : Loop) (p : Instr) (g : Nat), p ∈ ([.loopSample g,
  .loopEvaluate g] : List Instr) ∧ s.shadow = false ∧ (s.group g).phase = .idle :=
  ⟨(cycleBoard .idle (none) 0), { cfg := { loopCfgOf (loopBytes 3) with outMode := 0 }, enabled := true, joined := true, state := 1, pending := some 1, secondBit := none }, .loopSample 0, 0, by exact ⟨by simp, by decide⟩⟩

theorem witness_LoopCycleEffect_inhibit : ∃ (s : State) (x : Loop), x.permitted = false :=
  ⟨board, { cfg := { loopCfgOf (loopBytes 3) with useEnable := true, safe := 0 }, state := 1 }, by decide⟩

theorem witness_LoopCycleEffect_loss : ∃ (s : State) (x : Loop), x.permitted = true ∧ x.sound = false :=
  ⟨board, { cfg := { loopCfgOf (loopBytes 3) with lossSafe := true, lossPeriods := 2, safe := 0 }, state := 1, lost := 2, x := { quality := 3 } }, by decide⟩

theorem witness_LoopCycleEffect_twoState : ∃ (s : State) (x : Loop), x.permitted = true ∧ x.sound = true ∧
  x.cfg.kind = 1 ∧ x.state ≤ 1 :=
  ⟨board, { cfg := loopCfgOf (loopBytes 3), state := 0, x := { value := 0xC0000000 } }, by decide⟩

theorem witness_LoopCycleEffect_threeState : ∃ (s : State) (x : Loop), x.permitted = true ∧ x.sound = true ∧
  x.cfg.kind = 2 ∧ x.state ≤ 2 :=
  ⟨board, { cfg := { loopCfgOf (loopBytes 3) with kind := 2 }, state := 0, x := { value := 0xC0000000 } }, by decide⟩

theorem witness_LoopCycleEffect_second : ∃ (s : State) (x : Loop) (n o : Nat), s.running iLOOP = true ∧ s.loop n =
  some x ∧ n < 1024 ∧ x.secondBit = some (true, false) ∧ x.bitRaise ≠ some true ∧ (s.group x.cfg.group).release < 2
  ^ 64 ∧ Sound s o ∧ o = x.cfg.outPt ∧ (s.point o).type = 0 ∧ (s.point o).owner = x.cfg.tenant ∧ ((s.point o).flag
  fLocked = false ∨ (s.point o).writer = 0x20000000 + n) ∧ forceIndex s o = none ∧ forceOf s o = none ∧
  firstAssignable ≤ o ∧ (s.isl iPF).state = .run ∧ (s.isl iPF).draining = false ∧ (s.epochOf iLOOP iPF = 0 ∨
  s.epochOf iLOOP iPF = (s.isl iPF).epoch) :=
  ⟨(cycleBoard .applied (some (true, false)) 2), { cfg := { loopCfgOf (loopBytes 3) with outMode := 2 }, enabled := true, joined := true, state := 1, pending := some 1, secondBit := some (true, false) }, 3, 0x0100004, by decide⟩

theorem witness_LoopCycleEffect_noSecond : ∃ (s : State) (x : Loop) (n : Nat), (s.loop n).bind (·.secondBit) = none
  :=
  ⟨(cycleBoard .applied (none) 0), { cfg := { loopCfgOf (loopBytes 3) with outMode := 0 }, enabled := true, joined := true, state := 1, pending := some 1, secondBit := none }, 3, by decide⟩

theorem witness_MeteringEvents_bad : ∃ (s : State) (p : List Byte), s.running iMTR = true ∧ s.meter.restored = true
  ∧ s.meter.linkUp = false ∧ (afeCheck p = false ∨ (s.meter.afePrev.any fun q => (q + 1) % 256 != fld p 0 1) = true)
  :=
  ⟨{ board with meter := { board.meter with restored := true } }, [], by decide⟩

theorem witness_MeteringEvents_rejected : ∃ (s : State) (p : List Byte), s.running iMTR = true ∧ s.meter.restored =
  true ∧ s.meter.linkUp = true ∧ (afeCheck p = false ∨ (s.meter.afePrev.any fun q => (q + 1) % 256 != fld p 0 1) =
  true) ∧ s.meter.rejected < 7 ∧ s.meter.circuits = [] ∧ s.meter.warnDue = false :=
  ⟨{ board with meter := { board.meter with restored := true, linkUp := true, rejected := 6 } }, [], by decide⟩

theorem witness_MeteringEvents_eighth : ∃ (s : State) (p : List Byte), s.running iMTR = true ∧ s.meter.restored =
  true ∧ s.meter.linkUp = true ∧ (afeCheck p = false ∨ (s.meter.afePrev.any fun q => (q + 1) % 256 != fld p 0 1) =
  true) ∧ s.meter.rejected = 7 ∧ s.meter.circuits = [] ∧ s.meter.warnDue = false :=
  ⟨{ board with meter := { board.meter with restored := true, linkUp := true, rejected := 7 } }, [], by decide⟩

theorem witness_MeteringEvents_good : ∃ (s : State) (p : List Byte), s.running iMTR = true ∧ s.meter.restored = true
  ∧ afeCheck p = true ∧ (s.meter.afePrev.any fun q => (q + 1) % 256 != fld p 0 1) = false ∧ s.meter.circuits = [] ∧
  s.meter.warnDue = false :=
  ⟨{ board with meter := { board.meter with restored := true } }, (overlay (leBytes 184 0) 182 (leBytes 2 (crc16 (leBytes 182 0)).toNat)), by decide +kernel⟩

theorem witness_MeteringEvents_linkTimeout : ∃ (s : State), s.running iMTR = true ∧ s.meter.linkUp = true ∧
  s.meter.lastFrame + nsMs ≤ s.now ∧ s.meter.circuits = [] ∧ s.meter.warnDue = false :=
  ⟨{ board with meter := { board.meter with restored := true, linkUp := true, lastFrame := 5 }, clock := { board.clock with up := 90000000000 } }, by decide⟩

theorem witness_MeteringEvents_linkHeard : ∃ (s : State), (s.meter.linkUp = false ∨ s.now < s.meter.lastFrame +
  nsMs) :=
  ⟨board, by decide⟩

theorem witness_MeteringEvents_save : ∃ (s : State), s.running iMTR = true ∧ s.power.totalsBack = true ∧
  s.meter.restored = true ∧ s.meter.lastSave + max 1 (s.rfield rMeSaveCtrl 0 8) * nsSec ≤ s.now ∧ (s.isl iPF).state
  = .run ∧ (s.isl iPF).draining = false ∧ (s.epochOf iMTR iPF = 0 ∨ s.epochOf iMTR iPF = (s.isl iPF).epoch) :=
  ⟨{ board with meter := { board.meter with restored := true }, clock := { board.clock with up := 90000000000 }, power := { board.power with totalsBack := true } }, by decide⟩

theorem witness_MeteringEvents_saveEarly : ∃ (s : State), s.now < s.meter.lastSave + max 1 (s.rfield rMeSaveCtrl 0
  8) * nsSec :=
  ⟨board, by decide⟩

theorem witness_MeteringEvents_saveNow : ∃ (s : State) (a : Agent) (v : Word), Reaches s a rMeSaveCtrl (v.toNat |||
  0x100) true ∧ s.running iMTR = true ∧ s.power.totalsBack = true ∧ s.meter.restored = true ∧ (s.isl iPF).state =
  .run ∧ (s.isl iPF).draining = false ∧ (s.epochOf iMTR iPF = 0 ∨ s.epochOf iMTR iPF = (s.isl iPF).epoch) :=
  ⟨{ board with meter := { board.meter with restored := true }, power := { board.power with totalsBack := true } }, .steward, 9, by decide⟩

theorem witness_MeteringEvents_snap : ∃ (s : State) (a : Agent) (v : Word), Reaches s a rMeAccCtrl (v.toNat |||
  0x10000) true ∧ bitOf v.toNat 17 = false ∧ bitOf v.toNat 18 = false ∧ s.running iMTR = true :=
  ⟨meterBoard, .steward, 2, by decide⟩

theorem witness_MeteringEvents_ackWrap : ∃ (s : State) (a : Agent) (v : Word), Reaches s a rMeAccCtrl (v.toNat |||
  0x20000) true ∧ bitOf v.toNat 16 = false ∧ bitOf v.toNat 18 = false ∧ s.running iMTR = true :=
  ⟨{ board with meter := { board.meter with accs := [(2, { master := 7, wrapPending := true })] } }, .steward, 2, by decide⟩

theorem witness_MeteringEvents_ackFail : ∃ (s : State) (a : Agent) (v : Word), Reaches s a rMeAccCtrl (v.toNat |||
  0x40000) true ∧ bitOf v.toNat 16 = false ∧ bitOf v.toNat 17 = false ∧ s.running iMTR = true :=
  ⟨{ board with meter := { board.meter with accs := [(2, { master := 7, failed := true })] } }, .steward, 2, by decide⟩

theorem witness_MeteringEvents_demand : ∃ (s : State), s.running iMTR = true ∧ s.meter.demandNext ≤ s.tai ∧ s.tai <
  s.meter.demandNext + demandLength s ∧ (demandKeys s).Nodup :=
  ⟨{ meterBoard with meter := { meterBoard.meter with demandNext := 946684800000000000 } }, by decide⟩

theorem witness_MeteringEvents_demandEarly : ∃ (s : State), s.tai < s.meter.demandNext :=
  ⟨{ board with meter := { board.meter with demandNext := 1000000000000000000 } }, by decide⟩

theorem witness_MeteringEvents_pulse : ∃ (s : State) (o : Nat), o < 8 ∧ s.running iMTR = true ∧ (s.spill o).bound =
  true ∧ (s.spill o).backlog ≠ 0 ∧ (s.spill o).driving = false ∧ (s.acts = true ∨ s.shadow = true) ∧ (s.spill
  o).start < spillGrid s (s.spill o) ∧ s.tai ≤ spillGrid s (s.spill o) + 10 :=
  ⟨{ board with meter := { board.meter with spills := [(3, { bound := true, width := 20, backlog := 4 })] } }, 3, by decide⟩

theorem witness_MeteringEvents_noPulse : ∃ (s : State) (o : Nat), ((s.spill o).bound = false ∨ (s.spill o).backlog =
  0 ∨ (s.spill o).driving = true ∨ (s.acts = false ∧ s.shadow = false) ∨ spillGrid s (s.spill o) + 10 < s.tai) :=
  ⟨board, 3, by decide⟩

theorem witness_MeteringEvents_pulseEnd : ∃ (s : State) (o : Nat), o < 8 ∧ (s.spill o).driving = true ∧ (s.spill
  o).start + (s.spill o).pulseWidth * nsMs ≤ s.tai :=
  ⟨{ board with meter := { board.meter with spills := [(3, { bound := true, width := 20, driving := true })] } }, 3, by decide⟩

theorem witness_MeteringEvents_pulseGoes : ∃ (s : State) (o : Nat), ((s.spill o).driving = false ∨ s.tai < (s.spill
  o).start + (s.spill o).pulseWidth * nsMs) :=
  ⟨board, 3, by decide⟩

theorem witness_MeteringEvents_count : ∃ (s : State) (k : Nat) (level : Bool), k < 8 ∧ s.running iMTR = true ∧
  (s.pulseIn k).level ≠ level ∧ (s.pulseIn k).since + debounce s k ≤ s.now ∧ s.rbit (rMePinCfg k) 0 = true ∧ s.rbit
  (rMePinCfg k) 1 = level ∧ s.reg (rMePinWt k) ≠ 0 ∧ (s.acc (0x800 + k)).reported + s.reg (rMePinWt k) < 2 ^ 64 ∧ (∀
  o, o < 8 → (s.spill o).bound = false) :=
  ⟨{ ((board.setReg (rMePinCfg 1) 0x503).setReg (rMePinWt 1) 7) with clock := { board.clock with up := 90000000000 } }, 1, true, by decide⟩

theorem witness_MeteringEvents_level : ∃ (s : State) (k : Nat) (level : Bool), k < 8 ∧ s.running iMTR = true ∧
  (s.pulseIn k).level ≠ level ∧ (s.pulseIn k).since + debounce s k ≤ s.now ∧ (s.rbit (rMePinCfg k) 0 = false ∨
  s.rbit (rMePinCfg k) 1 ≠ level ∨ s.reg (rMePinWt k) = 0) :=
  ⟨{ (board.setReg (rMePinCfg 1) 0x503) with clock := { board.clock with up := 90000000000 } }, 1, true, by decide⟩

theorem witness_MeteringEvents_bounce : ∃ (s : State) (k : Nat) (level : Bool), ((s.pulseIn k).level = level ∨ s.now
  < (s.pulseIn k).since + debounce s k) :=
  ⟨board, 1, false, by decide⟩

theorem witness_MeteringEvents_point : ∃ (s : State) (k pt : Nat), s.running iMTR = true ∧ s.twin.role = .single ∧
  (List.range 8).filter (fun j => (s.pulseIn j).changed) = [k] ∧ pt = 0x0011800 + k ∧ s.tai < 2 ^ 64 ∧ nsSec ≤ s.tai
  ∧ Sound s pt ∧ (s.point pt).owner = house ∧ (s.point pt).type = 4 ∧ ((s.point pt).flag fLocked = false ∨ (s.point
  pt).writer = 0x30000003) ∧ forceIndex s pt = none ∧ forceOf s pt = none ∧ (s.isl iPF).state = .run ∧ (s.isl
  iPF).draining = false ∧ (s.epochOf iMTR iPF = 0 ∨ s.epochOf iMTR iPF = (s.isl iPF).epoch) :=
  ⟨{ board with meter := { board.meter with pulses := [(2, { changed := true })], accs := [(0x802, { master := 55 })] }, fabric := { board.fabric with store := [(0x0011802, PointRec.sealed { record 0 with type := 4 })] } }, 2, 0x0011802, by decide⟩

theorem witness_MeteringEvents_restore : ∃ (s : State) (n : Nat) (h b : List Byte), s.running iMTR = true ∧
  s.meter.restored = false ∧ s.meter.totals = { head := some (mramPair h), accs := [(n, mramPair b)] } ∧ h.length =
  28 ∧ b.length = 12 ∧ s.acc n = {} :=
  ⟨{ board with meter := { board.meter with totals := { head := some (mramPair (leBytes 28 0)), accs := [(2, mramPair (leBytes 12 9))] } } }, 2, leBytes 28 0, leBytes 12 9, by decide⟩

theorem witness_MeteringEvents_restoreBad : ∃ (s : State) (n : Nat) (h : MramPair) (c0 c1 : List Byte), s.running
  iMTR = true ∧ s.meter.restored = false ∧ s.meter.totals = { head := some h, accs := [(n, { copy0 := c0, copy1 :=
  c1 })] } ∧ mramOk c0 = false ∧ mramOk c1 = false :=
  ⟨{ board with meter := { board.meter with totals := { head := some (mramPair (leBytes 28 0)), accs := [(2, { copy0 := [], copy1 := [1] })] } } }, 2, mramPair (leBytes 28 0), [], [1], by decide⟩

theorem witness_MeteringEvents_noTotals : ∃ (s : State), s.running iMTR = true ∧ s.meter.restored = false ∧
  s.meter.totals.head = none :=
  ⟨board, by decide⟩

theorem witness_HarvestEvents_sample : ∃ (s : State) (q : HvSample) (rest : List HvSample) (x : HvSeries), s.running
  iPF = true ∧ s.rbit rHvCtrl 0 = true ∧ hvFull s = false ∧ s.harvest.queue = q :: rest ∧ tabGet s.harvest.series
  q.series = some x ∧ Sound s q.pt ∧ bitOf (rightsOf s (s.point q.pt) x.tenant) 3 = true ∧ (q.quality = qGood ∨
  q.quality = qSubstituted) ∧ fisFin fmt64 (toF64 q.type q.value) = true :=
  ⟨{ seriesBoard.setReg rHvCtrl 1 with harvest := { seriesBoard.harvest with queue := [{ series := 4, pt := 0x0100000, type := 1, quality := 0, value := 1, time := 70 }] } }, { series := 4, pt := 0x0100000, type := 1, quality := 0, value := 1, time := 70 }, [], { tenant := 0, pt := 0x0100000, bins := 2, low := 0, width := 0x3FF0000000000000, linked := false, next := none, current := { HvRecord.empty 2 0 with count := 3 }, closed := [], seq := 6 }, by decide⟩

theorem witness_HarvestEvents_rejected : ∃ (s : State) (q : HvSample) (rest : List HvSample) (x : HvSeries),
  s.running iPF = true ∧ s.rbit rHvCtrl 0 = true ∧ hvFull s = false ∧ s.harvest.queue = q :: rest ∧ tabGet
  s.harvest.series q.series = some x ∧ Sound s q.pt ∧ bitOf (rightsOf s (s.point q.pt) x.tenant) 3 = true ∧
  ((q.quality ≠ qGood ∧ q.quality ≠ qSubstituted) ∨ fisFin fmt64 (toF64 q.type q.value) = false) :=
  ⟨{ seriesBoard.setReg rHvCtrl 1 with harvest := { seriesBoard.harvest with queue := [{ series := 4, pt := 0x0100000, type := 1, quality := 3, value := 1, time := 70 }] } }, { series := 4, pt := 0x0100000, type := 1, quality := 3, value := 1, time := 70 }, [], { tenant := 0, pt := 0x0100000, bins := 2, low := 0, width := 0x3FF0000000000000, linked := false, next := none, current := { HvRecord.empty 2 0 with count := 3 }, closed := [], seq := 6 }, by decide⟩

theorem witness_HarvestEvents_sampleOff : ∃ (s : State), s.running iPF = true ∧ s.rbit rHvCtrl 0 = false ∧
  s.harvest.queue ≠ [] :=
  ⟨{ seriesBoard.setReg rHvCtrl 0 with harvest := { seriesBoard.harvest with queue := [{ series := 4, pt := 0x0100000, type := 1, quality := 0, value := 1, time := 70 }] } }, by decide⟩

theorem witness_HarvestEvents_close : ∃ (s : State) (k c : Nat) (x : HvSeries), s.running iPF = true ∧ s.shadow =
  false ∧ s.twin.role = .single ∧ closeDue s = some c ∧ closeNeed s ≤ regionBytes - hvUsed s ∧ s.harvest.series.any
  (fun e => decide (65535 ≤ e.2.closed.length)) = false ∧ tabGet s.harvest.series k = some x :=
  ⟨{ seriesBoard.setReg rHvCtrl 0xF01 with harvest := { seriesBoard.harvest with queue := [] } }, 4, 946684800000000000, { tenant := 0, pt := 0x0100000, bins := 2, low := 0, width := 0x3FF0000000000000, linked := false, next := none, current := { HvRecord.empty 2 0 with count := 3 }, closed := [], seq := 6 }, by decide⟩

theorem witness_HarvestEvents_due : ∃ (s : State) (m : Nat), m = min (s.rfield rHvCtrl 8 11) 1440 ∧ m ≠ 0 ∧ s.rbit
  rHvCtrl 0 = true ∧ hvFull s = false ∧ max s.harvest.lastClose s.harvest.closeFrom < s.tai / (m * 60 * nsSec) * (m
  * 60 * nsSec) :=
  ⟨{ seriesBoard.setReg rHvCtrl 0xF01 with harvest := { seriesBoard.harvest with queue := [] } }, 15, by decide⟩

theorem witness_HarvestEvents_full : ∃ (s : State) (c : Nat), s.running iPF = true ∧ s.shadow = false ∧ closeDue s =
  some c ∧ regionBytes - hvUsed s < closeNeed s :=
  ⟨{ (seriesBoard.setReg rHvCtrl 0xF01) with harvest := { seriesBoard.harvest with series := (List.range 2).map fun k => (k, {  tenant := 0, pt := 0x0100000, bins := 400000000, low := 0, width := 0x3FF0000000000000, linked := false, next := none, current := { HvRecord.empty 2 0 with count := 3 }, closed := [], seq := 6  }) } }, 946684800000000000, by decide⟩

theorem witness_HarvestEvents_noClose : ∃ (s : State), (s.shadow = true ∨ closeDue s = none) :=
  ⟨board, by decide⟩

theorem witness_HarvestEvents_select : ∃ (s : State) (a : Agent) (w : Nat) (v : Word), w < 2 ∧ Reaches s a (rHvWSel
  w) v.toNat true :=
  ⟨board, .steward, 0, 4, by decide⟩

theorem witness_HarvestEvents_read : ∃ (s : State) (a : Agent) (w c n : Nat) (x : HvSeries) (y : HvRecord), w < 2 ∧
  Reaches s a (rHvWData w) 0 false ∧ c = s.rfield (rHvWCur w) 0 7 ∧ windowRecord s w = some (x, y, n) ∧ c ≤ 17 +
  x.bins ∧ s.reg (rHvWCur w) < 128 :=
  ⟨((seriesBoard.setReg (rHvWTenant 0) 0).setReg (rHvWSel 0) 4), .steward, 0, 0, 0, { tenant := 0, pt := 0x0100000, bins := 2, low := 0, width := 0x3FF0000000000000, linked := false, next := none, current := { HvRecord.empty 2 0 with count := 3 }, closed := [], seq := 6 }, { HvRecord.empty 2 0 with count := 3, seq := 6 }, by decide⟩

theorem witness_HarvestEvents_readEnd : ∃ (s : State) (a : Agent) (w c n : Nat) (x : HvSeries) (y : HvRecord), w < 2
  ∧ Reaches s a (rHvWData w) 0 false ∧ c = s.rfield (rHvWCur w) 0 7 ∧ windowRecord s w = some (x, y, n) ∧ 17 +
  x.bins < c :=
  ⟨(((seriesBoard.setReg (rHvWTenant 0) 0).setReg (rHvWSel 0) 4).setReg (rHvWCur 0) 20), .steward, 0, 20, 0, { tenant := 0, pt := 0x0100000, bins := 2, low := 0, width := 0x3FF0000000000000, linked := false, next := none, current := { HvRecord.empty 2 0 with count := 3 }, closed := [], seq := 6 }, { HvRecord.empty 2 0 with count := 3, seq := 6 }, by decide⟩

theorem witness_HarvestEvents_drop : ∃ (s : State) (a : Agent) (v : Word) (k : Nat) (x : HvSeries), Reaches s a
  rHvCtrl v.toNat true ∧ bitOf v.toNat 31 = true ∧ tabGet s.harvest.series k = some x ∧ s.twin.role = .single :=
  ⟨seriesBoard, .steward, 0x80000001, 4, { tenant := 0, pt := 0x0100000, bins := 2, low := 0, width := 0x3FF0000000000000, linked := false, next := none, current := { HvRecord.empty 2 0 with count := 3 }, closed := [], seq := 6 }, by decide⟩

theorem witness_SwitchEvents_bad : ∃ (s : State) (p : Nat) (f : RxFrame) (i : Nat), p < 20 ∧ ringBypassed s p =
  false ∧ (s.isl iSW).state = .run ∧ ((s.port p).link = .up ∨ (s.port p).link = .sleeping) ∧ f.codeErr = false ∧
  ((f.fcsOk = false ∧ i = 8) ∨ (f.fcsOk = true ∧ f.bytes.length + 4 < 64 ∧ i = 9) ∨ (f.fcsOk = true ∧ 64 ≤
  f.bytes.length + 4 ∧ (s.port p).cfg.maxFrame < f.bytes.length + 4 ∧ i = 10)) :=
  ⟨{ (board.setReg rSwCtrl 1) with switch := { (board.setReg rSwCtrl 1).switch with ports := [(3, { Port.factory 3 with link := .up }), (4, { Port.factory 4 with link := .up, cfg := { PortCfg.factory 4 with enable := 0x1F } })], uc := [(5, { mac := 0x020000000009, ports := 16, static := false, taught := 3 })] } }, 3, { bytes := (ethFrame 0x020000000009 0x020000000007 0x0800 (leBytes 20 0)), codeErr := false, fcsOk := true, macsec := .plain }, 9, by decide⟩

theorem witness_SwitchEvents_bridge : ∃ (s : State) (p : Nat) (f : RxFrame) (k : Nat), p < 20 ∧ 3 ≤ p ∧ (s.isl
  iSW).state = .run ∧ (s.port p).link = .up ∧ (s.port p).macsec = none ∧ f.codeErr = false ∧ f.fcsOk = true ∧ 64 ≤
  f.bytes.length + 4 ∧ f.bytes.length + 4 ≤ (s.port p).cfg.maxFrame ∧ fType f.bytes ≠ etMacCtrl ∧ (s.port p).cfg.on
  5 = false ∧ innerType f.bytes ≠ s.rfield rPfJiosh 0 16 ∧ isUnicast (fDst f.bytes) = true ∧ isOwn s (fDst f.bytes)
  = false ∧ bridgePorts s p f.bytes = [k] ∧ (s.port k).link = .up ∧ hasRoom s k (frameClass s p f.bytes)
  f.bytes.length = true :=
  ⟨{ (board.setReg rSwCtrl 1) with switch := { (board.setReg rSwCtrl 1).switch with ports := [(3, { Port.factory 3 with link := .up }), (4, { Port.factory 4 with link := .up, cfg := { PortCfg.factory 4 with enable := 0x1F } })], uc := [(5, { mac := 0x020000000009, ports := 16, static := false, taught := 3 })] } }, 3, { bytes := (ethFrame 0x020000000009 0x020000000007 0x0800 (leBytes 60 0)), codeErr := false, fcsOk := true, macsec := .plain }, 4, by decide⟩

theorem witness_SwitchEvents_entry : ∃ (s : State) (p : Nat) (b : List Byte) (k i : Nat) (e : UcEntry), bridged s p
  = true ∧ bridged s k = true ∧ k ≠ p ∧ fDst b ≠ macBroadcast ∧ isUnicast (fDst b) = true ∧ isOwn s (fDst b) = false
  ∧ ucIndex s (fDst b) = some i ∧ tabGet s.switch.uc i = some e ∧ e.ports = 2 ^ k :=
  ⟨{ (board.setReg rSwCtrl 1) with switch := { (board.setReg rSwCtrl 1).switch with ports := [(3, { Port.factory 3 with link := .up }), (4, { Port.factory 4 with link := .up, cfg := { PortCfg.factory 4 with enable := 0x1F } })], uc := [(5, { mac := 0x020000000009, ports := 16, static := false, taught := 3 })] } }, 3, (ethFrame 0x020000000009 0x020000000007 0x0800 (leBytes 60 0)), 4, 5, { mac := 0x020000000009, ports := 16, static := false, taught := 3 }, by decide⟩

theorem witness_SwitchEvents_learn : ∃ (s : State) (p : Nat) (mac i : Nat), bridged s p = true ∧ (s.port p).cfg.on 3
  = true ∧ isUnicast mac = true ∧ isOwn s mac = false ∧ ucIndex s mac = none ∧ ucFree s (ucBucket mac) = some i :=
  ⟨{ (board.setReg rSwCtrl 1) with switch := { (board.setReg rSwCtrl 1).switch with ports := [(3, { Port.factory 3 with link := .up }), (4, { Port.factory 4 with link := .up, cfg := { PortCfg.factory 4 with enable := 0x1F } })], uc := [(5, { mac := 0x020000000009, ports := 16, static := false, taught := 3 })] } }, 3, 0x020000000007, (ucBucket 0x020000000007 * 4), by decide⟩

theorem witness_SwitchEvents_nowhere : ∃ (s : State) (p : Nat) (f : RxFrame), p < 20 ∧ 3 ≤ p ∧ (s.isl iSW).state =
  .run ∧ (s.port p).link = .up ∧ (s.port p).macsec = none ∧ f.codeErr = false ∧ f.fcsOk = true ∧ 64 ≤ f.bytes.length
  + 4 ∧ f.bytes.length + 4 ≤ (s.port p).cfg.maxFrame ∧ fType f.bytes ≠ etMacCtrl ∧ (s.port p).cfg.on 5 = false ∧
  innerType f.bytes ≠ s.rfield rPfJiosh 0 16 ∧ isUnicast (fDst f.bytes) = true ∧ isOwn s (fDst f.bytes) = false ∧
  bridgePorts s p f.bytes = [] :=
  ⟨{ (board.setReg rSwCtrl 1) with switch := { (board.setReg rSwCtrl 1).switch with ports := [(3, { Port.factory 3 with link := .up })] } }, 3, { bytes := (ethFrame 0x020000000009 0x020000000007 0x0800 (leBytes 60 0)), codeErr := false, fcsOk := true, macsec := .plain }, by decide⟩

theorem witness_SwitchEvents_repeated : ∃ (s : State) (p : Nat) (f : RxFrame), p < 2 ∧ s.switch.bypassClosed = true
  :=
  ⟨board, 1, { bytes := [], codeErr := false, fcsOk := true, macsec := .plain }, by decide⟩

theorem witness_SwitchEvents_ring : ∃ (s : State) (p : Nat) (f : RxFrame) (a c : Nat), p < 2 ∧ s.switch.bypassClosed
  = false ∧ (s.isl iSW).state = .run ∧ (s.port p).link = .up ∧ (s.port (1 - p)).link = .up ∧ (s.port p).macsec =
  none ∧ f.codeErr = false ∧ f.fcsOk = true ∧ 64 ≤ f.bytes.length + 4 ∧ f.bytes.length + 4 ≤ (s.port p).cfg.maxFrame
  ∧ s.rbit rSwCtrl 1 = true ∧ tagFormed f.bytes = true ∧ a = fSrc f.bytes ∧ isUnicast (fDst f.bytes) = true ∧ isOwn
  s (fDst f.bytes) = false ∧ a ≠ macBase s ∧ c = beNat (sub f.bytes 16 2) ∧ seenBy s p a c = false ∧ hasRoom s (1 -
  p) (frameClass s p (untagged f.bytes)) f.bytes.length = true :=
  ⟨{ (board.setReg rSwCtrl 3) with switch := { board.switch with bypassClosed := false, ports := [(0, { Port.factory 0 with link := .up }), (1, { Port.factory 1 with link := .up })] } }, 0, { bytes := (ethFrame 0x020000000009 0x020000000007 0x892F (leBytes 1 0 ++ leBytes 1 50 ++ leBytes 2 0x0300 ++ leBytes 60 0)), codeErr := false, fcsOk := true, macsec := .plain }, 0x020000000007, 3, by decide⟩

theorem witness_SwitchEvents_send : ∃ (s : State) (p : Nat) (q : QFrame), p < 20 ∧ p ≠ 2 ∧ ringBypassed s p = false
  ∧ s.running iSW = true ∧ (s.port p).link = .up ∧ (s.port p).pauseUntil ≤ s.now ∧ (s.port p).queue = [q] ∧ q.cls <
  8 ∧ q.stamp = .none ∧ (s.port p).macsec = none ∧ (s.port p).cfg.on 7 = false ∧ (s.port p).pendingList = none :=
  ⟨{ board with switch := { board.switch with ports := [(4, { Port.factory 4 with link := .up, queue := [{ cls := 2, bytes := leBytes 60 0 }] })] } }, 4, { cls := 2, bytes := leBytes 60 0 }, by decide⟩

theorem witness_SwitchEvents_still : ∃ (s : State) (p : Nat), (s.running iSW = false ∨ (s.port p).link ≠ .up ∨ s.now
  < (s.port p).pauseUntil ∨ ringBypassed s p = true) :=
  ⟨board, 4, by decide⟩

theorem witness_SwitchEvents_age : ∃ (s : State) (p : Nat) (mac i : Nat) (e : UcEntry), s.running iSW = true ∧
  ucIndex s mac = some i ∧ tabGet s.switch.uc i = some e ∧ e.static = false ∧ e.taught + max 10 (min 1000000
  (s.rfield rSwAge 0 20)) * nsSec ≤ s.now :=
  ⟨{ board.setReg rSwAge 20 with clock := { board.clock with up := 90000000000 }, switch := { board.switch with uc := [(5, { mac := 0x020000000009, ports := 16, static := false, taught := 3 })] } }, 4, 0x020000000009, 5, { mac := 0x020000000009, ports := 16, static := false, taught := 3 }, by decide⟩

theorem witness_SwitchEvents_stays : ∃ (s : State) (p : Nat) (mac : Nat), (ucIndex s mac = none ∨ ((ucIndex s
  mac).bind (tabGet s.switch.uc)).any (·.static) = true) :=
  ⟨board, 4, 7, by decide⟩

theorem witness_SwitchEvents_lookup : ∃ (s : State) (p : Nat) (a : Agent) (v : Word) (i : Nat) (e : UcEntry),
  Reaches s a rSwUcCmd v.toNat true ∧ v.toNat % 4 = 0 ∧ ucIndex s (s.reg rSwUcMacLo + s.reg rSwUcMacHi % 65536 * 2 ^
  32) = some i ∧ tabGet s.switch.uc i = some e :=
  ⟨{ ((board.setReg rSwUcMacLo 9).setReg rSwUcMacHi 0x0200).setReg rSwUcData 0x40000010 with switch := { board.switch with uc := [(5, { mac := 0x020000000009, ports := 16, static := false, taught := 3 })] } }, 4, .steward, 0, 5, { mac := 0x020000000009, ports := 16, static := false, taught := 3 }, by decide⟩

theorem witness_SwitchEvents_lookupNone : ∃ (s : State) (p : Nat) (a : Agent) (v : Word), Reaches s a rSwUcCmd
  v.toNat true ∧ v.toNat % 4 = 0 ∧ ucIndex s (s.reg rSwUcMacLo + s.reg rSwUcMacHi % 65536 * 2 ^ 32) = none :=
  ⟨{ ((board.setReg rSwUcMacLo 9).setReg rSwUcMacHi 0x0200).setReg rSwUcData 0x40000010 with switch := { board.switch with uc := [] } }, 4, .steward, 0, by decide⟩

theorem witness_SwitchEvents_write : ∃ (s : State) (p : Nat) (a : Agent) (v : Word) (i : Nat), Reaches s a rSwUcCmd
  v.toNat true ∧ v.toNat % 4 = 1 ∧ (ucIndex s (s.reg rSwUcMacLo + s.reg rSwUcMacHi % 65536 * 2 ^ 32) = some i ∨
  (ucIndex s (s.reg rSwUcMacLo + s.reg rSwUcMacHi % 65536 * 2 ^ 32) = none ∧ ucFree s (ucBucket (s.reg rSwUcMacLo +
  s.reg rSwUcMacHi % 65536 * 2 ^ 32)) = some i)) :=
  ⟨{ ((board.setReg rSwUcMacLo 9).setReg rSwUcMacHi 0x0200).setReg rSwUcData 0x40000010 with switch := { board.switch with uc := [(5, { mac := 0x020000000009, ports := 16, static := false, taught := 3 })] } }, 4, .steward, 1, 5, by decide⟩

theorem witness_SwitchEvents_delete : ∃ (s : State) (p : Nat) (a : Agent) (v : Word) (i : Nat) (e : UcEntry),
  Reaches s a rSwUcCmd v.toNat true ∧ v.toNat % 4 = 2 ∧ ucIndex s (s.reg rSwUcMacLo + s.reg rSwUcMacHi % 65536 * 2 ^
  32) = some i ∧ tabGet s.switch.uc i = some e :=
  ⟨{ ((board.setReg rSwUcMacLo 9).setReg rSwUcMacHi 0x0200).setReg rSwUcData 0x40000010 with switch := { board.switch with uc := [(5, { mac := 0x020000000009, ports := 16, static := false, taught := 3 })] } }, 4, .steward, 2, 5, { mac := 0x020000000009, ports := 16, static := false, taught := 3 }, by decide⟩

theorem witness_SwitchEvents_read : ∃ (s : State) (p : Nat) (a : Agent) (v : Word) (e : UcEntry), Reaches s a
  rSwUcCmd v.toNat true ∧ v.toNat % 4 = 3 ∧ tabGet s.switch.uc (bitsOf v.toNat 2 14) = some e :=
  ⟨{ ((board.setReg rSwUcMacLo 9).setReg rSwUcMacHi 0x0200).setReg rSwUcData 0x40000010 with switch := { board.switch with uc := [(5, { mac := 0x020000000009, ports := 16, static := false, taught := 3 })] } }, 4, .steward, 23, { mac := 0x020000000009, ports := 16, static := false, taught := 3 }, by decide⟩

theorem witness_SwitchEvents_flush : ∃ (s : State) (p : Nat) (a : Agent) (v : Word), Reaches s a rSwCtrl v.toNat
  true ∧ bitOf v.toNat 2 = true :=
  ⟨{ ((board.setReg rSwUcMacLo 9).setReg rSwUcMacHi 0x0200).setReg rSwUcData 0x40000010 with switch := { board.switch with uc := [(5, { mac := 0x020000000009, ports := 16, static := false, taught := 3 })] } }, 4, .steward, 5, by decide⟩

theorem witness_SwitchEvents_gate : ∃ (s : State) (p : Nat) (g : GateList) (c : Nat), (s.port p).pendingList = some
  (g, c) ∧ c ≤ s.tai :=
  ⟨{ board with switch := { board.switch with ports := [(4, { Port.factory 4 with link := .up, pendingList := some ({ cycle := 1000, base := 0, entries := [(255, 1000)] }, 7) })] } }, 4, { cycle := 1000, base := 0, entries := [(255, 1000)] }, 7, by decide⟩

theorem witness_SwitchEvents_gateWaits : ∃ (s : State) (p : Nat), ((s.port p).pendingList = none ∨ (s.port
  p).pendingList.any (fun x => decide (s.tai < x.2)) = true) :=
  ⟨board, 4, by decide⟩

theorem witness_SwitchEvents_gateEntry : ∃ (s : State) (p : Nat) (g : GateList), (s.port p).cfg.on 7 = true ∧
  (s.port p).running = some g :=
  ⟨{ board with switch := { board.switch with ports := [(4, { Port.factory 4 with link := .up, cfg := { PortCfg.factory 4 with enable := 0x81 }, running := some { cycle := 1000, base := 0, entries := [(255, 1000)] } })] } }, 4, { cycle := 1000, base := 0, entries := [(255, 1000)] }, by decide⟩

theorem witness_SwitchEvents_noGate : ∃ (s : State) (p : Nat), ((s.port p).cfg.on 7 = false ∨ (s.port p).running =
  none) :=
  ⟨board, 4, by decide⟩

theorem witness_SwitchEvents_pause : ∃ (s : State) (p : Nat), (s.port p).pauseUntil ≤ s.now :=
  ⟨{ board with switch := { board.switch with ports := [(4, { Port.factory 4 with link := .up })] } }, 4, by decide⟩

theorem witness_SwitchEvents_pauseGoes : ∃ (s : State) (p : Nat), s.now < (s.port p).pauseUntil :=
  ⟨{ board with switch := { board.switch with ports := [(4, { Port.factory 4 with link := .up, pauseUntil := 90000000000 })] } }, 4, by decide⟩

theorem witness_SwitchEvents_supervise : ∃ (s : State) (p : Nat), s.running iSW = true ∧ s.rbit rSwCtrl 1 = true ∧
  s.switch.supervision ≤ s.now :=
  ⟨board.setReg rSwCtrl 2, 0, by decide⟩

theorem witness_SwitchEvents_superviseNot : ∃ (s : State) (p : Nat), (s.running iSW = false ∨ s.rbit rSwCtrl 1 =
  false ∨ s.now < s.switch.supervision) :=
  ⟨board.setReg rSwCtrl 0, 0, by decide⟩

theorem witness_SwitchEvents_expire : ∃ (s : State) (p : Nat) (d : HsrDup), s.running iSW = true ∧ s.switch.dups =
  [d] ∧ d.matched = false ∧ d.port < 20 ∧ d.seen + hsrForget s ≤ s.now :=
  ⟨{ board with clock := { board.clock with up := 90000000000 }, switch := { board.switch with dups := [{ mac := 7, seq := 2, port := 1, seen := 5, matched := false }] } }, 0, { mac := 7, seq := 2, port := 1, seen := 5, matched := false }, by decide⟩

theorem witness_SwitchEvents_expireNone : ∃ (s : State) (p : Nat), s.switch.dups = [] :=
  ⟨board, 0, by decide⟩

theorem witness_SwitchEvents_forget : ∃ (s : State) (p : Nat) (mac h : Nat), s.running iSW = true ∧ tabGet
  s.switch.nodes mac = some h ∧ h + 60 * nsSec ≤ s.now :=
  ⟨{ board with clock := { board.clock with up := 90000000000 }, switch := { board.switch with nodes := [(7, 5)] } }, 0, 7, 5, by decide⟩

theorem witness_SwitchEvents_forgetNone : ∃ (s : State) (p : Nat) (mac : Nat), tabGet s.switch.nodes mac = none :=
  ⟨board, 0, 7, by decide⟩

theorem witness_SwitchEvents_up : ∃ (s : State) (p : Nat), p < 20 ∧ s.running iSW = true ∧ (s.port p).link = .down ∧
  (s.port p).cfg.on 6 = false ∧ (p < 4 ∨ (s.power.shed = false ∧ s.running iFLD = true)) :=
  ⟨{ board with switch := { board.switch with ports := [(4, { Port.factory 4 with link := .down })] } }, 4, by decide⟩

theorem witness_SwitchEvents_down : ∃ (s : State) (p : Nat), p < 20 ∧ s.running iSW = true ∧ ((s.port p).link = .up
  ∨ (s.port p).link = .sleeping) :=
  ⟨{ board with switch := { board.switch with ports := [(4, { Port.factory 4 with link := .up, queue := [{ cls := 2, bytes := leBytes 60 0 }] })] } }, 4, by decide⟩

theorem witness_SwitchEvents_disabled : ∃ (s : State) (p : Nat) (q : Nat → Instr), q ∈ ([.linkUp, .linkDown] : List
  (Nat → Instr)) ∧ (s.port p).link = .disabled :=
  ⟨{ board with switch := { board.switch with ports := [(4, { Port.factory 4 with link := .disabled })] } }, 4, .linkUp, by exact ⟨by simp, by decide⟩⟩

theorem witness_SwitchEvents_bypass : ∃ (s : State) (p : Nat), (s.power.resetPin = true ∨ s.running iSW = false ∨
  s.power.started = false) :=
  ⟨State.reset, 0, by decide⟩

theorem witness_SwitchEvents_bypassNot : ∃ (s : State) (p : Nat), s.power.resetPin = false ∧ s.running iSW = true ∧
  s.power.started = true :=
  ⟨{ board with power := { board.power with started := true } }, 0, by decide⟩

theorem witness_SwitchEvents_open : ∃ (s : State) (p : Nat), s.running iSW = true ∧ s.power.resetPin = false ∧
  (s.port 0).link = .up ∧ (s.port 1).link = .up :=
  ⟨{ board with switch := { board.switch with ports := [(0, { Port.factory 0 with link := .up }), (1, { Port.factory 1 with link := .up })] } }, 0, by decide⟩

theorem witness_SwitchEvents_openNot : ∃ (s : State) (p : Nat), (s.running iSW = false ∨ s.power.resetPin = true ∨
  (s.port 0).link ≠ .up ∨ (s.port 1).link ≠ .up) :=
  ⟨State.reset, 0, by decide⟩

theorem witness_TimeEvents_domain : ∃ (s : State) (m : PtpMsg) (p : Instr), p ∈ ([.sync m, .followUp m, .pdelayReq
  m, .pdelayResp m, .pdelayRespFollowUp m, .announce m, .signaling m] : List Instr) ∧ ptpOn s m.port = true ∧
  m.domain ≠ s.rfield rTuPtp 0 8 :=
  ⟨(board.setReg rTuCtrl 0x11), { port := 3, domain := 3, sourceId := 65537, seq := 5, logInterval := 0, twoStep := false, ingress := 946684800000000500, origin := 946684800000000440, correction := 10, gmId := 77, priority1 := 1, clockClass := 6, clockAccuracy := 32, variance := 1, priority2 := 1, stepsRemoved := 0, utcOffset := 37, flags := 0, timeSource := 32 }, .sync { port := 3, domain := 3, sourceId := 65537, seq := 5, logInterval := 0, twoStep := false, ingress := 946684800000000500, origin := 946684800000000440, correction := 10, gmId := 77, priority1 := 1, clockClass := 6, clockAccuracy := 32, variance := 1, priority2 := 1, stepsRemoved := 0, utcOffset := 37, flags := 0, timeSource := 32 }, by exact ⟨by simp, by decide⟩⟩

theorem witness_TimeEvents_off : ∃ (s : State) (m : PtpMsg) (p : Instr), p ∈ ([.sync m, .followUp m, .pdelayReq m,
  .pdelayResp m, .pdelayRespFollowUp m, .announce m, .signaling m] : List Instr) ∧ ptpOn s m.port = false :=
  ⟨(board.setReg rTuCtrl 0), { port := 3, domain := 0, sourceId := 65537, seq := 5, logInterval := 0, twoStep := false, ingress := 946684800000000500, origin := 946684800000000440, correction := 10, gmId := 77, priority1 := 1, clockClass := 6, clockAccuracy := 32, variance := 1, priority2 := 1, stepsRemoved := 0, utcOffset := 37, flags := 0, timeSource := 32 }, .sync { port := 3, domain := 0, sourceId := 65537, seq := 5, logInterval := 0, twoStep := false, ingress := 946684800000000500, origin := 946684800000000440, correction := 10, gmId := 77, priority1 := 1, clockClass := 6, clockAccuracy := 32, variance := 1, priority2 := 1, stepsRemoved := 0, utcOffset := 37, flags := 0, timeSource := 32 }, by exact ⟨by simp, by decide⟩⟩

theorem witness_TimeEvents_servo : ∃ (s : State) (m : PtpMsg) (f : Foreign) (off : Int), m.port = 3 ∧ ptpOn s m.port
  = true ∧ m.domain = s.rfield rTuPtp 0 8 ∧ s.clock.master = some f ∧ f.port = 3 ∧ f.source / 65536 = m.sourceId /
  65536 ∧ s.clock.slavePort = some 3 ∧ m.twoStep = false ∧ s.clock.firstDone = true ∧ off = (m.ingress -
  ingressLatency s 3) - (m.origin + m.correction + linkDelay s 3 + linkAsymmetry s 3) ∧ off.natAbs ≤ stepThreshold s
  :=
  ⟨{ ((board.setReg rTuCtrl 0x11).setReg rTuStepThresh 1000) with clock := { board.clock with master := some { port := 3, gmId := 77, source := 65537, priority1 := 1, clockClass := 6, clockAccuracy := 0x20, variance := 1, priority2 := 1, steps := 0, utcOffset := 37, flags := 0, timeSource := 0x20, heard := 0 }, slavePort := some 3, firstDone := true, okSyncs := 7 } }, { port := 3, domain := 0, sourceId := 65537, seq := 5, logInterval := 0, twoStep := false, ingress := 946684800000000500, origin := 946684800000000440, correction := 10, gmId := 77, priority1 := 1, clockClass := 6, clockAccuracy := 32, variance := 1, priority2 := 1, stepsRemoved := 0, utcOffset := 37, flags := 0, timeSource := 32 }, { port := 3, gmId := 77, source := 65537, priority1 := 1, clockClass := 6, clockAccuracy := 0x20, variance := 1, priority2 := 1, steps := 0, utcOffset := 37, flags := 0, timeSource := 0x20, heard := 0 }, 50, by decide⟩

theorem witness_TimeEvents_step : ∃ (s : State) (m : PtpMsg) (f : Foreign) (off : Int), m.port = 3 ∧ ptpOn s m.port
  = true ∧ m.domain = s.rfield rTuPtp 0 8 ∧ s.clock.master = some f ∧ f.port = 3 ∧ f.source / 65536 = m.sourceId /
  65536 ∧ s.clock.slavePort = some 3 ∧ m.twoStep = false ∧ off = (m.ingress - ingressLatency s 3) - (m.origin +
  m.correction + linkDelay s 3 + linkAsymmetry s 3) ∧ (s.clock.firstDone = false ∨ stepThreshold s < off.natAbs) :=
  ⟨{ (board.setReg rTuCtrl 0x11) with clock := { board.clock with master := some { port := 3, gmId := 77, source := 65537, priority1 := 1, clockClass := 6, clockAccuracy := 0x20, variance := 1, priority2 := 1, steps := 0, utcOffset := 37, flags := 0, timeSource := 0x20, heard := 0 }, slavePort := some 3 } }, { port := 3, domain := 0, sourceId := 65537, seq := 5, logInterval := 0, twoStep := false, ingress := 946684800000000500, origin := 946684800000000440, correction := 10, gmId := 77, priority1 := 1, clockClass := 6, clockAccuracy := 32, variance := 1, priority2 := 1, stepsRemoved := 0, utcOffset := 37, flags := 0, timeSource := 32 }, { port := 3, gmId := 77, source := 65537, priority1 := 1, clockClass := 6, clockAccuracy := 0x20, variance := 1, priority2 := 1, steps := 0, utcOffset := 37, flags := 0, timeSource := 0x20, heard := 0 }, 50, by decide⟩

theorem witness_TimeEvents_twoStep : ∃ (s : State) (m : PtpMsg) (f : Foreign), m.port = 3 ∧ ptpOn s m.port = true ∧
  m.domain = s.rfield rTuPtp 0 8 ∧ s.clock.master = some f ∧ f.port = 3 ∧ f.source / 65536 = m.sourceId / 65536 ∧
  s.clock.slavePort = some 3 ∧ m.twoStep = true :=
  ⟨{ (board.setReg rTuCtrl 0x11) with clock := { board.clock with master := some { port := 3, gmId := 77, source := 65537, priority1 := 1, clockClass := 6, clockAccuracy := 0x20, variance := 1, priority2 := 1, steps := 0, utcOffset := 37, flags := 0, timeSource := 0x20, heard := 0 }, slavePort := some 3 } }, { port := 3, domain := 0, sourceId := 65537, seq := 5, logInterval := 0, twoStep := true, ingress := 946684800000000500, origin := 946684800000000440, correction := 10, gmId := 77, priority1 := 1, clockClass := 6, clockAccuracy := 32, variance := 1, priority2 := 1, stepsRemoved := 0, utcOffset := 37, flags := 0, timeSource := 32 }, { port := 3, gmId := 77, source := 65537, priority1 := 1, clockClass := 6, clockAccuracy := 0x20, variance := 1, priority2 := 1, steps := 0, utcOffset := 37, flags := 0, timeSource := 0x20, heard := 0 }, by decide⟩

theorem witness_TimeEvents_followUp : ∃ (s : State) (m : PtpMsg) (i c off : Int), m.port = 3 ∧ ptpOn s m.port = true
  ∧ m.domain = s.rfield rTuPtp 0 8 ∧ s.clock.slavePort = some 3 ∧ (s.ptp 3).waiting = some (m.seq, i, c) ∧
  s.clock.firstDone = true ∧ off = (i - ingressLatency s 3) - (m.origin + (c + m.correction) + linkDelay s 3 +
  linkAsymmetry s 3) ∧ off.natAbs ≤ stepThreshold s :=
  ⟨{ ((board.setReg rTuCtrl 0x11).setReg rTuStepThresh 1000) with clock := { board.clock with slavePort := some 3, firstDone := true, ports := [(3, { waiting := some (5, 946684800000000500, 10) })] } }, { port := 3, domain := 0, sourceId := 65537, seq := 5, logInterval := 0, twoStep := false, ingress := 946684800000000500, origin := 946684800000000440, correction := 10, gmId := 77, priority1 := 1, clockClass := 6, clockAccuracy := 32, variance := 1, priority2 := 1, stepsRemoved := 0, utcOffset := 37, flags := 0, timeSource := 32 }, 946684800000000500, 10, 40, by decide⟩

theorem witness_TimeEvents_noWait : ∃ (s : State) (m : PtpMsg), ptpOn s m.port = true ∧ m.domain = s.rfield rTuPtp 0
  8 ∧ (s.ptp m.port).waiting = none :=
  ⟨(board.setReg rTuCtrl 0x11), { port := 3, domain := 0, sourceId := 65537, seq := 5, logInterval := 0, twoStep := false, ingress := 946684800000000500, origin := 946684800000000440, correction := 10, gmId := 77, priority1 := 1, clockClass := 6, clockAccuracy := 32, variance := 1, priority2 := 1, stepsRemoved := 0, utcOffset := 37, flags := 0, timeSource := 32 }, by decide⟩

theorem witness_TimeEvents_pdelayReq : ∃ (s : State) (m : PtpMsg), ptpOn s m.port = true ∧ m.domain = s.rfield
  rTuPtp 0 8 ∧ (s.port m.port).link = .up ∧ s.running iSW = true ∧ hasRoom s m.port 7 68 = true :=
  ⟨{ (board.setReg rTuCtrl 0x11) with switch := { board.switch with ports := [(3, { Port.factory 3 with link := .up }), (5, { Port.factory 5 with link := .up })] } }, { port := 3, domain := 0, sourceId := 65537, seq := 5, logInterval := 0, twoStep := false, ingress := 946684800000000500, origin := 946684800000000440, correction := 10, gmId := 77, priority1 := 1, clockClass := 6, clockAccuracy := 32, variance := 1, priority2 := 1, stepsRemoved := 0, utcOffset := 37, flags := 0, timeSource := 32 }, by decide⟩

theorem witness_TimeEvents_pdelayResp : ∃ (s : State) (m : PtpMsg), ptpOn s m.port = true ∧ m.domain = s.rfield
  rTuPtp 0 8 ∧ (s.ptp m.port).pdStep = 1 ∧ (s.ptp m.port).pdSeq = m.seq ∧ m.twoStep = true :=
  ⟨{ (board.setReg rTuCtrl 0x11) with clock := { board.clock with ports := [(3, { pdStep := 1, pdSeq := 5 })] } }, { port := 3, domain := 0, sourceId := 65537, seq := 5, logInterval := 0, twoStep := true, ingress := 946684800000000500, origin := 946684800000000440, correction := 10, gmId := 77, priority1 := 1, clockClass := 6, clockAccuracy := 32, variance := 1, priority2 := 1, stepsRemoved := 0, utcOffset := 37, flags := 0, timeSource := 32 }, by decide⟩

theorem witness_TimeEvents_pdelayOne : ∃ (s : State) (m : PtpMsg), ptpOn s m.port = true ∧ m.domain = s.rfield
  rTuPtp 0 8 ∧ (s.ptp m.port).pdStep = 1 ∧ (s.ptp m.port).pdSeq = m.seq ∧ m.twoStep = false :=
  ⟨{ (board.setReg rTuCtrl 0x11) with clock := { board.clock with ports := [(3, { pdStep := 1, pdSeq := 5, t1 := 946684800000000100 })] } }, { port := 3, domain := 0, sourceId := 65537, seq := 5, logInterval := 0, twoStep := false, ingress := 946684800000000500, origin := 946684800000000440, correction := 10, gmId := 77, priority1 := 1, clockClass := 6, clockAccuracy := 32, variance := 1, priority2 := 1, stepsRemoved := 0, utcOffset := 37, flags := 0, timeSource := 32 }, by decide⟩

theorem witness_TimeEvents_pdelayFollow : ∃ (s : State) (m : PtpMsg), ptpOn s m.port = true ∧ m.domain = s.rfield
  rTuPtp 0 8 ∧ (s.ptp m.port).pdStep = 2 ∧ (s.ptp m.port).pdSeq = m.seq :=
  ⟨{ (board.setReg rTuCtrl 0x11) with clock := { board.clock with ports := [(3, { pdStep := 2, pdSeq := 5, t1 := 946684800000000100, t2 := 946684800000000200, t4 := 946684800000000800 })] } }, { port := 3, domain := 0, sourceId := 65537, seq := 5, logInterval := 0, twoStep := false, ingress := 946684800000000500, origin := 946684800000000440, correction := 10, gmId := 77, priority1 := 1, clockClass := 6, clockAccuracy := 32, variance := 1, priority2 := 1, stepsRemoved := 0, utcOffset := 37, flags := 0, timeSource := 32 }, by decide⟩

theorem witness_TimeEvents_pdelayStray : ∃ (s : State) (m : PtpMsg) (p : Instr), p ∈ ([.pdelayResp m,
  .pdelayRespFollowUp m] : List Instr) ∧ ptpOn s m.port = true ∧ m.domain = s.rfield rTuPtp 0 8 ∧ ((s.ptp
  m.port).pdSeq ≠ m.seq ∨ (s.ptp m.port).pdStep = 0) :=
  ⟨(board.setReg rTuCtrl 0x11), { port := 3, domain := 0, sourceId := 65537, seq := 5, logInterval := 0, twoStep := false, ingress := 946684800000000500, origin := 946684800000000440, correction := 10, gmId := 77, priority1 := 1, clockClass := 6, clockAccuracy := 32, variance := 1, priority2 := 1, stepsRemoved := 0, utcOffset := 37, flags := 0, timeSource := 32 }, .pdelayResp { port := 3, domain := 0, sourceId := 65537, seq := 5, logInterval := 0, twoStep := false, ingress := 946684800000000500, origin := 946684800000000440, correction := 10, gmId := 77, priority1 := 1, clockClass := 6, clockAccuracy := 32, variance := 1, priority2 := 1, stepsRemoved := 0, utcOffset := 37, flags := 0, timeSource := 32 }, by exact ⟨by simp, by decide⟩⟩

theorem witness_TimeEvents_master : ∃ (s : State) (m : PtpMsg) (f : Foreign), m.port = 3 ∧ ptpOn s m.port = true ∧
  m.domain = s.rfield rTuPtp 0 8 ∧ m.stepsRemoved < 255 ∧ s.clock.foreign = [] ∧ s.clock.master = none ∧ 0 <
  logInterval (s.ptp 3).logAnnounce ∧ m.priority1 < s.rfield rTuPtp 8 8 ∧ f =
  { port := 3, gmId := m.gmId, source := m.sourceId, priority1 := m.priority1, clockClass := m.clockClass, clockAccuracy := m.clockAccuracy, variance := m.variance, priority2 := m.priority2, steps := m.stepsRemoved, utcOffset := m.utcOffset, flags := m.flags, timeSource := m.timeSource, heard := s.now }
  ∧ m.gmId ≠ clockId s :=
  by
  by_cases h : 77 = clockId ((board.setReg rTuCtrl 0x11).setReg rTuPtp 0x808000)
  · exact ⟨(board.setReg rTuCtrl 0x11).setReg rTuPtp 0x808000, { port := 3, domain := 0, sourceId := 65537, seq := 5, logInterval := 0, twoStep := false, ingress := 946684800000000500, origin := 946684800000000440, correction := 10, gmId := 78, priority1 := 1, clockClass := 6, clockAccuracy := 32, variance := 1, priority2 := 1, stepsRemoved := 0, utcOffset := 37, flags := 0, timeSource := 32 }, { port := 3, gmId := 78, source := 65537, priority1 := 1, clockClass := 6, clockAccuracy := 0x20, variance := 1, priority2 := 1, steps := 0, utcOffset := 37, flags := 0, timeSource := 0x20, heard := 0 }, by decide, by decide, by decide, by decide, by decide, by decide, by decide, by decide, by decide, by rw [← h]; decide⟩
  · exact ⟨(board.setReg rTuCtrl 0x11).setReg rTuPtp 0x808000, { port := 3, domain := 0, sourceId := 65537, seq := 5, logInterval := 0, twoStep := false, ingress := 946684800000000500, origin := 946684800000000440, correction := 10, gmId := 77, priority1 := 1, clockClass := 6, clockAccuracy := 32, variance := 1, priority2 := 1, stepsRemoved := 0, utcOffset := 37, flags := 0, timeSource := 32 }, { port := 3, gmId := 77, source := 65537, priority1 := 1, clockClass := 6, clockAccuracy := 0x20, variance := 1, priority2 := 1, steps := 0, utcOffset := 37, flags := 0, timeSource := 0x20, heard := 0 }, by decide, by decide, by decide, by decide, by decide, by decide, by decide, by decide, by decide, h⟩

theorem witness_TimeEvents_worse : ∃ (s : State) (m : PtpMsg), m.port = 3 ∧ ptpOn s m.port = true ∧ m.domain =
  s.rfield rTuPtp 0 8 ∧ m.stepsRemoved < 255 ∧ s.clock.foreign = [] ∧ s.clock.state = .free ∧ 0 < logInterval (s.ptp
  3).logAnnounce ∧ s.rfield rTuPtp 8 8 < m.priority1 ∧ m.gmId ≠ clockId s :=
  by
  by_cases h : 77 = clockId ((board.setReg rTuCtrl 0x11).setReg rTuPtp 0x808000)
  · exact ⟨(board.setReg rTuCtrl 0x11).setReg rTuPtp 0x808000, { port := 3, domain := 0, sourceId := 65537, seq := 5, logInterval := 0, twoStep := false, ingress := 946684800000000500, origin := 946684800000000440, correction := 10, gmId := 78, priority1 := 200, clockClass := 6, clockAccuracy := 32, variance := 1, priority2 := 1, stepsRemoved := 0, utcOffset := 37, flags := 0, timeSource := 32 }, by decide, by decide, by decide, by decide, by decide, by decide, by decide, by decide, by rw [← h]; decide⟩
  · exact ⟨(board.setReg rTuCtrl 0x11).setReg rTuPtp 0x808000, { port := 3, domain := 0, sourceId := 65537, seq := 5, logInterval := 0, twoStep := false, ingress := 946684800000000500, origin := 946684800000000440, correction := 10, gmId := 77, priority1 := 200, clockClass := 6, clockAccuracy := 32, variance := 1, priority2 := 1, stepsRemoved := 0, utcOffset := 37, flags := 0, timeSource := 32 }, by decide, by decide, by decide, by decide, by decide, by decide, by decide, by decide, h⟩

theorem witness_TimeEvents_signaling : ∃ (s : State) (m : PtpMsg), ptpOn s m.port = true ∧ m.domain = s.rfield
  rTuPtp 0 8 ∧ 3 ≤ m.port ∧ m.flags = 2 ∧ -24 ≤ m.logInterval ∧ m.logInterval ≤ 24 :=
  ⟨(board.setReg rTuCtrl 0x11), { port := 3, domain := 0, sourceId := 65537, seq := 5, logInterval := -4, twoStep := false, ingress := 946684800000000500, origin := 946684800000000440, correction := 10, gmId := 77, priority1 := 1, clockClass := 6, clockAccuracy := 32, variance := 1, priority2 := 1, stepsRemoved := 0, utcOffset := 37, flags := 2, timeSource := 32 }, by decide⟩

theorem witness_TimeEvents_syncSend : ∃ (s : State) (m : PtpMsg) (p : Nat), ptpOn s p = true ∧ 2 ≤ p ∧ (s.ptp
  p).role = .master ∧ (s.ptp p).nextSync ≤ s.now ∧ (s.port p).link = .up ∧ s.running iSW = true ∧ hasRoom s p 7 58 =
  true :=
  ⟨{ (board.setReg rTuCtrl 0x11) with clock := { board.clock with ports := [(5, { role := .master })] }, switch := { board.switch with ports := [(3, { Port.factory 3 with link := .up }), (5, { Port.factory 5 with link := .up })] } }, { port := 3, domain := 0, sourceId := 65537, seq := 5, logInterval := 0, twoStep := false, ingress := 946684800000000500, origin := 946684800000000440, correction := 10, gmId := 77, priority1 := 1, clockClass := 6, clockAccuracy := 32, variance := 1, priority2 := 1, stepsRemoved := 0, utcOffset := 37, flags := 0, timeSource := 32 }, 5, by decide⟩

theorem witness_TimeEvents_announceSend : ∃ (s : State) (m : PtpMsg) (p : Nat), ptpOn s p = true ∧ 2 ≤ p ∧ (s.ptp
  p).role = .master ∧ (s.ptp p).nextAnnounce ≤ s.now ∧ (s.port p).link = .up ∧ s.running iSW = true ∧ hasRoom s p 7
  78 = true :=
  ⟨{ (board.setReg rTuCtrl 0x11) with clock := { board.clock with ports := [(5, { role := .master })] }, switch := { board.switch with ports := [(3, { Port.factory 3 with link := .up }), (5, { Port.factory 5 with link := .up })] } }, { port := 3, domain := 0, sourceId := 65537, seq := 5, logInterval := 0, twoStep := false, ingress := 946684800000000500, origin := 946684800000000440, correction := 10, gmId := 77, priority1 := 1, clockClass := 6, clockAccuracy := 32, variance := 1, priority2 := 1, stepsRemoved := 0, utcOffset := 37, flags := 0, timeSource := 32 }, 5, by decide⟩

theorem witness_TimeEvents_pdelaySend : ∃ (s : State) (m : PtpMsg) (p : Nat), ptpOn s p = true ∧ 2 ≤ p ∧ (s.ptp
  p).nextPdelay ≤ s.now ∧ (s.port p).link = .up ∧ s.running iSW = true ∧ hasRoom s p 7 68 = true :=
  ⟨{ (board.setReg rTuCtrl 0x11) with clock := { board.clock with ports := [(5, { role := .master })] }, switch := { board.switch with ports := [(3, { Port.factory 3 with link := .up }), (5, { Port.factory 5 with link := .up })] } }, { port := 3, domain := 0, sourceId := 65537, seq := 5, logInterval := 0, twoStep := false, ingress := 946684800000000500, origin := 946684800000000440, correction := 10, gmId := 77, priority1 := 1, clockClass := 6, clockAccuracy := 32, variance := 1, priority2 := 1, stepsRemoved := 0, utcOffset := 37, flags := 0, timeSource := 32 }, 5, by decide⟩

theorem witness_TimeEvents_notDue : ∃ (s : State) (m : PtpMsg) (p : Nat) (q : (Nat → Instr) × Nat), q ∈
  ([(.syncSend, (s.ptp p).nextSync), (.announceSend, (s.ptp p).nextAnnounce), (.pdelayReqSend, (s.ptp
  p).nextPdelay)] : List ((Nat → Instr) × Nat)) ∧ (ptpOn s p = false ∨ s.now < q.2) :=
  ⟨(board.setReg rTuCtrl 0), { port := 3, domain := 0, sourceId := 65537, seq := 5, logInterval := 0, twoStep := false, ingress := 946684800000000500, origin := 946684800000000440, correction := 10, gmId := 77, priority1 := 1, clockClass := 6, clockAccuracy := 32, variance := 1, priority2 := 1, stepsRemoved := 0, utcOffset := 37, flags := 0, timeSource := 32 }, 5, (.syncSend, 0), by exact ⟨List.mem_cons_self .., by decide⟩⟩

theorem witness_TimeEvents_syncTimeout : ∃ (s : State) (m : PtpMsg) (p h : Nat), s.clock.slavePort = some p ∧
  s.clock.acceptedAt = some h ∧ s.running iTIME = true ∧ (s.clock.state = .acquiring ∨ s.clock.state = .locked) ∧ h
  + 3 * logInterval (s.ptp p).logSync ≤ s.now :=
  ⟨{ (board.setReg rTuCtrl 0x11) with clock := { board.clock with slavePort := some 3, acceptedAt := some 5, state := .locked, up := 90000000000 } }, { port := 3, domain := 0, sourceId := 65537, seq := 5, logInterval := 0, twoStep := false, ingress := 946684800000000500, origin := 946684800000000440, correction := 10, gmId := 77, priority1 := 1, clockClass := 6, clockAccuracy := 32, variance := 1, priority2 := 1, stepsRemoved := 0, utcOffset := 37, flags := 0, timeSource := 32 }, 3, 5, by decide⟩

theorem witness_TimeEvents_syncHeard : ∃ (s : State) (m : PtpMsg), (s.clock.slavePort = none ∨ s.clock.acceptedAt =
  none) :=
  ⟨board, { port := 3, domain := 0, sourceId := 65537, seq := 5, logInterval := 0, twoStep := false, ingress := 946684800000000500, origin := 946684800000000440, correction := 10, gmId := 77, priority1 := 1, clockClass := 6, clockAccuracy := 32, variance := 1, priority2 := 1, stepsRemoved := 0, utcOffset := 37, flags := 0, timeSource := 32 }, by decide⟩

theorem witness_TimeEvents_announceTimeout : ∃ (s : State) (m : PtpMsg) (f : Foreign), s.running iTIME = true ∧
  s.rbit rTuCtrl 0 = true ∧ s.clock.master = some f ∧ s.clock.foreign = [f] ∧ aliveMaster s f = false :=
  ⟨{ (board.setReg rTuCtrl 0x11) with clock := { board.clock with master := some { port := 3, gmId := 77, source := 65537, priority1 := 1, clockClass := 6, clockAccuracy := 0x20, variance := 1, priority2 := 1, steps := 0, utcOffset := 37, flags := 0, timeSource := 0x20, heard := 0 }, foreign := [{ port := 3, gmId := 77, source := 65537, priority1 := 1, clockClass := 6, clockAccuracy := 0x20, variance := 1, priority2 := 1, steps := 0, utcOffset := 37, flags := 0, timeSource := 0x20, heard := 0 }], state := .locked, up := 90000000000 } }, { port := 3, domain := 0, sourceId := 65537, seq := 5, logInterval := 0, twoStep := false, ingress := 946684800000000500, origin := 946684800000000440, correction := 10, gmId := 77, priority1 := 1, clockClass := 6, clockAccuracy := 32, variance := 1, priority2 := 1, stepsRemoved := 0, utcOffset := 37, flags := 0, timeSource := 32 }, { port := 3, gmId := 77, source := 65537, priority1 := 1, clockClass := 6, clockAccuracy := 0x20, variance := 1, priority2 := 1, steps := 0, utcOffset := 37, flags := 0, timeSource := 0x20, heard := 0 }, by decide⟩

theorem witness_TimeEvents_ownClock : ∃ (s : State) (m : PtpMsg), s.running iTIME = true ∧ s.rbit rTuCtrl 0 = true ∧
  s.clock.master = none ∧ s.clock.foreign = [] ∧ s.clock.state ≠ .grandmaster ∧ s.clock.listenFrom + 3 * logInterval
  (s.ptp 0).logAnnounce ≤ s.now :=
  ⟨{ (board.setReg rTuCtrl 0x11) with clock := { board.clock with up := 90000000000 } }, { port := 3, domain := 0, sourceId := 65537, seq := 5, logInterval := 0, twoStep := false, ingress := 946684800000000500, origin := 946684800000000440, correction := 10, gmId := 77, priority1 := 1, clockClass := 6, clockAccuracy := 32, variance := 1, priority2 := 1, stepsRemoved := 0, utcOffset := 37, flags := 0, timeSource := 32 }, by decide⟩

theorem witness_TimeEvents_announceHeard : ∃ (s : State) (m : PtpMsg), (s.running iTIME = false ∨ s.rbit rTuCtrl 0 =
  false) :=
  ⟨board.setReg rTuCtrl 0, { port := 3, domain := 0, sourceId := 65537, seq := 5, logInterval := 0, twoStep := false, ingress := 946684800000000500, origin := 946684800000000440, correction := 10, gmId := 77, priority1 := 1, clockClass := 6, clockAccuracy := 32, variance := 1, priority2 := 1, stepsRemoved := 0, utcOffset := 37, flags := 0, timeSource := 32 }, by decide⟩

theorem witness_TimeEvents_stillHeard : ∃ (s : State) (m : PtpMsg), (s.clock.master.any (aliveMaster s)) = true ∧
  s.running iTIME = true ∧ s.rbit rTuCtrl 0 = true :=
  ⟨{ (board.setReg rTuCtrl 0x11) with clock := { board.clock with master := some { port := 3, gmId := 77, source := 65537, priority1 := 1, clockClass := 6, clockAccuracy := 0x20, variance := 1, priority2 := 1, steps := 0, utcOffset := 37, flags := 0, timeSource := 0x20, heard := 0 } } }, { port := 3, domain := 0, sourceId := 65537, seq := 5, logInterval := 0, twoStep := false, ingress := 946684800000000500, origin := 946684800000000440, correction := 10, gmId := 77, priority1 := 1, clockClass := 6, clockAccuracy := 32, variance := 1, priority2 := 1, stepsRemoved := 0, utcOffset := 37, flags := 0, timeSource := 32 }, by decide⟩

theorem witness_TimeEvents_ringTime : ∃ (s : State) (m : PtpMsg) (f g : Foreign), ptpOn s 3 = true ∧ s.clock.state ≠
  .grandmaster ∧ s.clock.master = some f ∧ f.port = 0 ∧ s.clock.foreign = [f, g] :=
  ⟨{ (board.setReg rTuCtrl 0x11) with clock := { board.clock with master := some { port := 0, gmId := 77, source := 65537, priority1 := 1, clockClass := 6, clockAccuracy := 0x20, variance := 1, priority2 := 1, steps := 0, utcOffset := 37, flags := 0, timeSource := 0x20, heard := 0 }, foreign := [{ port := 0, gmId := 77, source := 65537, priority1 := 1, clockClass := 6, clockAccuracy := 0x20, variance := 1, priority2 := 1, steps := 0, utcOffset := 37, flags := 0, timeSource := 0x20, heard := 0 }, { port := 3, gmId := 77, source := 65537, priority1 := 1, clockClass := 6, clockAccuracy := 0x20, variance := 1, priority2 := 1, steps := 0, utcOffset := 37, flags := 0, timeSource := 0x20, heard := 0 }], state := .locked } }, { port := 3, domain := 0, sourceId := 65537, seq := 5, logInterval := 0, twoStep := false, ingress := 946684800000000500, origin := 946684800000000440, correction := 10, gmId := 77, priority1 := 1, clockClass := 6, clockAccuracy := 32, variance := 1, priority2 := 1, stepsRemoved := 0, utcOffset := 37, flags := 0, timeSource := 32 }, { port := 0, gmId := 77, source := 65537, priority1 := 1, clockClass := 6, clockAccuracy := 0x20, variance := 1, priority2 := 1, steps := 0, utcOffset := 37, flags := 0, timeSource := 0x20, heard := 0 }, { port := 3, gmId := 77, source := 65537, priority1 := 1, clockClass := 6, clockAccuracy := 0x20, variance := 1, priority2 := 1, steps := 0, utcOffset := 37, flags := 0, timeSource := 0x20, heard := 0 }, by decide⟩

theorem witness_TimeEvents_pps : ∃ (s : State) (m : PtpMsg) (e w : Nat), s.running iTIME = true ∧ 1000 ≤ w ∧
  ppsDisciplines s = false ∧ (s.clock.ppsLast = none ∨ (s.clock.ppsLast.any fun l => decide (((e : Int) - l -
  nsSec).natAbs ≤ 1000000)) = true) :=
  ⟨board, { port := 3, domain := 0, sourceId := 65537, seq := 5, logInterval := 0, twoStep := false, ingress := 946684800000000500, origin := 946684800000000440, correction := 10, gmId := 77, priority1 := 1, clockClass := 6, clockAccuracy := 32, variance := 1, priority2 := 1, stepsRemoved := 0, utcOffset := 37, flags := 0, timeSource := 32 }, 946684801000000040, 2000, by decide⟩

theorem witness_TimeEvents_ppsJump : ∃ (s : State) (m : PtpMsg) (e w l : Nat), s.running iTIME = true ∧ 1000 ≤ w ∧
  s.clock.ppsLast = some l ∧ 1000000 < ((e : Int) - l - nsSec).natAbs ∧ s.clock.ppsAgree = 0 :=
  ⟨{ (board.setReg rTuCtrl 0x11) with clock := { board.clock with ppsLast := some 5 } }, { port := 3, domain := 0, sourceId := 65537, seq := 5, logInterval := 0, twoStep := false, ingress := 946684800000000500, origin := 946684800000000440, correction := 10, gmId := 77, priority1 := 1, clockClass := 6, clockAccuracy := 32, variance := 1, priority2 := 1, stepsRemoved := 0, utcOffset := 37, flags := 0, timeSource := 32 }, 946684801000000040, 2000, 5, by decide⟩

theorem witness_TimeEvents_ppsShort : ∃ (s : State) (m : PtpMsg) (e w : Nat), w < 1000 :=
  ⟨board, { port := 3, domain := 0, sourceId := 65537, seq := 5, logInterval := 0, twoStep := false, ingress := 946684800000000500, origin := 946684800000000440, correction := 10, gmId := 77, priority1 := 1, clockClass := 6, clockAccuracy := 32, variance := 1, priority2 := 1, stepsRemoved := 0, utcOffset := 37, flags := 0, timeSource := 32 }, 946684801000000040, 900, by decide⟩

theorem witness_TimeEvents_ppsLost : ∃ (s : State) (m : PtpMsg) (h : Nat), s.clock.ppsEdge = some h ∧ s.running
  iTIME = true ∧ h + 2 * nsSec ≤ s.now :=
  ⟨{ (board.setReg rTuCtrl 0x11) with clock := { board.clock with ppsEdge := some 5, up := 90000000000 } }, { port := 3, domain := 0, sourceId := 65537, seq := 5, logInterval := 0, twoStep := false, ingress := 946684800000000500, origin := 946684800000000440, correction := 10, gmId := 77, priority1 := 1, clockClass := 6, clockAccuracy := 32, variance := 1, priority2 := 1, stepsRemoved := 0, utcOffset := 37, flags := 0, timeSource := 32 }, 5, by decide⟩

theorem witness_TimeEvents_ppsNone : ∃ (s : State) (m : PtpMsg), s.clock.ppsEdge = none :=
  ⟨board, { port := 3, domain := 0, sourceId := 65537, seq := 5, logInterval := 0, twoStep := false, ingress := 946684800000000500, origin := 946684800000000440, correction := 10, gmId := 77, priority1 := 1, clockClass := 6, clockAccuracy := 32, variance := 1, priority2 := 1, stepsRemoved := 0, utcOffset := 37, flags := 0, timeSource := 32 }, by decide⟩

theorem witness_TimeEvents_rise : ∃ (s : State) (m : PtpMsg), s.running iTIME = true ∧ s.clock.ppsNext ≤ s.tai :=
  ⟨board.setReg rTuCtrl 0xC, { port := 3, domain := 0, sourceId := 65537, seq := 5, logInterval := 0, twoStep := false, ingress := 946684800000000500, origin := 946684800000000440, correction := 10, gmId := 77, priority1 := 1, clockClass := 6, clockAccuracy := 32, variance := 1, priority2 := 1, stepsRemoved := 0, utcOffset := 37, flags := 0, timeSource := 32 }, by decide⟩

theorem witness_TimeEvents_riseNot : ∃ (s : State) (m : PtpMsg), s.tai < s.clock.ppsNext :=
  ⟨{ (board.setReg rTuCtrl 0x11) with clock := { board.clock with ppsNext := 1000000000000000000 } }, { port := 3, domain := 0, sourceId := 65537, seq := 5, logInterval := 0, twoStep := false, ingress := 946684800000000500, origin := 946684800000000440, correction := 10, gmId := 77, priority1 := 1, clockClass := 6, clockAccuracy := 32, variance := 1, priority2 := 1, stepsRemoved := 0, utcOffset := 37, flags := 0, timeSource := 32 }, by decide⟩

theorem witness_TimeEvents_fall : ∃ (s : State) (m : PtpMsg), s.clock.ppsOut = true ∧ s.clock.ppsRise + max 1 (min
  500 (s.rfield rTuPpsOut 0 10)) * nsMs ≤ s.now :=
  ⟨{ (board.setReg rTuCtrl 0x11) with clock := { board.clock with ppsOut := true, up := 90000000000 } }, { port := 3, domain := 0, sourceId := 65537, seq := 5, logInterval := 0, twoStep := false, ingress := 946684800000000500, origin := 946684800000000440, correction := 10, gmId := 77, priority1 := 1, clockClass := 6, clockAccuracy := 32, variance := 1, priority2 := 1, stepsRemoved := 0, utcOffset := 37, flags := 0, timeSource := 32 }, by decide⟩

theorem witness_TimeEvents_fallNot : ∃ (s : State) (m : PtpMsg), s.clock.ppsOut = false :=
  ⟨board, { port := 3, domain := 0, sourceId := 65537, seq := 5, logInterval := 0, twoStep := false, ingress := 946684800000000500, origin := 946684800000000440, correction := 10, gmId := 77, priority1 := 1, clockClass := 6, clockAccuracy := 32, variance := 1, priority2 := 1, stepsRemoved := 0, utcOffset := 37, flags := 0, timeSource := 32 }, by decide⟩

theorem witness_TimeEvents_arm : ∃ (s : State) (m : PtpMsg) (a : Agent) (k : Nat) (v : Word), k < 2 ∧ Reaches s a
  (rTuCmp k) v.toNat true :=
  ⟨board, { port := 3, domain := 0, sourceId := 65537, seq := 5, logInterval := 0, twoStep := false, ingress := 946684800000000500, origin := 946684800000000440, correction := 10, gmId := 77, priority1 := 1, clockClass := 6, clockAccuracy := 32, variance := 1, priority2 := 1, stepsRemoved := 0, utcOffset := 37, flags := 0, timeSource := 32 }, .steward, 1, 77, by decide⟩

theorem witness_TimeEvents_fire : ∃ (s : State) (m : PtpMsg) (k : Nat), s.running iTIME = true ∧ ((k = 0 ∧
  s.clock.cmp0 = true) ∨ (k = 1 ∧ s.clock.cmp1 = true)) ∧ reached32 (s.tai % 2 ^ 32) (s.reg (rTuCmp k)) = true :=
  ⟨{ (board.setReg (rTuCmp 1) (946684800000000000 % 2 ^ 32)) with clock := { board.clock with cmp1 := true } }, { port := 3, domain := 0, sourceId := 65537, seq := 5, logInterval := 0, twoStep := false, ingress := 946684800000000500, origin := 946684800000000440, correction := 10, gmId := 77, priority1 := 1, clockClass := 6, clockAccuracy := 32, variance := 1, priority2 := 1, stepsRemoved := 0, utcOffset := 37, flags := 0, timeSource := 32 }, 1, by decide⟩

theorem witness_TimeEvents_fireNot : ∃ (s : State) (m : PtpMsg) (k : Nat), (k = 0 → s.clock.cmp0 = false) ∧ (k = 1 →
  s.clock.cmp1 = false) :=
  ⟨board, { port := 3, domain := 0, sourceId := 65537, seq := 5, logInterval := 0, twoStep := false, ingress := 946684800000000500, origin := 946684800000000440, correction := 10, gmId := 77, priority1 := 1, clockClass := 6, clockAccuracy := 32, variance := 1, priority2 := 1, stepsRemoved := 0, utcOffset := 37, flags := 0, timeSource := 32 }, 1, by decide⟩

theorem witness_TimeEvents_latch : ∃ (s : State) (m : PtpMsg) (a : Agent), Reaches s a rTuTimeSecHi 0 false :=
  ⟨board, { port := 3, domain := 0, sourceId := 65537, seq := 5, logInterval := 0, twoStep := false, ingress := 946684800000000500, origin := 946684800000000440, correction := 10, gmId := 77, priority1 := 1, clockClass := 6, clockAccuracy := 32, variance := 1, priority2 := 1, stepsRemoved := 0, utcOffset := 37, flags := 0, timeSource := 32 }, .steward, by decide⟩

theorem witness_AlmanacEvents_halted : ∃ (s : State), s.almanac.halt = true :=
  ⟨{ board with almanac := { board.almanac with halt := true } }, by decide⟩

theorem witness_AlmanacEvents_tick : ∃ (s : State), s.almanac.halt = false :=
  ⟨{ board with almanac := { board.almanac with cal := { year := 24, month := 2, day := 28, hour := 23, min := 59, sec := 59, wday := 3 } } }, by decide⟩

theorem witness_AlmanacEvents_alarm : ∃ (s : State) (k : Nat), s.almanac.halt = false ∧ k < 2 ∧ (s.alarm k).mask %
  128 ≠ 0 ∧ (s.alarm k).holds s.almanac.cal.tick = true ∧ (s.alarm k).holds s.almanac.cal = false ∧ (s.alarm
  k).fired = none :=
  ⟨{ board with almanac := { board.almanac with cal := { year := 24, month := 2, day := 28, hour := 23, min := 59, sec := 59, wday := 3 }, alarm1 := { time := { sec := 0 }, mask := 1 } } }, 1, by decide⟩

theorem witness_AlmanacEvents_second : ∃ (s : State) (c : Cal), c.sec < 59 :=
  ⟨board, { sec := 4 }, by decide⟩

theorem witness_AlmanacEvents_midnight : ∃ (s : State) (c : Cal) (m : Nat), c.invalid = false ∧ c.sec = 59 ∧ c.min =
  59 ∧ c.hour = 23 ∧ c.day = m :=
  ⟨board, { year := 24, month := 2, day := 28, hour := 23, min := 59, sec := 59, wday := 3 }, 28, by decide⟩

theorem witness_AlmanacEvents_trimDone : ∃ (s : State), s.almanac.trim.natAbs ≤ s.almanac.corrections :=
  ⟨board, by decide⟩

theorem witness_AlmanacEvents_faster : ∃ (s : State), s.almanac.corrections < s.almanac.trim.natAbs ∧ s.almanac.halt
  = false ∧ 0 < s.almanac.trim :=
  ⟨{ board with almanac := { board.almanac with trim := 4 } }, by decide⟩

theorem witness_AlmanacEvents_trimHalted : ∃ (s : State), s.almanac.corrections < s.almanac.trim.natAbs ∧
  s.almanac.halt = true :=
  ⟨{ board with almanac := { board.almanac with trim := 4, halt := true } }, by decide⟩

theorem witness_AlmanacEvents_haltSet : ∃ (s : State) (a : Agent) (v : Word), Reaches s a rAlCtrl (v.toNat ||| 1)
  true ∧ s.almanac.halt = false :=
  ⟨board, .steward, 1, by decide⟩

theorem witness_AlmanacEvents_haltRelease : ∃ (s : State) (a : Agent) (v : Word), Reaches s a rAlCtrl (v.toNat &&&
  0xFFFFFFFE) true ∧ s.almanac.halt = true :=
  ⟨{ board with almanac := { board.almanac with halt := true } }, .steward, 0, by decide⟩

theorem witness_AlmanacEvents_write : ∃ (s : State) (a : Agent) (v : Word) (p : Instr × Nat × Cal), p ∈
  ([(.alTimeWrite a v, rAlTime, s.almanac.cal.setTime v.toNat), (.alDateWrite a v, rAlDate, s.almanac.cal.setDate
  v.toNat)] : List (Instr × Nat × Cal)) ∧ Reaches s a p.2.1 v.toNat true ∧ s.almanac.halt = true :=
  ⟨{ board with almanac := { board.almanac with halt := true } }, .steward, 0x03173B00, (.alTimeWrite .steward 0x03173B00, rAlTime, ({} : Cal).setTime 0x03173B00), by exact ⟨List.mem_cons_self .., by decide⟩⟩

theorem witness_AlmanacEvents_notHalted : ∃ (s : State) (a : Agent) (v : Word) (p : Instr × Nat), p ∈
  ([(.alTimeWrite a v, rAlTime), (.alDateWrite a v, rAlDate)] : List (Instr × Nat)) ∧ Reaches s a p.2 v.toNat true ∧
  s.almanac.halt = false :=
  ⟨board, .steward, 5, (.alDateWrite .steward 5, rAlDate), by exact ⟨by simp, by decide⟩⟩

theorem witness_AlmanacEvents_read : ∃ (s : State) (a : Agent), Reaches s a rAlTime 0 false :=
  ⟨board, .steward, by decide⟩

theorem witness_AlmanacEvents_alarmTime : ∃ (s : State) (a : Agent) (v : Word) (k : Nat), k < 2 ∧ Reaches s a
  (rAlAlmTime k) v.toNat true :=
  ⟨board, .steward, 0x03173B00, 1, by decide⟩

theorem witness_AlmanacEvents_alarmDate : ∃ (s : State) (a : Agent) (v : Word) (k : Nat), k < 2 ∧ Reaches s a
  (rAlAlmDate k) v.toNat true :=
  ⟨board, .steward, 0x00180205, 0, by decide⟩

theorem witness_AlmanacEvents_alarmCtrl : ∃ (s : State) (a : Agent) (v : Word) (k : Nat), k < 2 ∧ Reaches s a
  (rAlAlmCtrl k) v.toNat true :=
  ⟨board, .steward, 0x10107, 0, by decide⟩

theorem witness_AlmanacEvents_backupWrite : ∃ (s : State) (a : Agent) (v : Word) (w : Nat) (x : BkpRec) (d : List
  Byte), w < 16 ∧ Reaches s a (rAlBkp w) v.toNat true ∧ x = tabGetD s.almanac.backup (w / 2) {} ∧ x.copy0 = x.copy1
  ∧ x.check0 = crc8 x.copy0 ∧ x.check1 = crc8 x.copy1 ∧ d = overlay x.copy0 (w % 2 * 4) (leBytes 4 v.toNat) :=
  ⟨{ board with almanac := { board.almanac with backup := [(2, { copy0 := leBytes 8 7, check0 := crc8 (leBytes 8 7), copy1 := leBytes 8 7, check1 := crc8 (leBytes 8 7) })] } }, .steward, 0x11223344, 5, { copy0 := leBytes 8 7, check0 := crc8 (leBytes 8 7), copy1 := leBytes 8 7, check1 := crc8 (leBytes 8 7) }, (leBytes 4 7 ++ leBytes 4 0x11223344), by decide⟩

theorem witness_AlmanacEvents_backupGood : ∃ (s : State), ((List.range 8).all fun r => (tabGetD s.almanac.backup r
  {}).copy0 == (tabGetD s.almanac.backup r {}).copy1 && (tabGetD s.almanac.backup r {}).check0 == crc8 (tabGetD
  s.almanac.backup r {}).copy0 && (tabGetD s.almanac.backup r {}).check1 == crc8 (tabGetD s.almanac.backup r
  {}).copy1) = true :=
  ⟨board, by decide⟩

theorem witness_AlmanacEvents_backupRepair : ∃ (s : State) (r : Nat) (x : BkpRec), r < 8 ∧ tabGet s.almanac.backup r
  = some x ∧ x.copy0 = x.copy1 ∧ ((x.check0 = crc8 x.copy0 ∧ x.check1 ≠ crc8 x.copy1) ∨ (x.check0 ≠ crc8 x.copy0 ∧
  x.check1 = crc8 x.copy1)) :=
  ⟨{ board with almanac := { board.almanac with backup := [(2, { copy0 := leBytes 8 7, check0 := 1, copy1 := leBytes 8 7, check1 := crc8 (leBytes 8 7) })] } }, 2, { copy0 := leBytes 8 7, check0 := 1, copy1 := leBytes 8 7, check1 := crc8 (leBytes 8 7) }, by decide⟩

theorem witness_AlmanacEvents_backupLost : ∃ (s : State) (r : Nat) (x : BkpRec), r < 8 ∧ tabGet s.almanac.backup r =
  some x ∧ x.check0 ≠ crc8 x.copy0 ∧ x.check1 ≠ crc8 x.copy1 :=
  ⟨{ board with almanac := { board.almanac with backup := [(2, { check0 := 1, check1 := 1 })] } }, 2, { check0 := 1, check1 := 1 }, by decide⟩

theorem witness_AlmanacEvents_sync : ∃ (s : State), stewardReady s = true ∧ s.running iTIME = true ∧ (s.clock.state
  = .locked ∨ s.clock.state = .grandmaster) ∧ (s.almanac.syncAt.all fun h => decide (h + 1024 * nsSec ≤ s.now)) =
  true ∧ s.almanac.halt = false ∧ (s.almanac.cal.invalid = true ∨ nsSec ≤ ((s.tai : Int) - (s.almanac.cal.tai +
  s.almanac.prescale * nsSec / 32768 : Nat)).natAbs) ∧ (s.isl iALM).state = .run ∧ (s.isl iALM).draining = false ∧
  (s.epochOf iSAGE iALM = 0 ∨ s.epochOf iSAGE iALM = (s.isl iALM).epoch) :=
  ⟨{ board with almanac := { board.almanac with cal := { year := 24, month := 2, day := 28, hour := 23, min := 59, sec := 59, wday := 3 } }, clock := { board.clock with state := .locked, up := 90000000000 } }, by decide⟩

theorem witness_AlmanacEvents_syncNear : ∃ (s : State), stewardReady s = true ∧ s.running iTIME = true ∧
  (s.clock.state = .locked ∨ s.clock.state = .grandmaster) ∧ (s.almanac.syncAt.all fun h => decide (h + 1024 * nsSec
  ≤ s.now)) = true ∧ s.almanac.cal.invalid = false ∧ ((s.tai : Int) - (s.almanac.cal.tai + s.almanac.prescale *
  nsSec / 32768 : Nat)).natAbs < nsSec ∧ (s.isl iALM).state = .run ∧ (s.isl iALM).draining = false ∧ (s.epochOf
  iSAGE iALM = 0 ∨ s.epochOf iSAGE iALM = (s.isl iALM).epoch) :=
  ⟨{ board with almanac := { board.almanac with prescale := 0 }, clock := { board.clock with state := .locked, up := 90000000000 } }, by decide⟩

theorem witness_AlmanacEvents_syncNot : ∃ (s : State), (stewardReady s = false ∨ s.running iTIME = false ∨
  (s.clock.state ≠ .locked ∧ s.clock.state ≠ .grandmaster)) :=
  ⟨board, by decide⟩

theorem witness_AlmanacEvents_vaonLow : ∃ (s : State), s.almanac.vaonLow = false :=
  ⟨board, by decide⟩

theorem witness_AlmanacEvents_vbat : ∃ (s : State), s.almanac.vaonLow = true ∧ s.almanac.onVbat = false :=
  ⟨{ board with almanac := { board.almanac with vaonLow := true } }, by decide⟩

theorem witness_AlmanacEvents_vbatNot : ∃ (s : State), (s.almanac.vaonLow = false ∨ s.almanac.onVbat = true) :=
  ⟨board, by decide⟩

theorem witness_AlmanacEvents_vaonRestart : ∃ (s : State), s.almanac.vaonLow = true ∧ s.power.started = true ∧
  (s.isl iALM).state = .off ∧ s.running iMGT = true :=
  ⟨{ (board.setIsl iALM { state := .off }) with almanac := { board.almanac with vaonLow := true }, power := { board.power with started := true } }, by decide⟩

theorem witness_AlmanacEvents_vaonUnstarted : ∃ (s : State), s.almanac.vaonLow = true ∧ (s.power.started = false ∨
  (s.isl iALM).state ≠ .off) :=
  ⟨{ (board.setIsl iALM { state := .off }) with almanac := { board.almanac with vaonLow := true }, power := { board.power with started := false } }, by decide⟩

theorem witness_AlmanacEvents_vaonUp : ∃ (s : State) (p : Instr), p ∈ ([.vaonReturn, .coreLost] : List Instr) ∧
  s.almanac.vaonLow = false :=
  ⟨board, .coreLost, by exact ⟨by simp, by decide⟩⟩

theorem witness_AlmanacEvents_vaonReturn : ∃ (s : State), s.almanac.vaonLow = true :=
  ⟨{ board with almanac := { board.almanac with vaonLow := true } }, by decide⟩

theorem witness_BusEvents_apply : ∃ (s : State) (c n : Nat) (x : BusCfg), c < 8 ∧ s.running iBUS = true ∧ (s.chan
  c).newCfg = some x :=
  ⟨{ pointBoard with bus := { pointBoard.bus with chans := [(2, { newCfg := some { mode := 0x40 } })] } }, 2, 0, { mode := 0x40 }, by decide⟩

theorem witness_BusEvents_applyNone : ∃ (s : State) (c n : Nat), (s.chan c).newCfg = none :=
  ⟨board, 2, 0, by decide⟩

theorem witness_BusEvents_integrated : ∃ (s : State) (c n : Nat), c < 8 ∧ s.running iBUS = true ∧ (s.chan c).state =
  .integrating :=
  ⟨{ pointBoard with bus := { pointBoard.bus with chans := [(2, { state := .integrating })] } }, 2, 0, by decide⟩

theorem witness_BusEvents_integratedNot : ∃ (s : State) (c n : Nat), (s.chan c).state ≠ .integrating :=
  ⟨board, 2, 0, by decide⟩

theorem witness_BusEvents_noMatch : ∃ (s : State) (c n : Nat) (f : BusFrame), c < 8 ∧ (s.isl iBUS).state = .run ∧
  (s.chan c).state = .normal ∧ (s.chan c).rxErr = 0 ∧ (!f.fd || decide (1 ≤ (s.chan c).protocol)) = true ∧ (!f.xl ||
  (s.chan c).protocol == 2) = true ∧ ((s.chan c).objects.find? fun e => (e.2.cfg.kind == 1 || e.2.cfg.kind == 2) &&
  e.2.head.isNone && e.2.cfg.flag 0 == f.ide && e.2.cfg.flag 1 == f.fd && e.2.cfg.flag 3 == f.xl && e.2.cfg.flag 4
  == f.rtr && (f.id &&& e.2.cfg.mask) == (e.2.cfg.id &&& e.2.cfg.mask)) = none :=
  ⟨{ pointBoard with bus := { pointBoard.bus with chans := [(2, { state := .normal })] } }, 2, 0, { ide := false, fd := false, xl := false, rtr := false, id := 0x123, dlc := 8, data := leBytes 8 77, xlHdr := 0, xlAf := 0, sof := 946684800000000000 }, by decide⟩

theorem witness_BusEvents_point : ∃ (s : State) (c n : Nat) (f : BusFrame) (y : BusObj) (o : Nat), c < 8 ∧ (s.isl
  iBUS).state = .run ∧ (s.chan c).state = .normal ∧ (s.chan c).rxErr = 0 ∧ (!f.fd || decide (1 ≤ (s.chan
  c).protocol)) = true ∧ (!f.xl || (s.chan c).protocol == 2) = true ∧ ((s.chan c).objects.find? fun e =>
  (e.2.cfg.kind == 1 || e.2.cfg.kind == 2) && e.2.head.isNone && e.2.cfg.flag 0 == f.ide && e.2.cfg.flag 1 == f.fd
  && e.2.cfg.flag 3 == f.xl && e.2.cfg.flag 4 == f.rtr && (f.id &&& e.2.cfg.mask) == (e.2.cfg.id &&& e.2.cfg.mask))
  = some (n, y) ∧ y.cfg.kind = 1 ∧ y.cfg.count = 1 ∧ y.cfg.offset + pointBytes y.cfg.type ≤ f.data.length ∧ o =
  y.cfg.pt ∧ 0 < f.sof ∧ f.sof < 2 ^ 64 ∧ Sound s o ∧ (s.point o).type = y.cfg.type ∧ (s.point o).owner = y.tenant ∧
  ((s.point o).flag fLocked = false ∨ (s.point o).writer = 0x50000000 + c * 256 + n) ∧ forceIndex s o = none ∧
  forceOf s o = none ∧ (s.isl iPF).state = .run ∧ (s.isl iPF).draining = false ∧ (s.epochOf iBUS iPF = 0 ∨ s.epochOf
  iBUS iPF = (s.isl iPF).epoch) :=
  ⟨{ pointBoard with bus := { pointBoard.bus with chans := [(2, { state := .normal, objects := [(3, { cfg := { kind := 1, flags := 0, queue := 0, retry := 0, id := 291, mask := 2047, pt := 1048576, offset := 0, type := 1, count := 1, length := 8, period := 0, xlLength := 0 }, tenant := 0, state := .empty, data := leBytes 8 9 })] })] } }, 2, 3, { ide := false, fd := false, xl := false, rtr := false, id := 0x123, dlc := 8, data := leBytes 8 77, xlHdr := 0, xlAf := 0, sof := 946684800000000000 }, { cfg := { kind := 1, flags := 0, queue := 0, retry := 0, id := 291, mask := 2047, pt := 1048576, offset := 0, type := 1, count := 1, length := 8, period := 0, xlLength := 0 }, tenant := 0, state := .empty, data := leBytes 8 9 }, 0x0100000, by decide⟩

theorem witness_BusEvents_short : ∃ (s : State) (c n : Nat) (f : BusFrame) (y : BusObj), c < 8 ∧ (s.isl iBUS).state
  = .run ∧ (s.chan c).state = .normal ∧ (s.chan c).rxErr = 0 ∧ (!f.fd || decide (1 ≤ (s.chan c).protocol)) = true ∧
  (!f.xl || (s.chan c).protocol == 2) = true ∧ ((s.chan c).objects.find? fun e => (e.2.cfg.kind == 1 || e.2.cfg.kind
  == 2) && e.2.head.isNone && e.2.cfg.flag 0 == f.ide && e.2.cfg.flag 1 == f.fd && e.2.cfg.flag 3 == f.xl &&
  e.2.cfg.flag 4 == f.rtr && (f.id &&& e.2.cfg.mask) == (e.2.cfg.id &&& e.2.cfg.mask)) = some (n, y) ∧ y.cfg.kind =
  1 ∧ f.data.length < y.cfg.offset + y.cfg.count * pointBytes y.cfg.type :=
  ⟨{ pointBoard with bus := { pointBoard.bus with chans := [(2, { state := .normal, objects := [(3, { cfg := { kind := 1, flags := 0, queue := 0, retry := 0, id := 291, mask := 2047, pt := 1048576, offset := 0, type := 1, count := 1, length := 8, period := 0, xlLength := 0 }, tenant := 0, state := .empty, data := leBytes 8 9 })] })] } }, 2, 3, { ide := false, fd := false, xl := false, rtr := false, id := 0x123, dlc := 2, data := leBytes 2 77, xlHdr := 0, xlAf := 0, sof := 946684800000000000 }, { cfg := { kind := 1, flags := 0, queue := 0, retry := 0, id := 291, mask := 2047, pt := 1048576, offset := 0, type := 1, count := 1, length := 8, period := 0, xlLength := 0 }, tenant := 0, state := .empty, data := leBytes 8 9 }, by decide⟩

theorem witness_BusEvents_queue : ∃ (s : State) (c n : Nat) (f : BusFrame) (y : BusObj), c < 8 ∧ (s.isl iBUS).state
  = .run ∧ (s.chan c).state = .normal ∧ (s.chan c).rxErr = 0 ∧ (!f.fd || decide (1 ≤ (s.chan c).protocol)) = true ∧
  (!f.xl || (s.chan c).protocol == 2) = true ∧ ((s.chan c).objects.find? fun e => (e.2.cfg.kind == 1 || e.2.cfg.kind
  == 2) && e.2.head.isNone && e.2.cfg.flag 0 == f.ide && e.2.cfg.flag 1 == f.fd && e.2.cfg.flag 3 == f.xl &&
  e.2.cfg.flag 4 == f.rtr && (f.id &&& e.2.cfg.mask) == (e.2.cfg.id &&& e.2.cfg.mask)) = some (n, y) ∧ s.obj c n =
  some y ∧ y.cfg.kind = 2 ∧ y.cfg.queue = 1 ∧ y.next = n ∧ y.state = .empty ∧ f.xl = false :=
  ⟨{ pointBoard with bus := { pointBoard.bus with chans := [(2, { state := .normal, objects := [(3, { cfg := { kind := 2, flags := 0, queue := 1, retry := 0, id := 291, mask := 2047, pt := 1048576, offset := 0, type := 1, count := 1, length := 8, period := 0, xlLength := 0 }, tenant := 0, state := .empty, data := leBytes 8 9, next := 3 })] })] } }, 2, 3, { ide := false, fd := false, xl := false, rtr := false, id := 0x123, dlc := 8, data := leBytes 8 77, xlHdr := 0, xlAf := 0, sof := 946684800000000000 }, { cfg := { kind := 2, flags := 0, queue := 1, retry := 0, id := 291, mask := 2047, pt := 1048576, offset := 0, type := 1, count := 1, length := 8, period := 0, xlLength := 0 }, tenant := 0, state := .empty, data := leBytes 8 9, next := 3 }, by decide⟩

theorem witness_BusEvents_queueFull : ∃ (s : State) (c n : Nat) (f : BusFrame) (y : BusObj), c < 8 ∧ (s.isl
  iBUS).state = .run ∧ (s.chan c).state = .normal ∧ (s.chan c).rxErr = 0 ∧ (!f.fd || decide (1 ≤ (s.chan
  c).protocol)) = true ∧ (!f.xl || (s.chan c).protocol == 2) = true ∧ ((s.chan c).objects.find? fun e =>
  (e.2.cfg.kind == 1 || e.2.cfg.kind == 2) && e.2.head.isNone && e.2.cfg.flag 0 == f.ide && e.2.cfg.flag 1 == f.fd
  && e.2.cfg.flag 3 == f.xl && e.2.cfg.flag 4 == f.rtr && (f.id &&& e.2.cfg.mask) == (e.2.cfg.id &&& e.2.cfg.mask))
  = some (n, y) ∧ s.obj c n = some y ∧ y.cfg.kind = 2 ∧ y.next = n ∧ y.state = .full :=
  ⟨{ pointBoard with bus := { pointBoard.bus with chans := [(2, { state := .normal, objects := [(3, { cfg := { kind := 2, flags := 0, queue := 1, retry := 0, id := 291, mask := 2047, pt := 1048576, offset := 0, type := 1, count := 1, length := 8, period := 0, xlLength := 0 }, tenant := 0, state := .full, data := leBytes 8 9, next := 3 })] })] } }, 2, 3, { ide := false, fd := false, xl := false, rtr := false, id := 0x123, dlc := 8, data := leBytes 8 77, xlHdr := 0, xlAf := 0, sof := 946684800000000000 }, { cfg := { kind := 2, flags := 0, queue := 1, retry := 0, id := 291, mask := 2047, pt := 1048576, offset := 0, type := 1, count := 1, length := 8, period := 0, xlLength := 0 }, tenant := 0, state := .full, data := leBytes 8 9, next := 3 }, by decide⟩

theorem witness_BusEvents_deaf : ∃ (s : State) (c n : Nat) (f : BusFrame), (s.running iBUS = false ∨ (s.chan
  c).state = .disabled ∨ (s.chan c).state = .asleep ∨ (s.chan c).state = .busOff ∨ (s.chan c).state = .integrating)
  :=
  ⟨board, 2, 3, { ide := false, fd := false, xl := false, rtr := false, id := 0x123, dlc := 8, data := leBytes 8 77, xlHdr := 0, xlAf := 0, sof := 946684800000000000 }, by decide⟩

theorem witness_BusEvents_ack : ∃ (s : State) (c n : Nat) (a : Agent) (v : Word) (y : BusObj), c < 8 ∧ Reaches s a
  (rBcRxAck c) v.toNat true ∧ n = v.toNat % 256 ∧ s.obj c n = some y ∧ y.state = .full :=
  ⟨{ pointBoard with bus := { pointBoard.bus with chans := [(2, { objects := [(3, { cfg := { kind := 2, flags := 0, queue := 0, retry := 0, id := 291, mask := 2047, pt := 1048576, offset := 0, type := 1, count := 1, length := 8, period := 0, xlLength := 0 }, tenant := 0, state := .full, data := leBytes 8 9 })] })] } }, 2, 3, .core1, 3, { cfg := { kind := 2, flags := 0, queue := 0, retry := 0, id := 291, mask := 2047, pt := 1048576, offset := 0, type := 1, count := 1, length := 8, period := 0, xlLength := 0 }, tenant := 0, state := .full, data := leBytes 8 9 }, by decide⟩

theorem witness_BusEvents_period : ∃ (s : State) (c n : Nat) (y : BusObj) (o : Nat), (s.isl iBUS).state = .run ∧
  s.obj c n = some y ∧ y.cfg.kind = 3 ∧ 0 < y.cfg.period ∧ y.dueAt ≤ s.tai ∧ y.state = .ready ∧ y.cfg.count = 1 ∧ o
  = y.cfg.pt ∧ Sound s o ∧ (s.point o).owner = y.tenant ∧ forceOf s o = none ∧ (s.isl iPF).state = .run ∧ (s.isl
  iPF).draining = false ∧ (s.epochOf iBUS iPF = 0 ∨ s.epochOf iBUS iPF = (s.isl iPF).epoch) :=
  ⟨{ pointBoard with bus := { pointBoard.bus with chans := [(2, { state := .normal, objects := [(3, { cfg := { kind := 3, flags := 0, queue := 0, retry := 0, id := 291, mask := 2047, pt := 1048576, offset := 0, type := 1, count := 1, length := 8, period := 100, xlLength := 0 }, tenant := 0, state := .ready, data := leBytes 8 9 })] })] } }, 2, 3, { cfg := { kind := 3, flags := 0, queue := 0, retry := 0, id := 291, mask := 2047, pt := 1048576, offset := 0, type := 1, count := 1, length := 8, period := 100, xlLength := 0 }, tenant := 0, state := .ready, data := leBytes 8 9 }, 0x0100000, by decide⟩

theorem witness_BusEvents_periodNone : ∃ (s : State) (c n : Nat), (s.obj c n = none ∨ ((s.obj c n).any (fun y =>
  y.cfg.period == 0)) = true) :=
  ⟨board, 2, 3, by decide⟩

theorem witness_BusEvents_request : ∃ (s : State) (c n : Nat) (a : Agent) (v : Word) (y : BusObj), c < 8 ∧ Reaches s
  a (rBcTxReq c) v.toNat true ∧ n = v.toNat % 256 ∧ s.obj c n = some y ∧ y.cfg.kind = 4 ∧ y.state = .ready :=
  ⟨{ pointBoard with bus := { pointBoard.bus with chans := [(2, { objects := [(3, { cfg := { kind := 4, flags := 0, queue := 0, retry := 0, id := 291, mask := 2047, pt := 1048576, offset := 0, type := 1, count := 1, length := 8, period := 0, xlLength := 0 }, tenant := 0, state := .ready, data := leBytes 8 9 })] })] } }, 2, 3, .core1, 3, { cfg := { kind := 4, flags := 0, queue := 0, retry := 0, id := 291, mask := 2047, pt := 1048576, offset := 0, type := 1, count := 1, length := 8, period := 0, xlLength := 0 }, tenant := 0, state := .ready, data := leBytes 8 9 }, by decide⟩

theorem witness_BusEvents_late : ∃ (s : State) (c n : Nat) (a : Agent) (v : Word) (y : BusObj), c < 8 ∧ n < 256 ∧
  Reaches s a (rBcTxReq c) v.toNat true ∧ n = v.toNat % 256 ∧ s.obj c n = some y ∧ y.cfg.kind = 4 ∧ (y.state =
  .pending ∨ y.state = .onBus) :=
  ⟨{ pointBoard with bus := { pointBoard.bus with chans := [(2, { objects := [(3, { cfg := { kind := 4, flags := 0, queue := 0, retry := 0, id := 291, mask := 2047, pt := 1048576, offset := 0, type := 1, count := 1, length := 8, period := 0, xlLength := 0 }, tenant := 0, state := .pending, data := leBytes 8 9 })] })] } }, 2, 3, .core1, 3, { cfg := { kind := 4, flags := 0, queue := 0, retry := 0, id := 291, mask := 2047, pt := 1048576, offset := 0, type := 1, count := 1, length := 8, period := 0, xlLength := 0 }, tenant := 0, state := .pending, data := leBytes 8 9 }, by decide⟩

theorem witness_BusEvents_sent : ∃ (s : State) (c n : Nat) (i : Nat) (y : BusObj), c < 8 ∧ s.running iBUS = true ∧
  (s.chan c).state = .normal ∧ (s.obj c n) = some y ∧ (s.chan c).objects = [(n, y)] ∧ y.state = .onBus :=
  ⟨{ pointBoard with bus := { pointBoard.bus with chans := [(2, { state := .normal, objects := [(3, { cfg := { kind := 4, flags := 0, queue := 0, retry := 0, id := 291, mask := 2047, pt := 1048576, offset := 0, type := 1, count := 1, length := 8, period := 0, xlLength := 0 }, tenant := 0, state := .onBus, data := leBytes 8 9 })] })] } }, 2, 3, 700, { cfg := { kind := 4, flags := 0, queue := 0, retry := 0, id := 291, mask := 2047, pt := 1048576, offset := 0, type := 1, count := 1, length := 8, period := 0, xlLength := 0 }, tenant := 0, state := .onBus, data := leBytes 8 9 }, by decide⟩

theorem witness_BusEvents_lost : ∃ (s : State) (c n : Nat) (y : BusObj), c < 8 ∧ s.running iBUS = true ∧ (s.chan
  c).state = .normal ∧ (s.obj c n) = some y ∧ (s.chan c).objects = [(n, y)] ∧ y.state = .onBus ∧ y.abortDue = false
  ∧ (y.cfg.retry = 255 ∨ min 255 (y.retries + 1) ≤ y.cfg.retry) :=
  ⟨{ pointBoard with bus := { pointBoard.bus with chans := [(2, { state := .normal, objects := [(3, { cfg := { kind := 4, flags := 0, queue := 0, retry := 3, id := 291, mask := 2047, pt := 1048576, offset := 0, type := 1, count := 1, length := 8, period := 0, xlLength := 0 }, tenant := 0, state := .onBus, data := leBytes 8 9 })] })] } }, 2, 3, { cfg := { kind := 4, flags := 0, queue := 0, retry := 3, id := 291, mask := 2047, pt := 1048576, offset := 0, type := 1, count := 1, length := 8, period := 0, xlLength := 0 }, tenant := 0, state := .onBus, data := leBytes 8 9 }, by decide⟩

theorem witness_BusEvents_aborted : ∃ (s : State) (c n : Nat) (y : BusObj), c < 8 ∧ s.running iBUS = true ∧ (s.chan
  c).state = .normal ∧ (s.obj c n) = some y ∧ (s.chan c).objects = [(n, y)] ∧ y.state = .onBus ∧ y.abortDue = false
  ∧ y.cfg.retry ≠ 255 ∧ y.cfg.retry < min 255 (y.retries + 1) :=
  ⟨{ pointBoard with bus := { pointBoard.bus with chans := [(2, { state := .normal, objects := [(3, { cfg := { kind := 4, flags := 0, queue := 0, retry := 0, id := 291, mask := 2047, pt := 1048576, offset := 0, type := 1, count := 1, length := 8, period := 0, xlLength := 0 }, tenant := 0, state := .onBus, data := leBytes 8 9 })] })] } }, 2, 3, { cfg := { kind := 4, flags := 0, queue := 0, retry := 0, id := 291, mask := 2047, pt := 1048576, offset := 0, type := 1, count := 1, length := 8, period := 0, xlLength := 0 }, tenant := 0, state := .onBus, data := leBytes 8 9 }, by decide⟩

theorem witness_BusEvents_busOff : ∃ (s : State) (c n : Nat) (k : Nat) (y : BusObj), c < 8 ∧ s.running iBUS = true ∧
  (s.chan c).state = .normal ∧ (s.obj c n) = some y ∧ (s.chan c).objects = [(n, y)] ∧ y.state = .onBus ∧ k ≠ 3 ∧ 248
  ≤ (s.chan c).txErr ∧ y.abortDue = false ∧ y.cfg.retry = 255 :=
  ⟨{ pointBoard with bus := { pointBoard.bus with chans := [(2, { state := .normal, txErr := 250, objects := [(3, { cfg := { kind := 4, flags := 0, queue := 0, retry := 255, id := 291, mask := 2047, pt := 1048576, offset := 0, type := 1, count := 1, length := 8, period := 0, xlLength := 0 }, tenant := 0, state := .onBus, data := leBytes 8 9 })] })] } }, 2, 3, 5, { cfg := { kind := 4, flags := 0, queue := 0, retry := 255, id := 291, mask := 2047, pt := 1048576, offset := 0, type := 1, count := 1, length := 8, period := 0, xlLength := 0 }, tenant := 0, state := .onBus, data := leBytes 8 9 }, by decide⟩

theorem witness_BusEvents_noAttempt : ∃ (s : State) (c n : Nat) (e : BusTxEnd), (s.running iBUS = false ∨ (s.chan
  c).state ≠ .normal ∨ (s.chan c).objects = []) :=
  ⟨board, 2, 3, .lostArbitration, by decide⟩

theorem witness_BusEvents_abort : ∃ (s : State) (c n : Nat) (a : Agent) (v : Word) (y : BusObj), c < 8 ∧ Reaches s a
  (rBcTxAbort c) v.toNat true ∧ n = v.toNat % 256 ∧ s.obj c n = some y ∧ (s.chan c).objects = [(n, y)] ∧ y.state =
  .pending ∧ s.controls = false :=
  ⟨{ pointBoard with bus := { pointBoard.bus with chans := [(2, { objects := [(3, { cfg := { kind := 4, flags := 0, queue := 0, retry := 0, id := 291, mask := 2047, pt := 1048576, offset := 0, type := 1, count := 1, length := 8, period := 0, xlLength := 0 }, tenant := 0, state := .pending, data := leBytes 8 9 })] })] }, twin := { board.twin with silent := true } }, 2, 3, .core1, 3, { cfg := { kind := 4, flags := 0, queue := 0, retry := 0, id := 291, mask := 2047, pt := 1048576, offset := 0, type := 1, count := 1, length := 8, period := 0, xlLength := 0 }, tenant := 0, state := .pending, data := leBytes 8 9 }, by decide⟩

theorem witness_BusEvents_abortDue : ∃ (s : State) (c n : Nat) (a : Agent) (v : Word) (y : BusObj), c < 8 ∧ Reaches
  s a (rBcTxAbort c) v.toNat true ∧ n = v.toNat % 256 ∧ s.obj c n = some y ∧ (s.chan c).objects = [(n, y)] ∧ y.state
  = .onBus :=
  ⟨{ pointBoard with bus := { pointBoard.bus with chans := [(2, { objects := [(3, { cfg := { kind := 4, flags := 0, queue := 0, retry := 0, id := 291, mask := 2047, pt := 1048576, offset := 0, type := 1, count := 1, length := 8, period := 0, xlLength := 0 }, tenant := 0, state := .onBus, data := leBytes 8 9 })] })] } }, 2, 3, .core1, 3, { cfg := { kind := 4, flags := 0, queue := 0, retry := 0, id := 291, mask := 2047, pt := 1048576, offset := 0, type := 1, count := 1, length := 8, period := 0, xlLength := 0 }, tenant := 0, state := .onBus, data := leBytes 8 9 }, by decide⟩

theorem witness_BusEvents_error : ∃ (s : State) (c n : Nat) (k : Nat), c < 8 ∧ s.running iBUS = true ∧ (s.chan
  c).state = .normal ∧ (s.chan c).rxErr < 127 ∧ (s.chan c).txErr < 128 :=
  ⟨{ pointBoard with bus := { pointBoard.bus with chans := [(2, { state := .normal })] } }, 2, 0, 4, by decide⟩

theorem witness_BusEvents_exception : ∃ (s : State) (c n : Nat) (k : Nat), c < 8 ∧ s.running iBUS = true ∧ (s.chan
  c).state = .normal ∧ (s.chan c).mode 5 = true :=
  ⟨{ pointBoard with bus := { pointBoard.bus with chans := [(2, { state := .normal, cfg := { mode := 0x60 } })] } }, 2, 0, 4, by decide⟩

theorem witness_BusEvents_recover : ∃ (s : State) (c n : Nat) (a : Agent) (v : Word), c < 8 ∧ Reaches s a (rBcCCtrl
  c) (v.toNat ||| 0x100) true ∧ (s.chan c).state = .busOff :=
  ⟨{ pointBoard with bus := { pointBoard.bus with chans := [(2, { state := .busOff })] } }, 2, 0, .steward, 0x100, by decide⟩

theorem witness_BusEvents_recovered : ∃ (s : State) (c n : Nat), s.running iBUS = true ∧ (s.chan c).state = .busOff
  ∧ (s.chan c).recovering = true :=
  ⟨{ pointBoard with bus := { pointBoard.bus with chans := [(2, { state := .busOff, recovering := true })] } }, 2, 0, by decide⟩

theorem witness_BusEvents_recoveredNot : ∃ (s : State) (c n : Nat), ((s.chan c).state ≠ .busOff ∨ (s.chan
  c).recovering = false) :=
  ⟨board, 2, 0, by decide⟩

theorem witness_BusEvents_sleep : ∃ (s : State) (c n : Nat), s.running iBUS = true ∧ (s.chan c).sleepDue ≠ 0 ∧
  ((s.chan c).objects.any fun e => e.2.state == .onBus) = false ∧ (s.chan c).state ≠ .disabled :=
  ⟨{ pointBoard with bus := { pointBoard.bus with chans := [(2, { state := .normal, sleepDue := 1 })] } }, 2, 0, by decide⟩

theorem witness_BusEvents_sleepNot : ∃ (s : State) (c n : Nat), (s.chan c).sleepDue = 0 :=
  ⟨board, 2, 0, by decide⟩

theorem witness_BusEvents_wake : ∃ (s : State) (c n : Nat) (p : Instr × Nat × Nat) (f : BusFrame), p ∈
  ([(.busWakeEdge c, 1, 1), (.busWakeFrame c (.frame f), 2, 2), (.busWakeFrame c .erroneous, 2, 3)] : List (Instr ×
  Nat × Nat)) ∧ s.running iBUS = true ∧ (s.chan c).state = .asleep ∧ (s.chan c).sleepMode = p.2.1 ∧ (p.2.2 = 2 →
  f.fd = false ∧ f.xl = false ∧ ((s.chan c).objects.any fun e => e.2.cfg.kind == 5 && wakeMatches e.2.cfg f) = true)
  ∧ (p.2.2 = 3 → (s.chan c).wakeErr = 31) :=
  ⟨{ pointBoard with bus := { pointBoard.bus with chans := [(2, { state := .asleep, sleepMode := 1 })] } }, 2, 0, (.busWakeEdge 2, 1, 1), { ide := false, fd := false, xl := false, rtr := false, id := 0x123, dlc := 8, data := leBytes 8 77, xlHdr := 0, xlAf := 0, sof := 946684800000000000 }, by exact ⟨by simp, by decide⟩⟩

theorem witness_BusEvents_erroneous : ∃ (s : State) (c n : Nat), s.running iBUS = true ∧ (s.chan c).state = .asleep
  ∧ (s.chan c).sleepMode = 2 ∧ (s.chan c).wakeErr ≠ 31 :=
  ⟨{ pointBoard with bus := { pointBoard.bus with chans := [(2, { state := .asleep, sleepMode := 2 })] } }, 2, 0, by decide⟩

theorem witness_BusEvents_awake : ∃ (s : State) (c n : Nat) (p : Instr) (f : BusFrame), p ∈ ([.busWakeEdge c,
  .busWakeFrame c .erroneous, .busWakeFrame c (.frame f)] : List Instr) ∧ (s.chan c).state ≠ .asleep :=
  ⟨board, 2, 0, .busWakeEdge 2, { ide := false, fd := false, xl := false, rtr := false, id := 0x123, dlc := 8, data := leBytes 8 77, xlHdr := 0, xlAf := 0, sof := 946684800000000000 }, by exact ⟨by simp, by decide⟩⟩

theorem witness_LeaseEvents_linkClosed : ∃ (s : State) (p : TwinRx → Instr) (f : TwinRx), p ∈ ([.renew, .grant,
  .release, .withdraw, .hello, .handover, .unpair, .state, .verdict, .resync, .health, .relayDown, .relayUp] : List
  (TwinRx → Instr)) ∧ (s.running iSW = false ∨ (s.port 2).link ≠ .up ∨ (f.secured = false ∧ s.rbit rTwCtrl 0 =
  false)) :=
  ⟨board, .renew, twinFrameIn ([]), by exact ⟨by simp, by decide⟩⟩

theorem witness_LeaseEvents_badCheck : ∃ (s : State) (p : TwinRx → Instr) (f : TwinRx), p ∈ ([.renew, .grant,
  .release, .withdraw, .hello, .handover, .unpair, .verdict, .resync, .health, .relayDown, .relayUp] : List (TwinRx
  → Instr)) ∧ f.checkOk = false :=
  ⟨twinBoard .active, .renew, { twinFrameIn [] with checkOk := false }, by exact ⟨by simp, by decide⟩⟩

theorem witness_LeaseEvents_stateBad : ∃ (s : State) (f : TwinRx), s.running iSW = true ∧ (s.port 2).link = .up ∧
  (f.secured = true ∨ s.rbit rTwCtrl 0 = true) ∧ f.body.length ≤ 2000 ∧ f.checkOk = false :=
  ⟨twinBoard .active, { twinFrameIn (leBytes 4 5) with checkOk := false }, by decide⟩

theorem witness_LeaseEvents_ringClosed : ∃ (s : State) (p : TwinRx → Instr) (f : TwinRx), p ∈ ([.offer, .query,
  .probe, .probeReply, .answer] : List (TwinRx → Instr)) ∧ (s.running iSW = false ∨ ((s.port 0).link ≠ .up ∧ (s.port
  1).link ≠ .up) ∨ (f.secured = false ∧ s.rbit rTwCtrl 1 = false)) :=
  ⟨board, .offer, twinFrameIn ([]), by exact ⟨by simp, by decide⟩⟩

theorem witness_LeaseEvents_renewSend : ∃ (s : State), s.twin.role = .active ∧ s.twin.partner = 2 ∧ s.twin.renewing
  = true ∧ s.twin.renewAt + 5 * nsMs ≤ s.now ∧ s.twin.answered = true :=
  ⟨{ twinBoard .active with twin := { (twinBoard .active).twin with renewing := true } }, by decide⟩

theorem witness_LeaseEvents_renewMissed : ∃ (s : State), s.twin.role = .active ∧ s.twin.partner = 2 ∧
  s.twin.renewing = true ∧ s.twin.renewAt + 5 * nsMs ≤ s.now ∧ s.twin.answered = false :=
  ⟨{ twinBoard .active with twin := { (twinBoard .active).twin with renewing := true, answered := false } }, by decide⟩

theorem witness_LeaseEvents_renewNot : ∃ (s : State), (s.twin.role ≠ .active ∨ s.twin.renewing = false ∨ s.now <
  s.twin.renewAt + 5 * nsMs) :=
  ⟨board, by decide⟩

theorem witness_LeaseEvents_renew : ∃ (s : State) (f : TwinRx), s.running iSW = true ∧ (s.port 2).link = .up ∧
  (f.secured = true ∨ s.rbit rTwCtrl 0 = true) ∧ f.body.length ≤ 2000 ∧ f.checkOk = true ∧ s.twin.role = .standby ∧
  s.twin.mute = false ∧ f.body.length = 8 :=
  ⟨twinBoard .standby, twinFrameIn (leBytes 8 5), by decide⟩

theorem witness_LeaseEvents_grant : ∃ (s : State) (f : TwinRx), s.running iSW = true ∧ (s.port 2).link = .up ∧
  (f.secured = true ∨ s.rbit rTwCtrl 0 = true) ∧ f.body.length ≤ 2000 ∧ f.checkOk = true ∧ s.twin.role = .active ∧
  s.twin.renewing = true ∧ s.now ≤ s.twin.renewAt + 3 * nsMs ∧ f.body.length = 12 ∧ fld f.body 0 4 = s.twin.renewNo
  ∧ s.twin.causes = [] :=
  ⟨{ twinBoard .active with twin := { (twinBoard .active).twin with renewing := true, renewNo := 5, renewAt := 7999000000 } }, twinFrameIn (leBytes 8 5 ++ leBytes 4 1), by decide⟩

theorem witness_LeaseEvents_grantLate : ∃ (s : State) (f : TwinRx), s.running iSW = true ∧ (s.port 2).link = .up ∧
  (f.secured = true ∨ s.rbit rTwCtrl 0 = true) ∧ f.body.length ≤ 2000 ∧ f.checkOk = true ∧ s.twin.role = .active ∧
  (s.twin.renewing = false ∨ s.twin.renewAt + 3 * nsMs < s.now ∨ fld f.body 0 4 ≠ s.twin.renewNo) :=
  ⟨{ twinBoard .active with twin := { (twinBoard .active).twin with renewing := true, renewNo := 5 } }, twinFrameIn (leBytes 8 5 ++ leBytes 4 1), by decide⟩

theorem witness_LeaseEvents_edgeGrants : ∃ (s : State), s.twin.role = .standby ∧ s.twin.mute = false ∧
  s.twin.released = none :=
  ⟨twinBoard .standby, by decide⟩

theorem witness_LeaseEvents_edgeRenews : ∃ (s : State), s.twin.role = .active ∧ s.twin.renewing = true ∧ s.now ≤
  s.twin.renewAt + 3 * nsMs ∧ s.twin.causes = [] :=
  ⟨{ twinBoard .active with twin := { (twinBoard .active).twin with renewing := true, renewAt := 7999000000 } }, by decide⟩

theorem witness_LeaseEvents_burstReleases : ∃ (s : State) (a b c d : Nat), s.twin.role = .standby ∧ s.twin.released
  = none ∧ s.twin.edges = [a, b, c, d] ∧ (∀ x ∈ [(b, a), (c, b), (d, c)], x.1 + 80 * nsUs ≤ x.2 ∧ x.2 ≤ x.1 + 120 *
  nsUs) :=
  ⟨{ twinBoard .standby with twin := { (twinBoard .standby).twin with edges := [300000, 200000, 100000, 0] } }, 300000, 200000, 100000, 0, by decide⟩

theorem witness_LeaseEvents_burstWithdraws : ∃ (s : State) (a b c d : Nat), s.twin.role = .active ∧ s.twin.released
  = none ∧ s.twin.edges = [a, b, c, d] ∧ (∀ x ∈ [(b, a), (c, b), (d, c)], x.1 + 80 * nsUs ≤ x.2 ∧ x.2 ≤ x.1 + 120 *
  nsUs) :=
  ⟨{ twinBoard .active with twin := { (twinBoard .active).twin with edges := [300000, 200000, 100000, 0] } }, 300000, 200000, 100000, 0, by decide⟩

theorem witness_LeaseEvents_burstNot : ∃ (s : State), s.twin.edges.length < 4 :=
  ⟨board, by decide⟩

theorem witness_LeaseEvents_wireQuiet : ∃ (s : State), bitOf s.twin.links 1 = true ∧ (∀ x ∈ s.twin.edges, x + 15 *
  nsMs ≤ s.now) :=
  ⟨{ twinBoard .active with twin := { (twinBoard .active).twin with links := 3 } }, by decide⟩

theorem witness_LeaseEvents_wireActive : ∃ (s : State), (bitOf s.twin.links 1 = false ∨ s.twin.edges.head? = some
  s.now) :=
  ⟨board, by decide⟩

theorem witness_LeaseEvents_grantLow : ∃ (s : State) (e : Nat), s.twin.role = .active ∧ s.twin.alone = false ∧
  s.twin.withdrawn = false ∧ s.twin.answered = true ∧ s.twin.grantEnd = some e ∧ e ≤ s.now + 2 * nsMs ∧
  s.fabric.imageQueue = [] ∧ s.thyme.exchange = none ∧ s.thyme.unloading = false ∧ s.mail.inProgress = [] :=
  ⟨{ twinBoard .active with twin := { (twinBoard .active).twin with grantEnd := some 8001000000 } }, 8001000000, by decide⟩

theorem witness_LeaseEvents_grantHigh : ∃ (s : State), (s.twin.role ≠ .active ∨ s.twin.alone = true ∨
  s.twin.grantEnd.any (fun e => decide (e ≤ s.now + 2 * nsMs)) = false) :=
  ⟨twinBoard .active, by decide⟩

theorem witness_LeaseEvents_guardEnd : ∃ (s : State) (e : Nat), s.twin.role = .standby ∧ s.twin.released = none ∧
  s.twin.grantorEnd = some e ∧ e + 2 * nsMs ≤ s.now ∧ s.fabric.imageQueue = [] ∧ s.thyme.exchange = none ∧
  s.thyme.unloading = false ∧ s.mail.inProgress = [] :=
  ⟨{ twinBoard .standby with twin := { (twinBoard .standby).twin with grantorEnd := some 5 } }, 5, by decide⟩

theorem witness_LeaseEvents_guardRuns : ∃ (s : State), (s.twin.role ≠ .standby ∨ s.twin.grantorEnd.any (fun e =>
  decide (e + 2 * nsMs ≤ s.now)) = false) :=
  ⟨twinBoard .standby, by decide⟩

theorem witness_LeaseEvents_release : ∃ (s : State) (f : TwinRx), s.running iSW = true ∧ (s.port 2).link = .up ∧
  (f.secured = true ∨ s.rbit rTwCtrl 0 = true) ∧ f.body.length ≤ 2000 ∧ f.checkOk = true ∧ s.twin.role = .standby ∧
  f.body.length = 4 :=
  ⟨twinBoard .standby, twinFrameIn (leBytes 4 5), by decide⟩

theorem witness_LeaseEvents_takeover : ∃ (s : State) (r : Nat), s.twin.role = .standby ∧ s.twin.released = some r ∧
  r + 2 * nsMs ≤ s.now ∧ s.twin.ready = true ∧ s.power.floor = true ∧ s.fabric.imageQueue = [] ∧ s.thyme.exchange =
  none ∧ s.thyme.unloading = false ∧ s.mail.inProgress = [] :=
  ⟨{ twinBoard .standby with twin := { (twinBoard .standby).twin with released := some 5, ready := true, relCause := 3, relIsland := 2 }, power := { board.power with floor := true } }, 5, by decide⟩

theorem witness_LeaseEvents_takeoverNot : ∃ (s : State), (s.twin.role ≠ .standby ∨ s.twin.released.any (fun r =>
  decide (r + 2 * nsMs ≤ s.now)) = false) :=
  ⟨twinBoard .standby, by decide⟩

theorem witness_LeaseEvents_withdraw : ∃ (s : State) (f : TwinRx), s.running iSW = true ∧ (s.port 2).link = .up ∧
  (f.secured = true ∨ s.rbit rTwCtrl 0 = true) ∧ f.body.length ≤ 2000 ∧ f.checkOk = true ∧ s.twin.role = .active ∧
  f.body.length = 4 :=
  ⟨twinBoard .active, twinFrameIn (leBytes 4 5), by decide⟩

theorem witness_LeaseEvents_causeGivesUp : ∃ (s : State) (cause island : Nat), 1 ≤ cause ∧ cause ≤ 7 ∧ island < 12 ∧
  s.twin.role = .active ∧ s.twin.alone = false ∧ s.fabric.imageQueue = [] ∧ s.thyme.exchange = none ∧
  s.thyme.unloading = false ∧ s.mail.inProgress = [] :=
  ⟨twinBoard .active, 5, 3, by decide⟩

theorem witness_LeaseEvents_causeAlone : ∃ (s : State) (cause island : Nat), 1 ≤ cause ∧ cause ≤ 7 ∧ island < 12 ∧
  s.twin.role = .active ∧ s.twin.alone = true ∧ s.twin.causes.contains (cause, island) = false :=
  ⟨{ twinBoard .active with twin := { (twinBoard .active).twin with alone := true } }, 5, 3, by decide⟩

theorem witness_LeaseEvents_causeWithdraws : ∃ (s : State) (cause island : Nat), 1 ≤ cause ∧ cause ≤ 7 ∧ island < 12
  ∧ (s.twin.role = .standby ∨ s.twin.role = .pairing) :=
  ⟨twinBoard .standby, 5, 3, by decide⟩

theorem witness_LeaseEvents_causeNone : ∃ (s : State) (cause island : Nat), (cause = 0 ∨ 7 < cause ∨ 12 ≤ island ∨
  s.twin.role = .single ∨ s.twin.role = .holding) :=
  ⟨board, 5, 3, by decide⟩

theorem witness_TwinEvents_helloSend : ∃ (s : State), s.twin.role ≠ .single ∧ s.twin.helloAt ≤ s.now :=
  ⟨twinBoard .pairing, by decide⟩

theorem witness_TwinEvents_helloNot : ∃ (s : State), (s.twin.role = .single ∨ s.now < s.twin.helloAt) :=
  ⟨board, by decide⟩

theorem witness_TwinEvents_helloHeard : ∃ (s : State) (f : TwinRx), s.running iSW = true ∧ (s.port 2).link = .up ∧
  (f.secured = true ∨ s.rbit rTwCtrl 0 = true) ∧ f.body.length ≤ 2000 ∧ f.checkOk = true ∧ s.twin.role = .active ∧
  f.body.length = 24 ∧ f.body.take 12 = s.twin.partnerSerial :=
  ⟨twinBoard .active, twinFrameIn (leBytes 12 5 ++ leBytes 1 2 ++ leBytes 1 0 ++ leBytes 10 0), by decide⟩

theorem witness_TwinEvents_helloOther : ∃ (s : State) (f : TwinRx), s.running iSW = true ∧ (s.port 2).link = .up ∧
  (f.secured = true ∨ s.rbit rTwCtrl 0 = true) ∧ f.body.length ≤ 2000 ∧ f.checkOk = true ∧ s.twin.role ≠ .single ∧
  (f.body.length ≠ 24 ∨ f.body.take 12 ≠ s.twin.partnerSerial) :=
  ⟨twinBoard .pairing, twinFrameIn (leBytes 24 4), by decide⟩

theorem witness_TwinEvents_pairsStandby : ∃ (s : State) (f : TwinRx), s.running iSW = true ∧ (s.port 2).link = .up ∧
  (f.secured = true ∨ s.rbit rTwCtrl 0 = true) ∧ f.body.length ≤ 2000 ∧ f.checkOk = true ∧ s.twin.role = .pairing ∧
  s.rbit rPfStatus 0 = true ∧ f.body.length = 24 ∧ f.body.take 12 = s.twin.partnerSerial ∧ fld f.body 12 1 = 1 ∧
  s.fabric.imageQueue = [] ∧ s.thyme.exchange = none ∧ s.thyme.unloading = false ∧ s.mail.inProgress = [] :=
  ⟨(twinBoard .pairing).raise rPfStatus 0, twinFrameIn (leBytes 12 5 ++ leBytes 1 1 ++ leBytes 1 1 ++ leBytes 10 0), by decide⟩

theorem witness_TwinEvents_pairsActive : ∃ (s : State) (f : TwinRx), s.running iSW = true ∧ (s.port 2).link = .up ∧
  (f.secured = true ∨ s.rbit rTwCtrl 0 = true) ∧ f.body.length ≤ 2000 ∧ f.checkOk = true ∧ s.twin.role = .pairing ∧
  s.rbit rPfStatus 0 = true ∧ f.body.length = 24 ∧ f.body.take 12 = s.twin.partnerSerial ∧ fld f.body 12 1 = 4 ∧
  s.twin.formerActive = true ∧ bitOf (fld f.body 13 1) 0 = false ∧ s.power.floor = true ∧ s.fabric.imageQueue = [] ∧
  s.thyme.exchange = none ∧ s.thyme.unloading = false ∧ s.mail.inProgress = [] :=
  ⟨{ (twinBoard .pairing).raise rPfStatus 0 with twin := { (twinBoard .pairing).twin with formerActive := true }, power := { board.power with floor := true } }, twinFrameIn (leBytes 12 5 ++ leBytes 1 4 ++ leBytes 1 0 ++ leBytes 10 0), by decide⟩

theorem witness_TwinEvents_helloTimeout : ∃ (s : State), s.twin.role = .pairing ∧ s.rbit rPfStatus 0 = true ∧
  s.twin.helloHeard + 5 * nsSec ≤ s.now ∧ s.twin.queryAt ≤ s.now :=
  ⟨(twinBoard .pairing).raise rPfStatus 0, by decide⟩

theorem witness_TwinEvents_helloOnTime : ∃ (s : State), (s.twin.role ≠ .pairing ∨ s.now < s.twin.helloHeard + 5 *
  nsSec ∨ s.rbit rPfStatus 0 = false) :=
  ⟨board, by decide⟩

theorem witness_TwinEvents_handoverProposed : ∃ (s : State) (f : TwinRx), s.running iSW = true ∧ (s.port 2).link =
  .up ∧ (f.secured = true ∨ s.rbit rTwCtrl 0 = true) ∧ f.body.length ≤ 2000 ∧ f.checkOk = true ∧ s.twin.role =
  .standby ∧ s.twin.ready = true ∧ f.body.length = 12 ∧ fld f.body 0 1 = 0 :=
  ⟨{ twinBoard .standby with twin := { (twinBoard .standby).twin with ready := true } }, twinFrameIn (leBytes 4 0 ++ leBytes 8 77), by decide⟩

theorem witness_TwinEvents_handoverAccepted : ∃ (s : State) (f : TwinRx), s.running iSW = true ∧ (s.port 2).link =
  .up ∧ (f.secured = true ∨ s.rbit rTwCtrl 0 = true) ∧ f.body.length ≤ 2000 ∧ f.checkOk = true ∧ s.twin.role =
  .active ∧ f.body.length = 12 ∧ fld f.body 0 1 = 1 ∧ s.twin.handover = some (fld f.body 4 8) :=
  ⟨{ twinBoard .active with twin := { (twinBoard .active).twin with handover := some 77 } }, twinFrameIn (leBytes 4 1 ++ leBytes 8 77), by decide⟩

theorem witness_TwinEvents_boundaryGives : ∃ (s : State) (b : Nat), s.twin.role = .active ∧ s.twin.alone = false ∧
  s.twin.handover = some b ∧ b ≤ s.tai ∧ s.twin.handoverAgreed = true ∧ s.fabric.imageQueue = [] ∧ s.thyme.exchange
  = none ∧ s.thyme.unloading = false ∧ s.mail.inProgress = [] :=
  ⟨{ twinBoard .active with twin := { (twinBoard .active).twin with handover := some 77, handoverAgreed := true } }, 77, by decide⟩

theorem witness_TwinEvents_boundaryTakes : ∃ (s : State) (b : Nat), s.twin.role = .standby ∧ s.twin.ready = true ∧
  s.twin.handover = some b ∧ b ≤ s.tai ∧ s.twin.handoverAgreed = true ∧ s.power.floor = true ∧ s.fabric.imageQueue =
  [] ∧ s.thyme.exchange = none ∧ s.thyme.unloading = false ∧ s.mail.inProgress = [] :=
  ⟨{ twinBoard .standby with twin := { (twinBoard .standby).twin with ready := true, handover := some 77, handoverAgreed := true }, power := { board.power with floor := true } }, 77, by decide⟩

theorem witness_TwinEvents_boundaryNone : ∃ (s : State), s.twin.handover.any (fun b => decide (b ≤ s.tai)) = false
  :=
  ⟨twinBoard .active, by decide⟩

theorem witness_TwinEvents_unpair : ∃ (s : State) (f : TwinRx), s.running iSW = true ∧ (s.port 2).link = .up ∧
  (f.secured = true ∨ s.rbit rTwCtrl 0 = true) ∧ f.body.length ≤ 2000 ∧ f.checkOk = true ∧ s.twin.role ≠ .single ∧
  s.twin.role ≠ .active ∧ s.fabric.imageQueue = [] ∧ s.thyme.exchange = none ∧ s.thyme.unloading = false ∧
  s.mail.inProgress = [] :=
  ⟨twinBoard .standby, twinFrameIn ([]), by decide⟩

theorem witness_TwinEvents_journal : ∃ (s : State), s.twin.role = .active ∧ s.twin.journalAt + nsMs ≤ s.now :=
  ⟨{ twinBoard .active with twin := { (twinBoard .active).twin with journal := [5] } }, by decide⟩

theorem witness_TwinEvents_journalNot : ∃ (s : State), (s.twin.role ≠ .active ∨ s.now < s.twin.journalAt + nsMs) :=
  ⟨board, by decide⟩

theorem witness_TwinEvents_fragment : ∃ (s : State) (f : TwinRx) (q : Nat), s.running iSW = true ∧ (s.port 2).link =
  .up ∧ (f.secured = true ∨ s.rbit rTwCtrl 0 = true) ∧ f.body.length ≤ 2000 ∧ f.checkOk = true ∧ s.twin.role =
  .standby ∧ s.twin.stateRx = some q ∧ f.seq = (q + 1) % 65536 ∧ f.frag = s.twin.fragNext ∧ f.last = false :=
  ⟨{ twinBoard .standby with twin := { (twinBoard .standby).twin with stateRx := some 5 } }, { twinFrameIn (leBytes 4 7) with last := false }, 5, by decide⟩

theorem witness_TwinEvents_journalApplied : ∃ (s : State) (f : TwinRx) (q o v tm w : Nat), s.running iSW = true ∧
  (s.port 2).link = .up ∧ (f.secured = true ∨ s.rbit rTwCtrl 0 = true) ∧ f.body.length ≤ 2000 ∧ f.checkOk = true ∧
  s.twin.role = .standby ∧ s.twin.stateRx = some q ∧ f.seq = (q + 1) % 65536 ∧ f.frag = s.twin.fragNext ∧ f.last =
  true ∧ s.twin.stateFrag = [] ∧ f.body = shipRecord 0x31 0 [shipItem o 0 0 0 v, shipItem (o + 2 ^ 31) (w % 2 ^ 16)
  (w / 2 ^ 16 % 256) (w / 2 ^ 24) tm] ∧ Sound s o ∧ firstAssignable ≤ o ∧ v < 2 ^ 64 ∧ tm < 2 ^ 64 ∧ w < 2 ^ 32 ∧
  forceIndex s o = none ∧ forceOf s o = none ∧ (s.point o).time ≠ tm ∧ s.running iPF = true ∧ s.thyme.tasks = [] ∧
  s.fabric.imageQueue = [] ∧ s.thyme.exchange = none ∧ s.thyme.unloading = false ∧ s.mail.inProgress = [] :=
  ⟨{ pointBoard with twin := { (twinBoard .standby).twin with stateRx := some 5 }, switch := (twinBoard .standby).switch }, twinFrameIn (shipRecord 0x31 0 [shipItem 0x0100000 0 0 0 44, shipItem (0x0100000 + 2 ^ 31) 0x0000 0 0x60 99]), 5, 0x0100000, 44, 99, 0x60000000, by decide⟩

theorem witness_TwinEvents_gap : ∃ (s : State) (f : TwinRx) (q : Nat), s.running iSW = true ∧ (s.port 2).link = .up
  ∧ (f.secured = true ∨ s.rbit rTwCtrl 0 = true) ∧ f.body.length ≤ 2000 ∧ f.checkOk = true ∧ s.twin.role = .standby
  ∧ s.twin.stateRx = some q ∧ f.seq ≠ (q + 1) % 65536 ∧ f.frag ≠ 0 ∧ s.twin.notReady ≠ 7 ∧ s.twin.discardDue = false
  :=
  ⟨{ twinBoard .standby with twin := { (twinBoard .standby).twin with stateRx := some 9 } }, { twinFrameIn (leBytes 4 7) with frag := 2 }, 9, by decide⟩

theorem witness_TwinEvents_agrees : ∃ (s : State) (f : TwinRx), s.running iSW = true ∧ (s.port 2).link = .up ∧
  (f.secured = true ∨ s.rbit rTwCtrl 0 = true) ∧ f.body.length ≤ 2000 ∧ f.checkOk = true ∧ s.twin.role = .active ∧
  f.body.length = 12 ∧ ((fld f.body 0 1 = 1 ∧ fld f.body 1 1 < 16) ∨ (fld f.body 0 1 = 2 ∧ fld f.body 1 1 < 4)) ∧
  fld f.body 2 1 = 0 ∧ tabWf s.twin.consec = true :=
  ⟨twinBoard .active, twinFrameIn ([2, 3, 0, 0] ++ leBytes 8 5), by decide⟩

theorem witness_TwinEvents_mismatch : ∃ (s : State) (f : TwinRx), s.running iSW = true ∧ (s.port 2).link = .up ∧
  (f.secured = true ∨ s.rbit rTwCtrl 0 = true) ∧ f.body.length ≤ 2000 ∧ f.checkOk = true ∧ s.twin.role = .active ∧
  f.body.length = 12 ∧ ((fld f.body 0 1 = 1 ∧ fld f.body 1 1 < 16) ∨ (fld f.body 0 1 = 2 ∧ fld f.body 1 1 < 4)) ∧
  fld f.body 2 1 = 1 :=
  ⟨twinBoard .active, twinFrameIn ([1, 15, 1, 0] ++ leBytes 8 5), by decide⟩

theorem witness_TwinEvents_resync : ∃ (s : State) (f : TwinRx), s.running iSW = true ∧ (s.port 2).link = .up ∧
  (f.secured = true ∨ s.rbit rTwCtrl 0 = true) ∧ f.body.length ≤ 2000 ∧ f.checkOk = true ∧ s.twin.role = .active ∧
  f.body.length = 4 :=
  ⟨twinBoard .active, twinFrameIn (leBytes 4 2), by decide⟩

theorem witness_TwinEvents_transferSent : ∃ (s : State), s.twin.transfer = true ∧ s.twin.role = .active ∧
  s.twin.ship = [] :=
  ⟨{ twinBoard .active with twin := { (twinBoard .active).twin with transfer := true } }, by decide⟩

theorem witness_TwinEvents_transferDone : ∃ (s : State), s.twin.transfer = true ∧ s.twin.role = .standby ∧ (∀ k ∈
  runningUnits s, k ∈ s.twin.agreed) ∧ (∀ i ∈ [iTHY, iLOOP, iMTR, iPF, iSW, iFLD, iBUS], s.running i = true) ∧ bitOf
  s.twin.links 0 = true :=
  ⟨{ twinBoard .standby with twin := { (twinBoard .standby).twin with transfer := true, links := 1 } }, by decide⟩

theorem witness_TwinEvents_transferNot : ∃ (s : State), (s.twin.transfer = false ∨ (s.twin.role = .active ∧
  s.twin.ship ≠ []) ∨ (s.twin.role = .standby ∧ bitOf s.twin.links 0 = false)) :=
  ⟨board, by decide⟩

theorem witness_TwinEvents_healthSend : ∃ (s : State), s.twin.role = .standby ∧ s.twin.healthAt ≤ s.now :=
  ⟨twinBoard .standby, by decide⟩

theorem witness_TwinEvents_healthNot : ∃ (s : State), (s.twin.role ≠ .standby ∨ s.now < s.twin.healthAt) :=
  ⟨board, by decide⟩

theorem witness_TwinEvents_health : ∃ (s : State) (f : TwinRx), s.running iSW = true ∧ (s.port 2).link = .up ∧
  (f.secured = true ∨ s.rbit rTwCtrl 0 = true) ∧ f.body.length ≤ 2000 ∧ f.checkOk = true ∧ s.twin.role ≠ .single ∧
  f.body.length = 256 :=
  ⟨twinBoard .active, twinFrameIn (leBytes 256 3), by decide⟩

theorem witness_TwinEvents_tested : ∃ (s : State), s.twin.role = .standby ∧ s.twin.testAt ≤ s.now ∧ s.twin.testDue =
  [] ∧ tabWf s.twin.health.islandTest = true ∧ (∀ i ∈ [iTHY, iLOOP, iMTR, iPF], s.running i = true) :=
  ⟨twinBoard .standby, by decide⟩

theorem witness_TwinEvents_testFails : ∃ (s : State), s.twin.role = .standby ∧ s.twin.testAt ≤ s.now ∧
  s.twin.testDue = [] ∧ (∀ i ∈ [iTHY, iLOOP, iMTR, iPF], s.running i = true) ∧ (s.isl iTHY).state = .run ∧
  s.fabric.imageQueue = [] ∧ s.thyme.exchange = none ∧ s.thyme.unloading = false ∧ s.mail.inProgress = [] :=
  ⟨twinBoard .standby, by decide⟩

theorem witness_TwinEvents_unexplained : ∃ (s : State) (k r : Nat), s.twin.role = .active ∧ s.twin.testDue = [(1, k,
  r)] ∧ k < 16 ∧ tabWf s.twin.consec = true :=
  ⟨{ twinBoard .active with twin := { (twinBoard .active).twin with testDue := [(1, 3, 88)] } }, 3, 88, by decide⟩

theorem witness_TwinEvents_testNotDue : ∃ (s : State) (p : List Bool), (p.length ≠ 4 ∨ (s.twin.testDue = [] ∧
  (s.twin.role ≠ .standby ∨ s.now < s.twin.testAt))) :=
  ⟨board, [true, true, true, true], by decide⟩

theorem witness_TwinEvents_linkDown : ∃ (s : State), s.twin.role = .standby ∧ (s.port 2).link ≠ .up ∧ (s.port
  2).since + 15 * nsMs < s.now ∧ bitOf s.twin.links 0 = true ∧ s.twin.notReady ≠ 7 :=
  ⟨{ twinBoard .standby with twin := { (twinBoard .standby).twin with links := 1, ready := true }, switch := board.switch }, by decide⟩

theorem witness_TwinEvents_linkDownOther : ∃ (s : State), (s.twin.role = .active ∨ s.twin.role = .holding ∨
  s.twin.role = .pairing) ∧ (s.port 2).link ≠ .up ∧ (s.port 2).since + 15 * nsMs < s.now ∧ bitOf s.twin.links 0 =
  true :=
  ⟨{ twinBoard .active with twin := { (twinBoard .active).twin with links := 1 }, switch := board.switch }, by decide⟩

theorem witness_TwinEvents_linkStays : ∃ (s : State), (s.twin.role = .single ∨ (s.port 2).link = .up ∨ bitOf
  s.twin.links 0 = false ∨ s.now ≤ (s.port 2).since + 15 * nsMs) :=
  ⟨board, by decide⟩

theorem witness_TwinEvents_relayDown : ∃ (s : State) (f : TwinRx) (p : Nat) (b : List Byte), s.running iSW = true ∧
  (s.port 2).link = .up ∧ (f.secured = true ∨ s.rbit rTwCtrl 0 = true) ∧ f.body.length ≤ 2000 ∧ f.checkOk = true ∧
  s.twin.role = .standby ∧ f.body = leBytes 1 p ++ leBytes 1 0 ++ leBytes 2 b.length ++ b ∧ 4 ≤ p ∧ p < 20 ∧ (s.port
  p).link = .up ∧ hasRoom s p (s.port p).cfg.jioshClass b.length = true :=
  ⟨{ twinBoard .standby with switch := { board.switch with ports := [(2, { Port.factory 2 with link := .up }), (4, { Port.factory 4 with link := .up })] } }, twinFrameIn (leBytes 1 4 ++ leBytes 1 0 ++ leBytes 2 (leBytes 60 3).length ++ leBytes 60 3), 4, (leBytes 60 3), by decide⟩

theorem witness_TwinEvents_relayUp : ∃ (s : State) (f : TwinRx) (p : Nat) (b : List Byte), s.running iSW = true ∧
  (s.port 2).link = .up ∧ (f.secured = true ∨ s.rbit rTwCtrl 0 = true) ∧ f.body.length ≤ 2000 ∧ f.checkOk = true ∧
  s.twin.role = .active ∧ f.body = leBytes 1 p ++ leBytes 1 0 ++ leBytes 2 b.length ++ b ∧ 4 ≤ p ∧ p < 20 ∧
  innerType b = s.rfield rPfJiosh 0 16 :=
  ⟨twinBoard .active, twinFrameIn (leBytes 1 4 ++ leBytes 1 0 ++ leBytes 2 (ethFrame 3 5 0x88B5 (leBytes 60 3)).length ++ ethFrame 3 5 0x88B5 (leBytes 60 3)), 4, (ethFrame 3 5 0x88B5 (leBytes 60 3)), by decide⟩

theorem witness_TwinEvents_offerSend : ∃ (s : State) (m : List Byte), s.twin.served = [m] ∧ m.length = 12 ∧
  s.twin.offersAt ≤ s.now :=
  ⟨{ twinBoard .active with twin := { (twinBoard .active).twin with served := [leBytes 12 2] } }, (leBytes 12 2), by decide⟩

theorem witness_TwinEvents_offerNot : ∃ (s : State), (s.twin.served = [] ∨ s.now < s.twin.offersAt) :=
  ⟨board, by decide⟩

theorem witness_TwinEvents_offer : ∃ (s : State) (f : TwinRx), s.running iSW = true ∧ ((s.port 0).link = .up ∨
  (s.port 1).link = .up) ∧ (f.secured = true ∨ s.rbit rTwCtrl 1 = true) ∧ f.body.length ≤ 2000 ∧ f.checkOk = true ∧
  f.body.length = 24 ∧ s.twin.witnesses = [] ∧ f.body.drop 12 = serialBytes :=
  ⟨twinBoard .holding, twinFrameIn (leBytes 12 1 ++ serialBytes), by (repeat' apply And.intro) <;> first | rfl | decide⟩

theorem witness_TwinEvents_offerOther : ∃ (s : State) (f : TwinRx), s.running iSW = true ∧ ((s.port 0).link = .up ∨
  (s.port 1).link = .up) ∧ (f.secured = true ∨ s.rbit rTwCtrl 1 = true) ∧ f.body.length ≤ 2000 ∧ f.checkOk = true ∧
  f.body.length ≠ 24 :=
  ⟨twinBoard .active, twinFrameIn (leBytes 12 1), by decide⟩

theorem witness_TwinEvents_unreachable : ∃ (s : State) (k : Nat), k < 2 ∧ bitOf s.twin.links (3 + k) = true ∧
  s.twin.witnesses[k]?.any (fun w => decide (s.now < w.heard + 3 * nsSec)) = false :=
  ⟨{ twinBoard .active with twin := { (twinBoard .active).twin with links := 24 } }, 1, by decide⟩

theorem witness_TwinEvents_reachable : ∃ (s : State) (k : Nat), (2 ≤ k ∨ s.twin.witnesses[k]?.any (fun w => decide
  (s.now < w.heard + 3 * nsSec)) = true) :=
  ⟨{ twinBoard .active with twin := { (twinBoard .active).twin with witnesses := [{ serial := leBytes 12 1, addr := 9, heard := 7000000000 }] } }, 0, by decide⟩

theorem witness_TwinEvents_querySend : ∃ (s : State) (w : Witness), s.twin.role = .holding ∧ s.twin.queryAt ≤ s.now
  ∧ s.twin.witnesses = [w] ∧ s.twin.partnerSerial.length = 12 :=
  ⟨{ twinBoard .holding with twin := { (twinBoard .holding).twin with witnesses := [{ serial := leBytes 12 1, addr := 9, heard := 7000000000 }] } }, { serial := leBytes 12 1, addr := 9, heard := 7000000000 }, by decide⟩

theorem witness_TwinEvents_queryDetached : ∃ (s : State), s.twin.role = .standby ∧ s.twin.notReady = 6 ∧
  s.twin.links % 4 = 0 ∧ s.twin.queryAt ≤ s.now :=
  ⟨{ twinBoard .standby with twin := { (twinBoard .standby).twin with notReady := 6 } }, by decide⟩

theorem witness_TwinEvents_queryNot : ∃ (s : State), (s.twin.role = .single ∨ s.twin.role = .active ∨ s.now <
  s.twin.queryAt) :=
  ⟨board, by decide⟩

theorem witness_TwinEvents_query : ∃ (s : State) (f : TwinRx) (a : Nat), s.running iSW = true ∧ ((s.port 0).link =
  .up ∨ (s.port 1).link = .up) ∧ (f.secured = true ∨ s.rbit rTwCtrl 1 = true) ∧ f.body.length ≤ 2000 ∧ f.checkOk =
  true ∧ f.body.length = 28 ∧ sub f.body 4 12 ∈ s.twin.served ∧ sub f.body 16 12 ∈ s.twin.served ∧ s.twin.probes =
  [] ∧ s.twin.servedAt = [{ serial := sub f.body 16 12, addr := a }] ∧ a ≠ f.sender ∧ sub f.body 4 12 ≠ sub f.body
  16 12 :=
  ⟨{ twinBoard .active with twin := { (twinBoard .active).twin with served := [leBytes 12 1, leBytes 12 2], servedAt := [{ serial := leBytes 12 2, addr := 8 }] } }, twinFrameIn (leBytes 4 6 ++ leBytes 12 1 ++ leBytes 12 2), 8, by decide⟩

theorem witness_TwinEvents_queryOther : ∃ (s : State) (f : TwinRx), s.running iSW = true ∧ ((s.port 0).link = .up ∨
  (s.port 1).link = .up) ∧ (f.secured = true ∨ s.rbit rTwCtrl 1 = true) ∧ f.body.length ≤ 2000 ∧ f.checkOk = true ∧
  (f.body.length ≠ 28 ∨ sub f.body 4 12 ∉ s.twin.served ∨ sub f.body 16 12 ∉ s.twin.served) :=
  ⟨twinBoard .active, twinFrameIn (leBytes 28 1), by decide⟩

theorem witness_TwinEvents_probe : ∃ (s : State) (f : TwinRx), s.running iSW = true ∧ ((s.port 0).link = .up ∨
  (s.port 1).link = .up) ∧ (f.secured = true ∨ s.rbit rTwCtrl 1 = true) ∧ f.body.length ≤ 2000 ∧ f.checkOk = true ∧
  f.body.length = 16 :=
  ⟨twinBoard .standby, twinFrameIn (leBytes 16 4), by decide⟩

theorem witness_TwinEvents_probeReply : ∃ (s : State) (f : TwinRx) (p : Probe), s.running iSW = true ∧ ((s.port
  0).link = .up ∨ (s.port 1).link = .up) ∧ (f.secured = true ∨ s.rbit rTwCtrl 1 = true) ∧ f.body.length ≤ 2000 ∧
  f.checkOk = true ∧ f.body.length = 8 ∧ s.twin.probes = [p] ∧ p.number = fld f.body 0 4 ∧ p.number ≠ 0 ∧
  s.twin.servedAt = [{ serial := p.target, addr := f.sender }] ∧ s.now ≤ p.sent + 5 * nsMs :=
  ⟨{ twinBoard .active with twin := { (twinBoard .active).twin with probes := [{ number := 7, addr := 9, asker := leBytes 12 1, query := 4, target := leBytes 12 2, sent := 7999000000 }], servedAt := [{ serial := leBytes 12 2, addr := 9 }] } }, twinFrameIn (leBytes 4 7 ++ [1, 1, 0, 0]), { number := 7, addr := 9, asker := leBytes 12 1, query := 4, target := leBytes 12 2, sent := 7999000000 }, by decide⟩

theorem witness_TwinEvents_offerReply : ∃ (s : State) (f : TwinRx) (m : List Byte), s.running iSW = true ∧ ((s.port
  0).link = .up ∨ (s.port 1).link = .up) ∧ (f.secured = true ∨ s.rbit rTwCtrl 1 = true) ∧ f.body.length ≤ 2000 ∧
  f.checkOk = true ∧ f.body.length = 8 ∧ fld f.body 0 4 = 0 ∧ s.twin.served = [m] ∧ s.twin.servedAt = [] :=
  ⟨{ twinBoard .active with twin := { (twinBoard .active).twin with served := [leBytes 12 2] } }, twinFrameIn (leBytes 8 0), (leBytes 12 2), by decide⟩

theorem witness_TwinEvents_probeTimeout : ∃ (s : State) (n : Nat) (p : Probe), s.twin.probes = [p] ∧ p.number = n ∧
  p.sent + 5 * nsMs ≤ s.now :=
  ⟨{ twinBoard .active with twin := { (twinBoard .active).twin with probes := [{ number := 7, addr := 9, asker := leBytes 12 1, query := 4, target := leBytes 12 2, sent := 5 }] } }, 7, { number := 7, addr := 9, asker := leBytes 12 1, query := 4, target := leBytes 12 2, sent := 5 }, by decide⟩

theorem witness_TwinEvents_probeOpen : ∃ (s : State) (n : Nat), (∀ p ∈ s.twin.probes, p.number ≠ n ∨ s.now < p.sent
  + 5 * nsMs) :=
  ⟨board, 7, by decide⟩

theorem witness_TwinEvents_answerAbsent : ∃ (s : State) (f : TwinRx) (w : Witness), s.running iSW = true ∧ ((s.port
  0).link = .up ∨ (s.port 1).link = .up) ∧ (f.secured = true ∨ s.rbit rTwCtrl 1 = true) ∧ f.body.length ≤ 2000 ∧
  f.checkOk = true ∧ s.twin.role = .holding ∧ s.twin.formerActive = true ∧ f.body.length = 8 ∧ fld f.body 0 4 =
  s.twin.queryNo ∧ s.twin.witnesses = [w] ∧ w.addr = f.sender ∧ s.twin.answers = [] ∧ fld f.body 4 1 = 0 ∧
  s.power.floor = true ∧ s.fabric.imageQueue = [] ∧ s.thyme.exchange = none ∧ s.thyme.unloading = false ∧
  s.mail.inProgress = [] :=
  ⟨{ twinBoard .holding with twin := { (twinBoard .holding).twin with formerActive := true, witnesses := [{ serial := leBytes 12 1, addr := 9, heard := 7000000000 }], queryNo := 7 }, power := { board.power with floor := true } }, twinFrameIn (leBytes 8 7), { serial := leBytes 12 1, addr := 9, heard := 7000000000 }, by decide⟩

theorem witness_TwinEvents_answerActive : ∃ (s : State) (f : TwinRx) (w : Witness), s.running iSW = true ∧ ((s.port
  0).link = .up ∨ (s.port 1).link = .up) ∧ (f.secured = true ∨ s.rbit rTwCtrl 1 = true) ∧ f.body.length ≤ 2000 ∧
  f.checkOk = true ∧ s.twin.role = .holding ∧ f.body.length = 8 ∧ fld f.body 0 4 = s.twin.queryNo ∧ s.twin.witnesses
  = [w] ∧ w.addr = f.sender ∧ s.twin.answers = [] ∧ fld f.body 4 1 = 1 ∧ fld f.body 5 1 = 1 ∧ s.fabric.imageQueue =
  [] ∧ s.thyme.exchange = none ∧ s.thyme.unloading = false ∧ s.mail.inProgress = [] :=
  ⟨{ twinBoard .holding with twin := { (twinBoard .holding).twin with witnesses := [{ serial := leBytes 12 1, addr := 9, heard := 7000000000 }], queryNo := 7 } }, twinFrameIn (leBytes 4 7 ++ [1, 1, 1, 0]), { serial := leBytes 12 1, addr := 9, heard := 7000000000 }, by decide⟩

theorem witness_TwinEvents_answerOther : ∃ (s : State) (f : TwinRx), s.running iSW = true ∧ ((s.port 0).link = .up ∨
  (s.port 1).link = .up) ∧ (f.secured = true ∨ s.rbit rTwCtrl 1 = true) ∧ f.body.length ≤ 2000 ∧ f.checkOk = true ∧
  (f.body.length ≠ 8 ∨ fld f.body 0 4 ≠ s.twin.queryNo ∨ s.twin.role = .single) :=
  ⟨twinBoard .holding, twinFrameIn (leBytes 8 7), by decide⟩

theorem witness_PowerEvents_reset : ∃ (s : State) (d : ResetDue), s.power.reset = some d ∧ d.at_ ≤ s.now ∧ d.sage =
  false :=
  ⟨{ (twinBoard .single) with power := { (twinBoard .single).power with reset := some { cause := 3, at_ := 5, sage := false } } }, { cause := 3, at_ := 5, sage := false }, by decide⟩

theorem witness_PowerEvents_sageReset : ∃ (s : State) (d : ResetDue), s.power.reset = some d ∧ d.at_ ≤ s.now ∧
  d.sage = true ∧ (s.isl iSAGE).state = .run ∧ (s.isl iSAGE).draining = false ∧ s.running iMGT = true :=
  ⟨{ (twinBoard .single) with power := { (twinBoard .single).power with reset := some { cause := 3, at_ := 5, sage := true } } }, { cause := 3, at_ := 5, sage := true }, by decide⟩

theorem witness_PowerEvents_resetNot : ∃ (s : State), s.power.reset.any (fun d => decide (d.at_ ≤ s.now)) = false :=
  ⟨board, by decide⟩

theorem witness_PowerEvents_start : ∃ (s : State) (vin : Nat), s.power.started = false ∧ 21000 ≤ vin ∧ s.rfield
  rPwCtrl 0 9 * 100 + 1000 ≤ vin :=
  ⟨State.reset, 24000, by decide⟩

theorem witness_PowerEvents_startLow : ∃ (s : State) (vin : Nat), (s.power.started = true ∨ vin < 21000 ∨ vin <
  s.rfield rPwCtrl 0 9 * 100 + 1000) :=
  ⟨State.reset, 20000, by decide⟩

theorem witness_PowerEvents_startComplete : ∃ (s : State), s.power.started = true ∧ s.power.startDone = false ∧
  s.rbit rPfStatus 0 = true ∧ s.running iMGT = true ∧ s.twin.role ≠ .pairing :=
  ⟨{ ((twinBoard .single).raise rPfStatus 0) with power := { ((twinBoard .single).raise rPfStatus 0).power with started := true } }, by decide⟩

theorem witness_PowerEvents_startPending : ∃ (s : State), (s.power.started = false ∨ s.power.startDone = true ∨
  s.rbit rPfStatus 0 = false ∨ s.twin.role = .pairing) :=
  ⟨board, by decide⟩

theorem witness_PowerEvents_warn : ∃ (s : State) (vin : Nat), s.power.started = true ∧ s.power.warn = false ∧ vin <
  s.rfield rPwCtrl 0 9 * 100 ∧ s.rbit rPwCtrl 16 = false ∧ s.power.fieldOk = true :=
  ⟨{ (twinBoard .single) with power := { (twinBoard .single).power with started := true, warn := false, fieldOk := true } }, 19000, by decide⟩

theorem witness_PowerEvents_warnNot : ∃ (s : State) (vin : Nat), (s.power.started = false ∨ s.power.warn = true ∨
  s.rfield rPwCtrl 0 9 * 100 ≤ vin) :=
  ⟨board, 19000, by decide⟩

theorem witness_PowerEvents_saved : ∃ (s : State) (us : Nat), s.power.saving = true ∧ s.meter.warnDue = false :=
  ⟨{ (twinBoard .single) with power := { (twinBoard .single).power with saving := true } }, 3000, by decide⟩

theorem witness_PowerEvents_savedNot : ∃ (s : State) (us : Nat), s.power.saving = false :=
  ⟨board, 3000, by decide⟩

theorem witness_PowerEvents_release : ∃ (s : State) (vin vstore : Nat), s.power.started = true ∧ s.power.warn = true
  ∧ s.rfield rPwCtrl 0 9 * 100 + 1000 ≤ vin ∧ 29000 ≤ vstore ∧ s.power.shed = false ∧ s.power.saving = false :=
  ⟨{ (twinBoard .single) with power := { (twinBoard .single).power with started := true, warn := true } }, 24000, 30000, by decide⟩

theorem witness_PowerEvents_restore : ∃ (s : State) (vin vstore : Nat), s.power.started = true ∧ s.power.warn = true
  ∧ s.rfield rPwCtrl 0 9 * 100 + 1000 ≤ vin ∧ 29000 ≤ vstore ∧ s.power.shed = true ∧ s.power.saving = false ∧ (s.isl
  iSAGE).state = .idle ∧ (s.isl iTHY).state = .run ∧ (s.isl iTHY).draining = false ∧ (s.isl iLOOP).state = .run ∧
  (s.isl iLOOP).draining = false ∧ s.running iMGT = true ∧ (∀ m, m < 16 → (s.box m).state ≠ .working) :=
  ⟨{ { (twinBoard .single) with power := { (twinBoard .single).power with started := true, warn := true, shed := true } } with islands := tabSet board.islands iSAGE { state := .idle } }, 24000, 30000, by decide⟩

theorem witness_PowerEvents_releaseNot : ∃ (s : State) (vin vstore : Nat), (s.power.started = false ∨ s.power.warn =
  false ∨ vin < s.rfield rPwCtrl 0 9 * 100 + 1000 ∨ vstore < 29000) :=
  ⟨board, 24000, 30000, by decide⟩

theorem witness_PowerEvents_holdupEnd : ∃ (s : State), s.power.started = true :=
  ⟨{ (twinBoard .single) with power := { (twinBoard .single).power with started := true } }, by decide⟩

theorem witness_PowerEvents_holdupOff : ∃ (s : State), s.power.started = false :=
  ⟨State.reset, by decide⟩

theorem witness_PowerEvents_measure : ∃ (s : State) (c : Nat), s.running iMGT = true ∧ s.power.measuredAt + 86400 *
  nsSec ≤ s.now :=
  ⟨{ board with clock := { board.clock with up := 90000000000000 } }, 80, by decide⟩

theorem witness_PowerEvents_measureNot : ∃ (s : State) (c : Nat), (s.running iMGT = false ∨ s.now <
  s.power.measuredAt + 86400 * nsSec) :=
  ⟨board, 80, by decide⟩

theorem witness_PowerEvents_trip : ∃ (s : State) (n : Nat), n < 16 ∧ 1 ≤ (s.fuse n).state ∧ (s.fuse n).state ≤ 3 ∧
  (s.fuse n).trips = [] ∧ (s.isl iMGT).state = .run ∧ (s.isl iMGT).draining = false ∧ (s.epochOf iFLD iMGT = 0 ∨
  s.epochOf iFLD iMGT = (s.isl iMGT).epoch) :=
  ⟨{ ((((twinBoard .single).raise rPfStatus 0).setReg rPwFuseEn 16).setReg (rPwPCfg 4) 2) with power := { ((((twinBoard .single).raise rPfStatus 0).setReg rPwFuseEn 16).setReg (rPwPCfg 4) 2).power with started := true, fieldOk := true, shed := false, fuses := [(4, { state := 3 })] } }, 4, by decide⟩

theorem witness_PowerEvents_tripLatches : ∃ (s : State) (n a b : Nat), n < 16 ∧ 1 ≤ (s.fuse n).state ∧ (s.fuse
  n).state ≤ 3 ∧ (s.fuse n).trips = [a, b] ∧ s.now < a + 60 * nsSec ∧ s.now < b + 60 * nsSec :=
  ⟨{ ((((twinBoard .single).raise rPfStatus 0).setReg rPwFuseEn 16).setReg (rPwPCfg 4) 2) with power := { ((((twinBoard .single).raise rPfStatus 0).setReg rPwFuseEn 16).setReg (rPwPCfg 4) 2).power with started := true, fieldOk := true, shed := false, fuses := [(4, { state := 3, trips := [6, 5] })] } }, 4, 6, 5, by decide⟩

theorem witness_PowerEvents_tripNot : ∃ (s : State) (n : Nat), (16 ≤ n ∨ (s.fuse n).state = 0 ∨ 3 < (s.fuse
  n).state) :=
  ⟨board, 4, by decide⟩

theorem witness_PowerEvents_retry : ∃ (s : State) (n c : Nat), n < 16 ∧ s.running iFLD = true ∧ s.power.started =
  true ∧ s.power.fieldOk = true ∧ s.power.shed = false ∧ s.rbit rPfStatus 0 = true ∧ s.rbit rPwFuseEn n = true ∧
  (s.fuse n).state = 4 ∧ (s.fuse n).due ≤ s.now :=
  ⟨{ ((((twinBoard .single).raise rPfStatus 0).setReg rPwFuseEn 16).setReg (rPwPCfg 4) 2) with power := { ((((twinBoard .single).raise rPfStatus 0).setReg rPwFuseEn 16).setReg (rPwPCfg 4) 2).power with started := true, fieldOk := true, shed := false, fuses := [(4, { state := 4 })] } }, 4, 12, by decide⟩

theorem witness_PowerEvents_retryFails : ∃ (s : State) (n : Nat), n < 16 ∧ s.running iFLD = true ∧ s.power.started =
  true ∧ s.power.fieldOk = true ∧ s.power.shed = false ∧ s.rbit rPfStatus 0 = true ∧ s.rbit rPwFuseEn n = true ∧
  (s.fuse n).state = 4 ∧ (s.fuse n).due ≤ s.now ∧ (s.fuse n).trips = [] :=
  ⟨{ ((((twinBoard .single).raise rPfStatus 0).setReg rPwFuseEn 16).setReg (rPwPCfg 4) 2) with power := { ((((twinBoard .single).raise rPfStatus 0).setReg rPwFuseEn 16).setReg (rPwPCfg 4) 2).power with started := true, fieldOk := true, shed := false, fuses := [(4, { state := 4 })] } }, 4, by decide⟩

theorem witness_PowerEvents_retryNot : ∃ (s : State) (n : Nat) (x : PowerProbe), (16 ≤ n ∨ s.running iFLD = false ∨
  (s.fuse n).state ≠ 4 ∨ s.now < (s.fuse n).due ∨ s.power.fieldOk = false) :=
  ⟨board, 4, .failed, by decide⟩

theorem witness_PowerEvents_overcurrent : ∃ (s : State) (n : Nat), n < 16 ∧ (s.fuse n).state = 3 ∧ (∀ m, m < 16 → n
  < m → (s.fuse m).state ≠ 3) ∧ (s.fuse n).trips = [] ∧ (s.isl iMGT).state = .run ∧ (s.isl iMGT).draining = false ∧
  (s.epochOf iFLD iMGT = 0 ∨ s.epochOf iFLD iMGT = (s.isl iMGT).epoch) :=
  ⟨{ ((((twinBoard .single).raise rPfStatus 0).setReg rPwFuseEn 16).setReg (rPwPCfg 4) 2) with power := { ((((twinBoard .single).raise rPfStatus 0).setReg rPwFuseEn 16).setReg (rPwPCfg 4) 2).power with started := true, fieldOk := true, shed := false, fuses := [(4, { state := 3 })] } }, 4, by decide⟩

theorem witness_PowerEvents_noPort : ∃ (s : State), (∀ n, n < 16 → (s.fuse n).state ≠ 3) :=
  ⟨board, by decide⟩

theorem witness_PowerEvents_powerUp : ∃ (s : State) (n c : Nat), n < 16 ∧ s.running iFLD = true ∧ s.power.started =
  true ∧ s.power.fieldOk = true ∧ s.power.shed = false ∧ s.rbit rPfStatus 0 = true ∧ s.rbit rPwFuseEn n = true ∧
  (s.fuse n).state = 0 ∧ (s.fuse n).latched = false ∧ s.power.nextPort ≤ s.now ∧ (∀ m, m < n → s.rbit rPwFuseEn m =
  false ∨ (s.fuse m).state ≠ 0 ∨ (s.fuse m).latched = true) :=
  ⟨{ ((((twinBoard .single).raise rPfStatus 0).setReg rPwFuseEn 16).setReg (rPwPCfg 4) 2) with power := { ((((twinBoard .single).raise rPfStatus 0).setReg rPwFuseEn 16).setReg (rPwPCfg 4) 2).power with started := true, fieldOk := true, shed := false, fuses := [(4, { state := 0 })] } }, 4, 11, by decide⟩

theorem witness_PowerEvents_powerUpNot : ∃ (s : State) (n : Nat) (x : PowerProbe), (16 ≤ n ∨ s.running iFLD = false
  ∨ s.power.fieldOk = false ∨ s.rbit rPwFuseEn n = false ∨ (s.fuse n).state ≠ 0 ∨ (s.fuse n).latched = true ∨ s.now
  < s.power.nextPort) :=
  ⟨board, 4, .failed, by decide⟩

theorem witness_PowerEvents_fieldLost : ∃ (s : State), s.power.fieldOk = true :=
  ⟨{ ((((twinBoard .single).raise rPfStatus 0).setReg rPwFuseEn 16).setReg (rPwPCfg 4) 2) with power := { ((((twinBoard .single).raise rPfStatus 0).setReg rPwFuseEn 16).setReg (rPwPCfg 4) 2).power with started := true, fieldOk := true, shed := false, fuses := [(4, { state := 3 })] } }, by decide⟩

theorem witness_PowerEvents_fieldGone : ∃ (s : State), s.power.fieldOk = false :=
  ⟨board, by decide⟩

theorem witness_PowerEvents_sample : ∃ (s : State) (x : SensorReading), s.running iMGT = true ∧ x.railFaults = [] ∧
  s.rbit rPfStatus 0 = false :=
  ⟨board, { dies := [400, 400, 400, 400], board := 300, rails := List.replicate 12 3300, railFaults := [], vinMv := 24000, vinMa := 500, fieldMv := 24000, fieldMa := 100, vstoreMv := 30000, portMa := [] }, by decide⟩

theorem witness_PowerEvents_samplePoint : ∃ (s : State) (x : SensorReading), s.running iMGT = true ∧ x.railFaults =
  [] ∧ 0 < s.tai ∧ s.tai < 2 ^ 64 ∧ s.rbit rPfStatus 0 = true ∧ (s.isl iPF).state = .run ∧ (s.isl iPF).draining =
  false ∧ (s.epochOf iMGT iPF = 0 ∨ s.epochOf iMGT iPF = (s.isl iPF).epoch) ∧ (∀ k ∈ [0, 1, 2, 3, 4, 16, 17, 18, 19,
  20, 21, 22, 23, 24, 25, 26, 27, 32, 33, 34, 35, 36], Sound s (0x100 + k) ∧ (s.point (0x100 + k)).type = 5 ∧
  (s.point (0x100 + k)).owner = house ∧ (s.point (0x100 + k)).flag fLocked = false ∧ forceIndex s (0x100 + k) = none
  ∧ forceOf s (0x100 + k) = none) :=
  ⟨sensorBoard, { dies := [400, 400, 400, 400], board := 300, rails := List.replicate 12 3300, railFaults := [], vinMv := 24000, vinMa := 500, fieldMv := 24000, fieldMa := 100, vstoreMv := 30000, portMa := [] }, by decide⟩

theorem witness_PowerEvents_railFault : ∃ (s : State) (x : SensorReading) (r i : Nat), s.running iMGT = true ∧
  x.railFaults = [r] ∧ 2 ≤ r ∧ r < 12 ∧ s.rbit (rMgRail r) 16 = false ∧ s.rbit rPfStatus 0 = false ∧ s.twin.role =
  .single ∧ i < 12 ∧ i ≠ iMGT ∧ islandRail i = r ∧ (s.isl i).state = .run ∧ s.mail.inProgress = [] :=
  ⟨board, { dies := [400, 400, 400, 400], board := 300, rails := List.replicate 12 3300, railFaults := [islandRail 4], vinMv := 24000, vinMa := 500, fieldMv := 24000, fieldMa := 100, vstoreMv := 30000, portMa := [] }, (islandRail 4), 4, by decide⟩

theorem witness_PowerEvents_noChervil : ∃ (s : State) (x : SensorReading), s.running iMGT = false :=
  ⟨State.reset, { dies := [400, 400, 400, 400], board := 300, rails := List.replicate 12 3300, railFaults := [], vinMv := 24000, vinMa := 500, fieldMv := 24000, fieldMa := 100, vstoreMv := 30000, portMa := [] }, by decide⟩

theorem witness_PowerEvents_thermal : ∃ (s : State), s.running iMGT = true ∧ s.power.hot = false :=
  ⟨board, by decide⟩

theorem witness_PowerEvents_thermalNot : ∃ (s : State), (s.running iMGT = false ∨ s.power.hot = true) :=
  ⟨State.reset, by decide⟩

theorem witness_SecurityEvents_levelOne : ∃ (s : State) (k : Nat), k < 6 ∧ s.almanac.onVbat = false ∧ s.rbit rVgNow
  k = false ∧ s.rfield rVgCfg (2 * k) 2 = 1 :=
  ⟨board.setReg rVgCfg 0x555, 3, by decide⟩

theorem witness_SecurityEvents_levelThree : ∃ (s : State) (k : Nat), k < 6 ∧ s.almanac.onVbat = false ∧ s.rbit
  rVgNow k = false ∧ s.rfield rVgCfg (2 * k) 2 = 3 ∧ s.twin.role = .single ∧ s.mail.sessions = [] ∧ s.mail.boxes.all
  (fun p => p.1 == 0) = true :=
  ⟨{ keyBoard.setReg rVgCfg 0xFFF with pending := [] }, 3, by decide⟩

theorem witness_SecurityEvents_clear : ∃ (s : State) (by_ : Agent) (v : Word) (k : Nat), Reaches s by_ rVgLatch
  v.toNat true ∧ k < 6 ∧ s.rfield rVgLatch 0 6 = 2 ^ k ∧ v.toNat = 2 ^ k ∧ s.rbit rVgNow k = false :=
  ⟨board.setReg rVgLatch 0x108, .steward, 8, 3, by decide⟩

theorem witness_SecurityEvents_latchesAgain : ∃ (s : State) (by_ : Agent) (v : Word) (k : Nat), Reaches s by_
  rVgLatch v.toNat true ∧ k < 6 ∧ s.rbit rVgLatch k = true ∧ v.toNat = 2 ^ k ∧ s.rbit rVgNow k = true ∧ s.rfield
  rVgCfg (2 * k) 2 = 1 ∧ s.almanac.onVbat = false :=
  ⟨((board.setReg rVgLatch 0x108).setReg rVgNow 8).setReg rVgCfg 0x555, .steward, 8, 3, by decide⟩

theorem witness_SecurityEvents_levels : ∃ (s : State) (by_ : Agent) (v : Word), Reaches s by_ rVgCfg v.toNat true ∧
  s.rbit rVgCfg 31 = false :=
  ⟨board, .steward, 0x80000003, by decide⟩

theorem witness_SecurityEvents_locked : ∃ (s : State) (by_ : Agent) (v : Word), Reaches s by_ rVgCfg v.toNat true ∧
  s.rbit rVgCfg 31 = true :=
  ⟨board.setReg rVgCfg 0x800006B0, .steward, 3, by decide⟩

theorem witness_SecurityEvents_reseed : ∃ (s : State), s.running iVLT = true ∧ s.vault.reseedDue = true ∧
  s.mail.sessions = [] ∧ s.mail.boxes.all (fun p => p.1 == 0) = true :=
  ⟨{ keyBoard with vault := { keyBoard.vault with reseedDue := true } }, by decide⟩

theorem witness_SecurityEvents_reseedNot : ∃ (s : State), (s.running iVLT = false ∨ s.vault.reseedDue = false) :=
  ⟨board, by decide⟩

theorem witness_SecurityEvents_confirmTimeout : ∃ (s : State) (m : Nat), s.update.trialing = true ∧ s.update.resetAt
  = none ∧ s.rfield rUpCtrl 0 8 = m ∧ m ≠ 0 ∧ m * 60 * nsSec ≤ s.update.trialBefore + (s.now - s.update.trialFrom)
  :=
  ⟨({ (twinBoard .single) with update := { (twinBoard .single).update with active := true, slotA := { state := 2, ran := true }, slotB := { state := 4 }, trialBefore := 900000000000 } } : State).setReg rUpCtrl 5, 5, by decide⟩

theorem witness_SecurityEvents_confirmNot : ∃ (s : State), (s.update.trialing = false ∨ s.update.resetAt.isSome =
  true ∨ s.rfield rUpCtrl 0 8 = 0) :=
  ⟨board, by decide⟩

theorem witness_SecurityEvents_trialCounted : ∃ (s : State), s.update.trialing = true ∧ s.update.counted = false ∧
  s.power.started = true ∧ s.update.trials < 3 ∧ (activeSlot s).header = [] :=
  ⟨{ { (twinBoard .single) with update := { (twinBoard .single).update with active := true, slotA := { state := 2, ran := true }, slotB := { state := 4 }, trials := 1 } } with power := { board.power with started := true } }, by decide⟩

theorem witness_SecurityEvents_trialFallsBack : ∃ (s : State), s.update.trialing = true ∧ s.update.counted = false ∧
  s.power.started = true ∧ 3 ≤ s.update.trials :=
  ⟨{ { (twinBoard .single) with update := { (twinBoard .single).update with active := true, slotA := { state := 2, ran := true }, slotB := { state := 4 }, trials := 3 } } with power := { board.power with started := true } }, by decide⟩

theorem witness_SecurityEvents_trialNot : ∃ (s : State), (s.update.trialing = false ∨ s.update.counted = true ∨
  s.power.started = false) :=
  ⟨board, by decide⟩

theorem witness_SecurityEvents_abandon : ∃ (s : State) (by_ : Agent) (v : Word), Reaches s by_ rUpCtrl v.toNat true
  ∧ bitOf v.toNat 8 = true ∧ s.update.stage = 1 ∧ (spareSlot s).state = 1 ∧ transferOf s 0x0D02 = none :=
  ⟨receiveBoard, .steward, 0x105, by decide⟩

theorem witness_SecurityEvents_upCtrl : ∃ (s : State) (by_ : Agent) (v : Word), Reaches s by_ rUpCtrl v.toNat true ∧
  bitOf v.toNat 8 = false :=
  ⟨receiveBoard, .steward, 5, by decide⟩

theorem witness_SecurityEvents_finalChecked : ∃ (s : State), s.update.stage = 2 ∧ s.running iMGT = true :=
  ⟨{ receiveBoard with update := { receiveBoard.update with stage := 2 } }, by decide⟩

theorem witness_SecurityEvents_finalNot : ∃ (s : State), (s.update.stage ≠ 2 ∨ s.running iMGT = false) :=
  ⟨board, by decide⟩

theorem witness_SecurityEvents_reset : ∃ (s : State) (r : Nat), s.update.resetAt = some r ∧ r ≤ s.now :=
  ⟨{ (twinBoard .single) with update := { (twinBoard .single).update with resetAt := some 5 } }, 5, by decide⟩

theorem witness_SecurityEvents_resetNot : ∃ (s : State), s.update.resetAt.any (fun r => decide (r ≤ s.now)) = false
  :=
  ⟨board, by decide⟩

/-! ## Well-formedness: an ill-formed term for each check -/

theorem test_wf_route : Instr.wf (.pointRead (.mailbox 16) 0) = false ∧ Instr.wf (.pointRead (.session 64) 0) = false ∧
    Instr.wf (.pointRead (.mailbox 15) (2 ^ 32)) = false ∧ Instr.wf (.pointRead (.session 63) (2 ^ 32 - 1)) = true ∧
    Instr.wf (.attestPartsExpire (.mailbox 16)) = false := by decide

theorem test_wf_spi : Instr.wf (.spiRead (2 ^ 24) 1) = false ∧ Instr.wf (.spiWrite (2 ^ 24) []) = false ∧
    Instr.wf (.spiStatus (2 ^ 16)) = false ∧ Instr.wf (.transferTimeout (2 ^ 16)) = false ∧
    Instr.wf (.spiRead (2 ^ 24 - 1) 1) = true := by decide

theorem test_wf_session : Instr.wf (.sessionIdleTimeout 64) = false ∧ Instr.wf (.sessionTcpClose 64) = false ∧
    Instr.wf (.sessionIdleTimeout 63) = true := by decide

theorem test_wf_bacnet : BacnetService.wf (.other 256) = false ∧ BacnetService.wf (.other 255) = true := by decide

theorem test_wf_crossing :
    XRequest.wf { src := 12, dst := 4, slot := 0, gen := 0, reqEpoch := 1, targetEpoch := 0, path := .ordinary, source := 0, op := .readReg 0 } = false ∧
    XRequest.wf { src := 9, dst := 12, slot := 0, gen := 0, reqEpoch := 1, targetEpoch := 0, path := .ordinary, source := 0, op := .readReg 0 } = false ∧
    XRequest.wf { src := 9, dst := 4, slot := 0, gen := 0, reqEpoch := 1, targetEpoch := 0, path := .ordinary, source := 3, op := .readReg 0 } = false ∧
    XRequest.wf { src := 9, dst := 4, slot := 0, gen := 0, reqEpoch := 1, targetEpoch := 0, path := .ordinary, source := 0, op := .writeReg (2 ^ 32) 0 } = false ∧
    XRequest.wf { src := 9, dst := 4, slot := 0, gen := 0, reqEpoch := 1, targetEpoch := 0, path := .ordinary, source := 0, op := .readReg 4 } = true := by decide

theorem test_wf_island : Instr.wf (.epochNotice 12 0 0) = false ∧ Instr.wf (.epochNotice 0 12 0) = false ∧
    Instr.wf (.epochNotice 0 0 (2 ^ 32)) = false ∧ Instr.wf (.slotFreedSend 0 12) = false ∧
    Instr.wf (.slotReuseTimeout 0 0 256) = false ∧ Instr.wf (.drainEnd 12) = false ∧
    Instr.wf (.islandFaultEntry 0 16 0) = false ∧ Instr.wf (.islandFaultEntry 0 0 256) = false ∧
    Instr.wf (.clkRange 12 0) = false ∧ Instr.wf (.drainEnd 11) = true := by decide

theorem test_wf_register : Instr.wf (.rcRead .steward ⟨2 ^ 32, 4⟩) = false ∧
    Instr.wf (.registerWrite .steward ⟨2 ^ 32, 4⟩ 0) = false ∧ Instr.wf (.alAlarmWrite .steward (2 ^ 32) 0) = false ∧
    Instr.wf (.rcRead .steward ⟨2 ^ 32 - 1, 4⟩) = true := by decide

theorem test_wf_field : Instr.wf (.jioshReport 3 []) = false ∧ Instr.wf (.jioshReport 20 []) = false ∧
    Instr.wf (.jioshPeer 2 0 true []) = false ∧ Instr.wf (.jioshPeer 0 (2 ^ 48) true []) = false ∧
    Instr.wf (.deviceStale 4 (2 ^ 64)) = false ∧ Instr.wf (.jioshReport 4 []) = true := by decide

theorem test_wf_fabric :
    Requester.wf { tenant := 2 ^ 12, writer := 0, island := 0 } = false ∧
    Requester.wf { tenant := 0, writer := 2 ^ 32, island := 0 } = false ∧
    Requester.wf { tenant := 0, writer := 0, island := 12 } = false ∧
    Instr.wf (.fabricRead { tenant := 0, writer := 0, island := 5 } (2 ^ 25)) = false ∧
    Instr.wf (.fabricWrite { tenant := 0, writer := 0, island := 5 } 0 16 0 0 0) = false ∧
    Instr.wf (.fabricWrite { tenant := 0, writer := 0, island := 5 } 0 0 8 0 0) = false ∧
    Instr.wf (.fabricWrite { tenant := 0, writer := 0, island := 5 } 0 0 0 0 (2 ^ 64)) = false ∧
    Instr.wf (.fabricRead { tenant := 0, writer := 0, island := 5 } (2 ^ 25 - 1)) = true := by decide

theorem test_wf_cycles : Instr.wf (.taskRelease 16) = false ∧ Instr.wf (.gatherComplete 0 (2 ^ 16)) = false ∧
    Instr.wf (.loopSample 4) = false ∧ Instr.wf (.loopSecondBitWrite 1024) = false ∧
    Instr.wf (.spillPulseStart 8) = false ∧ Instr.wf (.pulseAccepted 8 true) = false ∧
    Instr.wf (.taskRelease 15) = true := by decide

theorem test_wf_harvest : Instr.wf (.hvWdataRead .steward 2) = false ∧ Instr.wf (.hvWselWrite .steward 2 0) = false := by decide

theorem test_wf_switch : Instr.wf (.frameTransmit 20) = false ∧ Instr.wf (.addressAgeOut (2 ^ 48)) = false ∧
    RxFrame.wf { bytes := [0], codeErr := false, fcsOk := true, macsec := .plain } = false ∧
    Instr.wf (.frameTransmit 19) = true := by decide

theorem test_wf_time : Instr.wf (.compareFire 2) = false ∧ Instr.wf (.alBkpWrite .steward 16 0) = false ∧
    Instr.wf (.compareFire 1) = true := by decide

theorem test_wf_bus :
    BusFrame.wf { ide := false, fd := false, xl := false, rtr := false, id := 2 ^ 11, dlc := 0, data := [], xlHdr := 0, xlAf := 0, sof := 0 } = false ∧
    BusFrame.wf { ide := true, fd := false, xl := false, rtr := false, id := 2 ^ 29 - 1, dlc := 9, data := leBytes 9 0, xlHdr := 0, xlAf := 0, sof := 0 } = false ∧
    BusTxEnd.wf (.sent (2 ^ 64)) = false ∧ BusTxEnd.wf (.error 8) = false ∧
    BusTxEnd.wf (.error 7) = true := by decide

theorem test_wf_twin : TwinRx.wf { twinFrameIn [] with seq := 2 ^ 16 } = false ∧
    TwinRx.wf { twinFrameIn [] with frag := 256 } = false ∧ TwinRx.wf { twinFrameIn [] with time := 2 ^ 64 } = false ∧
    TwinRx.wf { twinFrameIn [] with sender := 2 ^ 48 } = false ∧ TwinRx.wf (twinFrameIn (leBytes 2001 0)) = false ∧
    TwinRx.wf (twinFrameIn (leBytes 2000 0)) = true := by decide

theorem test_wf_power : SensorReading.wf { dies := [], board := 0, rails := [], railFaults := [12], vinMv := 0, vinMa := 0, fieldMv := 0, fieldMa := 0, vstoreMv := 0, portMa := [] } = false ∧
    PowerProbe.wf (.pdClass 16) = false ∧ PowerProbe.wf .failed = true := by decide

theorem test_wf_late : (Instr.selfDiagnosis 0 0).wf = false ∧ (Instr.selfDiagnosis 8 0).wf = false ∧
    (Instr.knownAnswerTest [true]).wf = false ∧ (Instr.fuseTrip 16).wf = false ∧ (Instr.vigilSource [6]).wf = false ∧
    (Instr.icSrcWrite .steward 256 0).wf = false ∧ (Instr.moderationEnd 3).wf = false ∧
    (Instr.chkStart .core1 16 0).wf = false ∧ (Instr.busReceiveError 8 0 true).wf = false ∧
    (Instr.witnessUnreachable 2).wf = false ∧ (Instr.probeTimeout (2 ^ 32)).wf = false := by decide +kernel

/-! ## The checks of 20 Table 20.3, over "123456789" -/

theorem test_crc_values : crcHdlc (ascii "123456789") = 0xCBF43926 ∧ crcIscsi (ascii "123456789") = 0xE3069283 ∧
    crc16 (ascii "123456789") = 0x29B1 ∧ crc8 (ascii "123456789") = 0xF4 := by decide +kernel

/-! ## Single steps -/

/-- 04 R130: IDENT answers 0x4B 0x84 0x20 0x01. -/
theorem test_ident : (match step { board with pending := [.spiIdent] } with
    | .next t => t.outs.spiOut
    | _ => []) = [0x4B, 0x84, 0x20, 0x01] := by decide

/-- 00 R8: a register that its block does not have reads 0, and an absent block answers BAD_ARGUMENT. -/
theorem test_absent : (match step { board with pending := [.rcRead .steward ⟨0xC0000000, 4⟩] } with
    | .next t => t.outs.readStatus
    | _ => 0) = 0x0103 := by decide

/-- 05 R152: a length that does not fit its layout is BAD_LENGTH, whatever the fields. -/
theorem test_bad_length : (match step { bench 0x0E03 [1, 2, 3, 4, 5] with pending := [.powerConfig (.mailbox 0) 7] } with
    | .next t => leNat (memReadList t.mail.buf (respBuf 0 + 4) 2)
    | _ => 0) = 0x0102 := by decide +kernel

/-- The queue is served first in, first out. -/
theorem test_queue : (match step { board with pending := [.spiIdent, .dieCooled, .spiIdent] } with
    | .next t => t.pending
    | _ => []) = [.dieCooled, .spiIdent] := by decide +kernel

/-! ## A serial number that is not the module's own -/

/-- Twelve ASCII zeros or ones, whichever the module does not bear. -/
theorem witness_TwinCommandEffect_pair : ∃ (s : State) (r : Route) (tag : Nat) (q : Req) (sn : List Byte),
    Served s r tag 0x0B03 q ∧ Open s iMGT ∧ q.payload = sn ++ leBytes 1 1 ++ leBytes 3 0 ∧ s.twin.role = .single ∧
    sn.length = 12 ∧ sn.all (fun x => decide (0x30 ≤ x.toNat) && decide (x.toNat ≤ 0x39)) = true ∧ sn ≠ serialBytes := by
  by_cases h : List.replicate 12 (0x30#8) = serialBytes
  · exact ⟨bench 0x0B03 (List.replicate 12 0x31#8 ++ leBytes 1 1 ++ leBytes 3 0), .mailbox 0, 7,
      ask 0x0B03 (List.replicate 12 0x31#8 ++ leBytes 1 1 ++ leBytes 3 0), List.replicate 12 0x31#8, by decide, by decide,
      by decide, by decide, by decide, by decide, by rw [← h]; decide⟩
  · exact ⟨bench 0x0B03 (List.replicate 12 0x30#8 ++ leBytes 1 1 ++ leBytes 3 0), .mailbox 0, 7,
      ask 0x0B03 (List.replicate 12 0x30#8 ++ leBytes 1 1 ++ leBytes 3 0), List.replicate 12 0x30#8, by decide, by decide,
      by decide, by decide, by decide, by decide, h⟩

end Sys2Proof.Tests
end

section
/-! SUPPORT. The rules of register accesses (00 R7 to R11, 02 R46): reading a register back, what a performed access does,
what a refused one leaves, and what a response leaves of the registers. -/

namespace Sys2Proof.Machine

open Sys2Proof.Safety

/-! ### Reading a register back -/

/-- The word of a register, from the entry that the table shows for it. -/
theorem reg_eq_getD (s : State) (a : Nat) : s.reg a = ((tabGet s.regs a).map BitVec.toNat).getD (regReset a) := by
  unfold State.reg; cases tabGet s.regs a <;> rfl

theorem regs_setReg_reset {s : State} {a v : Nat} (hv : v % 2 ^ 32 = regReset a) : (s.setReg a v).regs = tabDel s.regs a :=
  if_pos hv

theorem regs_setReg_listed {s : State} {a v : Nat} (hv : v % 2 ^ 32 ≠ regReset a) :
    (s.setReg a v).regs = tabSet s.regs a (BitVec.ofNat 32 v) :=
  if_neg hv

/-- Where the table lists every register once, a register stored is read back as stored. -/
theorem reg_setReg_same {s : State} (a v : Nat) (h : tabWf s.regs = true) : (s.setReg a v).reg a = v % 2 ^ 32 := by
  by_cases hv : v % 2 ^ 32 = regReset a
  · rw [reg_eq_getD, regs_setReg_reset hv, tabGet_del_same a h, hv]; rfl
  · rw [reg_eq_getD, regs_setReg_listed hv, tabGet_set_same]; rfl

/-- A register stored with another value than its reset value leaves every other alone. -/
theorem reg_setReg_other_of_listed {s : State} {a b v : Nat} (hv : v % 2 ^ 32 ≠ regReset a) (hb : b ≠ a) :
    (s.setReg a v).reg b = s.reg b := by
  rw [reg_eq_getD, reg_eq_getD, regs_setReg_listed hv, tabGet_set_other _ hb]

/-- Where the table lists every register once, storing a register leaves every other alone. -/
theorem reg_setReg_other {s : State} {a b : Nat} (v : Nat) (h : tabWf s.regs = true) (hb : b ≠ a) :
    (s.setReg a v).reg b = s.reg b := by
  by_cases hv : v % 2 ^ 32 = regReset a
  · rw [reg_eq_getD, reg_eq_getD, regs_setReg_reset hv, tabGet_del_other hb h]
  · exact reg_setReg_other_of_listed hv hb

/-- A register that the table lists twice cannot be given its reset value: the second entry appears instead. -/
theorem reg_setReg_of_listed_twice {s : State} {a v : Nat} {w : Word} (hs : s.regs = [(a, w), (a, w)])
    (hv : v % 2 ^ 32 = regReset a) : (s.setReg a v).reg a = w.toNat := by
  rw [reg_eq_getD, regs_setReg_reset hv, hs]
  simp [tabDel, tabGet]

/-! ### Accesses that are performed -/

/-- A request to an island that is open to it is performed, and its epoch noted; inside one island nothing is crossed. -/
theorem crossing_performed {α : Type} {s : State} {src dst : Nat} (source : Nat) (refused : Nat → α) (statusOf : α → Nat)
    (f : State → α × State)
    (hopen : dst ≠ src → (s.isl dst).state = .run ∧ (s.isl dst).draining = false ∧
      (s.epochOf src dst = 0 ∨ s.epochOf src dst = (s.isl dst).epoch)) :
    crossing s src dst source refused statusOf f =
      if dst = src then f s
      else
        let r := f (s.noteEpoch src dst (s.isl dst).epoch)
        (r.1, r.2.lastError src dst source (statusOf r.1)) := by
  by_cases hsame : dst = src
  · simp [crossing, hsame]
  · obtain ⟨hrun, hdrain, hepoch⟩ := hopen hsame
    have hport : portStatus (s.isl dst) (s.epochOf src dst) = stOk := by
      rcases hepoch with he | he <;> simp [portStatus, hrun, hdrain, he]
    have hwake : s.wakeIsl dst = s := by simp [State.wakeIsl, hrun]
    simp [crossing, reach, hport, hwake, hsame, Ne.symm hsame]

/-- An access that ends OK leaves its value and status, and raises no access fault. -/
theorem settleAccess_ok (s : State) (by_ : Agent) (v : Nat) :
    settleAccess s by_ stOk v = { s with outs := { s.outs with readOut := v, readStatus := stOk } } := by
  simp [settleAccess]

theorem reaches_of_running {s : State} {by_ : Agent} (hrun : s.running (agentIsland by_) = true)
    (hspi : by_ = .spi → spiOpen s = true) : reaches s by_ = true := by
  by_cases h : by_ = .spi
  · simp [reaches, hrun, hspi h]
  · simp [reaches, hrun, h]

/-- A read that is performed answers the register's value, and has its effect. -/
theorem exec_rcRead_performed {s : State} {by_ : Agent} {a : Nat} (h : Reaches s by_ a 0 false) :
    Performs (.rcRead by_ ⟨a, 4⟩) s (readReg (met s by_ a) a).2 (readReg (met s by_ a) a).1 := by
  obtain ⟨hgate, hrun, hspi, hopen⟩ := h
  have hread : regRead s by_ a = ((stOk, (readReg (met s by_ a) a).1), (readReg (met s by_ a) a).2) := by
    simp only [regRead, access, hgate, ne_eq, not_true_eq_false, if_false, crossing_performed _ _ _ _ hopen, met]
    split
    · rfl
    · simp
  change Host.Outcome.next (readCmd s by_ a) = _
  simp [readCmd, reaches_of_running hrun hspi, hread, settleAccess_ok]

/-- A write that is performed and ends OK has its register's effect. ISL_CTRL stands with the port shell. -/
theorem exec_registerWrite_performed {s : State} {by_ : Agent} {a : Nat} {v : Word} (h : Reaches s by_ a v.toNat true)
    (hctrl : addrBlk a ≠ 0 ∨ addrOff a ≠ 0x00C) (hok : (writeReg (met s by_ a) by_ a v.toNat).1 = stOk) :
    Performs (.registerWrite by_ ⟨a, 4⟩ v) s (writeReg (met s by_ a) by_ a v.toNat).2 0 := by
  obtain ⟨hgate, hrun, hspi, hopen⟩ := h
  have hwrite : regWrite s by_ a v.toNat = (stOk, (writeReg (met s by_ a) by_ a v.toNat).2) := by
    have hc : ¬(addrBlk a = 0 ∧ addrOff a = 0x00C) := fun h => hctrl.elim (· h.1) (· h.2)
    simp only [regWrite, hgate, ne_eq, not_true_eq_false, if_false, hc, crossStatus, crossing_performed _ _ _ _ hopen]
    simp only [met] at hok ⊢
    split at hok
    · next hsame => simp only [hsame, if_true]; exact Prod.ext hok rfl
    · next hsame => simp [hsame, hok]
  change Host.Outcome.next (writeCmd s by_ a v.toNat) = _
  simp [writeCmd, reaches_of_running hrun hspi, hwrite, settleAccess_ok]

/-- The access that a command performs determines the registers. -/
theorem performs_regs {i : Instr} {s w w' : State} {v v' : Nat} (h : Performs i s w v) (h' : Performs i s w' v') :
    w.regs = w'.regs := by
  have hregs := congrArg State.regs (Host.Outcome.next.inj (h.symm.trans h'))
  exact hregs

/-! ### Accesses that are refused -/

/-- What the agent of a refused access finds: the status, no value, the access fault of a Sage core, and the failure in
ISL_LASTERR of its island, where it is not the SPI mirror (02 R46; log 41). -/
def refusedAccess (s : State) (by_ : Agent) (a st : Nat) : State :=
  { (if by_ = .spi then s
      else s.setReg (rIslLastErr (agentIsland by_)) (st + addrIsl a % 16 * 65536 + agentSource by_ * 2 ^ 20)) with
    outs := { s.outs with
      readOut := 0, readStatus := st, fault0 := s.outs.fault0 || by_ == .steward, fault1 := s.outs.fault1 || by_ == .core1 } }

theorem noteRefused_eq {s : State} {by_ : Agent} {a st : Nat} (hok : st ≠ stOk) (hpend : st ≠ stPending) :
    noteRefused s by_ a st =
      if by_ = .spi then s
      else s.setReg (rIslLastErr (agentIsland by_)) (st + addrIsl a % 16 * 65536 + agentSource by_ * 2 ^ 20) := by
  have hfail : ¬(st = stOk ∨ st = stPending) := not_or.mpr ⟨hok, hpend⟩
  by_cases h : by_ = .spi
  · rw [noteRefused, if_pos (beq_iff_eq.mpr h), if_pos h]
  · rw [noteRefused, if_neg (mt beq_iff_eq.mp h), if_neg h, State.lastError, if_neg hfail]

theorem settleAccess_noteRefused {s : State} {by_ : Agent} {a st : Nat} (hok : st ≠ stOk) (hpend : st ≠ stPending) :
    settleAccess (noteRefused s by_ a st) by_ st 0 = refusedAccess s by_ a st := by
  have hne : (st != stOk) = true := bne_iff_ne.mpr hok
  have houts : (noteRefused s by_ a st).outs = s.outs := by
    rw [noteRefused_eq hok hpend]
    split
    · rfl
    · exact setReg_outs ..
  rw [settleAccess, refusedAccess, houts, hne, Bool.true_and, Bool.true_and, noteRefused_eq hok hpend]

theorem gate_absent {s : State} {by_ : Agent} {a : Nat} (v : Nat) (write : Bool) (h : blockExists a = false) :
    gate s by_ a v write = stBadArgument := by
  simp [gate, h]

/-- An address of island 12 to 15, or in a block that its island does not implement (00 R8). -/
theorem blockExists_eq_false {a : Nat}
    (h : 12 ≤ addrIsl a ∨ (addrBlk a ≠ 0 ∧ (islandBlocks (addrIsl a)).contains (addrBlk a) = false)) :
    blockExists a = false := by
  rcases h with h | ⟨h0, hb⟩
  · have : ¬ a / 0x10000000 < 12 := by simpa [addrIsl] using h
    simp [blockExists, this]
  · simp only [addrBlk, addrIsl] at h0 hb
    simp only [blockExists, hb, beq_eq_false_iff_ne.mpr h0, Bool.or_self, Bool.and_false]

theorem exec_rcRead_refused {s : State} {by_ : Agent} {a st : Nat} (hgate : gate s by_ a 0 false = st) (hok : st ≠ stOk)
    (hpend : st ≠ stPending) (hrun : s.running (agentIsland by_) = true) (hspi : by_ = .spi → spiOpen s = true) :
    exec (.rcRead by_ ⟨a, 4⟩) s = .next (refusedAccess s by_ a st) := by
  change Host.Outcome.next (readCmd s by_ a) = _
  simp [readCmd, reaches_of_running hrun hspi, regRead, access, hgate, hok, settleAccess_noteRefused hok hpend]

theorem exec_registerWrite_refused {s : State} {by_ : Agent} {a st : Nat} {v : Word}
    (hgate : gate s by_ a v.toNat true = st) (hok : st ≠ stOk) (hpend : st ≠ stPending)
    (hrun : s.running (agentIsland by_) = true) (hspi : by_ = .spi → spiOpen s = true) :
    exec (.registerWrite by_ ⟨a, 4⟩ v) s = .next (refusedAccess s by_ a st) := by
  change Host.Outcome.next (writeCmd s by_ a v.toNat) = _
  simp [writeCmd, reaches_of_running hrun hspi, regWrite, hgate, hok, settleAccess_noteRefused hok hpend]

/-! ### Writes of stored registers -/

/-- The word that a write of `v` leaves in a stored register that holds `x` (00 R9, R10). -/
def mergedWord (row : RegRow) (x v : Nat) : Nat :=
  ((x &&& (all32 - row.rw)) &&& (all32 - (row.w1c &&& v))) ||| (v &&& row.rw)

theorem bitOf_eq_testBit (v i : Nat) : bitOf v i = v.testBit i := (Nat.testBit_eq_decide_div_mod_eq ..).symm

theorem testBit_all32_sub {x i : Nat} (hx : x < 2 ^ 32) (hi : i < 32) : (all32 - x).testBit i = !x.testBit i := by
  have h : all32 - x = 2 ^ 32 - (x + 1) := by simp only [all32]; omega
  rw [h, Nat.testBit_two_pow_sub_succ hx, decide_eq_true hi, Bool.true_and]

/-- RW bits take the value written; of the others, those of class W1C written 1 clear. -/
theorem bitOf_mergedWord {row : RegRow} {x v i : Nat} (hrw : row.rw < 2 ^ 32) (hv : v < 2 ^ 32) (hi : i < 32) :
    bitOf (mergedWord row x v % 2 ^ 32) i =
      if bitOf row.rw i then bitOf v i else bitOf x i && !(bitOf row.w1c i && bitOf v i) := by
  have hclear : row.w1c &&& v < 2 ^ 32 := Nat.and_lt_two_pow _ hv
  simp only [bitOf_eq_testBit, mergedWord, Nat.testBit_mod_two_pow, Nat.testBit_or, Nat.testBit_and,
    testBit_all32_sub hrw hi, testBit_all32_sub hclear hi, decide_eq_true hi]
  cases row.rw.testBit i <;> simp

/-- The RW bits of every row lie within a word. -/
def rowsFit (rs : List RegRow) : Bool := rs.all fun r => decide (r.rw < 2 ^ 32)

theorem rowsFit_rowsAt (a : Nat) : rowsFit (rowsAt a) = true := by
  unfold rowsAt
  dsimp only
  repeat' apply ite_both rowsFit
  all_goals rfl

theorem rw_lt_of_regRow {a : Nat} {row : RegRow} (h : regRow a = some row) : row.rw < 2 ^ 32 :=
  of_decide_eq_true (List.all_eq_true.mp (rowsFit_rowsAt a) row (List.mem_of_find?_eq_some h))

@[simp] theorem met_regs (s : State) (by_ : Agent) (a : Nat) : (met s by_ a).regs = s.regs :=
  ite_both (fun t : State => t.regs) rfl (noteEpoch_regs ..)

@[simp] theorem met_reg (s : State) (by_ : Agent) (a b : Nat) : (met s by_ a).reg b = s.reg b := by
  rw [reg_eq_getD, reg_eq_getD, met_regs]

theorem only_setReg (s : State) (a v : Nat) : Only [.regs] s (s.setReg a v) := by
  intro p hp
  cases p
  case regs => simp at hp
  all_goals rfl

theorem only_noteEpoch (s : State) (src dst e : Nat) : Only [.islands] s (s.noteEpoch src dst e) := by
  intro p hp
  cases p
  case islands => simp at hp
  all_goals rfl

/-- A performed access to a stored register touches registers and the requester's record of an epoch, nothing else. -/
theorem only_met_setReg (s : State) (by_ : Agent) (a b v : Nat) :
    Only [.regs, .islands] s ((met s by_ a).setReg b v) := by
  have hmet : Only [.islands] s (met s by_ a) := by
    unfold met
    split
    · exact Only.refl [.islands] s
    · exact only_noteEpoch s (agentIsland by_) (addrIsl a) _
  exact Only.trans (Only.mono hmet (by simp)) (Only.mono (only_setReg (met s by_ a) b v) (by simp))

/-- A write of a stored register leaves the merged word in it. -/
theorem exec_registerWrite_stored {s : State} {by_ : Agent} {a : Nat} {v : Word} {row : RegRow}
    (hreach : Reaches s by_ a v.toNat true) (hspecial : specialWrite (met s by_ a) by_ a v.toNat = none)
    (hrow : regRow a = some row) (hrc : row.rc = false) (hth : a ≠ rThCtrl) (hctrl : addrBlk a ≠ 0 ∨ addrOff a ≠ 0x00C) :
    Performs (.registerWrite by_ ⟨a, 4⟩ v) s ((met s by_ a).setReg a (mergedWord row (s.reg a) v.toNat)) 0 := by
  have hwrite : writeReg (met s by_ a) by_ a v.toNat =
      (stOk, (met s by_ a).setReg a (mergedWord row (s.reg a) v.toNat)) := by
    simp [writeReg, hth, hspecial, storedWrite, hrow, hrc, mergedWord]
  have h := exec_registerWrite_performed hreach hctrl (by rw [hwrite])
  rwa [hwrite] at h

/-- What `Obligations.RegisterAccess` says of a performed write, where the register table is in its canonical form. -/
theorem exec_registerWrite_bits {s : State} {by_ : Agent} {a : Nat} {v : Word} {row : RegRow} (hwf : tabWf s.regs = true)
    (hreach : Reaches s by_ a v.toNat true) (hspecial : specialWrite (met s by_ a) by_ a v.toNat = none)
    (hrow : regRow a = some row) (hrc : row.rc = false) (hth : a ≠ rThCtrl) (hctrl : addrBlk a ≠ 0 ∨ addrOff a ≠ 0x00C) :
    ∃ w, Performs (.registerWrite by_ ⟨a, 4⟩ v) s w 0 ∧
      (∀ i < 32, bitOf (w.reg a) i =
        if bitOf row.rw i then bitOf v.toNat i else bitOf (s.reg a) i && !(bitOf row.w1c i && bitOf v.toNat i)) ∧
      Only [.regs, .islands] s w ∧ ∀ b, b ≠ a → w.reg b = s.reg b := by
  have hwf' : tabWf (met s by_ a).regs = true := by rwa [met_regs]
  refine ⟨_, exec_registerWrite_stored hreach hspecial hrow hrc hth hctrl, ?_, only_met_setReg s by_ a a _, ?_⟩
  · intro i hi
    rw [reg_setReg_same a _ hwf', bitOf_mergedWord (rw_lt_of_regRow hrow) v.isLt hi]
  · intro b hb
    rw [reg_setReg_other _ hwf' hb, met_reg]

/-! ### What a response leaves of the registers -/

/-- Setting a bit to 1 leaves it 1. -/
theorem putBits_one_ne_zero {v j : Nat} (hj : j < 32) : putBits v j 1 1 % 2 ^ 32 ≠ 0 := by
  have hbit : putBits v j 1 1 / 2 ^ j % 2 = 1 := by
    have hle : 2 ^ j * (v / 2 ^ j % 2) ≤ v :=
      Nat.le_trans (Nat.mul_le_mul_left _ (Nat.mod_le _ _)) (Nat.mul_div_le v (2 ^ j))
    have hput : putBits v j 1 1 = v - 2 ^ j * (v / 2 ^ j % 2) + 2 ^ j := by
      simp only [putBits, bitsOf, Nat.pow_one, Nat.reduceMod, Nat.one_mul, Nat.mul_comm]
    rw [hput, Nat.add_div_right _ (Nat.two_pow_pos j), Nat.sub_mul_div_of_le _ _ _ hle]
    omega
  intro h0
  have hpow : 2 ^ j * 2 ∣ 2 ^ 32 := Nat.pow_succ 2 j ▸ Nat.pow_dvd_pow 2 hj
  obtain ⟨k, hk⟩ := Nat.dvd_trans hpow (Nat.dvd_of_mod_eq_zero h0)
  rw [hk, Nat.mul_assoc, Nat.mul_div_cancel_left _ (Nat.two_pow_pos j)] at hbit
  omega

/-- Setting a bit of a register whose reset value is 0 leaves every other register alone. -/
theorem reg_raise_other {s : State} {a b j : Nat} (hreset : regReset a = 0) (hj : j < 32) (hb : b ≠ a) :
    (s.raise a j).reg b = s.reg b :=
  reg_setReg_other_of_listed (by rw [hreset]; exact putBits_one_ne_zero hj) hb

theorem reg_of_regs_eq {s t : State} (h : s.regs = t.regs) (a : Nat) : s.reg a = t.reg a := by
  rw [reg_eq_getD, reg_eq_getD, h]

theorem reg_putMessage_mailbox (s : State) {m a : Nat} (final : Bool) (p : List Byte) (hm : m < 16)
    (ha : a ≠ rMbRespReady) : (putMessage s (.mailbox m) final p).reg a = s.reg a := by
  refine (reg_raise_other (by decide) (by omega) ha).trans (reg_of_regs_eq ?_ a)
  simp

/-- A response in a mailbox leaves every register alone but its READY bits. -/
theorem reg_respond_mailbox (s : State) {q : Req} {m a : Nat} (st : Nat) (p : List Byte) (hq : q.route = .mailbox m)
    (hm : m < 16) (ha : a ≠ rMbRespReady) : (respond s q st p).reg a = s.reg a := by
  unfold respond
  split
  · rfl
  · rw [hq, reg_putMessage_mailbox _ _ _ hm ha]
    split
    · rfl
    · rfl

/-- A command that Steward takes and ends with OK. -/
theorem serve_answers {s w : State} {r : Route} {tag code : Nat} {q : Req} {c : Cmd} {f : Req → State → Ans} {p : List Byte}
    (h : Served s r tag code q) (hc : cmdOf code = some c) (hf : f q s = ((stOk, p), w)) :
    serve code s r tag f = respond w q stOk p := by
  rw [serve_served f h hc, hf]

/-! ### POWER_CONFIG -/

/-- The input limit and the reference source set, and the reference switched (17 R467, R479). -/
def powerConfigured (s : State) (limit source : Nat) : State :=
  switchReference ((s.setField rPwCtrl 0 9 limit).setField rPwCtrl 12 2 source) (source != 0 && s.power.refIn)

theorem exec_powerConfig {s : State} {r : Route} {tag : Nat} {q : Req} {limit source : Nat}
    (hserved : Served s r tag 0x0E03 q) (hopen : Open s iMGT)
    (hpayload : q.payload = leBytes 2 limit ++ leBytes 1 source ++ leBytes 1 0) (hlow : 180 ≤ limit) (hhigh : limit ≤ 480)
    (hsource : source ≤ 2) : Answers (.powerConfig r tag) s q (powerConfigured (crossed s iMGT) limit source) [] := by
  have hlength : q.payload.length = 4 := by simp [hpayload]
  have hlimit : fld q.payload 0 2 = limit := by simp [hpayload, fld, leBytes, leNat]; omega
  have hsrc : fld q.payload 2 1 = source := by simp [hpayload, fld, leBytes, leNat]; omega
  have hzero : fld q.payload 3 1 = 0 := by simp [hpayload, fld, leBytes, leNat]
  have hvalid : ¬(limit < 180 ∨ 480 < limit ∨ 2 < source ∨ (0 : Nat) ≠ 0) := by omega
  have hbody : toIsland s iMGT (fun s => done stOk (switchReference
      ((s.setField rPwCtrl 0 9 limit).setField rPwCtrl 12 2 source) (source != 0 && s.power.refIn))) =
      ((stOk, []), powerConfigured (crossed s iMGT) limit source) := toIsland_ok hopen rfl
  change execPowerConfig r tag s = _
  unfold execPowerConfig
  refine congrArg Host.Outcome.next (serve_answers hserved rfl ?_)
  simp only [hlength, hlimit, hsrc, hzero]
  rw [if_neg (by decide), if_neg hvalid]
  exact hbody

end Sys2Proof.Machine
end

section
/-! SETTLED. Register accesses, absent registers, the platform commands and the state after a module reset. -/

namespace Sys2Proof.Certificates

open Sys2Proof.Machine Sys2Proof.Safety

/-- Settles O37: an absent address is refused by the gate (00 R8); an offset without a row and without an effect of its own
is read as 0 and keeps nothing. -/
theorem absentRegisters : Obligations.AbsentRegisters := by
  unfold Obligations.AbsentRegisters
  intro s by_
  refine ⟨?_, ?_, ?_⟩
  · intro i a v hi habsent hrun hspi
    have hgate (v : Nat) (write : Bool) := gate_absent (s := s) (by_ := by_) v write (blockExists_eq_false habsent)
    rcases hi with rfl | rfl
    · exact exec_rcRead_refused (hgate 0 false) (by decide) (by decide) hrun hspi
    · exact exec_registerWrite_refused (hgate v.toNat true) (by decide) (by decide) hrun hspi
  · intro a hreach hspecial hrow
    have hread : readReg (met s by_ a) a = (0, met s by_ a) := by simp [readReg, hspecial, storedRead, hrow]
    have h := exec_rcRead_performed hreach
    rwa [hread] at h
  · intro a v hreach hspecial hrow hth hctrl
    have hwrite : writeReg (met s by_ a) by_ a v.toNat = (stOk, met s by_ a) := by
      simp [writeReg, hth, hspecial, storedWrite, hrow]
    have h := exec_registerWrite_performed hreach hctrl (by rw [hwrite])
    rwa [hwrite] at h

/-- Settles O24: a register or island that no table lists reads its default, and the table of mailboxes lists mailbox 0
alone. -/
theorem resetState : Obligations.ResetState := by
  unfold Obligations.ResetState
  have hbox (m : Nat) (hm : m ≠ 0) : State.reset.box m = {} := by
    simp [State.box, State.reset, tabGetD, tabGet, hm]
  refine ⟨rfl, fun i _ => ⟨rfl, rfl, rfl, rfl⟩, fun a => rfl, rfl, ?_, ?_, ⟨rfl, rfl, rfl⟩, rfl, rfl, rfl⟩
  · intro m h1 _
    rw [hbox m (by omega)]
  · intro m _
    by_cases hm : m = 0
    · subst hm; exact ⟨rfl, rfl⟩
    · rw [hbox m hm]; exact ⟨rfl, rfl⟩

/-! ### A register table that lists a register twice -/

/-- SAGE and MGT in RUN, a request in progress, and a register that the table lists twice with the word `w`: data of the
state's type outside the canonical form of its tables (`tabWf`), which two statements below do not ask for. -/
def listedTwice (a : Nat) (w : Word) (q : Req) : State :=
  { State.reset with
    regs := [(a, w), (a, w)]
    islands := [(iMGT, { state := .run }), (iSAGE, { state := .run })]
    mail := { State.reset.mail with ready := true, inProgress := [q] } }

/-- POWER_CONFIG in mailbox 0: 20.0 V and the reference source 2, together PW_CTRL's reset value. -/
def powerRequest : Req :=
  { route := .mailbox 0, command := 0x0E03, seq := 1, tag := 7, session := 0, more := false
    payload := leBytes 2 200 ++ leBytes 1 2 ++ leBytes 1 0, pended := false }

/-- The threshold register of interrupt target 0 is listed twice with 7. -/
def thresholdTwice : State := listedTwice (rIcTThresh 0) 7 powerRequest

/-- PW_CTRL is listed twice with 30.0 V and the reference source 2. -/
def powerCtrlTwice : State := listedTwice rPwCtrl 0x212C powerRequest

/-- The row of the threshold registers (20 Table 20.6). -/
def thresholdRow : RegRow := { base := rIcTThresh 0, stride := 0x80, count := 3, rw := 0xF }

/-- Refutes O36: its third clause lacks `tabWf s.regs`. Where the table lists the threshold register twice with 7, Steward's
write of 0, its reset value, removes the first entry, and the register still reads 7. In every canonical state the clause
holds (`exec_registerWrite_bits`). -/
theorem not_registerAccess : ¬ Obligations.RegisterAccess := by
  unfold Obligations.RegisterAccess
  intro hall
  have hreach : Reaches thresholdTwice .steward (rIcTThresh 0) (0 : Word).toNat true := by decide
  have hspecial : specialWrite (met thresholdTwice .steward (rIcTThresh 0)) .steward (rIcTThresh 0) (0 : Word).toNat = none := by
    decide
  have hrow : regRow (rIcTThresh 0) = some thresholdRow := by decide
  have hth : rIcTThresh 0 ≠ rThCtrl := by decide
  have hctrl : addrBlk (rIcTThresh 0) ≠ 0 ∨ addrOff (rIcTThresh 0) ≠ 0x00C := by decide
  obtain ⟨-, -, hwrite, -⟩ := hall thresholdTwice .steward
  obtain ⟨w, hw, hbits, -, -⟩ := hwrite (rIcTThresh 0) 0 thresholdRow hreach hspecial hrow rfl hth hctrl
  have hreset : mergedWord thresholdRow (thresholdTwice.reg (rIcTThresh 0)) (0 : Word).toNat % 2 ^ 32 =
      regReset (rIcTThresh 0) := by decide
  have hregs := performs_regs hw (exec_registerWrite_stored hreach hspecial hrow rfl hth hctrl)
  have hkept : w.reg (rIcTThresh 0) = 7 :=
    (reg_of_regs_eq hregs _).trans (reg_setReg_of_listed_twice (w := 7) (met_regs ..) hreset)
  rw [hkept] at hbits
  exact absurd hbits (by decide)

/-- Refutes O20: its clause on POWER_CONFIG lacks `tabWf s.regs`. Where the table lists PW_CTRL twice with 30.0 V, setting
20.0 V reaches its reset value and removes the first entry; the second stays, and the input limit reads 30.0 V. -/
theorem not_platformCommandEffect : ¬ Obligations.PlatformCommandEffect := by
  unfold Obligations.PlatformCommandEffect
  intro hall
  have hserved : Served powerCtrlTwice (.mailbox 0) 7 0x0E03 powerRequest := by decide
  have hopen : Open powerCtrlTwice iMGT := by decide
  obtain ⟨-, hpower, -⟩ := hall powerCtrlTwice (.mailbox 0) 7 powerRequest
  obtain ⟨w, hw, hlimit, -⟩ := hpower 200 2 hserved hopen rfl (by decide) (by decide) (by decide)
  have hexec := exec_powerConfig hserved hopen rfl (by decide : 180 ≤ 200) (by decide) (by decide : 2 ≤ 2)
  have hsame : respond w powerRequest stOk [] =
      respond (powerConfigured (crossed powerCtrlTwice iMGT) 200 2) powerRequest stOk [] :=
    Host.Outcome.next.inj (hw.symm.trans hexec)
  have hleft (t : State) : (respond t powerRequest stOk []).reg rPwCtrl = t.reg rPwCtrl :=
    reg_respond_mailbox (m := 0) t stOk [] rfl (by decide) (by decide)
  have hword : (powerConfigured (crossed powerCtrlTwice iMGT) 200 2).reg rPwCtrl = 0x212C := by decide
  have hreg : w.reg rPwCtrl = 0x212C := by
    rw [← hleft w, hsame, hleft, hword]
  rw [State.rfield, hreg] at hlimit
  exact absurd hlimit (by decide)

end Sys2Proof.Certificates
end

section
/-! SUPPORT. Requests and replies between islands (02 R55, R56, R64 to R66, R71, R72): the slot a request is sent in, how a
target's port answers it, and how a reply is judged at its requester's port. -/

namespace Sys2Proof.Machine

/-! ### Requests at their requester -/

/-- A request formed as the handshake gives it: two islands, and a slot and generation of the ranges of R72. -/
structure WellFormedRequest (q : XRequest) : Prop where
  src : q.src < 12
  dst : q.dst < 12
  ne : q.src ≠ q.dst
  slot : q.slot < 32
  gen : q.gen < 8

/-- The slot a running requester sends a request in: the one named where that is free, else the lowest free one (R72). -/
def chosenSlot (x : Island) (q : XRequest) : Option Nat :=
  if slotFree x q.dst q.slot then some q.slot else xFreeSlot x q.dst

theorem malformed_of_lt {s : State} {i : Nat} (hi : i < 12) : malformed s i = s.raise (rIslFault i) 0 := if_pos hi

theorem crossingRequest_malformed {s : State} {q : XRequest} (hdst : q.dst < 12)
    (hill : 12 ≤ q.src ∨ q.src = q.dst ∨ 32 ≤ q.slot ∨ 8 ≤ q.gen) :
    crossingRequest s q = s.raise (rIslFault q.dst) 0 := by
  rw [crossingRequest, if_pos hill, malformed_of_lt hdst]

theorem WellFormedRequest.not_ill {q : XRequest} (hq : WellFormedRequest q) :
    ¬(12 ≤ q.src ∨ q.src = q.dst ∨ 32 ≤ q.slot ∨ 8 ≤ q.gen) := by
  obtain ⟨hsrc, -, hne, hslot, hgen⟩ := hq
  omega

/-- A request already on its way when its requester left RUN arrives as it is. -/
theorem crossingRequest_of_stopped {s : State} {q : XRequest} (hq : WellFormedRequest q) (hrun : s.running q.src = false) :
    crossingRequest s q = arrive s q := by
  rw [crossingRequest, if_neg hq.not_ill, if_neg (Nat.not_le.mpr hq.dst)]
  simp [hrun]

theorem crossingRequest_sends {s : State} {q : XRequest} {k : Nat} (hq : WellFormedRequest q)
    (hrun : s.running q.src = true) (hk : chosenSlot (s.isl q.src) q = some k) :
    crossingRequest s q = arrive (openSlot s (tagged (s.isl q.src) q k)) (tagged (s.isl q.src) q k) := by
  rw [chosenSlot] at hk
  rw [crossingRequest, if_neg hq.not_ill, if_neg (Nat.not_le.mpr hq.dst)]
  simp [hrun, hk]

theorem crossingRequest_waits {s : State} {q : XRequest} (hq : WellFormedRequest q) (hrun : s.running q.src = true)
    (hk : chosenSlot (s.isl q.src) q = none) :
    crossingRequest s q = s.setIsl q.src { s.isl q.src with waiting := (s.isl q.src).waiting ++ [q] } := by
  rw [chosenSlot] at hk
  rw [crossingRequest, if_neg hq.not_ill, if_neg (Nat.not_le.mpr hq.dst)]
  simp [hrun, hk]

theorem chosenSlot_named {x : Island} {q : XRequest} (h : slotFree x q.dst q.slot = true) :
    chosenSlot x q = some q.slot := if_pos h

theorem chosenSlot_other {x : Island} {q : XRequest} (h : slotFree x q.dst q.slot = false) :
    chosenSlot x q = xFreeSlot x q.dst := if_neg (Bool.eq_false_iff.mp h)

/-- With all 32 slots at a target open or resting, none is free. -/
theorem xFreeSlot_eq_none {x : Island} {j : Nat} (h : ∀ k, k < 32 → slotFree x j k = false) : xFreeSlot x j = none :=
  List.find?_eq_none.mpr fun k hk => Bool.eq_false_iff.mp (h k (List.mem_range.mp hk))

theorem slotFreedSend_sends {s : State} {i j k : Nat} {q : XRequest} (hrun : s.running i = true)
    (hq : (s.isl i).waiting.find? (·.dst == j) = some q) (hk : xFreeSlot (s.isl i) j = some k) :
    slotFreedSend s i j =
      arrive (openSlot (s.setIsl i { s.isl i with waiting := (s.isl i).waiting.erase q }) (tagged (s.isl i) q k))
        (tagged (s.isl i) q k) := by
  simp [slotFreedSend, hq, hk, hrun]

theorem slotFreedSend_idle {s : State} {i j : Nat}
    (h : s.running i = false ∨ (s.isl i).waiting.find? (·.dst == j) = none ∨ xFreeSlot (s.isl i) j = none) :
    slotFreedSend s i j = s := by
  unfold slotFreedSend
  dsimp only
  split
  next q k hq hk =>
    have hrun : s.running i = false :=
      h.resolve_right fun h => h.elim (fun hnone => by simp [hnone] at hq) fun hfull => by simp [hfull] at hk
    rw [hrun]
    rfl
  next => rfl

/-! ### Requests at their target -/

theorem portStatus_open {x : Island} {e : Nat} (hup : x.state = .run ∨ x.state = .idle) (hdrain : x.draining = false)
    (he : e = 0 ∨ e = x.epoch) : portStatus x e = stOk := by
  rcases hup with hup | hup <;> rcases he with he | he <;> simp [portStatus, hup, hdrain, he]

/-- An open target performs the request and replies with its own epoch (R65, R71). -/
theorem arrive_performs {s : State} {q : XRequest} (hup : (s.isl q.dst).state = .run ∨ (s.isl q.dst).state = .idle)
    (hdrain : (s.isl q.dst).draining = false) (he : q.targetEpoch = 0 ∨ q.targetEpoch = (s.isl q.dst).epoch) :
    arrive s q = sendReply (xPerform (s.wakeIsl q.dst) q).2 q (s.isl q.dst).epoch
      (xPerform (s.wakeIsl q.dst) q).1.1 (xPerform (s.wakeIsl q.dst) q).1.2 := by
  simp [arrive, portStatus_open hup hdrain he]

/-- A target's port that refuses an ordinary request counts it and answers the reason (R65). -/
theorem arrive_refuses {s : State} {q : XRequest} {st : Nat} (hpath : q.path = .ordinary)
    (hst : portStatus (s.isl q.dst) q.targetEpoch = st) (hne : st ≠ stOk) :
    arrive s q = sendReply ((s.wakeIsl q.dst).countRefused q.dst) q
      (if st = stIslandAbsent then 0 else (s.isl q.dst).epoch) st 0 := by
  simp [arrive, hpath, hst, hne]

theorem portStatus_absent {x : Island} (e : Nat) (hrun : x.state ≠ .run) (hidle : x.state ≠ .idle) :
    portStatus x e = stIslandAbsent := by
  simp [portStatus, hrun, hidle]

theorem up_of_running {s : State} {i : Nat} (h : s.running i = true) : (s.isl i).state = .run ∨ (s.isl i).state = .idle := by
  simpa [State.running] using h

theorem portStatus_busy {x : Island} (e : Nat) (hup : x.state = .run ∨ x.state = .idle) (hdrain : x.draining = true) :
    portStatus x e = stBusy := by
  rcases hup with hup | hup <;> simp [portStatus, hup, hdrain]

theorem portStatus_stale {x : Island} {e : Nat} (hup : x.state = .run ∨ x.state = .idle) (hdrain : x.draining = false)
    (h0 : e ≠ 0) (he : e ≠ x.epoch) : portStatus x e = stStaleEpoch := by
  rcases hup with hup | hup <;> simp [portStatus, hup, hdrain, h0, he]

/-! ### Replies -/

/-- A formed reply: a target, and a slot and generation of the ranges of R72, at an island. -/
structure WellFormedReply (p : XReply) : Prop where
  requester : p.requester < 12
  target : p.target < 12
  slot : p.slot < 32
  gen : p.gen < 8

/-- The state in which a reply is judged: it is no longer on its way. -/
def takeReply (s : State) (p : XReply) : State :=
  { s with outs := { s.outs with replies := s.outs.replies.filter (· != p) } }

/-- The requester's open slot that a reply names (R66). -/
def slotNamed (s : State) (p : XReply) : Option OutSlot :=
  (s.isl p.requester).slots.find? fun o => o.target == p.target && o.slot == p.slot && o.gen == p.gen

/-- The requester takes the reply: it runs, with the epoch it asked under (R66). -/
abbrev TakesReply (s : State) (p : XReply) : Prop :=
  s.running p.requester = true ∧ p.reqEpoch = (s.isl p.requester).epoch

theorem crossingReply_malformed {s : State} {p : XReply} (hreq : p.requester < 12)
    (hill : 12 ≤ p.target ∨ 32 ≤ p.slot ∨ 8 ≤ p.gen) :
    crossingReply s p = s.raise (rIslFault p.requester) 0 := by
  rw [crossingReply, if_neg (Nat.not_le.mpr hreq), if_pos hill, malformed_of_lt hreq]

theorem WellFormedReply.not_ill {p : XReply} (hp : WellFormedReply p) : ¬(12 ≤ p.target ∨ 32 ≤ p.slot ∨ 8 ≤ p.gen) := by
  obtain ⟨-, htarget, hslot, hgen⟩ := hp
  omega

/-- A reply that another of the same target to the same requester precedes changes nothing (R55). -/
theorem crossingReply_of_later {s : State} {p x : XReply} (hp : WellFormedReply p)
    (hx : s.outs.replies.find? (fun y => y.target == p.target && y.requester == p.requester) = some x) (hne : x ≠ p) :
    crossingReply s p = s := by
  have hturn : inTurn s p = false := by simp [inTurn, hx, hne]
  rw [crossingReply, if_neg (Nat.not_le.mpr hp.requester), if_neg hp.not_ill]
  simp [hturn]

theorem advanceNotices_of_none {s : State} (i r : Nat) (h : s.outs.notices = []) : advanceNotices s i r = s := by
  simp only [advanceNotices, h, List.filter_nil, List.map_nil, List.foldl_nil]
  rw [← h]

@[simp] theorem settleAccess_notices (s : State) (by_ : Agent) (st v : Nat) :
    (settleAccess s by_ st v).outs.notices = s.outs.notices := rfl

@[simp] theorem completeSlot_notices (s : State) (i : Nat) (o : OutSlot) (st v : Nat) :
    (completeSlot s i o st v).outs.notices = s.outs.notices := by
  unfold completeSlot
  split <;> simp

theorem judgeReply_notices (s : State) (p : XReply) : (judgeReply s p).outs.notices = s.outs.notices := by
  unfold judgeReply
  dsimp only
  repeat' split
  all_goals simp

/-- A reply whose turn has come, with no notice behind it, is judged. -/
theorem crossingReply_judged {s : State} {p : XReply} (hp : WellFormedReply p) (hturn : inTurn s p = true)
    (hnone : s.outs.notices = []) : crossingReply s p = judgeReply (takeReply s p) p := by
  have hkept : (judgeReply (takeReply s p) p).outs.notices = [] := (judgeReply_notices ..).trans hnone
  have hstep : crossingReply s p =
      if s.outs.replies.contains p then advanceNotices (judgeReply (takeReply s p) p) p.target p.requester
      else judgeReply (takeReply s p) p := by
    rw [crossingReply, if_neg (Nat.not_le.mpr hp.requester), if_neg hp.not_ill]
    simp only [hturn]
    rfl
  rw [hstep, advanceNotices_of_none _ _ hkept, ite_self]

theorem judgeReply_discards {s : State} {p : XReply}
    (h : s.running p.requester = false ∨ p.reqEpoch ≠ (s.isl p.requester).epoch ∨ slotNamed s p = none) :
    judgeReply s p = s.stick (rIslDiscard p.requester) (rIslFault p.requester) 7 := by
  rw [slotNamed] at h
  unfold judgeReply
  dsimp only
  split
  next => rfl
  next htaken =>
    have hnone := (h.resolve_left fun hrun => htaken (.inl (by simp [hrun]))).resolve_left fun he => htaken (.inr he)
    rw [hnone]

/-- A reply of an older epoch than the one known completes its slot with STALE_EPOCH and no data (R66). -/
theorem judgeReply_stale {s : State} {p : XReply} {o : OutSlot} (h : TakesReply s p) (ho : slotNamed s p = some o)
    (hold : older p.targetEpoch (s.epochOf p.requester p.target) = true) :
    judgeReply s p = completeSlot s p.requester o stStaleEpoch 0 := by
  obtain ⟨hrun, he⟩ := h
  rw [slotNamed] at ho
  simp [judgeReply, hrun, he, ho, hold]

/-- Any other reply completes its slot with its status and data; the requester notes an epoch other than 0 (R66). -/
theorem judgeReply_completes {s : State} {p : XReply} {o : OutSlot} (h : TakesReply s p) (ho : slotNamed s p = some o)
    (hold : older p.targetEpoch (s.epochOf p.requester p.target) = false) :
    judgeReply s p = completeSlot (if p.targetEpoch = 0 then s else s.noteEpoch p.requester p.target p.targetEpoch)
      p.requester o p.status p.data.toNat := by
  obtain ⟨hrun, he⟩ := h
  rw [slotNamed] at ho
  simp [judgeReply, hrun, he, ho, hold]

theorem older_of_behind {a b : Nat} (ha : a ≠ 0) (hb : b ≠ 0) (h1 : 1 ≤ (b + 65535 - a) % 65535)
    (h2 : (b + 65535 - a) % 65535 ≤ 32767) : older a b = true := by
  simp [older, ha, hb, h1, h2]

theorem not_older_of_unknown_or_same {a b : Nat} (h : a = 0 ∨ b = 0 ∨ b = a) : older a b = false := by
  rcases h with h | h | h <;> simp [older, h]

/-! ### Epoch notices -/

theorem exec_epochNotice {s : State} {i r e : Nat} (hi : i < 12) (hr : r < 12) (h1 : 1 ≤ e) (h2 : e ≤ 0xFFFF)
    (hnone : s.outs.notices = []) : exec (.epochNotice i r e) s = .next (s.noteEpoch r i e) := by
  change execEpochNotice i r e s = _
  have hformed : ¬(12 ≤ i ∨ e = 0 ∨ 0xFFFF < e) := by omega
  rw [execEpochNotice, if_neg (Nat.not_le.mpr hr), if_neg hformed]
  simp [hnone]

end Sys2Proof.Machine
end

section
/-! SETTLED. Requests and replies between islands. -/

namespace Sys2Proof.Certificates

open Sys2Proof.Machine Sys2Proof.Safety

/-- Settles O44: a request by whether its requester runs and which slot it gets, its arrival by the status of the target's
port, and a reply by whether its turn has come, its requester takes it and its epoch is older. -/
theorem crossingEffect : Obligations.CrossingEffect := by
  unfold Obligations.CrossingEffect
  intro s
  refine ⟨?stopped, ?named, ?other, ?waits, ?ill, fun q => rfl, ?performs, ?refuses, ?freed, ?freedNone, fun i j k => rfl,
    ?illReply, ?later, ?discard, ?stale, ?completes, fun i r e hi hr h1 h2 hnone => exec_epochNotice hi hr h1 h2 hnone⟩
  case stopped =>
    intro q hsrc hdst hne hslot hgen hrun
    exact congrArg Host.Outcome.next (crossingRequest_of_stopped ⟨hsrc, hdst, hne, hslot, hgen⟩ hrun)
  case named =>
    rintro q p hsrc hdst hne hslot hgen hrun hfree rfl
    exact congrArg Host.Outcome.next
      (crossingRequest_sends ⟨hsrc, hdst, hne, hslot, hgen⟩ hrun (chosenSlot_named hfree))
  case other =>
    rintro q p k hsrc hdst hne hslot hgen hrun htaken hk rfl
    exact congrArg Host.Outcome.next
      (crossingRequest_sends ⟨hsrc, hdst, hne, hslot, hgen⟩ hrun ((chosenSlot_other htaken).trans hk))
  case waits =>
    intro q hsrc hdst hne hslot hgen hrun hfull
    exact congrArg Host.Outcome.next (crossingRequest_waits ⟨hsrc, hdst, hne, hslot, hgen⟩ hrun
      ((chosenSlot_other (hfull q.slot hslot)).trans (xFreeSlot_eq_none hfull)))
  case ill =>
    intro q hdst hill
    exact congrArg Host.Outcome.next (crossingRequest_malformed hdst hill)
  case performs =>
    rintro q r hup hdrain he rfl
    exact arrive_performs hup hdrain he
  case refuses =>
    rintro q st e u hpath (⟨hrun, hidle, rfl, rfl⟩ | ⟨hrun, hdrain, rfl, rfl⟩ | ⟨hrun, hdrain, h0, he, rfl, rfl⟩) rfl
    · exact arrive_refuses hpath (portStatus_absent _ hrun hidle) (by decide)
    · exact arrive_refuses hpath (portStatus_busy _ (up_of_running hrun) hdrain) (by decide)
    · exact arrive_refuses hpath (portStatus_stale (up_of_running hrun) hdrain h0 he) (by decide)
  case freed =>
    rintro i j k q p hrun hq hk rfl
    exact congrArg Host.Outcome.next (slotFreedSend_sends hrun hq hk)
  case freedNone =>
    intro i j h
    exact congrArg Host.Outcome.next (slotFreedSend_idle h)
  case illReply =>
    intro p hreq hill
    exact congrArg Host.Outcome.next (crossingReply_malformed hreq hill)
  case later =>
    intro p x hreq htarget hslot hgen hx hne
    exact congrArg Host.Outcome.next (crossingReply_of_later ⟨hreq, htarget, hslot, hgen⟩ hx hne)
  case discard =>
    intro p hreq htarget hslot hgen hturn hnone h
    exact congrArg Host.Outcome.next ((crossingReply_judged ⟨hreq, htarget, hslot, hgen⟩ hturn hnone).trans
      (judgeReply_discards h))
  case stale =>
    intro p o hreq htarget hslot hgen hturn hnone hrun he ho h0 hknown h1 h2
    exact congrArg Host.Outcome.next ((crossingReply_judged ⟨hreq, htarget, hslot, hgen⟩ hturn hnone).trans
      (judgeReply_stale ⟨hrun, he⟩ ho (older_of_behind h0 hknown h1 h2)))
  case completes =>
    intro p o hreq htarget hslot hgen hturn hnone hrun he ho hage
    exact congrArg Host.Outcome.next ((crossingReply_judged ⟨hreq, htarget, hslot, hgen⟩ hturn hnone).trans
      (judgeReply_completes ⟨hrun, he⟩ ho (not_older_of_unknown_or_same hage)))

end Sys2Proof.Certificates
end

section
/-! SUPPORT. An island that stops or restarts its clock (02 R53): what a transition touches beside the island's own record,
and the response that may wait on it. -/

namespace Sys2Proof.Machine

open Sys2Proof.Safety

/-! ### What single updates touch -/

theorem only_setIsl (s : State) (i : Nat) (x : Island) : Only [.islands] s (s.setIsl i x) := by
  intro p hp
  cases p
  case islands => simp at hp
  all_goals rfl

theorem only_setTarget (s : State) (t : Nat) (x : Target) : Only [.irq] s (s.setTarget t x) := by
  intro p hp
  cases p
  case irq => simp at hp
  all_goals rfl

theorem only_setPort (s : State) (p : Nat) (x : Port) : Only [.switch] s (s.setPort p x) := by
  intro part hpart
  cases part
  case switch => simp at hpart
  all_goals rfl

theorem only_twin (s : State) (w : Twin) : Only [.twin] s { s with twin := w } := by
  intro p hp
  cases p
  case twin => simp at hp
  all_goals rfl

theorem only_chkUnit (s : State) (c n : Nat) (v : Word) (ok : Bool) : Only [.chk] s (s.chkUnit c n v ok) := by
  intro p hp
  cases p
  case chk => simp at hp
  all_goals simp [StatePart.same]

theorem only_stick (s : State) (a ev bit n : Nat) : Only [.regs] s (s.stick a ev bit n) := by
  intro p hp
  cases p
  case regs => simp at hp
  all_goals simp [StatePart.same]

theorem only_raise (s : State) (a i : Nat) : Only [.regs] s (s.raise a i) := only_setReg s a _

/-! ### The standby's readiness (16 Table 16.3) -/

theorem only_enqueue (s : State) (p cls : Nat) (b : List Byte) (stamp : Stamp) :
    Only [.regs, .switch] s (enqueue s p cls b stamp) := by
  unfold enqueue
  dsimp only
  split
  · exact Only.refl _ s
  split
  · exact Only.mono (only_setPort s p _) (by simp)
  · exact Only.mono (Only.trans (only_stick s (rMacCnt p 17) (rMacEvent p) 4 1) (only_raise _ rSwEvent 1)) (by simp)

theorem only_twinSend (s : State) (kind : Nat) (body : List Byte) :
    Only [.regs, .switch, .twin, .chk] s (twinSend s kind body) := by
  have hseq : Only [.twin] s (twinSeq s kind).2 := only_twin s _
  have hunit (t : State) (p : List Byte) : Only [.chk] t (twinUnit t p) := only_chkUnit t 4 _ _ true
  exact Only.trans (Only.mono hseq (by simp))
    (Only.trans (Only.mono (hunit _ _) (by simp)) (Only.mono (only_enqueue _ 2 7 _ .none) (by simp)))

theorem only_notReady (s : State) (cause : Nat) : Only [.regs, .twin] s (notReady s cause) := by
  unfold notReady setReady
  dsimp only
  split
  · exact Only.trans (Only.mono (only_twin s _) (by simp)) (Only.mono (only_raise _ rTwEvent 4) (by simp))
  · exact Only.mono (only_twin s _) (by simp)

theorem only_askResync (s : State) (cause : Nat) : Only [.regs, .switch, .twin, .chk] s (askResync s cause) := by
  unfold askResync
  dsimp only
  refine Only.trans ?_ (only_twinSend _ 0x12 _)
  split
  · exact Only.trans (Only.mono (only_twin s _) (by simp)) (Only.mono (only_raise _ rTwEvent 8) (by simp))
  · exact Only.mono (only_twin s _) (by simp)

theorem only_standbyFit (s : State) (i : Nat) : Only [.regs, .switch, .twin, .chk] s (standbyFit s i) := by
  unfold standbyFit
  split
  · exact Only.refl _ s
  split
  · split
    · exact Only.mono (only_notReady s 4) (by simp)
    · exact Only.refl _ s
  split
  · exact Only.trans (Only.mono (only_twin s _) (by simp)) (only_askResync _ 4)
  · exact Only.refl _ s

/-! ### Transitions on which no ISLAND_CONTROL waits -/

/-- No ISLAND_CONTROL is pended for an island (05 Table 5.1; log 54). -/
def NoControlWaits (s : State) (i : Nat) : Prop :=
  ∀ q ∈ s.mail.inProgress, ¬(q.command = 0x0E05 ∧ q.pended = true ∧ fld q.payload 0 1 = i)

theorem settleControl_of_noControlWaits {s : State} {i : Nat} (h : NoControlWaits s i) : settleControl s i = s := by
  have hnone : (s.mail.inProgress.find? fun q => q.command == 0x0E05 && q.pended && fld q.payload 0 1 == i) = none :=
    List.find?_eq_none.mpr fun q hq => by simpa [and_assoc] using h q hq
  unfold settleControl
  dsimp only
  rw [hnone]
  exact ite_self s

/-- The record of an island that has just entered a state. -/
def enteredState (s : State) (i : Nat) (st : IslState) : Island :=
  { s.isl i with state := st, target := st, draining := false, since := s.now }

theorem putState_of_noControlWaits {s : State} {i : Nat} (st : IslState) (h : NoControlWaits s i) :
    putState s i st id = standbyFit (s.setIsl i (enteredState s i st)) i := by
  have hmail := only_standbyFit (s.setIsl i (enteredState s i st)) i .mail (by simp)
  refine settleControl_of_noControlWaits (s := standbyFit (s.setIsl i (enteredState s i st)) i) ?_
  rw [NoControlWaits, hmail]
  exact h

theorem isl_of_islands_eq {s t : State} (h : t.islands = s.islands) (i : Nat) : t.isl i = s.isl i := by
  rw [State.isl, h, State.isl]

theorem isl_setIsl_same (s : State) (i : Nat) (x : Island) : (s.setIsl i x).isl i = x := by
  simp [State.isl, State.setIsl, tabGetD]

theorem isl_setIsl_other (s : State) {i j : Nat} (x : Island) (h : j ≠ i) : (s.setIsl i x).isl j = s.isl j := by
  simp [State.isl, State.setIsl, tabGetD, tabGet_set_other x h]

/-- Where no ISLAND_CONTROL waits on it, a transition sets the island's record and touches the standby's readiness. -/
theorem putState_entered {s : State} {i : Nat} (st : IslState) (h : NoControlWaits s i) :
    (putState s i st id).isl i = enteredState s i st ∧ (∀ j, j ≠ i → (putState s i st id).isl j = s.isl j) ∧
      Only [.regs, .islands, .switch, .twin, .chk] s (putState s i st id) := by
  have hfit := only_standbyFit (s.setIsl i (enteredState s i st)) i
  have hislands := hfit .islands (by simp)
  rw [putState_of_noControlWaits st h]
  refine ⟨?_, ?_, ?_⟩
  · rw [isl_of_islands_eq hislands, isl_setIsl_same]
  · intro j hj
    rw [isl_of_islands_eq hislands, isl_setIsl_other s _ hj]
  · exact Only.trans (Only.mono (only_setIsl s i _) (by simp)) (Only.mono hfit (by simp))

/-- The moderation holds that end as an island stops its clock (20 R536). -/
def holdsEnded (s : State) (i : Nat) : State :=
  if i = iSAGE then
    let t := s.setTarget 0 { s.target 0 with holdUntil := none }
    t.setTarget 1 { t.target 1 with holdUntil := none }
  else if i = iMGT then s.setTarget 2 { s.target 2 with holdUntil := none }
  else s

theorem only_holdsEnded (s : State) (i : Nat) : Only [.irq] s (holdsEnded s i) := by
  unfold holdsEnded
  dsimp only
  split
  · exact Only.trans (only_setTarget s 0 _) (only_setTarget _ 1 _)
  split
  · exact only_setTarget s 2 _
  · exact Only.refl _ s

theorem neverEnters_idle {i : Nat} (halm : i ≠ iALM) (htime : i ≠ iTIME) : neverEnters i .idle = false := by
  simp [neverEnters, halm, htime]

theorem idleEntry_enters {s : State} {i : Nat} (hi : i < 12) (halm : i ≠ iALM) (htime : i ≠ iTIME)
    (hrun : (s.isl i).state = .run) (hdrain : (s.isl i).draining = false) (hstop : s.rbit (rIslCtrl i) 4 = true)
    (hmove : s.mayMove i = true) (hwork : hasWork s i = false) :
    idleEntry s i = putState (holdsEnded s i) i .idle id := by
  simp only [idleEntry, hrun, hdrain, hstop, hmove, hwork, neverEnters_idle halm htime, Nat.not_le.mpr hi]
  rfl

/-- What `Obligations.IslandLifeEffect` says of an island that stops its clock, where no ISLAND_CONTROL waits on it. -/
theorem exec_islandIdleEntry_of_noControlWaits {s : State} {i : Nat} (hi : i < 12) (halm : i ≠ iALM) (htime : i ≠ iTIME)
    (hrun : (s.isl i).state = .run) (hdrain : (s.isl i).draining = false) (hstop : s.rbit (rIslCtrl i) 4 = true)
    (hmove : s.mayMove i = true) (hwork : hasWork s i = false) (hnone : NoControlWaits s i) :
    ∃ t, exec (.islandIdleEntry i) s = .next t ∧ (t.isl i).state = .idle ∧ (t.isl i).epoch = (s.isl i).epoch ∧
      Only [.regs, .islands, .switch, .twin, .irq, .chk] s t ∧ ∀ j, j ≠ i → (t.isl j).state = (s.isl j).state := by
  have hends := only_holdsEnded s i
  have hkept : (holdsEnded s i).isl = s.isl := funext fun j => isl_of_islands_eq (hends .islands (by simp)) j
  have hwaits : NoControlWaits (holdsEnded s i) i := by
    rw [NoControlWaits, hends .mail (by simp)]
    exact hnone
  obtain ⟨hself, hothers, honly⟩ := putState_entered .idle hwaits
  refine ⟨putState (holdsEnded s i) i .idle id, ?_, ?_, ?_, ?_, ?_⟩
  · exact congrArg Host.Outcome.next (idleEntry_enters hi halm htime hrun hdrain hstop hmove hwork)
  · rw [hself, enteredState]
  · rw [hself, enteredState, hkept]
  · exact Only.trans (Only.mono hends (by simp)) (Only.mono honly (by simp))
  · intro j hj
    rw [hothers j hj, hkept]

end Sys2Proof.Machine
end

section
/-! SETTLED. The life of an island. -/

namespace Sys2Proof.Certificates

open Sys2Proof.Machine Sys2Proof.Safety

/-- A session that has one record left to send: the next brings its counter to 2³² (04 R141). -/
def lastRecordSession : Session :=
  { stage := .established, id := 9, tenant := 0, role := 1, credential := 1, transcript := [], kemSeed := 0, keys := 2
    rxNext := 0, txNext := 2 ^ 32 - 1, heard := 0, kept := [] }

/-- An ISLAND_CONTROL of that session, pended, that asks VLT for RETAIN. -/
def retainRequest : Req :=
  { route := .session 4, command := 0x0E05, seq := 1, tag := 7, session := 9, more := false
    payload := leBytes 1 iVLT ++ leBytes 1 5 ++ leBytes 2 0, pended := true }

/-- Every island runs without work, and the request waits on VLT; the vault holds the session's keys. -/
def lastRecordOwed : State :=
  { islands := (List.range 12).map fun i => (i, { state := .run })
    mail := { sessions := [(4, lastRecordSession)], inProgress := [retainRequest] }
    vault := { sessKeys := [(2, [])] } }

/-- Refutes O46: its clause on IDLE lets the entry change `regs`, `islands`, `mail`, `switch`, `twin`, `irq` and `chk` alone,
not `vault`. An ISLAND_CONTROL that waits on the island is answered as the island comes to rest; where the response is the
last record its session may send (04 R141), the session closes, and the vault loses its keys. Where none waits the clause
holds (`exec_islandIdleEntry_of_noControlWaits`). -/
theorem not_islandLifeEffect : ¬ Obligations.IslandLifeEffect := by
  unfold Obligations.IslandLifeEffect
  intro hall
  have hrun : (lastRecordOwed.isl iVLT).state = .run := by decide
  have hdrain : (lastRecordOwed.isl iVLT).draining = false := by decide
  have hstop : lastRecordOwed.rbit (rIslCtrl iVLT) 4 = true := by decide
  have hmove : lastRecordOwed.mayMove iVLT = true := by decide
  have hwork : hasWork lastRecordOwed iVLT = false := by decide
  obtain ⟨-, -, -, -, -, -, -, -, -, hidle, -⟩ := hall lastRecordOwed
  obtain ⟨t, ht, -, -, honly, -⟩ := hidle iVLT (by decide) (by decide) (by decide) hrun hdrain hstop hmove hwork
  have hentry : idleEntry lastRecordOwed iVLT = t := Host.Outcome.next.inj ht
  have hvault : t.vault = lastRecordOwed.vault := honly .vault (by decide)
  have hlost : (idleEntry lastRecordOwed iVLT).vault.sessKeys = [] := by decide
  rw [hentry, hvault] at hlost
  exact absurd hlost (by decide)

end Sys2Proof.Certificates
end

section
/-! SUPPORT. Payloads and records of commands read field by field: numbers laid side by side as bytes are read back. -/

namespace Sys2Proof.Machine

/-- A field that stands at the front of a byte string. -/
@[simp] theorem fld_leBytes_append (n v : Nat) (p : List Byte) : fld (leBytes n v ++ p) 0 n = v % 256 ^ n := by
  simp [fld, leNat_leBytes]

@[simp] theorem fld_leBytes (n v : Nat) : fld (leBytes n v) 0 n = v % 256 ^ n := by
  simpa using fld_leBytes_append n v []

/-- A field behind the bytes of a number. -/
@[simp] theorem fld_append_of_le {k v off : Nat} (n : Nat) (p : List Byte) (h : k ≤ off) :
    fld (leBytes k v ++ p) off n = fld p (off - k) n := by
  simp [fld, List.drop_append, List.drop_eq_nil_of_le, h]

@[simp] theorem sub_append_of_le {k v off : Nat} (n : Nat) (p : List Byte) (h : k ≤ off) :
    sub (leBytes k v ++ p) off n = sub p (off - k) n := by
  simp [sub, List.drop_append, List.drop_eq_nil_of_le, h]

/-- Bytes from the front that make up a whole byte string. -/
theorem sub_zero_of_length {p : List Byte} {n : Nat} (h : p.length = n) : sub p 0 n = p := by
  simp [sub, ← h]

@[simp] theorem sub_leBytes_append (n v : Nat) (p : List Byte) : sub (leBytes n v ++ p) 0 n = leBytes n v := by
  simp [sub]

@[simp] theorem fld_drop (p : List Byte) (k off n : Nat) : fld (p.drop k) off n = fld p (k + off) n := by
  simp [fld, List.drop_drop]

@[simp] theorem allZero_leBytes : ∀ n : Nat, allZero (leBytes n 0) = true
  | 0 => rfl
  | n + 1 => by simpa [allZero, leBytes] using allZero_leBytes n

end Sys2Proof.Machine
end

section
/-! SUPPORT. The fabric's operations on one record (03 R81, R90, R104, R105): what a load, a judgement and a store of a
record leave of the state, and what they answer for a sound record. -/

namespace Sys2Proof.Machine

open Sys2Proof.Safety

/-! ### Parts that stay -/

/-- What two steps may touch, their sequence may touch. -/
theorem Only.seq {ps qs : List StatePart} {a b c : State} (h : Only ps a b) (k : Only qs b c) : Only (ps ++ qs) a c :=
  Only.trans (Only.mono h fun _ hp => List.mem_append_left qs hp) (Only.mono k fun _ hp => List.mem_append_right ps hp)

theorem only_fabric (s : State) (f : Fabric) : Only [.fabric] s { s with fabric := f } := by
  intro p hp
  cases p
  case fabric => simp at hp
  all_goals rfl

theorem only_harvest (s : State) (h : Harvest) : Only [.harvest] s { s with harvest := h } := by
  intro p hp
  cases p
  case harvest => simp at hp
  all_goals rfl

theorem only_chkLoaded (s : State) (c n : Nat) (v : Word) (made : Bool) : Only [.chk] s (s.chkLoaded c n v made) := by
  intro p hp
  cases p
  case chk => simp at hp
  all_goals rfl

/-! ### Readings that depend on the fabric alone -/

theorem point_of_store {s t : State} (h : t.fabric.store = s.fabric.store) (pt : Nat) : t.point pt = s.point pt := by
  rw [State.point, h, State.point]

theorem defined_of_store {s t : State} (h : t.fabric.store = s.fabric.store) (pt : Nat) : t.defined pt = s.defined pt := by
  rw [State.defined, h, State.defined]

theorem forceIndex_of_forces {s t : State} (h : t.fabric.forces = s.fabric.forces) (pt : Nat) :
    forceIndex t pt = forceIndex s pt := by
  rw [forceIndex, h, forceIndex]

theorem forceOf_of_forces {s t : State} (h : t.fabric.forces = s.fabric.forces) (pt : Nat) : forceOf t pt = forceOf s pt := by
  rw [forceOf, h, forceOf]

theorem rightsOf_of_shares {s t : State} (h : t.fabric.shares = s.fabric.shares) (r : PointRec) (tenant : Nat) :
    rightsOf t r tenant = rightsOf s r tenant := by
  rw [rightsOf, h, rightsOf]

/-! ### Loading a record -/

/-- A load finds nothing to mark: the record is undefined, failed already, or its check value is right (R105). -/
def Intact (s : State) (pt : Nat) : Prop :=
  s.defined pt = true → s.failedPt pt = false → (s.point pt).check = (s.point pt).right

theorem intact_of_sound {s : State} {pt : Nat} (h : Sound s pt) : Intact s pt := fun _ _ => h.2.2.2.1

/-- The fabric with the record cache as an access leaves it (R104; log 15). -/
def Fabric.touched (f : Fabric) (cache : Tab (List Nat)) (turn misses : Nat) (stuck : Bool) : Fabric :=
  { f with cache := cache, cacheTurn := turn, misses := misses, missStuck := stuck }

/-- A load changes the record cache and check channel 9, and marks a record whose check value is wrong. -/
theorem loadPoint_cases (s : State) (pt : Nat) : ∃ cache turn misses stuck made,
    loadPoint s pt =
      let t : State := { s with fabric := s.fabric.touched cache turn misses stuck }
      if s.defined pt && (s.point pt).check != (s.point pt).right && !s.failedPt pt then
        markFailed (t.chkUnit 9 28 (s.point pt).check false) pt
      else t.chkLoaded 9 28 (s.point pt).check made :=
  ⟨_, _, _, _, _, rfl⟩

theorem loadPoint_of_intact {s : State} {pt : Nat} (h : Intact s pt) : ∃ cache turn misses stuck made,
    loadPoint s pt = ({ s with fabric := s.fabric.touched cache turn misses stuck } : State).chkLoaded 9 28
      (s.point pt).check made := by
  obtain ⟨cache, turn, misses, stuck, made, hload⟩ := loadPoint_cases s pt
  refine ⟨cache, turn, misses, stuck, made, hload.trans (if_neg ?_)⟩
  intro hbad
  simp only [Bool.and_eq_true, bne_iff_ne, Bool.not_eq_true'] at hbad
  exact hbad.1.2 (h hbad.1.1 hbad.2)

theorem only_markFailed (s : State) (pt : Nat) : Only [.regs, .fabric] s (markFailed s pt) := by
  unfold markFailed
  split
  · exact Only.refl _ s
  · exact Only.mono (Only.seq (only_fabric s _) (Only.seq (only_stick _ rPfChkFail rPfEvent 4 1)
      (Only.seq (only_raise _ rPfEvent 0) (only_setReg _ rPfLastChk _)))) (by decide)

theorem only_loadPoint (s : State) (pt : Nat) : Only [.regs, .fabric, .chk] s (loadPoint s pt) := by
  obtain ⟨cache, turn, misses, stuck, made, hload⟩ := loadPoint_cases s pt
  rw [hload]
  dsimp only
  split
  · exact Only.mono (Only.seq (only_fabric s _) (Only.seq (only_chkUnit _ 9 28 _ false) (only_markFailed _ pt))) (by decide)
  · exact Only.mono (Only.seq (only_fabric s _) (only_chkLoaded _ 9 28 _ made)) (by decide)

theorem only_loadPoint_of_intact {s : State} {pt : Nat} (h : Intact s pt) : Only [.fabric, .chk] s (loadPoint s pt) := by
  obtain ⟨cache, turn, misses, stuck, made, hload⟩ := loadPoint_of_intact h
  rw [hload]
  exact Only.seq (only_fabric s _) (only_chkLoaded _ 9 28 _ made)

theorem markFailed_fabric (s : State) (pt : Nat) : ∃ failed, (markFailed s pt).fabric = { s.fabric with failed := failed } := by
  unfold markFailed
  split
  · exact ⟨s.fabric.failed, rfl⟩
  · exact ⟨pt :: s.fabric.failed, (setReg_fabric ..).trans ((raise_fabric ..).trans (stick_fabric ..))⟩

/-- A load leaves of the fabric everything but the record cache and the marks. -/
theorem loadPoint_fabric (s : State) (pt : Nat) : ∃ cache turn misses stuck failed,
    (loadPoint s pt).fabric = { s.fabric.touched cache turn misses stuck with failed := failed } := by
  obtain ⟨cache, turn, misses, stuck, made, hload⟩ := loadPoint_cases s pt
  rw [hload]
  dsimp only
  split
  · obtain ⟨failed, hmark⟩ := markFailed_fabric
      (({ s with fabric := s.fabric.touched cache turn misses stuck } : State).chkUnit 9 28 (s.point pt).check false) pt
    exact ⟨cache, turn, misses, stuck, failed, by rw [hmark, chkUnit_fabric]⟩
  · exact ⟨cache, turn, misses, stuck, s.fabric.failed, rfl⟩

theorem loadPoint_field {α : Type} (f : Fabric → α) (s : State) (pt : Nat)
    (h : ∀ cache turn misses stuck failed, f { s.fabric.touched cache turn misses stuck with failed := failed } = f s.fabric) :
    f (loadPoint s pt).fabric = f s.fabric := by
  obtain ⟨cache, turn, misses, stuck, failed, hf⟩ := loadPoint_fabric s pt
  rw [hf, h]

@[simp] theorem loadPoint_store (s : State) (pt : Nat) : (loadPoint s pt).fabric.store = s.fabric.store :=
  loadPoint_field Fabric.store s pt fun _ _ _ _ _ => rfl
@[simp] theorem loadPoint_forces (s : State) (pt : Nat) : (loadPoint s pt).fabric.forces = s.fabric.forces :=
  loadPoint_field Fabric.forces s pt fun _ _ _ _ _ => rfl
@[simp] theorem loadPoint_shares (s : State) (pt : Nat) : (loadPoint s pt).fabric.shares = s.fabric.shares :=
  loadPoint_field Fabric.shares s pt fun _ _ _ _ _ => rfl
@[simp] theorem loadPoint_slices (s : State) (pt : Nat) : (loadPoint s pt).fabric.slices = s.fabric.slices :=
  loadPoint_field Fabric.slices s pt fun _ _ _ _ _ => rfl
@[simp] theorem loadPoint_places (s : State) (pt : Nat) : (loadPoint s pt).fabric.places = s.fabric.places :=
  loadPoint_field Fabric.places s pt fun _ _ _ _ _ => rfl
@[simp] theorem loadPoint_saveDue (s : State) (pt : Nat) : (loadPoint s pt).fabric.saveDue = s.fabric.saveDue :=
  loadPoint_field Fabric.saveDue s pt fun _ _ _ _ _ => rfl
@[simp] theorem loadPoint_forceDue (s : State) (pt : Nat) : (loadPoint s pt).fabric.forceDue = s.fabric.forceDue :=
  loadPoint_field Fabric.forceDue s pt fun _ _ _ _ _ => rfl
@[simp] theorem loadPoint_imageQueue (s : State) (pt : Nat) : (loadPoint s pt).fabric.imageQueue = s.fabric.imageQueue :=
  loadPoint_field Fabric.imageQueue s pt fun _ _ _ _ _ => rfl
@[simp] theorem loadPoint_devices (s : State) (pt : Nat) : (loadPoint s pt).fabric.devices = s.fabric.devices :=
  loadPoint_field Fabric.devices s pt fun _ _ _ _ _ => rfl
@[simp] theorem loadPoint_defs (s : State) (pt : Nat) : (loadPoint s pt).fabric.defs = s.fabric.defs :=
  loadPoint_field Fabric.defs s pt fun _ _ _ _ _ => rfl

theorem loadPoint_failed_of_intact {s : State} {pt : Nat} (h : Intact s pt) :
    (loadPoint s pt).fabric.failed = s.fabric.failed := by
  obtain ⟨cache, turn, misses, stuck, made, hload⟩ := loadPoint_of_intact h
  rw [hload]
  rfl

@[simp] theorem loadPoint_point (s : State) (pt k : Nat) : (loadPoint s pt).point k = s.point k := point_of_store (by simp) k
@[simp] theorem loadPoint_defined (s : State) (pt k : Nat) : (loadPoint s pt).defined k = s.defined k :=
  defined_of_store (by simp) k
@[simp] theorem loadPoint_forceIndex (s : State) (pt k : Nat) : forceIndex (loadPoint s pt) k = forceIndex s k :=
  forceIndex_of_forces (by simp) k
@[simp] theorem loadPoint_forceOf (s : State) (pt k : Nat) : forceOf (loadPoint s pt) k = forceOf s k :=
  forceOf_of_forces (by simp) k
@[simp] theorem loadPoint_rightsOf (s : State) (pt : Nat) (r : PointRec) (tenant : Nat) :
    rightsOf (loadPoint s pt) r tenant = rightsOf s r tenant := rightsOf_of_shares (by simp) r tenant

theorem loadPoint_tai (s : State) (pt : Nat) : (loadPoint s pt).tai = s.tai := by
  rw [State.tai, only_loadPoint s pt .clock (by decide), State.tai]

theorem failedPt_loadPoint_of_intact {s : State} {pt : Nat} (h : Intact s pt) (k : Nat) :
    (loadPoint s pt).failedPt k = s.failedPt k := by
  rw [State.failedPt, loadPoint_failed_of_intact h, State.failedPt]

/-- A load of a sound record leaves it sound. -/
theorem sound_loadPoint {s : State} {pt : Nat} (h : Sound s pt) : Sound (loadPoint s pt) pt := by
  simpa [Sound, failedPt_loadPoint_of_intact (intact_of_sound h)] using h

/-! ### Judging a record (R90) -/

/-- The right that an access asks for, as a bit of Table 3.5 (R90). -/
def FabOp.right : FabOp → Nat
  | .read => 0
  | .write => 1
  | .force => 2
  | .linkSeries => 3

theorem ne_zero_of_bitOf {v i : Nat} (h : bitOf v i = true) : v ≠ 0 := by
  rintro rfl
  simp [bitOf] at h

/-- A sound record grants what its tenant has the right to; a write also needs that no other writer holds it claimed. -/
theorem judge_granted {s : State} {pt tenant writer : Nat} {op : FabOp} (hs : Sound s pt)
    (hright : bitOf (rightsOf s (s.point pt) tenant) op.right = true)
    (hclaim : op = .write → (s.point pt).flag fLocked = false ∨ (s.point pt).writer = writer) :
    judge s pt tenant writer op = stOk := by
  obtain ⟨-, -, hfailed, -, howner⟩ := hs
  have hsome := ne_zero_of_bitOf hright
  cases op <;> simp only [FabOp.right] at hright <;> simp [judge, hfailed, howner, hsome, hright]
  rcases hclaim rfl with h | h <;> simp [h]

theorem judge_without_rights {s : State} {pt tenant : Nat} (writer : Nat) (op : FabOp) (hs : Sound s pt)
    (hnone : rightsOf s (s.point pt) tenant = 0) : judge s pt tenant writer op = stTenantMismatch := by
  obtain ⟨-, -, hfailed, -, howner⟩ := hs
  simp [judge, hfailed, howner, hnone]

theorem judge_loadPoint_of_sound {s : State} {pt : Nat} (tenant writer : Nat) (op : FabOp) (hs : Sound s pt) :
    judge (loadPoint s pt) pt tenant writer op = judge s pt tenant writer op := by
  obtain ⟨-, -, hfailed, -, -⟩ := sound_loadPoint hs
  obtain ⟨-, -, hfailed', -, -⟩ := hs
  simp [judge, hfailed, hfailed']

/-- A sound record is loaded and judged; a refusal is counted (R90). -/
theorem judged_sound {s : State} {pt : Nat} (tenant writer : Nat) (op : FabOp) (hs : Sound s pt) :
    judged s pt tenant writer op = (judge s pt tenant writer op,
      if judge s pt tenant writer op = stOk then loadPoint s pt
      else (loadPoint s pt).stick rPfDenied rPfEvent 4) := by
  simp [judged, Nat.not_le.mpr hs.1, judge_loadPoint_of_sound tenant writer op hs]

theorem judged_granted {s : State} {pt tenant writer : Nat} {op : FabOp} (hs : Sound s pt)
    (hright : bitOf (rightsOf s (s.point pt) tenant) op.right = true)
    (hclaim : op = .write → (s.point pt).flag fLocked = false ∨ (s.point pt).writer = writer) :
    judged s pt tenant writer op = (stOk, loadPoint s pt) := by
  rw [judged_sound tenant writer op hs, judge_granted hs hright hclaim, if_pos rfl]

/-! ### Storing a record -/

theorem only_storePoint (s : State) (pt : Nat) (r : PointRec) : Only [.fabric, .chk] s (s.storePoint pt r) :=
  Only.seq (only_fabric s _) (only_chkUnit _ 8 28 _ true)

theorem only_dueSave (s : State) (pt : Nat) : Only [.fabric] s (s.dueSave pt) := by
  unfold State.dueSave
  split
  · exact only_fabric s _
  · exact Only.refl _ s

theorem only_putPoint (s : State) (pt : Nat) (r : PointRec) : Only [.fabric, .chk] s (s.putPoint pt r) :=
  Only.mono (Only.seq (only_storePoint s pt r) (only_dueSave _ pt)) (by decide)

theorem storePoint_fabric (s : State) (pt : Nat) (r : PointRec) :
    (s.storePoint pt r).fabric = { s.fabric with store := tabSet s.fabric.store pt r.sealed } := by
  simp [State.storePoint]

theorem dueSave_fabric (s : State) (pt : Nat) : ∃ due, (s.dueSave pt).fabric = { s.fabric with saveDue := due } := by
  unfold State.dueSave
  split
  · exact ⟨_, rfl⟩
  · exact ⟨s.fabric.saveDue, rfl⟩

/-- A record that is altered stands in the store with its check value; its save may be pending. -/
theorem putPoint_fabric (s : State) (pt : Nat) (r : PointRec) : ∃ due,
    (s.putPoint pt r).fabric = { s.fabric with store := tabSet s.fabric.store pt r.sealed, saveDue := due } := by
  obtain ⟨due, h⟩ := dueSave_fabric (s.storePoint pt r) pt
  exact ⟨due, by rw [State.putPoint, h, storePoint_fabric]⟩

@[simp] theorem putPoint_store (s : State) (pt : Nat) (r : PointRec) :
    (s.putPoint pt r).fabric.store = tabSet s.fabric.store pt r.sealed := by
  obtain ⟨due, h⟩ := putPoint_fabric s pt r
  rw [h]

@[simp] theorem putPoint_forces (s : State) (pt : Nat) (r : PointRec) : (s.putPoint pt r).fabric.forces = s.fabric.forces := by
  obtain ⟨due, h⟩ := putPoint_fabric s pt r
  rw [h]

@[simp] theorem putPoint_devices (s : State) (pt : Nat) (r : PointRec) : (s.putPoint pt r).fabric.devices = s.fabric.devices := by
  obtain ⟨due, h⟩ := putPoint_fabric s pt r
  rw [h]

@[simp] theorem putPoint_imageQueue (s : State) (pt : Nat) (r : PointRec) :
    (s.putPoint pt r).fabric.imageQueue = s.fabric.imageQueue := by
  obtain ⟨due, h⟩ := putPoint_fabric s pt r
  rw [h]

theorem point_of_tabSet {s t : State} {pt : Nat} {r : PointRec} (h : t.fabric.store = tabSet s.fabric.store pt r) :
    t.point pt = r := by
  simp [State.point, h]

theorem point_of_tabSet_other {s t : State} {pt x : Nat} {r : PointRec} (h : t.fabric.store = tabSet s.fabric.store pt r)
    (hx : x ≠ pt) : t.point x = s.point x := by
  simp [State.point, h, tabGet_set_other r hx]

@[simp] theorem putPoint_point_same (s : State) (pt : Nat) (r : PointRec) : (s.putPoint pt r).point pt = r.sealed :=
  point_of_tabSet (putPoint_store s pt r)

theorem putPoint_point_other (s : State) {pt x : Nat} (r : PointRec) (hx : x ≠ pt) :
    (s.putPoint pt r).point x = s.point x :=
  point_of_tabSet_other (putPoint_store s pt r) hx

end Sys2Proof.Machine
end

section
/-! SUPPORT. Reads, writes and forces at the fabric (03 R84, R85, R96, R97): what they answer and store for a sound record,
and what else they touch. -/

namespace Sys2Proof.Machine

open Sys2Proof.Safety

/-! ### Shipping to the partner (16 R451, R458) -/

theorem only_twinSeq (s : State) (kind : Nat) : Only [.twin] s (twinSeq s kind).2 := only_twin s _

theorem only_twinFrame (s : State) (kind seq frag : Nat) (last : Bool) (body : List Byte) :
    Only [.regs, .switch, .chk] s (twinFrame s kind seq frag last body) :=
  Only.mono (Only.seq (only_chkUnit s 4 _ _ true) (only_enqueue _ 2 7 _ .none)) (by decide)

theorem only_twinFragments (seq : Nat) : ∀ (bodies : List (List Byte)) (s : State) (k : Nat),
    Only [.regs, .switch, .chk] s (twinFragments s seq k bodies)
  | [], s, _ => Only.refl _ s
  | [b], s, k => only_twinFrame s 0x10 seq k true b
  | b :: c :: rest, s, k =>
    Only.trans (only_twinFrame s 0x10 seq k false b) (only_twinFragments seq (c :: rest) _ (k + 1))

theorem only_shipNow (s : State) (body : List Byte) : Only [.regs, .switch, .twin, .chk] s (shipNow s body) :=
  Only.mono (Only.seq (only_twinSeq s 0x10) (only_twinFragments _ (chunks 2000 256 body) _ 0)) (by decide)

theorem only_ship (s : State) (records : List (List Byte)) : Only [.regs, .switch, .twin, .chk] s (ship s records) := by
  unfold ship
  dsimp only
  split
  · split
    · exact only_shipNow s _
    · exact Only.mono (only_twin s _) (by decide)
  · exact Only.refl _ s

theorem only_shipForce (s : State) (i : Nat) (f : Force) (flag : Nat) (value : Word64) :
    Only [.regs, .switch, .twin, .chk] s (shipForce s i f flag value) := only_ship s _

@[simp] theorem shipForce_fabric (s : State) (i : Nat) (f : Force) (flag : Nat) (value : Word64) :
    (shipForce s i f flag value).fabric = s.fabric := only_shipForce s i f flag value .fabric (by decide)

/-! ### Samples and the journal -/

theorem only_queueSample (s : State) (x : HvSample) : Only [.regs, .harvest] s (queueSample s x) := by
  unfold queueSample
  split
  · exact Only.mono (only_harvest s _) (by decide)
  · exact Only.mono (Only.seq (only_stick s rHvDropped rHvEvent 6 1) (only_raise _ rHvEvent 2)) (by decide)

/-- What every step of a fold may touch, the fold may touch. -/
theorem only_foldl {α : Type} {ps : List StatePart} (f : State → α → State) (h : ∀ s a, Only ps s (f s a)) :
    ∀ (l : List α) (s : State), Only ps s (l.foldl f s)
  | [], s => Only.refl ps s
  | a :: l, s => Only.trans (h s a) (only_foldl f h l (f s a))

theorem only_sampleWrite (s : State) (pt type quality : Nat) (value : Word64) (time : Nat) :
    Only [.regs, .harvest] s (sampleWrite s pt type quality value time) := by
  unfold sampleWrite
  split
  · exact only_foldl _ (fun s k => only_queueSample s _) _ s
  · exact Only.refl _ s

@[simp] theorem sampleWrite_fabric (s : State) (pt type quality : Nat) (value : Word64) (time : Nat) :
    (sampleWrite s pt type quality value time).fabric = s.fabric :=
  only_sampleWrite s pt type quality value time .fabric (by decide)

theorem only_journalWrite (s : State) (pt writer : Nat) : Only [.twin] s (journalWrite s pt writer) := by
  unfold journalWrite
  dsimp only
  split
  · exact only_twin s _
  · exact Only.refl _ s

@[simp] theorem journalWrite_fabric (s : State) (pt writer : Nat) : (journalWrite s pt writer).fabric = s.fabric :=
  only_journalWrite s pt writer .fabric (by decide)

/-! ### The force table -/

theorem only_dueForce (s : State) (i : Nat) : Only [.fabric] s (s.dueForce i) := by
  unfold State.dueForce
  split
  · exact Only.refl _ s
  · exact only_fabric s _

theorem dueForce_fabric (s : State) (i : Nat) : ∃ due, (s.dueForce i).fabric = { s.fabric with forceDue := due } := by
  unfold State.dueForce
  split
  · exact ⟨s.fabric.forceDue, rfl⟩
  · exact ⟨_, rfl⟩

theorem only_setForce (s : State) (i : Nat) (f : Force) : Only [.fabric] s (setForce s i f) :=
  Only.mono (Only.seq (only_fabric s _) (Only.seq (only_dueForce _ i) (only_dueSave _ f.pt))) (by decide)

/-- A changed force entry stands in the table; its save, and that of a retentive point, may be pending. -/
theorem setForce_fabric (s : State) (i : Nat) (f : Force) : ∃ due saves,
    (setForce s i f).fabric = { s.fabric with forces := tabSet s.fabric.forces i f, forceDue := due, saveDue := saves } := by
  let t : State := { s with fabric := { s.fabric with forces := tabSet s.fabric.forces i f } }
  obtain ⟨due, hdue⟩ := dueForce_fabric t i
  obtain ⟨saves, hsaves⟩ := dueSave_fabric (t.dueForce i) f.pt
  exact ⟨due, saves, by rw [setForce, hsaves, hdue]⟩

@[simp] theorem setForce_store (s : State) (i : Nat) (f : Force) : (setForce s i f).fabric.store = s.fabric.store := by
  obtain ⟨due, saves, h⟩ := setForce_fabric s i f
  rw [h]

@[simp] theorem setForce_forces (s : State) (i : Nat) (f : Force) :
    (setForce s i f).fabric.forces = tabSet s.fabric.forces i f := by
  obtain ⟨due, saves, h⟩ := setForce_fabric s i f
  rw [h]

@[simp] theorem setForce_imageQueue (s : State) (i : Nat) (f : Force) :
    (setForce s i f).fabric.imageQueue = s.fabric.imageQueue := by
  obtain ⟨due, saves, h⟩ := setForce_fabric s i f
  rw [h]

theorem only_dropForce (s : State) (i : Nat) : Only [.fabric] s (dropForce s i) :=
  Only.mono (Only.seq (only_fabric s _) (only_dueForce _ i)) (by decide)

/-- A freed force entry leaves the table; the save of its place may be pending. -/
theorem dropForce_fabric (s : State) (i : Nat) : ∃ due,
    (dropForce s i).fabric = { s.fabric with forces := tabDel s.fabric.forces i, forceDue := due } :=
  dueForce_fabric { s with fabric := { s.fabric with forces := tabDel s.fabric.forces i } } i

@[simp] theorem dropForce_store (s : State) (i : Nat) : (dropForce s i).fabric.store = s.fabric.store := by
  obtain ⟨due, h⟩ := dropForce_fabric s i
  rw [h]

@[simp] theorem dropForce_failed (s : State) (i : Nat) : (dropForce s i).fabric.failed = s.fabric.failed := by
  obtain ⟨due, h⟩ := dropForce_fabric s i
  rw [h]

@[simp] theorem dropForce_forces (s : State) (i : Nat) : (dropForce s i).fabric.forces = tabDel s.fabric.forces i := by
  obtain ⟨due, h⟩ := dropForce_fabric s i
  rw [h]

/-! ### Reads -/

/-- A permitted read of a sound record answers its value and quality, or those of its force (R85, R96). -/
theorem fabRead_granted {s : State} {pt tenant : Nat} (hs : Sound s pt)
    (hright : bitOf (rightsOf s (s.point pt) tenant) 0 = true) :
    fabRead s tenant pt = (readValue s pt, loadPoint s pt) := by
  have hjudged : judged s pt tenant 0 .read = (stOk, loadPoint s pt) := judged_granted hs hright (by simp)
  obtain ⟨-, -, hfailed, -, -⟩ := sound_loadPoint hs
  obtain ⟨-, -, hfailed', -, -⟩ := hs
  simp [fabRead, hjudged, readValue, hfailed, hfailed']

theorem readValue_unforced {s : State} {pt : Nat} (hs : Sound s pt) (hforce : forceOf s pt = none) :
    readValue s pt = { status := stOk, type := (s.point pt).type, quality := (s.point pt).quality
                       value := (s.point pt).value, time := (s.point pt).time } := by
  obtain ⟨-, -, hfailed, -, -⟩ := hs
  simp [readValue, hfailed, hforce]

theorem readValue_forced {s : State} {pt : Nat} {f : Force} (hs : Sound s pt) (hforce : forceOf s pt = some f) :
    readValue s pt = { status := stOk, type := (s.point pt).type, quality := qForced, value := f.value, time := f.time } := by
  obtain ⟨-, -, hfailed, -, -⟩ := hs
  simp [readValue, hfailed, hforce]

/-- A read without rights on a sound record is refused and counted (R90). -/
theorem fabRead_without_rights {s : State} {pt tenant : Nat} (hs : Sound s pt)
    (hnone : rightsOf s (s.point pt) tenant = 0) :
    fabRead s tenant pt = (FabRes.refused stTenantMismatch, (loadPoint s pt).stick rPfDenied rPfEvent 4) := by
  simp [fabRead, judged_sound tenant 0 .read hs, judge_without_rights 0 .read hs hnone]

/-! ### Writes -/

/-- The instant a write stores: for TIME 0, that at which it is performed (05 Table 5.4). -/
def writeTime (s : State) (time : Nat) : Nat := if time = 0 then s.tai else time

/-- The record that a write of an unforced point leaves (R85; log 28). -/
def PointRec.written (r : PointRec) (writer quality : Nat) (value : Word64) (time : Nat) : PointRec :=
  { r with value := typed r.type value, time := time, quality := quality, writer := writer }

/-- The state in which a permitted write is stored: the record loaded, the write sampled for its series. -/
def sampledWrite (s : State) (pt quality : Nat) (value : Word64) (time : Nat) : State :=
  sampleWrite (loadPoint s pt) pt (s.point pt).type quality (typed (s.point pt).type value) time

theorem only_sampledWrite {s : State} {pt : Nat} (hs : Sound s pt) (quality : Nat) (value : Word64) (time : Nat) :
    Only [.regs, .fabric, .harvest, .chk] s (sampledWrite s pt quality value time) :=
  Only.mono (Only.seq (only_loadPoint_of_intact (intact_of_sound hs)) (only_sampleWrite _ pt _ quality _ time)) (by decide)

/-- What a permitted write of the right type may ask for (05 Table 5.4). -/
def WriteQuality (quality : Nat) : Prop := quality = qGood ∨ quality = qSubstituted ∨ quality = qOutOfRange

theorem fabWrite_granted {s : State} {pt tenant writer quality time : Nat} {value : Word64} (hs : Sound s pt)
    (hright : bitOf (rightsOf s (s.point pt) tenant) 1 = true)
    (hclaim : (s.point pt).flag fLocked = false ∨ (s.point pt).writer = writer) (hquality : WriteQuality quality)
    (htime : time < 2 ^ 64) :
    fabWrite s tenant writer pt (s.point pt).type quality value time =
      (stOk, journalWrite (performWrite (loadPoint s pt) pt writer quality value (writeTime s time)) pt writer) := by
  have hjudged : judged s pt tenant writer .write = (stOk, loadPoint s pt) := judged_granted hs hright fun _ => hclaim
  obtain ⟨-, -, hfailed, -, -⟩ := sound_loadPoint hs
  have hq : ¬(quality ≠ qGood ∧ quality ≠ qSubstituted ∧ quality ≠ qOutOfRange) := by
    rcases hquality with h | h | h <;> simp [h]
  have hmod : time % 18446744073709551616 = time := Nat.mod_eq_of_lt htime
  simp [fabWrite, hjudged, hq, hfailed, loadPoint_tai, hmod, writeTime]

/-- A write without rights on a sound record is refused and counted (R90). -/
theorem fabWrite_without_rights {s : State} {pt tenant : Nat} (writer type quality : Nat) (value : Word64) (time : Nat)
    (hs : Sound s pt) (hnone : rightsOf s (s.point pt) tenant = 0) :
    fabWrite s tenant writer pt type quality value time =
      (stTenantMismatch, (loadPoint s pt).stick rPfDenied rPfEvent 4) := by
  simp [fabWrite, judged_sound tenant writer .write hs, judge_without_rights writer .write hs hnone]

theorem performWrite_unforced {s : State} {pt : Nat} (writer quality : Nat) (value : Word64) (time : Nat)
    (hindex : forceIndex s pt = none) :
    performWrite (loadPoint s pt) pt writer quality value time =
      (sampledWrite s pt quality value time).putPoint pt ((s.point pt).written writer quality value time) := by
  have hindex' : forceIndex (sampledWrite s pt quality value time) pt = none := by
    rw [← hindex]
    exact forceIndex_of_forces (by simp [sampledWrite]) pt
  simp only [sampledWrite] at hindex'
  simp [performWrite, sampledWrite, PointRec.written, hindex']

/-- The force entry that a write of its point leaves (R96). -/
def Force.written (f : Force) (type quality : Nat) (value : Word64) (time : Nat) : Force :=
  { f with entryValue := typed type value, entryTime := time, entryQuality := quality }

theorem performWrite_forced {s : State} {pt i : Nat} {f : Force} (writer quality : Nat) (value : Word64) (time : Nat)
    (hindex : forceIndex s pt = some i) (hforce : forceOf s pt = some f) :
    performWrite (loadPoint s pt) pt writer quality value time =
      shipForce (setForce (sampledWrite s pt quality value time) i (f.written (s.point pt).type quality value time)) i
        (f.written (s.point pt).type quality value time) 4 (typed (s.point pt).type value) := by
  have hforces : (sampledWrite s pt quality value time).fabric.forces = s.fabric.forces := by simp [sampledWrite]
  have hindex' := (forceIndex_of_forces hforces pt).trans hindex
  have hforce' := (forceOf_of_forces hforces pt).trans hforce
  simp only [sampledWrite] at hindex' hforce'
  simp [performWrite, sampledWrite, Force.written, hindex', hforce']

/-- What a performed write of an unforced sound point leaves: that record and no other, the forces as they were. -/
structure WroteRecord (s w : State) (pt : Nat) (r : PointRec) : Prop where
  record : w.point pt = r.sealed
  others : ∀ x, x ≠ pt → w.point x = s.point x
  forces : w.fabric.forces = s.fabric.forces
  queue : w.fabric.imageQueue = s.fabric.imageQueue
  only : Only [.regs, .fabric, .harvest, .twin, .chk] s w

theorem fabWrite_unforced {s : State} {pt tenant writer quality time : Nat} {value : Word64} (hs : Sound s pt)
    (hright : bitOf (rightsOf s (s.point pt) tenant) 1 = true)
    (hclaim : (s.point pt).flag fLocked = false ∨ (s.point pt).writer = writer) (hquality : WriteQuality quality)
    (htime : time < 2 ^ 64) (hindex : forceIndex s pt = none) :
    ∃ w, fabWrite s tenant writer pt (s.point pt).type quality value time = (stOk, w) ∧
      WroteRecord s w pt ((s.point pt).written writer quality value (writeTime s time)) := by
  refine ⟨_, fabWrite_granted hs hright hclaim hquality htime, ?_⟩
  rw [performWrite_unforced writer quality value (writeTime s time) hindex]
  have hstore : (sampledWrite s pt quality value (writeTime s time)).fabric.store = s.fabric.store := by simp [sampledWrite]
  refine ⟨?_, fun x hx => ?_, ?_, ?_, ?_⟩
  · exact point_of_tabSet (s := s) (by simp [hstore])
  · exact point_of_tabSet_other (s := s) (by simp [hstore]; rfl) hx
  · simp [sampledWrite]
  · simp [sampledWrite]
  · exact Only.mono (Only.seq (only_sampledWrite hs quality value _)
      (Only.seq (only_putPoint _ pt _) (only_journalWrite _ pt writer))) (by decide)

/-- What a performed write of a forced sound point leaves: the force entry changed, the store as it was (R96). -/
structure WroteForce (s w : State) (i : Nat) (f : Force) : Prop where
  entry : tabGet w.fabric.forces i = some f
  store : w.fabric.store = s.fabric.store
  only : Only [.regs, .fabric, .harvest, .switch, .twin, .chk] s w

theorem fabWrite_forced {s : State} {pt tenant writer quality time i : Nat} {value : Word64} {f : Force} (hs : Sound s pt)
    (hright : bitOf (rightsOf s (s.point pt) tenant) 1 = true)
    (hclaim : (s.point pt).flag fLocked = false ∨ (s.point pt).writer = writer) (hquality : WriteQuality quality)
    (htime : time < 2 ^ 64) (hindex : forceIndex s pt = some i) (hforce : forceOf s pt = some f) :
    ∃ w, fabWrite s tenant writer pt (s.point pt).type quality value time = (stOk, w) ∧
      WroteForce s w i (f.written (s.point pt).type quality value (writeTime s time)) := by
  refine ⟨_, fabWrite_granted hs hright hclaim hquality htime, ?_⟩
  rw [performWrite_forced writer quality value (writeTime s time) hindex hforce]
  refine ⟨by simp, by simp [sampledWrite], ?_⟩
  exact Only.mono (Only.seq (only_sampledWrite hs quality value _) (Only.seq (only_setForce _ i _)
    (Only.seq (only_shipForce _ i _ 4 _) (only_journalWrite _ pt writer)))) (by decide)

end Sys2Proof.Machine
end

section
/-! SUPPORT. Commands of Steward that ask the fabric about one point (05 R156, R157): the crossing, and a list of one entry. -/

namespace Sys2Proof.Machine

open Sys2Proof.Safety

/-- A request that an island's open port performs answers what the island answers; a failure is the requester's last (R46). -/
theorem crossing_answers {α : Type} {s w : State} {src dst : Nat} (source : Nat) (refused : Nat → α) {statusOf : α → Nat}
    {f : State → α × State} {a : α} (hne : src ≠ dst) (hrun : (s.isl dst).state = .run)
    (hdrain : (s.isl dst).draining = false) (hepoch : s.epochOf src dst = 0 ∨ s.epochOf src dst = (s.isl dst).epoch)
    (hf : f (s.noteEpoch src dst (s.isl dst).epoch) = (a, w)) :
    crossing s src dst source refused statusOf f = (a, w.lastError src dst source (statusOf a)) := by
  rw [crossing_performed source refused statusOf f fun _ => ⟨hrun, hdrain, hepoch⟩, if_neg hne.symm]
  simp [hf]

/-- A request of Sage core 0 that the open island performs with OK. -/
theorem crossing_open_ok {α : Type} {s w : State} {i : Nat} (source : Nat) (refused : Nat → α) {statusOf : α → Nat}
    {f : State → α × State} {a : α} (h : Open s i) (hf : f (crossed s i) = (a, w)) (hok : statusOf a = stOk) :
    crossing s iSAGE i source refused statusOf f = (a, w) := by
  obtain ⟨hne, hrun, hdrain, hepoch⟩ := h
  rw [crossing_answers source refused hne.symm hrun hdrain hepoch hf, hok, lastError_ok]

theorem crossStatus_open_ok {s w : State} {i : Nat} (source : Nat) (f : State → Nat × State) (h : Open s i)
    (hf : f (crossed s i) = (stOk, w)) : crossStatus s iSAGE i source f = (stOk, w) :=
  crossing_open_ok source id h hf rfl

theorem only_crossed (s : State) (i : Nat) : Only [.islands] s (crossed s i) := only_noteEpoch s iSAGE i _

theorem eachEntry_single (s : State) (e : List Byte) (f : List Byte → State → (Nat × List Byte) × State) :
    eachEntry s [e] f = ([(f e s).1], (f e s).2) := rfl

/-- The response of a list of one entry that was performed. -/
theorem listResponse_single (p : List Byte) : listResponse [(stOk, p)] = leBytes 2 1 ++ leBytes 2 0 ++ leBytes 4 0 ++ p := by
  simp [listResponse, failedCount]

/-- An entry of a list of identifiers. -/
theorem entriesAt_single (p : List Byte) (off k : Nat) : entriesAt p off k 1 = [sub p off k] := rfl

/-! ### POINT_READ and POINT_WRITE of one point -/

/-- An identifier is read back from the four bytes that carry it. -/
theorem mod_of_lt_pointCount {pt : Nat} (h : pt < pointCount) : pt % 4294967296 = pt :=
  Nat.mod_eq_of_lt (Nat.lt_trans h (by decide))

theorem exec_pointRead_one {s : State} {r : Route} {tag : Nat} {q : Req} {pt : Nat} (hserved : Served s r tag 0x0201 q)
    (hopen : Open s iPF) (hpayload : q.payload = leBytes 2 1 ++ leBytes 2 0 ++ leBytes 4 pt) (hs : Sound s pt)
    (hright : bitOf (rightsOf s (s.point pt) (routeTenant s q.route)) 0 = true) (hok : (readValue s pt).status = stOk) :
    Answers (.pointRead r tag) s q (loadPoint (crossed s iPF) pt)
      (leBytes 2 1 ++ leBytes 2 0 ++ leBytes 4 0 ++ readEntry pt (readValue s pt)) := by
  have hpt := mod_of_lt_pointCount hs.1
  have hread : fabRead (crossed s iPF) (routeTenant s q.route) pt = (readValue s pt, loadPoint (crossed s iPF) pt) :=
    fabRead_granted (s := crossed s iPF) hs hright
  have hfrom : readFrom s iSAGE 1 (routeTenant s q.route) pt = (readValue s pt, loadPoint (crossed s iPF) pt) :=
    crossing_open_ok 1 FabRes.refused hopen hread hok
  change execPointRead r tag s = _
  unfold execPointRead
  refine congrArg Host.Outcome.next (serve_answers hserved rfl ?_)
  have hentry : sub q.payload 4 4 = leBytes 4 pt := by simp [hpayload, sub_zero_of_length]
  have hn : fld q.payload 0 2 = 1 := by simp [hpayload]
  have hzero : fld q.payload 2 2 = 0 := by simp [hpayload]
  have hlength : q.payload.length = 8 := by simp [hpayload]
  simp [hn, hzero, hlength, entriesAt_single, hentry, eachEntry_single, hpt, hfrom, hok, listResponse_single]

theorem exec_pointWrite_one {s w : State} {r : Route} {tag : Nat} {q : Req} {pt type quality value time : Nat}
    (hserved : Served s r tag 0x0202 q) (hopen : Open s iPF)
    (hpayload : q.payload = leBytes 2 1 ++ leBytes 6 0 ++ leBytes 4 pt ++ leBytes 1 type ++ leBytes 1 quality ++
      leBytes 2 0 ++ leBytes 8 value ++ leBytes 8 time)
    (hpt : pt < pointCount) (htype : type < 8) (hquality : quality < 8) (htime : time < 2 ^ 64)
    (hwrite : fabWrite (crossed s iPF) (routeTenant s q.route) (routeWriter q.route) pt type quality
      (BitVec.ofNat 64 value) time = (stOk, w)) :
    Answers (.pointWrite r tag) s q w
      (leBytes 2 1 ++ leBytes 2 0 ++ leBytes 4 0 ++ (leBytes 4 pt ++ leBytes 2 0 ++ leBytes 2 0)) := by
  have hfrom : writeFrom s iSAGE 1 (routeTenant s q.route) (routeWriter q.route) pt type quality (BitVec.ofNat 64 value) time =
      (stOk, w) :=
    crossStatus_open_ok 1 (fun s => fabWrite s _ _ pt type quality (BitVec.ofNat 64 value) time) hopen hwrite
  change execPointWrite r tag s = _
  unfold execPointWrite
  refine congrArg Host.Outcome.next (serve_answers hserved rfl ?_)
  have hentry : sub q.payload 8 24 = leBytes 4 pt ++ leBytes 1 type ++ leBytes 1 quality ++ leBytes 2 0 ++
      leBytes 8 value ++ leBytes 8 time := by
    simp [hpayload, sub_zero_of_length]
  have hn : fld q.payload 0 2 = 1 := by simp [hpayload]
  have hzero : allZero (sub q.payload 2 6) = true := by simp [hpayload]
  have hlength : q.payload.length = 32 := by simp [hpayload]
  have hpt' := mod_of_lt_pointCount hpt
  have htype' : type % 256 = type := by omega
  have hquality' : quality % 256 = quality := by omega
  have htime' : time % 18446744073709551616 = time := Nat.mod_eq_of_lt htime
  have hvalue : BitVec.ofNat 64 (value % 18446744073709551616) = BitVec.ofNat 64 value := by
    apply BitVec.eq_of_toNat_eq; simp
  simp [hn, hzero, hlength, entriesAt_single, hentry, eachEntry_single, hpt', htype', hquality', htime', hvalue, hfrom,
    listResponse_single, keyEntry]

end Sys2Proof.Machine
end

section
/-! SETTLED. POINT_READ and POINT_WRITE of one point. -/

namespace Sys2Proof.Certificates

open Sys2Proof.Machine Sys2Proof.Safety

/-- Settles O3: a read answers what the sound record, or its force, holds; a write goes to the record, or to the entry of
its force. -/
theorem pointAccessEffect : Obligations.PointAccessEffect := by
  unfold Obligations.PointAccessEffect
  intro s r tag q pt
  have hread (hs : Sound s pt) : Only [.freeCtr, .regs, .islands, .fabric, .chk] s (loadPoint (crossed s iPF) pt) :=
    Only.mono (Only.seq (only_crossed s iPF) (only_loadPoint_of_intact (s := crossed s iPF) (intact_of_sound hs))) (by decide)
  have hsmall {quality : Nat} (hquality : WriteQuality quality) : quality < 8 := by
    rcases hquality with rfl | rfl | rfl <;> decide
  refine ⟨?read, ?readForced, ?write, ?writeForced⟩
  case read =>
    intro hserved hopen hpayload hs hright hforce
    have hvalue := readValue_unforced hs hforce
    have hexec := exec_pointRead_one hserved hopen hpayload hs hright (by rw [hvalue])
    rw [hvalue] at hexec
    exact ⟨_, hexec, hread hs, loadPoint_store .., loadPoint_forces ..⟩
  case readForced =>
    intro f hserved hopen hpayload hs hright hforce
    have hvalue := readValue_forced hs hforce
    have hexec := exec_pointRead_one hserved hopen hpayload hs hright (by rw [hvalue])
    rw [hvalue] at hexec
    exact ⟨_, hexec, hread hs, loadPoint_store .., loadPoint_forces ..⟩
  case write =>
    intro ql v tm hserved hopen hpayload hs hright hclaim htype hquality htime hindex _
    obtain ⟨w, hwrite, hw⟩ := fabWrite_unforced (s := crossed s iPF) (value := BitVec.ofNat 64 v) hs hright hclaim
      hquality htime hindex
    have hexec := exec_pointWrite_one hserved hopen hpayload hs.1 htype (hsmall hquality) htime hwrite
    exact ⟨w, hexec, hw.record, Only.mono (Only.seq (only_crossed s iPF) hw.only) (by decide), hw.forces, hw.others⟩
  case writeForced =>
    intro ql v tm i f hserved hopen hpayload hs hright hclaim htype hquality htime hindex hforce
    obtain ⟨w, hwrite, hw⟩ := fabWrite_forced (s := crossed s iPF) (value := BitVec.ofNat 64 v) hs hright hclaim
      hquality htime hindex hforce
    have hexec := exec_pointWrite_one hserved hopen hpayload hs.1 htype (hsmall hquality) htime hwrite
    exact ⟨w, hexec, hw.entry, Only.mono (Only.seq (only_crossed s iPF) hw.only) (by decide), hw.store⟩

end Sys2Proof.Certificates
end

section
/-! SUPPORT. Definition, claims and share links of one point (03 R82, R83, R88, R94, R572, R573). -/

namespace Sys2Proof.Machine

open Sys2Proof.Safety

/-! ### A list of one entry -/

theorem pointList_single {s w : State} {e : List Byte} (f : List Byte → State → Nat × State) (hopen : Open s iPF)
    (hf : f e (crossed s iPF) = (stOk, w)) : pointList s [e] f = ([(stOk, keyEntry (fld e 0 4) stOk)], w) := by
  simp [pointList, eachEntry_single, crossStatus_open_ok 1 (fun s => f e s) hopen hf]

theorem performedEntries_single (e p : List Byte) : performedEntries [e] [(stOk, p)] = [e] := rfl

theorem shipList_single (s : State) (code : Nat) (head : Nat → List Byte) (e : List Byte) :
    shipList s code head [e] = shipConfig s code (head 1 ++ e) := by
  simp [shipList]

/-- The response of POINT_DEFINE's shape for one entry that was performed. -/
def pointDone (pt : Nat) : List Byte :=
  leBytes 2 1 ++ leBytes 2 0 ++ leBytes 4 0 ++ (leBytes 4 pt ++ leBytes 2 0 ++ leBytes 2 0)

theorem listResponse_keyEntry (pt : Nat) : listResponse [(stOk, keyEntry pt stOk)] = pointDone pt :=
  listResponse_single _

/-- A command over a list of one identifier, which the fabric performs with OK. -/
theorem listCommand_one {s w : State} {r : Route} {tag code pt : Nat} {q : Req} {c : Cmd}
    (f : Nat → Nat → State → Nat × State) (after : List (List Byte) → State → State) (hserved : Served s r tag code q)
    (hcmd : cmdOf code = some c) (hopen : Open s iPF) (hpayload : q.payload = leBytes 2 1 ++ leBytes 2 0 ++ leBytes 4 pt)
    (hpt : pt < pointCount) (hf : f (routeTenant s q.route) pt (crossed s iPF) = (stOk, w)) :
    listCommand code s r tag f after = respond (after [leBytes 4 pt] w) q stOk (pointDone pt) := by
  have hok : pointListOk q.payload = stOk := by simp [pointListOk, hpayload]
  have hes : entriesAt q.payload 4 4 (fld q.payload 0 2) = [leBytes 4 pt] := by
    simp [hpayload, entriesAt, sub_zero_of_length]
  have hkey : fld (leBytes 4 pt) 0 4 = pt := by simp [mod_of_lt_pointCount hpt]
  refine serve_answers hserved hcmd ?_
  simp only [hok, hes, ne_eq, not_true_eq_false, if_false]
  rw [pointList_single (e := leBytes 4 pt) (fun e t => f (routeTenant s q.route) (fld e 0 4) t) hopen
    (by rw [hkey]; exact hf), hkey]
  simp only [performedEntries_single, listResponse_keyEntry]

/-! ### Definition (R82, R572) -/

/-- No bound device holds an identifier. -/
def Undeviced (s : State) (pt : Nat) : Prop := ∀ d ∈ s.fabric.devices, pt < d.base ∨ d.base + d.count ≤ pt

theorem claimForDevice_of_undeviced {s : State} {pt : Nat} (h : Undeviced s pt) : claimForDevice s pt = s := by
  have hnone : (s.fabric.devices.find? fun d => decide (d.base ≤ pt) && decide (pt < d.base + d.count)) = none := by
    refine List.find?_eq_none.mpr fun d hd => ?_
    have := h d hd
    simp only [Bool.and_eq_true, decide_eq_true_eq]
    omega
  rw [claimForDevice, hnone]

/-- A point that no device holds is stored as the fresh record; a retentive one may take a place. -/
theorem definePoint_undeviced {s : State} {pt : Nat} (owner type : Nat) (retentive : Bool) (h : Undeviced s pt) :
    (definePoint s pt owner type retentive).fabric.store =
        tabSet s.fabric.store pt (PointRec.fresh owner type retentive).sealed ∧
      Only [.fabric, .chk] s (definePoint s pt owner type retentive) := by
  have hput := only_putPoint s pt (PointRec.fresh owner type retentive)
  have hplaced (places : Tab RetPlace) := only_fabric (s.putPoint pt (PointRec.fresh owner type retentive))
    { (s.putPoint pt (PointRec.fresh owner type retentive)).fabric with places := places }
  have hclaim {t : State} (ht : t.fabric.devices = s.fabric.devices) : claimForDevice t pt = t :=
    claimForDevice_of_undeviced fun d hd => h d (ht ▸ hd)
  unfold definePoint
  dsimp only
  split
  · split
    · rw [hclaim (by simp)]
      exact ⟨by simp, Only.mono (Only.seq hput (hplaced _)) (by decide)⟩
    · rw [hclaim (by simp)]
      exact ⟨by simp, hput⟩
  · rw [hclaim (by simp)]
    exact ⟨by simp, hput⟩

theorem intact_of_undefined {s : State} {pt : Nat} (h : s.defined pt = false) : Intact s pt :=
  fun hdef => absurd hdef (by simp [h])

theorem placesFull_loadPoint (s : State) (pt k : Nat) : placesFull (loadPoint s pt) k = placesFull s k := by
  rw [placesFull, retentiveCount, hasPlace, loadPoint_store, loadPoint_places, placesFull, retentiveCount, hasPlace]

/-- The configured definitions replaced (R108). -/
def setDefs (s : State) (defs : Tab PointDef) : State := { s with fabric := { s.fabric with defs := defs } }

/-- An entry of POINT_DEFINE on an undefined identifier of the tenant's slice (R82, R572). -/
theorem defineEntry_performed {s : State} {pt tenant type flags : Nat} (hassigned : firstAssignable ≤ pt)
    (hpt : pt < pointCount) (hslice : sliceTenant s pt = some tenant) (hdef : s.defined pt = false)
    (hfailed : s.failedPt pt = false) (htype : type < 8) (hflags : flags < 2)
    (hplace : flags = 1 → placesFull s pt = false) (hdev : Undeviced s pt) :
    ∃ w, defineEntry s tenant pt type flags 0 = (stOk, w) ∧
      w.fabric.store = tabSet s.fabric.store pt (PointRec.fresh tenant type (flags == 1)).sealed ∧
      Only [.fabric, .chk] s w := by
  have hintact := intact_of_undefined hdef
  have hfailed' : (loadPoint s pt).failedPt pt = false := by rw [failedPt_loadPoint_of_intact hintact, hfailed]
  have hform : ¬(pointCount ≤ pt ∨ 8 ≤ type ∨ 2 ≤ flags ∨ (0 : Nat) ≠ 0) := by omega
  have hroom : ¬(flags = 1 ∧ placesFull (loadPoint s pt) pt = true) := by
    rintro ⟨hone, hfull⟩
    rw [placesFull_loadPoint, hplace hone] at hfull
    exact Bool.false_ne_true hfull
  have hdev' : Undeviced (loadPoint s pt) pt := by
    rw [Undeviced, loadPoint_devices]
    exact hdev
  obtain ⟨hstore, honly⟩ := definePoint_undeviced tenant type (flags == 1) hdev'
  refine ⟨setDefs (definePoint (loadPoint s pt) pt tenant type (flags == 1))
      (tabSet (definePoint (loadPoint s pt) pt tenant type (flags == 1)).fabric.defs pt
        { type := type, retentive := flags == 1, owner := tenant, share := none }), ?_,
    hstore.trans (by rw [loadPoint_store]), Only.mono (Only.seq (only_loadPoint_of_intact hintact)
      (Only.seq honly (only_fabric _ _))) (by decide)⟩
  unfold defineEntry
  rw [if_neg hform, if_neg (Nat.not_lt.mpr hassigned), if_neg (by simp [hslice])]
  dsimp only
  rw [hfailed', loadPoint_defined, hdef, if_neg Bool.false_ne_true, if_neg Bool.false_ne_true, if_neg hroom]
  rfl

theorem exec_pointDefine_one {s w : State} {r : Route} {tag : Nat} {q : Req} {pt type flags : Nat}
    (hserved : Served s r tag 0x0203 q) (hopen : Open s iPF)
    (hpayload : q.payload = leBytes 2 1 ++ leBytes 2 0 ++ leBytes 4 pt ++ leBytes 1 type ++ leBytes 1 flags ++ leBytes 2 0)
    (hpt : pt < pointCount) (htype : type < 8) (hflags : flags < 2)
    (hdefine : defineEntry (crossed s iPF) (routeTenant s q.route) pt type flags 0 = (stOk, w)) :
    Answers (.pointDefine r tag) s q (shipConfig w 0x0203 q.payload) (pointDone pt) := by
  have hentry : sub q.payload 4 8 = leBytes 4 pt ++ leBytes 1 type ++ leBytes 1 flags ++ leBytes 2 0 := by
    simp [hpayload, sub_zero_of_length]
  have hn : fld q.payload 0 2 = 1 := by simp [hpayload]
  have hok : defineOk q.payload = stOk := by
    simp only [defineOk, hn, entriesAt_single, hentry]
    simp [hpayload]
  have hpt' := mod_of_lt_pointCount hpt
  have htype' : type % 256 = type := by omega
  have hflags' : flags % 256 = flags := by omega
  have hhead : listHead 1 ++ (leBytes 4 pt ++ leBytes 1 type ++ leBytes 1 flags ++ leBytes 2 0) = q.payload := by
    simp [listHead, hpayload]
  change execPointDefine r tag s = _
  unfold execPointDefine
  refine congrArg Host.Outcome.next (serve_answers hserved rfl ?_)
  simp only [hok, hn, entriesAt_single, hentry, ne_eq, not_true_eq_false, if_false]
  rw [pointList_single (w := w) (fun e t => defineEntry t (routeTenant s q.route) (fld e 0 4) (fld e 4 1) (fld e 5 1) 0)
    hopen (by simpa [hpt', htype', hflags'] using hdefine)]
  rw [performedEntries_single, shipList_single, hhead]
  simp [listResponse_keyEntry, hpt']

/-! ### Undefinition (R83, R572) -/

theorem only_unlinkChain (s : State) (pt : Nat) : Only [.regs, .harvest] s (unlinkChain s pt) := by
  have hstep (t : State) (k : Nat) : Only [.harvest] t
      (match tabGet t.harvest.series k with
      | some x =>
        let t := dropSamples t k
        { t with harvest := { t.harvest with series := tabSet t.harvest.series k { x with linked := false, next := none } } }
      | none => t) := by
    split
    · exact Only.trans (only_harvest t _) (only_harvest _ _)
    · exact Only.refl _ t
  unfold unlinkChain
  dsimp only
  split
  · exact Only.mono (only_foldl _ hstep _ s) (by decide)
  · exact Only.mono (Only.seq (only_foldl _ hstep _ s) (only_raise _ rHvEvent 5)) (by decide)

@[simp] theorem dropForce_defs (s : State) (i : Nat) : (dropForce s i).fabric.defs = s.fabric.defs := by
  obtain ⟨due, h⟩ := dropForce_fabric s i
  rw [h]

theorem only_dropPoint (s : State) (pt : Nat) : Only [.fabric, .chk] s (s.dropPoint pt) :=
  Only.seq (only_fabric s _) (only_chkUnit _ 8 28 _ true)

/-- The force on a point that is undefined goes with it (R83). -/
def unforced (s : State) (pt : Nat) : State :=
  match forceIndex s pt, forceOf s pt with
  | some i, some f => shipForce (dropForce s i) i f 2 f.entryValue
  | _, _ => s

theorem unforced_keeps (s : State) (pt : Nat) : (unforced s pt).fabric.store = s.fabric.store ∧
    (unforced s pt).fabric.defs = s.fabric.defs ∧ Only [.regs, .fabric, .switch, .twin, .chk] s (unforced s pt) := by
  unfold unforced
  split
  next i f _ _ =>
    exact ⟨by simp, by simp, Only.mono (Only.seq (only_dropForce s i) (only_shipForce _ i f 2 _)) (by decide)⟩
  next => exact ⟨rfl, rfl, Only.refl _ s⟩

/-- An undefined point leaves the store, and its force and its links with it (R83). -/
theorem undefinePoint_keeps (s : State) (pt : Nat) : (undefinePoint s pt).fabric.store = tabDel s.fabric.store pt ∧
    (undefinePoint s pt).fabric.defs = s.fabric.defs ∧
    Only [.regs, .fabric, .harvest, .switch, .twin, .chk] s (undefinePoint s pt) := by
  have hlink := only_unlinkChain s pt
  have hfabric : (unlinkChain s pt).fabric = s.fabric := hlink .fabric (by decide)
  obtain ⟨hstore, hdefs, hforce⟩ := unforced_keeps (unlinkChain s pt) pt
  let t : State := { unforced (unlinkChain s pt) pt with fabric := { (unforced (unlinkChain s pt) pt).fabric with
    places := tabFilter (fun _ x => !x.holds pt) (unforced (unlinkChain s pt) pt).fabric.places
    saveDue := (unforced (unlinkChain s pt) pt).fabric.saveDue.filter (· != pt) } }
  have heq : undefinePoint s pt = t.dropPoint pt := rfl
  rw [heq]
  refine ⟨?_, ?_, Only.mono (Only.seq hlink (Only.seq hforce (Only.seq (only_fabric _ _) (only_dropPoint t pt)))) (by decide)⟩
  · simp [State.dropPoint, t, hstore, hfabric]
  · simp [State.dropPoint, t, hdefs, hfabric]

/-- An entry of POINT_UNDEFINE on a defined identifier of the tenant's slice (R83, R572). -/
theorem undefineEntry_performed {s : State} {pt tenant : Nat} (hassigned : firstAssignable ≤ pt) (hpt : pt < pointCount)
    (hslice : sliceTenant s pt = some tenant) (hdef : s.defined pt = true) :
    ∃ w, undefineEntry s tenant pt = (stOk, w) ∧ w.fabric.store = tabDel s.fabric.store pt ∧
      w.fabric.defs = tabDel s.fabric.defs pt ∧ Only [.regs, .fabric, .harvest, .switch, .twin, .chk] s w := by
  obtain ⟨hstore, hdefs, honly⟩ := undefinePoint_keeps s pt
  refine ⟨setDefs (undefinePoint s pt) (tabDel (undefinePoint s pt).fabric.defs pt), ?_, hstore,
    congrArg (tabDel · pt) hdefs, Only.mono (Only.seq honly (only_fabric _ _)) (by decide)⟩
  unfold undefineEntry
  rw [if_neg (Nat.not_le.mpr hpt), if_neg (Nat.not_lt.mpr hassigned), if_neg (by simp [hslice, hdef])]
  rfl

/-! ### Claims (R94, R573) -/

/-- A tenant with WRITE on a sound assignable point may ask for its claim (R573; log 109). -/
theorem claimJudge_granted {s : State} {pt tenant : Nat} (hs : Sound s pt) (hassigned : firstAssignable ≤ pt)
    (hright : bitOf (rightsOf s (s.point pt) tenant) 1 = true) : claimJudge s tenant pt = (stOk, loadPoint s pt) := by
  have hwrite : judge (loadPoint s pt) pt tenant (s.point pt).writer .write = stOk := by
    rw [judge_loadPoint_of_sound tenant _ .write hs]
    exact judge_granted hs hright fun _ => Or.inr rfl
  have hwritable : rightsOf s (s.point pt) tenant &&& 2 ≠ 0 := by
    have hbit : (rightsOf s (s.point pt) tenant &&& 2).testBit 1 = true := by
      rw [Nat.testBit_and, ← bitOf_eq_testBit, hright]
      rfl
    intro h0
    rw [h0] at hbit
    exact absurd hbit (by decide)
  obtain ⟨-, -, hfailed, -, -⟩ := sound_loadPoint hs
  unfold claimJudge
  rw [if_neg (Nat.not_le.mpr hs.1), if_neg (Nat.not_lt.mpr hassigned)]
  simp [hwrite, hfailed, hwritable]

theorem claimEntry_performed {s : State} {pt tenant : Nat} (writer : Nat) (hs : Sound s pt) (hassigned : firstAssignable ≤ pt)
    (hright : bitOf (rightsOf s (s.point pt) tenant) 1 = true) (hfree : (s.point pt).flag fLocked = false) :
    claimEntry s tenant writer pt =
      (stOk, (loadPoint s pt).putPoint pt ({ s.point pt with writer := writer }.setFlag fLocked true)) := by
  simp [claimEntry, claimJudge_granted hs hassigned hright, holdsClaim, hfree, claimPoint]

theorem releaseEntry_performed {s : State} {pt tenant writer : Nat} (hs : Sound s pt) (hassigned : firstAssignable ≤ pt)
    (hright : bitOf (rightsOf s (s.point pt) tenant) 1 = true) (hheld : (s.point pt).flag fLocked = true)
    (hwriter : (s.point pt).writer = writer) :
    releaseEntry s tenant writer pt = (stOk, (loadPoint s pt).putPoint pt ((s.point pt).setFlag fLocked false)) := by
  have hjudged := claimJudge_granted hs hassigned hright
  obtain ⟨-, hdef, -, -, -⟩ := hs
  simp [releaseEntry, hjudged, holdsClaim, hheld, hwriter, hdef, releasePoint]

/-- A sound record loaded and stored anew: that record and no other, nothing outside PF. -/
theorem putPoint_loadPoint {s : State} {pt : Nat} (r : PointRec) (hs : Sound s pt) :
    ((loadPoint s pt).putPoint pt r).point pt = r.sealed ∧
      (∀ x, x ≠ pt → ((loadPoint s pt).putPoint pt r).point x = s.point x) ∧
      Only [.fabric, .chk] s ((loadPoint s pt).putPoint pt r) :=
  ⟨putPoint_point_same .., fun x hx => (putPoint_point_other _ r hx).trans (loadPoint_point ..),
    Only.mono (Only.seq (only_loadPoint_of_intact (intact_of_sound hs)) (only_putPoint _ pt r)) (by decide)⟩

/-! ### Share links (R88, R89) -/

theorem defShare_keeps (s : State) (pt : Nat) (e : Option Nat) :
    (defShare s pt e).fabric.store = s.fabric.store ∧ Only [.fabric] s (defShare s pt e) := by
  unfold defShare
  split
  · exact ⟨rfl, only_fabric s _⟩
  · exact ⟨rfl, Only.refl _ s⟩

/-- The owner of a sound record links an entry of its own to it (R88, R89). -/
theorem shareLink_performed {s : State} {pt tenant k : Nat} {e : Share} (hs : Sound s pt)
    (howner : (s.point pt).owner = tenant) (hk : k ≠ 0xFFFF) (he : tabGet s.fabric.shares k = some e)
    (heowner : e.owner = tenant) :
    shareLink s tenant k pt = (stOk, defShare ((loadPoint s pt).putPoint pt
      ({ s.point pt with share := k }.setFlag fShared true)) pt (some k)) := by
  obtain ⟨-, -, hfailed, -, -⟩ := sound_loadPoint hs
  obtain ⟨hpt, hdef, -, -, -⟩ := hs
  simp [shareLink, he, heowner, hk, Nat.not_le.mpr hpt, hfailed, howner, hdef]

theorem exec_shareLink_one {s w : State} {r : Route} {tag : Nat} {q : Req} {pt k : Nat} (hserved : Served s r tag 0x020C q)
    (hopen : Open s iPF) (hpayload : q.payload = leBytes 2 k ++ leBytes 2 1 ++ leBytes 4 pt) (hpt : pt < pointCount)
    (hk : k < 4096) (hlink : shareLink (crossed s iPF) (routeTenant s q.route) k pt = (stOk, w)) :
    Answers (.shareLink r tag) s q (shipConfig w 0x020C q.payload) (pointDone pt) := by
  have hindex : fld q.payload 0 2 = k := by simp [hpayload]; omega
  have hn : fld q.payload 2 2 = 1 := by simp [hpayload]
  have hlength : q.payload.length = 8 := by simp [hpayload]
  have hentry : sub q.payload 4 4 = leBytes 4 pt := by simp [hpayload, sub_zero_of_length]
  have hkey : fld (leBytes 4 pt) 0 4 = pt := by simp [mod_of_lt_pointCount hpt]
  change execShareLink r tag s = _
  unfold execShareLink
  refine congrArg Host.Outcome.next (serve_answers hserved rfl ?_)
  simp only [hn, hlength, hindex, entriesAt_single, hentry]
  rw [if_neg (by decide), if_neg (by decide), pointList_single (w := w)
    (fun e t => shareLink t (routeTenant s q.route) k (fld e 0 4)) hopen (by rw [hkey]; exact hlink)]
  rw [performedEntries_single, shipList_single, ← hpayload, hkey, listResponse_keyEntry]

end Sys2Proof.Machine
end

section
/-! SETTLED. Definition, claims and share links of one point. -/

namespace Sys2Proof.Certificates

open Sys2Proof.Machine Sys2Proof.Safety

/-- Settles O4: one entry of each command, performed in the fabric. -/
theorem pointDefinitionEffect : Obligations.PointDefinitionEffect := by
  unfold Obligations.PointDefinitionEffect
  intro s r tag q pt
  have hcrossed := only_crossed s iPF
  refine ⟨?define, ?undefine, ?claim, ?release, ?link⟩
  case define =>
    intro ty ret hserved hopen hpayload hassigned hpt hslice hdef hfailed hty hret hplace hdev
    obtain ⟨w, hdefine, hstore, honly⟩ := defineEntry_performed (s := crossed s iPF) hassigned hpt hslice hdef hfailed hty hret
      hplace hdev
    have hflags : b2n (ret == 1) = ret := by
      rcases (by omega : ret = 0 ∨ ret = 1) with rfl | rfl <;> rfl
    refine ⟨w, exec_pointDefine_one hserved hopen hpayload hpt hty hret hdefine, ?_, ?_, ?_⟩
    · rw [point_of_tabSet hstore, PointRec.fresh, hflags]
    · exact Only.mono (Only.seq hcrossed honly) (by decide)
    · exact fun x hx => point_of_tabSet_other (s := crossed s iPF) hstore hx
  case undefine =>
    intro hserved hopen hpayload hassigned hpt hslice hdef
    obtain ⟨w, hundefine, hstore, hdefs, honly⟩ := undefineEntry_performed (s := crossed s iPF) hassigned hpt hslice hdef
    refine ⟨w, ?_, hstore, hdefs, Only.mono (Only.seq hcrossed honly) (by decide)⟩
    have hexec := listCommand_one (fun t pt s => undefineEntry s t pt) (fun es s => shipList s 0x0204 listHead es) hserved rfl
      hopen hpayload hpt hundefine
    have hhead : listHead 1 ++ leBytes 4 pt = q.payload := hpayload.symm
    rw [shipList_single, hhead] at hexec
    exact congrArg Host.Outcome.next hexec
  case claim =>
    intro hserved hopen hpayload hs hassigned hright hfree
    obtain ⟨hrecord, hothers, honly⟩ := putPoint_loadPoint (s := crossed s iPF)
      ({ s.point pt with writer := routeWriter r }.setFlag fLocked true) hs
    exact ⟨_, congrArg Host.Outcome.next (listCommand_one (fun t pt s => claimEntry s t (routeWriter r) pt) (fun _ s => s)
      hserved rfl hopen hpayload hs.1 (claimEntry_performed (s := crossed s iPF) (routeWriter r) hs hassigned hright hfree)),
      hrecord, Only.mono (Only.seq hcrossed honly) (by decide), hothers⟩
  case release =>
    intro hserved hopen hpayload hs hassigned hright hheld hwriter
    obtain ⟨hrecord, hothers, honly⟩ := putPoint_loadPoint (s := crossed s iPF)
      ((s.point pt).setFlag fLocked false) hs
    exact ⟨_, congrArg Host.Outcome.next (listCommand_one (fun t pt s => releaseEntry s t (routeWriter r) pt) (fun _ s => s)
      hserved rfl hopen hpayload hs.1 (releaseEntry_performed (s := crossed s iPF) hs hassigned hright hheld hwriter)),
      hrecord, Only.mono (Only.seq hcrossed honly) (by decide), hothers⟩
  case link =>
    intro k e hserved hopen hpayload hs howner hk he heowner
    obtain ⟨hrecord, hothers, honly⟩ := putPoint_loadPoint (s := crossed s iPF)
      ({ s.point pt with share := k }.setFlag fShared true) hs
    obtain ⟨hstore, hdefs⟩ := defShare_keeps ((loadPoint (crossed s iPF) pt).putPoint pt
      ({ s.point pt with share := k }.setFlag fShared true)) pt (some k)
    exact ⟨_, exec_shareLink_one hserved hopen hpayload hs.1 hk
      (shareLink_performed (s := crossed s iPF) hs howner (by omega) he heowner),
      (point_of_store hstore pt).trans hrecord, Only.mono (Only.seq hcrossed (Only.seq honly hdefs)) (by decide),
      fun x hx => (point_of_store hstore x).trans (hothers x hx)⟩

end Sys2Proof.Certificates
end

section
/-! SUPPORT. Forces placed, changed and removed (03 R96, R97; 05 R163). -/

namespace Sys2Proof.Machine

open Sys2Proof.Safety

/-! ### Placing a force -/

/-- The entry of a force newly placed: it keeps what the record held (R96). -/
def Force.placed (r : PointRec) (pt : Nat) (value : Word64) (time : Nat) : Force :=
  { pt := pt, type := r.type, value := typed r.type value, time := time, entryValue := r.value, entryTime := r.time
    entryQuality := r.quality }

/-- What placing a force leaves: its entry in the table, and the record marked FORCED. -/
structure PlacedForce (s w : State) (pt i : Nat) (f : Force) : Prop where
  entry : w.fabric.forces = tabSet s.fabric.forces i f
  record : w.point pt = ((s.point pt).setFlag fForced true).sealed
  others : ∀ x, x ≠ pt → w.point x = s.point x
  only : Only [.regs, .fabric, .switch, .twin, .chk] s w

theorem forceSet_unforced {s : State} {pt tenant i : Nat} (value : Word64) (hs : Sound s pt)
    (hright : bitOf (rightsOf s (s.point pt) tenant) 2 = true) (hindex : forceIndex s pt = none)
    (hfree : tabFree s.fabric.forces 0 1024 = some i) :
    ∃ w, forceSet s tenant pt (s.point pt).type value = ((stOk, i), w) ∧
      PlacedForce s w pt i (Force.placed (s.point pt) pt value s.tai) := by
  have hjudged : judged s pt tenant 0 .force = (stOk, loadPoint s pt) := judged_granted hs hright (by simp)
  obtain ⟨hrecord, hothers, honly⟩ := putPoint_loadPoint ((s.point pt).setFlag fForced true) hs
  refine ⟨shipForce (setForce ((loadPoint s pt).putPoint pt ((s.point pt).setFlag fForced true)) i
    (Force.placed (s.point pt) pt value s.tai)) i (Force.placed (s.point pt) pt value s.tai) 1
    (typed (s.point pt).type value), ?_, ?_, ?_, ?_, ?_⟩
  · simp [forceSet, hjudged, hindex, hfree, loadPoint_tai, Force.placed]
  · simp
  · exact (point_of_store (by simp) pt).trans hrecord
  · exact fun x hx => (point_of_store (by simp) x).trans (hothers x hx)
  · exact Only.mono (Only.seq honly (Only.seq (only_setForce _ i _) (only_shipForce _ i _ 1 _))) (by decide)

/-- Setting a force again replaces its value and time (R163). -/
theorem forceSet_forced {s : State} {pt tenant i : Nat} {f : Force} (value : Word64) (hs : Sound s pt)
    (hright : bitOf (rightsOf s (s.point pt) tenant) 2 = true) (hindex : forceIndex s pt = some i)
    (hforce : forceOf s pt = some f) :
    ∃ w, forceSet s tenant pt (s.point pt).type value = ((stOk, i), w) ∧
      w.fabric.forces = tabSet s.fabric.forces i { f with value := typed (s.point pt).type value, time := s.tai } ∧
      w.fabric.store = s.fabric.store ∧ Only [.regs, .fabric, .switch, .twin, .chk] s w := by
  have hjudged : judged s pt tenant 0 .force = (stOk, loadPoint s pt) := judged_granted hs hright (by simp)
  have hload := only_loadPoint_of_intact (intact_of_sound hs)
  refine ⟨shipForce (setForce (loadPoint s pt) i { f with value := typed (s.point pt).type value, time := s.tai }) i
    { f with value := typed (s.point pt).type value, time := s.tai } 1 (typed (s.point pt).type value), ?_, ?_, ?_, ?_⟩
  · simp [forceSet, hjudged, hindex, hforce, loadPoint_tai]
  · simp
  · simp
  · exact Only.mono (Only.seq hload (Only.seq (only_setForce _ i _) (only_shipForce _ i _ 1 _))) (by decide)

theorem tabSet_ne_nil {β : Type} (t : Tab β) (i : Nat) (v : β) : tabSet t i v ≠ [] := by
  cases t with
  | nil => simp [tabSet]
  | cons p t =>
    rw [tabSet]
    split
    · simp
    · split <;> simp

theorem lantern_of_forces {s : State} {t : Tab Force} {i : Nat} {f : Force} (h : s.fabric.forces = tabSet t i f) :
    lantern s = true := by
  simp [lantern, h, tabSet_ne_nil]

theorem exec_forceSet {s w : State} {r : Route} {tag : Nat} {q : Req} {pt type value i : Nat}
    (hserved : Served s r tag 0x0207 q) (hopen : Open s iPF)
    (hpayload : q.payload = leBytes 4 pt ++ leBytes 1 type ++ leBytes 3 0 ++ leBytes 8 value) (hpt : pt < pointCount)
    (htype : type < 8)
    (hset : forceSet (crossed s iPF) (routeTenant s q.route) pt type (BitVec.ofNat 64 value) = ((stOk, i), w)) :
    Answers (.forceSet r tag) s q w (leBytes 2 i ++ leBytes 2 w.fabric.forces.length) := by
  have hlength : q.payload.length = 16 := by simp [hpayload]
  have hpt' : fld q.payload 0 4 = pt := by simp [hpayload, mod_of_lt_pointCount hpt]
  have htype' : fld q.payload 4 1 = type := by simp [hpayload]; omega
  have hzero : allZero (sub q.payload 5 3) = true := by simp [hpayload]
  have hvalue : BitVec.ofNat 64 (fld q.payload 8 8) = BitVec.ofNat 64 value := by
    apply BitVec.eq_of_toNat_eq; simp [hpayload]
  change execForceSet r tag s = _
  unfold execForceSet
  refine congrArg Host.Outcome.next (serve_answers hserved rfl ?_)
  simp only [hlength, hpt', htype', hzero, hvalue]
  rw [if_neg (by decide), if_neg (by decide)]
  refine toIsland_ok hopen ?_
  have htenant : routeTenant (crossed s iPF) q.route = routeTenant s q.route := rfl
  simp [htenant, hset]

/-! ### Removing a force -/

theorem only_editPoint {ps : List StatePart} {f : State → Nat → State} (h : ∀ s pt, Only ps s (f s pt)) (s : State)
    (pt : Nat) : Only ([.regs, .fabric, .chk] ++ ps) s (editPoint s pt f) := by
  unfold editPoint
  dsimp only
  split
  · exact Only.mono (only_loadPoint s pt) fun _ hp => List.mem_append_left ps hp
  · exact Only.seq (only_loadPoint s pt) (h _ pt)

/-- The record that takes back what its force kept (R97). -/
def PointRec.givenBack (r : PointRec) (f : Force) : PointRec :=
  { r with value := f.entryValue, time := f.entryTime, quality := f.entryQuality }.setFlag fForced false

theorem only_removeForce (s : State) (i : Nat) : Only [.regs, .fabric, .switch, .twin, .chk] s (removeForce s i) := by
  unfold removeForce
  split
  next f _ =>
    exact Only.mono (Only.seq (only_dropForce s i) (Only.seq
      (only_editPoint (fun t pt => only_putPoint t pt _) _ f.pt) (only_shipForce _ i f 2 _))) (by decide)
  next => exact Only.refl _ s

theorem sound_dropForce {s : State} {pt : Nat} (i : Nat) (h : Sound s pt) : Sound (dropForce s i) pt := by
  have hpoint := point_of_store (dropForce_store s i) pt
  have hdef := defined_of_store (dropForce_store s i) pt
  simpa [Sound, hpoint, hdef, State.failedPt] using h

/-- What removing a force leaves: its entry freed, and the record as the entry kept it. -/
structure RemovedForce (s w : State) (i : Nat) (f : Force) : Prop where
  freed : w.fabric.forces = tabDel s.fabric.forces i
  record : w.point f.pt = ((s.point f.pt).givenBack f).sealed
  others : ∀ x, x ≠ f.pt → w.point x = s.point x

theorem removeForce_sound {s : State} {i : Nat} {f : Force} (hs : Sound s f.pt) (hf : tabGet s.fabric.forces i = some f) :
    RemovedForce s (removeForce s i) i f := by
  have hdrop := sound_dropForce i hs
  have hpoint (x : Nat) : (dropForce s i).point x = s.point x := point_of_store (dropForce_store s i) x
  obtain ⟨hrecord, hothers, -⟩ := putPoint_loadPoint ((s.point f.pt).givenBack f) hdrop
  obtain ⟨-, -, hfailed, -, -⟩ := sound_loadPoint hdrop
  have heq : removeForce s i = shipForce ((loadPoint (dropForce s i) f.pt).putPoint f.pt ((s.point f.pt).givenBack f)) i f 2
      f.entryValue := by
    simp [removeForce, hf, editPoint, hfailed, hpoint, PointRec.givenBack]
  rw [heq]
  refine ⟨by simp, (point_of_store (by simp) f.pt).trans hrecord, fun x hx => ?_⟩
  exact (point_of_store (by simp) x).trans ((hothers x hx).trans (hpoint x))

theorem forceClear_forced {s : State} {pt tenant i : Nat} {f : Force} (hs : Sound s pt)
    (hright : bitOf (rightsOf s (s.point pt) tenant) 2 = true) (hindex : forceIndex s pt = some i)
    (hf : tabGet s.fabric.forces i = some f) (hpt : f.pt = pt) :
    ∃ w, forceClear s tenant pt = ((stOk, 1), w) ∧ RemovedForce s w i f ∧ Only [.regs, .fabric, .switch, .twin, .chk] s w := by
  have hjudged : judged s pt tenant 0 .force = (stOk, loadPoint s pt) := judged_granted hs hright (by simp)
  obtain ⟨hfreed, hrecord, hothers⟩ := removeForce_sound (s := loadPoint s pt) (by rw [hpt]; exact sound_loadPoint hs)
    (by rw [loadPoint_forces]; exact hf)
  refine ⟨removeForce (loadPoint s pt) i, by simp [forceClear, hjudged, hindex], ⟨?_, ?_, ?_⟩, ?_⟩
  · rwa [loadPoint_forces] at hfreed
  · rwa [loadPoint_point] at hrecord
  · exact fun x hx => (hothers x hx).trans (loadPoint_point ..)
  · exact Only.mono (Only.seq (only_loadPoint s pt) (only_removeForce _ i)) (by decide)

theorem forceClear_unforced {s : State} {pt tenant : Nat} (hs : Sound s pt)
    (hright : bitOf (rightsOf s (s.point pt) tenant) 2 = true) (hindex : forceIndex s pt = none) :
    forceClear s tenant pt = ((stOk, 0), loadPoint s pt) := by
  have hjudged : judged s pt tenant 0 .force = (stOk, loadPoint s pt) := judged_granted hs hright (by simp)
  simp [forceClear, hjudged, hindex]

/-- A fold whose every step counts at most one counts at most the length of its list. -/
theorem foldl_count_le {α σ : Type} (f : Nat × σ → α → Nat × σ) (h : ∀ a x, (f a x).1 ≤ a.1 + 1) :
    ∀ (l : List α) (a : Nat × σ), (l.foldl f a).1 ≤ a.1 + l.length
  | [], a => by simp
  | x :: l, a => by
    have hhead := h a x
    have htail := foldl_count_le f h l (f a x)
    simp only [List.foldl_cons, List.length_cons]
    omega

theorem only_foldl_count {α : Type} {ps : List StatePart} (f : Nat × State → α → Nat × State)
    (h : ∀ a x, Only ps a.2 (f a x).2) : ∀ (l : List α) (a : Nat × State), Only ps a.2 (l.foldl f a).2
  | [], a => Only.refl ps a.2
  | x :: l, a => Only.trans (h a x) (only_foldl_count f h l (f a x))

/-- One force of FORCE_CLEAR of all: removed and counted where the tenant has the right (05 R163). -/
def clearStep (tenant : Nat) (a : Nat × State) (i : Nat) : Nat × State :=
  match tabGet a.2.fabric.forces i with
  | some f =>
    let s := loadPoint a.2 f.pt
    if judge s f.pt tenant 0 .force = stOk then (a.1 + 1, removeForce s i) else (a.1, s)
  | none => a

theorem forceClearAll_eq (s : State) (tenant : Nat) :
    forceClearAll s tenant = (tabKeys s.fabric.forces).foldl (clearStep tenant) (0, s) := rfl

theorem clearStep_count (tenant : Nat) (a : Nat × State) (i : Nat) : (clearStep tenant a i).1 ≤ a.1 + 1 := by
  unfold clearStep
  split
  · dsimp only
    split <;> simp
  · simp

theorem only_clearStep (tenant : Nat) (a : Nat × State) (i : Nat) :
    Only [.regs, .fabric, .switch, .twin, .chk] a.2 (clearStep tenant a i).2 := by
  unfold clearStep
  split
  next f _ =>
    dsimp only
    split
    · exact Only.mono (Only.seq (only_loadPoint a.2 f.pt) (only_removeForce _ i)) (by decide)
    · exact Only.mono (only_loadPoint a.2 f.pt) (by decide)
  next => exact Only.refl _ a.2

/-- FORCE_CLEAR of all removes at most as many forces as stand, and touches nothing but forces and what ships them. -/
theorem forceClearAll_keeps (s : State) (tenant : Nat) : (forceClearAll s tenant).1 ≤ s.fabric.forces.length ∧
    Only [.regs, .fabric, .switch, .twin, .chk] s (forceClearAll s tenant).2 := by
  rw [forceClearAll_eq]
  refine ⟨?_, only_foldl_count _ (only_clearStep tenant) _ (0, s)⟩
  simpa [tabKeys] using foldl_count_le _ (clearStep_count tenant) (tabKeys s.fabric.forces) (0, s)

/-- FORCE_CLEAR inside the fabric: all forces for 0xFFFFFFFF, else that of one point (05 R163). -/
def forceClearOf (s : State) (tenant pt : Nat) : (Nat × Nat) × State :=
  if pt = 0xFFFFFFFF then ((stOk, (forceClearAll s tenant).1), (forceClearAll s tenant).2) else forceClear s tenant pt

theorem exec_forceClear {s w : State} {r : Route} {tag : Nat} {q : Req} {pt n : Nat} (hserved : Served s r tag 0x0208 q)
    (hopen : Open s iPF) (hpayload : q.payload = leBytes 4 pt) (hpt : pt < 2 ^ 32)
    (hclear : forceClearOf (crossed s iPF) (routeTenant s q.route) pt = ((stOk, n), w)) :
    Answers (.forceClear r tag) s q w (leBytes 2 n ++ leBytes 2 w.fabric.forces.length) := by
  have hlength : q.payload.length = 4 := by simp [hpayload]
  have hpt' : fld q.payload 0 4 = pt := by simp [hpayload]; omega
  change execForceClear r tag s = _
  unfold execForceClear
  refine congrArg Host.Outcome.next (serve_answers hserved rfl ?_)
  simp only [hlength, hpt']
  rw [if_neg (by decide)]
  refine toIsland_ok hopen ?_
  change (let a := forceClearOf (crossed s iPF) (routeTenant s q.route) pt
    ((a.1.1, if a.1.1 = stOk then leBytes 2 a.1.2 ++ leBytes 2 a.2.fabric.forces.length else []), a.2)) = _
  simp [hclear]

/-! ### FORCE_LIST -/

/-- The forces from an index on, on points that a tenant may read (log 38). -/
def readableForces (s : State) (tenant n : Nat) : Tab Force :=
  s.fabric.forces.filter fun x => decide (n ≤ x.1) && judge s x.2.pt tenant 0 .read == stOk

/-- The index at which a list goes on, and 0xFFFF where it ends. -/
def nextIndex {β : Type} : Tab β → Nat
  | [] => 0xFFFF
  | x :: _ => x.1

theorem exec_forceList {s : State} {r : Route} {tag : Nat} {q : Req} {n : Nat} (hserved : Served s r tag 0x0209 q)
    (hopen : Open s iPF) (hpayload : q.payload = leBytes 2 n ++ leBytes 2 0) (hn : n < 65536) :
    Answers (.forceList r tag) s q (crossed s iPF)
      (leBytes 2 ((readableForces s (routeTenant s q.route) n).take 169).length ++
        leBytes 2 (nextIndex ((readableForces s (routeTenant s q.route) n).drop 169)) ++ leBytes 4 0 ++
        (((readableForces s (routeTenant s q.route) n).take 169).map fun x => forceListEntry x.2).flatten) := by
  have hlength : q.payload.length = 4 := by simp [hpayload]
  have hindex : fld q.payload 0 2 = n := by simp [hpayload]; omega
  have hzero : fld q.payload 2 2 = 0 := by simp [hpayload]
  change execForceList r tag s = _
  unfold execForceList
  refine congrArg Host.Outcome.next (serve_answers hserved rfl ?_)
  simp only [hlength, hindex, hzero]
  rw [if_neg (by decide), if_neg (by decide)]
  refine toIsland_ok hopen ?_
  have hjudge (pt : Nat) : judge (crossed s iPF) pt (routeTenant (crossed s iPF) q.route) 0 .read =
      judge s pt (routeTenant s q.route) 0 .read := rfl
  have hforces : (crossed s iPF).fabric.forces = s.fabric.forces := rfl
  simp only [hjudge, hforces, readableForces]
  cases List.drop 169 (s.fabric.forces.filter fun x => decide (n ≤ x.1) &&
    judge s x.2.pt (routeTenant s q.route) 0 .read == stOk) <;> rfl

end Sys2Proof.Machine
end

section
/-! SETTLED. The force commands. -/

namespace Sys2Proof.Certificates

open Sys2Proof.Machine Sys2Proof.Safety

/-- Settles O5: a force is placed or replaced, removed for one point or for all, and listed. -/
theorem forceEffect : Obligations.ForceEffect := by
  unfold Obligations.ForceEffect
  intro s r tag q pt
  have hcrossed := only_crossed s iPF
  have hbelow (hs : Sound s pt) : pt < 2 ^ 32 := Nat.lt_trans hs.1 (by decide)
  have hone (hs : Sound s pt) (t : State) (tenant : Nat) : forceClearOf t tenant pt = forceClear t tenant pt :=
    if_neg (Nat.ne_of_lt (Nat.lt_trans hs.1 (by decide)))
  refine ⟨?place, ?replace, ?clear, ?clearNone, ?clearAll, ?list⟩
  case place =>
    intro v i hserved hopen hpayload hs hright htype hindex _ hfree
    obtain ⟨w, hset, hw⟩ := forceSet_unforced (s := crossed s iPF) (BitVec.ofNat 64 v) hs hright hindex hfree
    refine ⟨w, exec_forceSet hserved hopen hpayload hs.1 htype hset, ?_, lantern_of_forces hw.entry, hw.record,
      Only.mono (Only.seq hcrossed hw.only) (by decide), hw.others⟩
    rw [hw.entry]
    exact tabGet_set_same ..
  case replace =>
    intro v i f hserved hopen hpayload hs hright htype hindex hforce
    obtain ⟨w, hset, hforces, hstore, honly⟩ := forceSet_forced (s := crossed s iPF) (BitVec.ofNat 64 v) hs hright hindex hforce
    refine ⟨w, exec_forceSet hserved hopen hpayload hs.1 htype hset, ?_, hstore, Only.mono (Only.seq hcrossed honly) (by decide)⟩
    rw [hforces]
    exact tabGet_set_same ..
  case clear =>
    rintro i f hserved hopen hpayload hs hright hindex hf rfl
    obtain ⟨w, hclear, hw, honly⟩ := forceClear_forced (s := crossed s iPF) hs hright hindex hf rfl
    exact ⟨w, exec_forceClear hserved hopen hpayload (hbelow hs) ((hone hs _ _).trans hclear), hw.freed, hw.record,
      Only.mono (Only.seq hcrossed honly) (by decide), hw.others⟩
  case clearNone =>
    intro hserved hopen hpayload hs hright hindex
    have hclear := forceClear_unforced (s := crossed s iPF) hs hright hindex
    have hexec := exec_forceClear hserved hopen hpayload (hbelow hs) ((hone hs _ _).trans hclear)
    rw [loadPoint_forces] at hexec
    exact ⟨_, hexec, loadPoint_forces .., loadPoint_store .., Only.mono (Only.seq hcrossed (only_loadPoint _ pt)) (by decide)⟩
  case clearAll =>
    intro hserved hopen hpayload
    obtain ⟨hcount, honly⟩ := forceClearAll_keeps (crossed s iPF) (routeTenant s q.route)
    exact ⟨_, _, exec_forceClear hserved hopen hpayload (by decide) (if_pos rfl), hcount,
      Only.mono (Only.seq hcrossed honly) (by decide)⟩
  case list =>
    intro n hserved hopen hpayload hn
    have hlist := exec_forceList hserved hopen hpayload hn
    unfold readableForces forceListEntry at hlist
    revert hlist
    cases List.drop 169 (s.fabric.forces.filter fun x => decide (n ≤ x.1) &&
      judge s x.2.pt (routeTenant s q.route) 0 .read == stOk) <;> exact id

end Sys2Proof.Certificates
end

section
/-! SUPPORT. What a response in a mailbox and a shipment leave of the fabric, and frames at a field port that the module takes
from no source (03 R110, R112, Table 3.12). -/

namespace Sys2Proof.Machine

open Sys2Proof.Safety

@[simp] theorem shipConfig_fabric (s : State) (code : Nat) (payload : List Byte) :
    (shipConfig s code payload).fabric = s.fabric := only_ship s _ .fabric (by decide)

theorem fabric_respond_mailbox (s : State) {q : Req} {m : Nat} (st : Nat) (p : List Byte) (hq : q.route = .mailbox m) :
    (respond s q st p).fabric = s.fabric := by
  unfold respond
  split
  · rfl
  · simp only [hq, putMessage, keep]
    split <;> simp

/-- Only an ANNOUNCE comes from the address 0x3FE of devices without one: another kind from it is dropped. -/
theorem jArrive_unaddressed {s : State} {port kind : Nat} {p : List Byte} (hopen : fieldOpen s port = true)
    (hrun : s.running iPF = true) (hform : jFormed p = true) (hkind : jKind p = kind) (hne : kind ≠ jkAnnounce)
    (hsrc : jSrc p = 0x3FE) : jArrive s port kind p = jDrop s := by
  have hannounce : (jKind p == jkAnnounce) = false := by simpa [hkind] using hne
  unfold jArrive
  rw [hopen, hkind, beq_self_eq_true, Bool.and_self, if_pos rfl]
  simp [jField, hrun, hform, hsrc, hannounce]

/-- A frame that is accepted changes no register. -/
theorem jAccept_regs_of_accepted {s : State} {src : JSource} {p : List Byte} (h : (jAccept s src p).1.accepted = true) :
    (jAccept s src p).2.regs = s.regs := by
  unfold jAccept at h ⊢
  split at h
  · exact absurd h Bool.false_ne_true
  dsimp only at h ⊢
  split at h
  · exact absurd h Bool.false_ne_true
  split at h
  · simp_all
  · exact absurd h Bool.false_ne_true

/-- A bit set to 1 reads 1. -/
theorem bitOf_putBits_one (v : Nat) {j : Nat} (hj : j < 32) : bitOf (putBits v j 1 1 % 2 ^ 32) j = true := by
  have hle : 2 ^ j * (v / 2 ^ j % 2) ≤ v :=
    Nat.le_trans (Nat.mul_le_mul_left _ (Nat.mod_le _ _)) (Nat.mul_div_le v (2 ^ j))
  have hput : putBits v j 1 1 = v - 2 ^ j * (v / 2 ^ j % 2) + 2 ^ j := by
    simp only [putBits, bitsOf, Nat.pow_one, Nat.reduceMod, Nat.one_mul, Nat.mul_comm]
  have hbit : putBits v j 1 1 / 2 ^ j % 2 = 1 := by
    rw [hput, Nat.add_div_right _ (Nat.two_pow_pos j), Nat.sub_mul_div_of_le _ _ _ hle]
    omega
  rw [bitOf_eq_testBit, Nat.testBit_mod_two_pow, ← bitOf_eq_testBit, decide_eq_true hj, Bool.true_and, bitOf, hbit]
  rfl

/-- An event bit that is raised reads 1, whatever the register table lists. -/
theorem rbit_raise_same (s : State) {a j : Nat} (hreset : regReset a = 0) (hj : j < 32) : (s.raise a j).rbit a j = true := by
  have hlisted : (s.raise a j).regs = tabSet s.regs a (BitVec.ofNat 32 (putBits (s.reg a) j 1 1)) :=
    regs_setReg_listed (by rw [hreset]; exact putBits_one_ne_zero hj)
  have hreg : (s.raise a j).reg a = putBits (s.reg a) j 1 1 % 2 ^ 32 := by
    rw [reg_eq_getD, hlisted, tabGet_set_same]
    simp
  rw [State.rbit, hreg, bitOf_putBits_one _ hj]

/-- A dropped frame is an event of PF (Table 3.24). -/
theorem rbit_jDrop (s : State) : (jDrop s).rbit rPfEvent 3 = true := rbit_raise_same _ (by decide) (by decide)

end Sys2Proof.Machine
end

section
/-! SETTLED. The share and slice commands, and what Jiosh frames lead to. -/

namespace Sys2Proof.Certificates

open Sys2Proof.Machine Sys2Proof.Safety

/-- A SHARE_DELETE of entry 2 in mailbox 0, bound to the house. -/
def shareDeleteRequest : Req :=
  { route := .mailbox 0, command := 0x020B, seq := 1, tag := 7, session := 0, more := false
    payload := leBytes 2 2 ++ leBytes 2 0, pended := false }

/-- A record of the house that links a share entry, with its check value. -/
def linkedRecord (entry : Nat) : PointRec :=
  PointRec.sealed
    { value := 5, time := 9, owner := 0, type := 1, quality := 0, flags := 4, writer := 0, share := entry, series := 0, check := 0 }

/-- The store lists an identifier twice, linked to entry 3 and, behind that, to entry 2: data of the state's type outside
the canonical form of its tables (`tabWf`). -/
def linkedTwice : State :=
  { State.reset with
    islands := [(iSAGE, { state := .run }), (iPF, { state := .run })]
    mail := { State.reset.mail with ready := true, inProgress := [shareDeleteRequest] }
    fabric := { State.reset.fabric with
      shares := [(2, { owner := 0, grants := [] }), (3, { owner := 0, grants := [] })]
      store := [(0x0100000, linkedRecord 3), (0x0100000, linkedRecord 2)] } }

/-- Refutes O6: of the records that do not link the deleted entry, its clause on SHARE_DELETE says without `tabWf` of the
store that they stay. Where the store lists an identifier twice, linked to entry 3 and behind that to entry 2, deleting
entry 2 unlinks the identifier, and the record read, which links entry 3, loses its link. -/
theorem not_shareAndSliceEffect : ¬ Obligations.ShareAndSliceEffect := by
  unfold Obligations.ShareAndSliceEffect
  intro hall
  have hserved : Served linkedTwice (.mailbox 0) 7 0x020B shareDeleteRequest := by decide
  have hopen : Open linkedTwice iPF := by decide
  have hentry : tabGet linkedTwice.fabric.shares 2 = some { owner := 0, grants := [] } := by decide
  obtain ⟨-, hdelete, -⟩ := hall linkedTwice (.mailbox 0) 7 shareDeleteRequest
  obtain ⟨w, hw, -, -, hothers, -⟩ := hdelete 2 _ hserved hopen rfl (by decide) hentry (by decide)
  have hkept : (w.point 0x0100000).share = 3 := by
    rw [hothers 0x0100000 (by decide)]
    decide
  have hresponds : execShareDelete (.mailbox 0) 7 linkedTwice =
      .next (respond (shipConfig w 0x020B shareDeleteRequest.payload) shareDeleteRequest stOk []) := hw
  have hfabric := fabric_respond_mailbox (m := 0) (q := shareDeleteRequest) (shipConfig w 0x020B shareDeleteRequest.payload) stOk []
    rfl
  have hlost : (match execShareDelete (.mailbox 0) 7 linkedTwice with
      | .next t => (t.point 0x0100000).share
      | _ => 3) = 0 := by decide +kernel
  rw [hresponds] at hlost
  have hpoint := point_of_store (congrArg Fabric.store (hfabric.trans (shipConfig_fabric w 0x020B _))) 0x0100000
  simp only [hpoint, hkept] at hlost
  exact absurd hlost (by decide)

/-- An ACK frame from the address of devices that have none, with the right check value. -/
def unaddressedAck : List Byte :=
  let p := leBytes 1 (1 + 4 * 16) ++ leBytes 1 0 ++ leBytes 2 0 ++ leBytes 2 0x3FE ++ leBytes 2 5 ++ leBytes 2 0 ++
    leBytes 2 0 ++ leBytes 4 0 ++ leBytes 8 0
  p ++ leBytes 4 (crcIscsi p).toNat

/-- PF and FLD run, and field port 4 is up. -/
def fieldUp : State :=
  { State.reset with
    islands := [(iPF, { state := .run }), (iFLD, { state := .run })]
    switch := { State.reset.switch with ports := [(4, { Port.factory 4 with link := .up })] } }

/-- Refutes O48: its clauses on an accepted REPORT or ACK lack `jSrc frame ≠ 0x3FE`. Only an ANNOUNCE comes from the address
of devices without one (03 R112, Table 3.12), and the model drops another kind from it before it judges the frame, with the
event FRAME_DROPPED; the clause on an ACK says that the frame is judged and leaves no event. -/
theorem not_jioshEvents : ¬ Obligations.JioshEvents := by
  unfold Obligations.JioshEvents
  intro hall
  have hopen : fieldOpen fieldUp 4 = true := by decide
  have hrun : fieldUp.running iPF = true := by decide
  have hform : jFormed unaddressedAck = true := by decide
  have hkind : jKind unaddressedAck = 4 := by decide
  have haccepted : (jAccept fieldUp (.field 4 (jSrc unaddressedAck)) unaddressedAck).1.accepted = true := by decide +kernel
  obtain ⟨-, -, -, -, -, hack, -⟩ := hall fieldUp 4 unaddressedAck
  have hjudged : Host.Outcome.next (jArrive fieldUp 4 jkAck unaddressedAck) = _ :=
    hack _ hopen hrun (by decide) hform (by decide) (by decide) hkind rfl haccepted
  have hdropped : jArrive fieldUp 4 jkAck unaddressedAck = jDrop fieldUp :=
    jArrive_unaddressed hopen hrun hform hkind (by decide) (by decide)
  have hsame := hdropped.symm.trans (Host.Outcome.next.inj hjudged)
  have hevent := rbit_jDrop fieldUp
  rw [hsame, State.rbit, reg_of_regs_eq (jAccept_regs_of_accepted haccepted)] at hevent
  exact absurd hevent (by decide)

end Sys2Proof.Certificates
end

section
/-! SUPPORT. What the restore of the store leaves alone, step by step (03 R108, 07 R219, R220): the time, the role, the areas
already restored, the recorder's close and STORE_READY. -/

namespace Sys2Proof.Machine

open Sys2Proof.Safety

/-- A step leaves the time, the role and the recorder's close as they are, and unsets neither a restored area nor
STORE_READY. -/
structure Steady (s t : State) : Prop where
  clock : t.clock = s.clock
  role : t.twin.role = s.twin.role
  closeFrom : t.harvest.closeFrom = s.harvest.closeFrom
  retain : s.power.retainBack = true → t.power.retainBack = true
  forces : s.power.forcesBack = true → t.power.forcesBack = true
  ready : s.rbit rPfStatus 0 = true → t.rbit rPfStatus 0 = true

theorem Steady.refl (s : State) : Steady s s := ⟨rfl, rfl, rfl, id, id, id⟩

theorem Steady.trans {s t u : State} (h : Steady s t) (k : Steady t u) : Steady s u :=
  ⟨k.clock.trans h.clock, k.role.trans h.role, k.closeFrom.trans h.closeFrom, k.retain ∘ h.retain, k.forces ∘ h.forces,
    k.ready ∘ h.ready⟩

theorem steady_foldl {α : Type} (f : State → α → State) (h : ∀ s a, Steady s (f s a)) :
    ∀ (l : List α) (s : State), Steady s (l.foldl f s)
  | [], s => Steady.refl s
  | a :: l, s => (h s a).trans (steady_foldl f h l (f s a))

/-! ### Single updates -/

/-- The parts that `Steady` speaks of. -/
abbrev steadyParts : List StatePart := [.clock, .twin, .harvest, .power, .regs]

theorem steady_of_only {ps : List StatePart} {s t : State} (h : Only ps s t) (hps : ∀ p ∈ steadyParts, p ∉ ps) : Steady s t := by
  have hclock : t.clock = s.clock := h .clock (hps _ (by decide))
  have htwin : t.twin = s.twin := h .twin (hps _ (by decide))
  have hharvest : t.harvest = s.harvest := h .harvest (hps _ (by decide))
  have hpower : t.power = s.power := h .power (hps _ (by decide))
  have hregs : t.regs = s.regs := h .regs (hps _ (by decide))
  refine ⟨hclock, by rw [htwin], by rw [hharvest], by rw [hpower]; exact id, by rw [hpower]; exact id, ?_⟩
  rw [State.rbit, State.rbit, reg_of_regs_eq hregs]
  exact id

theorem steady_fabric (s : State) (f : Fabric) : Steady s { s with fabric := f } := steady_of_only (only_fabric s f) (by decide)

theorem steady_twin {s : State} {x : Twin} (h : x.role = s.twin.role) : Steady s { s with twin := x } :=
  ⟨rfl, h, rfl, id, id, id⟩

theorem steady_harvest {s : State} {x : Harvest} (h : x.closeFrom = s.harvest.closeFrom) : Steady s { s with harvest := x } :=
  ⟨rfl, rfl, h, id, id, id⟩

/-- Removing an entry leaves another alone that the table shows, whatever its form. -/
theorem tabGet_tabDel_of_some {β : Type} {i j : Nat} (hj : j ≠ i) {v : β} :
    ∀ {t : Tab β}, tabGet t j = some v → tabGet (tabDel t i) j = some v
  | [], h => h
  | (k, w) :: t, h => by
    by_cases hik : i = k
    · subst hik
      rw [tabDel, if_pos rfl]
      rw [tabGet, if_neg hj] at h
      by_cases hlt : j < i
      · simp [hlt] at h
      · rwa [if_neg hlt] at h
    · rw [tabDel, if_neg hik]
      by_cases hlt : i < k
      · rwa [if_pos hlt]
      · rw [if_neg hlt]
        rw [tabGet] at h ⊢
        split at h
        · next hjk => rwa [if_pos hjk]
        · next hjk =>
          rw [if_neg hjk]
          split at h
          · exact absurd h (by simp)
          · next hge => rw [if_neg hge]; exact tabGet_tabDel_of_some hj h

/-- A register that the table shows stays, whatever is stored in another. -/
theorem tabGet_regs_setReg_other {s : State} {a b v : Nat} {w : Word} (hb : b ≠ a) (h : tabGet s.regs b = some w) :
    tabGet (s.setReg a v).regs b = some w := by
  by_cases hv : v % 2 ^ 32 = regReset a
  · rw [regs_setReg_reset hv]
    exact tabGet_tabDel_of_some hb h
  · rw [regs_setReg_listed hv, tabGet_set_other _ hb, h]

/-- A set bit of a register whose reset value is 0 stays, whatever is stored in another register. -/
theorem rbit_setReg_other {s : State} {a b i : Nat} (v : Nat) (hreset : regReset b = 0) (hb : b ≠ a)
    (h : s.rbit b i = true) : (s.setReg a v).rbit b i = true := by
  rw [State.rbit, reg_eq_getD] at h ⊢
  cases hget : tabGet s.regs b with
  | none => simp [hget, hreset, bitOf] at h
  | some w => rwa [tabGet_regs_setReg_other hb hget, ← hget]

theorem steady_setReg (s : State) {a : Nat} (v : Nat) (ha : rPfStatus ≠ a) : Steady s (s.setReg a v) :=
  ⟨rfl, rfl, rfl, id, id, rbit_setReg_other v (by decide) ha⟩

theorem steady_raise (s : State) {a : Nat} (i : Nat) (ha : rPfStatus ≠ a) : Steady s (s.raise a i) := steady_setReg s _ ha

theorem steady_stick (s : State) {a ev : Nat} (bit n : Nat) (ha : rPfStatus ≠ a) (hev : rPfStatus ≠ ev) :
    Steady s (s.stick a ev bit n) := by
  unfold State.stick
  dsimp only
  split
  · exact steady_setReg s _ ha
  · exact (steady_setReg s _ ha).trans (steady_raise _ bit hev)

/-- RESTORE_FAILED is set beside STORE_READY (Table 3.15). -/
theorem steady_raise_status (s : State) : Steady s (s.raise rPfStatus 1) := by
  refine ⟨rfl, rfl, rfl, id, id, fun h => ?_⟩
  have hlisted : (s.raise rPfStatus 1).regs = tabSet s.regs rPfStatus (BitVec.ofNat 32 (putBits (s.reg rPfStatus) 1 1 1)) :=
    regs_setReg_listed (by rw [show regReset rPfStatus = 0 by decide]; exact putBits_one_ne_zero (by decide))
  have hreg : (s.raise rPfStatus 1).reg rPfStatus = putBits (s.reg rPfStatus) 1 1 1 % 2 ^ 32 := by
    rw [reg_eq_getD, hlisted, tabGet_set_same]
    simp
  rw [State.rbit, hreg]
  simp only [State.rbit, bitOf, decide_eq_true_eq, Nat.pow_zero, Nat.div_one] at h ⊢
  simp only [putBits, bitsOf]
  omega

theorem steady_wrapAdd (s : State) {a : Nat} (n : Nat) (ha : rPfStatus ≠ a) : Steady s (s.wrapAdd a n) := steady_setReg s _ ha

theorem steady_logEvent (s : State) (level island block bit detail : Nat) :
    Steady s (s.logEvent level island block bit detail) := by
  have hcount := steady_wrapAdd s 1 (show rPfStatus ≠ rMgLogTotal by decide)
  exact ⟨rfl, rfl, rfl, id, id, hcount.ready⟩

/-! ### Loads and stores of records -/

theorem steady_chkUnit (s : State) (c n : Nat) (v : Word) (ok : Bool) : Steady s (s.chkUnit c n v ok) :=
  steady_of_only (only_chkUnit s c n v ok) (by decide)

theorem steady_markFailed (s : State) (pt : Nat) : Steady s (markFailed s pt) := by
  unfold markFailed
  split
  · exact Steady.refl s
  · exact (steady_fabric s _).trans ((steady_stick _ 4 1 (by decide) (by decide)).trans
      ((steady_raise _ 0 (by decide)).trans (steady_setReg _ _ (by decide))))

theorem steady_loadPoint (s : State) (pt : Nat) : Steady s (loadPoint s pt) := by
  obtain ⟨cache, turn, misses, stuck, made, hload⟩ := loadPoint_cases s pt
  rw [hload]
  dsimp only
  split
  · exact (steady_fabric s _).trans ((steady_chkUnit _ 9 28 _ false).trans (steady_markFailed _ pt))
  · exact (steady_fabric s _).trans (steady_of_only (only_chkLoaded _ 9 28 _ made) (by decide))

theorem steady_storePoint (s : State) (pt : Nat) (r : PointRec) : Steady s (s.storePoint pt r) :=
  steady_of_only (only_storePoint s pt r) (by decide)

theorem steady_putPoint (s : State) (pt : Nat) (r : PointRec) : Steady s (s.putPoint pt r) :=
  steady_of_only (only_putPoint s pt r) (by decide)

theorem steady_editPoint {f : State → Nat → State} (h : ∀ s pt, Steady s (f s pt)) (s : State) (pt : Nat) :
    Steady s (editPoint s pt f) := by
  unfold editPoint
  dsimp only
  split
  · exact steady_loadPoint s pt
  · exact (steady_loadPoint s pt).trans (h _ pt)

theorem steady_judged (s : State) (pt tenant writer : Nat) (op : FabOp) : Steady s (judged s pt tenant writer op).2 := by
  unfold judged
  split
  · exact Steady.refl s
  · dsimp only
    split
    · exact steady_loadPoint s pt
    · exact (steady_loadPoint s pt).trans (steady_stick _ 4 1 (by decide) (by decide))

/-! ### Shipments, samples and the journal -/

theorem steady_enqueue_twinPort (s : State) (cls : Nat) (b : List Byte) (stamp : Stamp) :
    Steady s (enqueue s 2 cls b stamp) := by
  unfold enqueue
  dsimp only
  split
  · exact Steady.refl s
  split
  · exact steady_of_only (only_setPort s 2 _) (by decide)
  · exact (steady_stick s 4 1 (by decide) (by decide)).trans (steady_raise _ 1 (by decide))

theorem steady_twinFrame (s : State) (kind seq frag : Nat) (last : Bool) (body : List Byte) :
    Steady s (twinFrame s kind seq frag last body) :=
  (steady_chkUnit s 4 _ _ true).trans (steady_enqueue_twinPort _ 7 _ .none)

theorem steady_twinFragments (seq : Nat) : ∀ (bodies : List (List Byte)) (s : State) (k : Nat),
    Steady s (twinFragments s seq k bodies)
  | [], s, _ => Steady.refl s
  | [b], s, k => steady_twinFrame s 0x10 seq k true b
  | b :: c :: rest, s, k =>
    (steady_twinFrame s 0x10 seq k false b).trans (steady_twinFragments seq (c :: rest) _ (k + 1))

theorem steady_shipNow (s : State) (body : List Byte) : Steady s (shipNow s body) :=
  Steady.trans (t := (twinSeq s 0x10).2) (steady_twin rfl) (steady_twinFragments (twinSeq s 0x10).1 (chunks 2000 256 body) _ 0)

theorem steady_ship (s : State) (records : List (List Byte)) : Steady s (ship s records) := by
  unfold ship
  dsimp only
  split
  · split
    · exact steady_shipNow s _
    · exact steady_twin rfl
  · exact Steady.refl s

theorem steady_shipForce (s : State) (i : Nat) (f : Force) (flag : Nat) (value : Word64) :
    Steady s (shipForce s i f flag value) := steady_ship s _

theorem steady_queueSample (s : State) (x : HvSample) : Steady s (queueSample s x) := by
  unfold queueSample
  split
  · exact steady_harvest rfl
  · exact (steady_stick s 6 1 (by decide) (by decide)).trans (steady_raise _ 2 (by decide))

theorem steady_sampleWrite (s : State) (pt type quality : Nat) (value : Word64) (time : Nat) :
    Steady s (sampleWrite s pt type quality value time) := by
  unfold sampleWrite
  split
  · exact steady_foldl _ (fun s k => steady_queueSample s _) _ s
  · exact Steady.refl s

theorem steady_journalWrite (s : State) (pt writer : Nat) : Steady s (journalWrite s pt writer) := by
  unfold journalWrite
  dsimp only
  split
  · exact steady_twin rfl
  · exact Steady.refl s

/-! ### Definitions and claims -/

theorem steady_unlinkChain (s : State) (pt : Nat) : Steady s (unlinkChain s pt) := by
  have hstep (t : State) (k : Nat) : Steady t
      (match tabGet t.harvest.series k with
      | some x =>
        let t := dropSamples t k
        { t with harvest := { t.harvest with series := tabSet t.harvest.series k { x with linked := false, next := none } } }
      | none => t) := by
    split
    · exact (steady_harvest (s := t) rfl).trans (steady_harvest rfl)
    · exact Steady.refl t
  unfold unlinkChain
  dsimp only
  split
  · exact steady_foldl _ hstep _ s
  · exact (steady_foldl _ hstep _ s).trans (steady_raise _ 5 (by decide))

theorem steady_unforced (s : State) (pt : Nat) : Steady s (unforced s pt) := by
  unfold unforced
  split
  next i f _ _ => exact (steady_of_only (only_dropForce s i) (by decide)).trans (steady_shipForce _ i f 2 _)
  next => exact Steady.refl s

theorem steady_undefinePoint (s : State) (pt : Nat) : Steady s (undefinePoint s pt) :=
  (steady_unlinkChain s pt).trans ((steady_unforced _ pt).trans ((steady_fabric _ _).trans
    (steady_of_only (only_dropPoint _ pt) (by decide))))

theorem steady_claimPoint (s : State) (pt writer : Nat) : Steady s (claimPoint s pt writer) := steady_putPoint s pt _

theorem steady_claimFree (s : State) (pt writer : Nat) : Steady s (claimFree s pt writer) := by
  refine steady_editPoint (fun t pt => ?_) s pt
  split
  · exact Steady.refl t
  · exact steady_claimPoint t pt writer

theorem steady_claimForDevice (s : State) (pt : Nat) : Steady s (claimForDevice s pt) := by
  unfold claimForDevice
  split
  · exact steady_claimFree s pt _
  · exact Steady.refl s

theorem steady_definePoint (s : State) (pt owner type : Nat) (retentive : Bool) :
    Steady s (definePoint s pt owner type retentive) := by
  unfold definePoint
  dsimp only
  refine Steady.trans ((steady_putPoint s pt (PointRec.fresh owner type retentive)).trans ?_) (steady_claimForDevice _ pt)
  split
  · split
    · exact steady_fabric _ _
    · exact Steady.refl _
  · exact Steady.refl _

/-! ### System points (22 Table 22.5) -/

theorem steady_sysValue (s : State) (pt : Nat) : Steady s (sysValue s pt) := by
  unfold sysValue
  split
  · exact steady_putPoint s pt _
  · exact Steady.refl s

theorem steady_sysDefine (s : State) (x : SysPoint) : Steady s (sysDefine s x) :=
  ((steady_definePoint s x.pt x.owner x.type false).trans (steady_claimPoint _ x.pt x.writer)).trans (steady_sysValue _ x.pt)

theorem steady_syncSystem (s : State) : Steady s (syncSystem s) := by
  unfold syncSystem
  refine Steady.trans (steady_foldl _ steady_undefinePoint _ s) (steady_foldl _ (fun t x => ?_) _ _)
  split
  · exact Steady.refl t
  · exact steady_sysDefine t x

/-! ### Retentive records and forces (R106, R219, R220) -/

theorem steady_redefine (s : State) (pt : Nat) (d : PointDef) : Steady s (redefine s pt d) := by
  unfold redefine
  split
  · exact Steady.refl s
  · dsimp only
    split
    · exact (steady_storePoint s pt _).trans (steady_storePoint _ pt _)
    · exact steady_storePoint s pt _

theorem steady_mramRead (s : State) (check : Word) (n : Nat) (ok : Bool) : Steady s (mramRead s check n ok) :=
  steady_chkUnit s 3 n check ok

theorem steady_freePlace (s : State) (k detail : Nat) : Steady s (freePlace s k detail) :=
  (steady_fabric s _).trans (steady_logEvent _ lvWarn iPF 1 0x20 detail)

theorem steady_repairPlace (s : State) (k : Nat) (x : RetPlace) (r : PointRec) (repaired : Bool) :
    Steady s (repairPlace s k x r repaired) := by
  unfold repairPlace
  split
  · exact (steady_fabric s _).trans (steady_raise _ 1 (by decide))
  · exact Steady.refl s

theorem steady_repairDir (s : State) (k : Nat) (x : RetPlace) (repaired : Bool) : Steady s (repairDir s k x repaired).2 := by
  unfold repairDir
  split
  · exact (steady_fabric s _).trans (steady_raise _ 1 (by decide))
  · exact Steady.refl s

theorem steady_restorePlace (s : State) (k : Nat) : Steady s (restorePlace s k) := by
  unfold restorePlace
  split
  · exact Steady.refl s
  split
  · exact (steady_freePlace s k _).trans (steady_raise_status _)
  next x _ _ pt repairedDir _ =>
    have hread : Steady s _ := (steady_repairDir s k x repairedDir).trans
      ((steady_mramRead _ (repairDir s k x repairedDir).1.copy0.check 28
        ((repairDir s k x repairedDir).1.copy0.check == (repairDir s k x repairedDir).1.copy0.right)).trans
        (steady_mramRead _ (repairDir s k x repairedDir).1.copy1.check 28
          ((repairDir s k x repairedDir).1.copy1.check == (repairDir s k x repairedDir).1.copy1.right)))
    dsimp only
    split
    · split
      · exact hread.trans ((steady_storePoint _ pt _).trans ((steady_markFailed _ pt).trans (steady_raise_status _)))
      · exact hread.trans (steady_freePlace _ k pt)
    · split
      · exact hread.trans ((steady_repairPlace _ k _ _ _).trans (steady_storePoint _ pt _))
      · exact hread.trans ((steady_repairPlace _ k _ _ _).trans (steady_freePlace _ k pt))

theorem steady_placeFor (s : State) (pt : Nat) : Steady s (placeFor s pt) := by
  unfold placeFor
  split
  · split
    · exact steady_fabric s _
    · exact Steady.refl s
  · exact Steady.refl s

theorem steady_freeForce (s : State) (i detail : Nat) : Steady s (freeForce s i detail) :=
  (steady_fabric s _).trans (steady_logEvent _ lvWarn iPF 1 0x21 detail)

/-- A bad check value of a saved force is rewritten from the good copy (R218). -/
theorem steady_rewriteForce (s : State) (i : Nat) (c : ForceCopy) (repaired : Bool) :
    Steady s (if repaired then
      ({ s with fabric := { s.fabric with
          forceCopy0 := tabSet s.fabric.forceCopy0 i c, forceCopy1 := tabSet s.fabric.forceCopy1 i c } } : State).raise rPfEvent 1
      else s) := by
  split
  · exact (steady_fabric s _).trans (steady_raise _ 1 (by decide))
  · exact Steady.refl s

/-- A saved force stands again on its point, or is discarded (R220). -/
theorem steady_standForce (s : State) (i : Nat) (c : ForceCopy) :
    Steady s (
      let r := s.point c.pt
      if s.defined c.pt && r.type == c.type && (forceIndex s c.pt).isNone then
        let s := s.storePoint c.pt (r.setFlag fForced true)
        let f : Force :=
          { pt := c.pt, type := c.type, value := c.value, time := c.time, entryValue := r.value, entryTime := r.time
            entryQuality := r.quality }
        { s with fabric := { s.fabric with forces := tabSet s.fabric.forces i f } }
      else freeForce s i c.pt) := by
  dsimp only
  split
  · exact (steady_storePoint s c.pt _).trans (steady_fabric _ _)
  · exact steady_freeForce s i c.pt

theorem steady_restoreForce (s : State) (i : Nat) : Steady s (restoreForce s i) := by
  unfold restoreForce
  split
  next a b _ _ =>
    have hread : Steady s _ := (steady_mramRead s a.check 24 (a.check == a.right)).trans
      (steady_mramRead _ b.check 24 (b.check == b.right))
    dsimp only
    split
    · exact hread.trans (steady_freeForce _ i a.pt)
    next c repaired _ =>
      have hrewrite : Steady s _ := hread.trans (steady_rewriteForce _ i { c with check := ForceCopy.right c } repaired)
      exact hrewrite.trans (steady_standForce _ i { c with check := ForceCopy.right c })
  next => exact Steady.refl s

/-! ### Claims made again (R117, R118, 15 R424) -/

theorem steady_reclaimDevices (s : State) : Steady s (reclaimDevices s) :=
  steady_foldl _ (fun t pt => by
    split
    · exact Steady.refl t
    · exact steady_claimForDevice t pt) _ s

theorem steady_reclaimImports (s : State) : Steady s (reclaimImports s) :=
  steady_foldl _ (fun t p => by
    split
    · exact steady_claimFree t _ _
    · exact Steady.refl t) _ s

theorem steady_reclaimObjects (s : State) : Steady s (reclaimObjects s) :=
  steady_foldl _ (fun t p => by
    split
    · refine steady_foldl _ (fun u pt => ?_) _ t
      split
      · exact steady_claimFree u pt _
      · exact Steady.refl u
    · exact Steady.refl t) _ s

/-! ### Series (11 R333) -/

theorem steady_setSeries (s : State) (k : Nat) (x : HvSeries) : Steady s (setSeries s k x) := steady_harvest rfl

theorem steady_joinChain (s : State) (k pt : Nat) : Steady s (joinChain s k pt) := by
  unfold joinChain
  dsimp only
  split
  · exact (steady_setSeries s k _).trans (steady_putPoint _ pt _)
  · exact steady_putPoint s pt _

theorem steady_restoreSeries (s : State) (k : Nat) (x : HvSeries) : Steady s (restoreSeries s k x) := by
  unfold restoreSeries
  split
  · exact (steady_setSeries s k _).trans (steady_joinChain _ k x.pt)
  · exact Steady.refl s

/-! ### Writes of the island points (22 R571) -/

theorem steady_setForce (s : State) (i : Nat) (f : Force) : Steady s (setForce s i f) :=
  steady_of_only (only_setForce s i f) (by decide)

theorem steady_performWrite (s : State) (pt writer quality : Nat) (value : Word64) (time : Nat) :
    Steady s (performWrite s pt writer quality value time) := by
  unfold performWrite
  dsimp only
  refine (steady_sampleWrite s pt (s.point pt).type quality (typed (s.point pt).type value) time).trans ?_
  split
  next i f _ _ => exact (steady_setForce _ i _).trans (steady_shipForce _ i _ 4 _)
  next => exact steady_putPoint _ pt _

theorem steady_rebuild (s : State) (pt writer type quality : Nat) (value : Word64) (time : Nat) :
    Steady s (rebuild s pt writer type quality value time) :=
  ((steady_unlinkChain s pt).trans (steady_unforced _ pt)).trans ((steady_fabric _ _).trans (steady_putPoint _ pt _))

theorem steady_fabWrite (s : State) (tenant writer pt type quality : Nat) (value : Word64) (time : Nat) :
    Steady s (fabWrite s tenant writer pt type quality value time).2 := by
  have hjudged := steady_judged s pt tenant writer .write
  unfold fabWrite
  dsimp only
  split
  · exact hjudged
  split
  · exact hjudged
  split
  · split
    · exact hjudged
    · exact hjudged.trans ((steady_rebuild _ pt writer type quality value _).trans (steady_journalWrite _ pt writer))
  split
  · exact hjudged
  · exact hjudged.trans ((steady_performWrite _ pt writer quality value _).trans (steady_journalWrite _ pt writer))

theorem steady_wakeIsl (s : State) (i : Nat) : Steady s (s.wakeIsl i) := by
  unfold State.wakeIsl
  split
  · exact steady_of_only (only_setIsl s i _) (by decide)
  · exact Steady.refl s

/-- A write that Chervil asks of the fabric. -/
theorem steady_reach (s : State) : Steady s (reach s iMGT iPF).2 := by
  unfold reach
  dsimp only
  have hcounted (t : State) (st : Nat) : Steady t (if st = stOk then t else t.countRefused iPF) := by
    split
    · exact Steady.refl t
    · exact steady_stick t 7 1 (by decide) (by decide)
  have hreached : Steady s _ := (steady_wakeIsl s iPF).trans (hcounted _ (portStatus (s.isl iPF) (s.epochOf iMGT iPF)))
  split
  · exact hreached
  · exact hreached.trans (steady_of_only (only_noteEpoch _ iMGT iPF _) (by decide))

theorem steady_lastError (s : State) (source status : Nat) : Steady s (s.lastError iMGT iPF source status) := by
  unfold State.lastError
  split
  · exact Steady.refl s
  · exact steady_setReg s _ (by decide)

theorem steady_sysWrite (s : State) (writer pt type quality : Nat) (value : Word64) (time : Nat) :
    Steady s (sysWrite s iMGT writer pt type quality value time) := by
  unfold sysWrite writeFrom crossStatus crossing
  rw [if_neg (by decide : iMGT ≠ iPF)]
  dsimp only
  split
  · exact (steady_reach s).trans ((steady_fabWrite _ house writer pt type quality value time).trans (steady_lastError _ 0 _))
  · exact (steady_reach s).trans (steady_lastError _ 0 _)

theorem steady_writeIslandPoints (s : State) (i : Nat) : Steady s (writeIslandPoints s i) := by
  have hput (t : State) (k type v : Nat) : Steady t
      (if (t.point (16 * i + k)).value.toNat = v ∧ (t.point (16 * i + k)).quality = qGood then t
       else sysWrite (t.wakeIsl iMGT) iMGT wIslands (16 * i + k) type qGood (BitVec.ofNat 64 v) t.tai) := by
    split
    · exact Steady.refl t
    · exact (steady_wakeIsl t iMGT).trans (steady_sysWrite _ wIslands _ type qGood _ _)
  unfold writeIslandPoints
  dsimp only
  split
  · exact Steady.refl s
  · exact (hput s 0 7 _).trans ((hput _ 1 2 _).trans (hput _ 2 2 _))

theorem steady_writeAllIslandPoints (s : State) : Steady s (writeAllIslandPoints s) :=
  steady_foldl _ steady_writeIslandPoints _ s

end Sys2Proof.Machine
end

section
/-! SUPPORT. The restore of the store, its saves, the scrubber and the image operations (03 R99, R101, R106 to R108; 07
R217 to R220). -/

namespace Sys2Proof.Machine

open Sys2Proof.Safety

/-! ### The restore -/

/-- What the restore leaves: STORE_READY set, its areas restored, the recorder's close at its instant (R108). -/
structure Restored (s t : State) : Prop where
  role : t.twin.role = s.twin.role
  ready : t.rbit rPfStatus 0 = true
  retain : t.power.retainBack = true
  forces : t.power.forcesBack = true
  closeFrom : t.harvest.closeFrom = s.tai

theorem steady_retainBack (s : State) : Steady s { s with power := { s.power with retainBack := true } } :=
  ⟨rfl, rfl, rfl, fun _ => rfl, id, id⟩

theorem steady_forcesBack (s : State) : Steady s { s with power := { s.power with forcesBack := true } } :=
  ⟨rfl, rfl, rfl, id, fun _ => rfl, id⟩

theorem rbit_harvest (s : State) (x : Harvest) (a i : Nat) : ({ s with harvest := x } : State).rbit a i = s.rbit a i := rfl

/-- STORE_READY is set. -/
theorem rbit_raise_ready (s : State) : (s.raise rPfStatus 0).rbit rPfStatus 0 = true := rbit_raise_same s (by decide) (by decide)

theorem steady_raise_ready (s : State) : Steady s (s.raise rPfStatus 0) :=
  ⟨rfl, rfl, rfl, id, id, fun _ => rbit_raise_ready s⟩

/-- With everything back, the recorder closes from here on and the island points are written (11 R333, 22 R571). -/
theorem restored_of_steady {s t : State} (hall : Steady s t) (hready : t.rbit rPfStatus 0 = true)
    (hretain : t.power.retainBack = true) (hforces : t.power.forcesBack = true) :
    Restored s (writeAllIslandPoints { t with harvest := { t.harvest with closeFrom := t.tai } }) := by
  have htai : t.tai = s.tai := by rw [State.tai, hall.clock, State.tai]
  have hwritten := steady_writeAllIslandPoints { t with harvest := { t.harvest with closeFrom := t.tai } }
  generalize writeAllIslandPoints { t with harvest := { t.harvest with closeFrom := t.tai } } = u at hwritten ⊢
  obtain ⟨-, hrole, hclose, hretain', hforces', hready'⟩ := hwritten
  rw [rbit_harvest] at hready'
  exact ⟨hrole.trans hall.role, hready' hready, hretain' hretain, hforces' hforces, hclose.trans htai⟩

theorem restored_storeRestore {s : State} (hrun : s.running iPF = true) (hsteward : stewardReady s = true)
    (hstatus : s.rbit rPfStatus 0 = false) (hstore : s.power.storeReady = true) : Restored s (storeRestore s) := by
  have hgo : ¬(!s.running iPF || !stewardReady s || s.rbit rPfStatus 0 || !s.power.storeReady) = true := by
    simp [hrun, hsteward, hstatus, hstore]
  unfold storeRestore
  rw [if_neg hgo]
  extract_lets system defined placed housed oldRecords records stood oldForces forces claimed ready series oldSeries
  have hhoused : Steady s housed :=
    Steady.trans
      (Steady.trans (steady_syncSystem s) (steady_foldl _ (fun t (p : Nat × PointDef) => steady_redefine t p.1 p.2) _ system))
      (Steady.trans (steady_foldl _ steady_restorePlace _ defined) (steady_foldl _ steady_placeFor _ placed))
  have hrecords : Steady housed records := steady_retainBack housed
  have hretain : records.power.retainBack = true := rfl
  have hstood : Steady records stood := steady_foldl _ steady_restoreForce _ records
  have hforces : Steady stood forces := steady_forcesBack stood
  have hforced : forces.power.forcesBack = true := rfl
  have hclaimed : Steady forces claimed :=
    (steady_reclaimDevices forces).trans ((steady_reclaimImports _).trans (steady_reclaimObjects _))
  have hset : ready.rbit rPfStatus 0 = true := rbit_raise_ready claimed
  have hready : Steady claimed ready := steady_raise_ready claimed
  have hseries : Steady ready series :=
    steady_foldl _ (fun t (p : Nat × HvSeries) => steady_restoreSeries t p.1 p.2) ready.harvest.saved ready
  clear_value series ready claimed forces oldForces stood records oldRecords housed placed defined system
  have hopen := hclaimed.trans (hready.trans hseries)
  have hall := hhoused.trans (hrecords.trans (hstood.trans (hforces.trans hopen)))
  exact restored_of_steady hall (hseries.ready hset) (hopen.retain (hforces.retain (hstood.retain hretain)))
    (hopen.forces hforced)

/-! ### Saves -/

theorem tabGet_tabMap {β : Type} (f : Nat → β → β) (k : Nat) : ∀ t : Tab β, tabGet (tabMap f t) k = (tabGet t k).map (f k)
  | [] => rfl
  | (j, v) :: t => by
    have htail := tabGet_tabMap f k t
    simp only [tabMap] at htail
    simp only [tabMap, List.map_cons, tabGet, htail]
    by_cases hkj : k = j
    · subst hkj
      simp
    · by_cases hlt : k < j <;> simp [hkj, hlt]

theorem tabMap_tabMap {β : Type} (f g : Nat → β → β) (t : Tab β) : tabMap f (tabMap g t) = tabMap (fun k x => f k (g k x)) t := by
  simp [tabMap]

/-- A retentive place with both copies written. -/
def RetPlace.saved (x : RetPlace) (r : PointRec) : RetPlace := { x with copy0 := r, copy1 := r }

/-- A place after the save of an identifier, which writes it if it is tied to that (07 R217). -/
def RetPlace.savedFor (s : State) (x : RetPlace) (pt : Nat) : RetPlace :=
  if x.holds pt then x.saved (retentiveImage s pt) else x

theorem holds_savedFor (s : State) (x : RetPlace) (pt k : Nat) : (x.savedFor s pt).holds k = x.holds k := by
  unfold RetPlace.savedFor
  split <;> rfl

theorem eq_of_holds {x : RetPlace} {pt k : Nat} (h : x.holds pt = true) (hk : x.holds k = true) : pt = k := by
  unfold RetPlace.holds at h hk
  cases hid : placeId x with
  | lost => simp [hid] at h
  | taken id repaired =>
    simp only [hid, beq_iff_eq] at h hk
    exact h.symm.trans hk

/-- A place whose identifier is among those saved holds its image, in both copies. -/
theorem foldl_savedFor_of_saved {s : State} {pt : Nat} : ∀ (l : List Nat) {x : RetPlace}, x.holds pt = true →
    (x.saved (retentiveImage s pt)).holds pt = true →
    l.foldl (RetPlace.savedFor s) (x.saved (retentiveImage s pt)) = x.saved (retentiveImage s pt)
  | [], _, _, _ => rfl
  | k :: l, x, hx, hs => by
    have hstep : (x.saved (retentiveImage s pt)).savedFor s k = x.saved (retentiveImage s pt) := by
      unfold RetPlace.savedFor
      split
      next hk => rw [eq_of_holds hs hk]; rfl
      next => rfl
    rw [List.foldl_cons, hstep]
    exact foldl_savedFor_of_saved l hx hs

theorem foldl_savedFor {s : State} {pt : Nat} : ∀ {l : List Nat} {x : RetPlace}, x.holds pt = true → pt ∈ l →
    l.foldl (RetPlace.savedFor s) x = x.saved (retentiveImage s pt)
  | k :: l, x, hx, hmem => by
    rw [List.foldl_cons]
    by_cases hk : x.holds k = true
    · obtain rfl := eq_of_holds hx hk
      rw [RetPlace.savedFor, if_pos hx]
      exact foldl_savedFor_of_saved l hx hx
    · have hne : pt ≠ k := by
        rintro rfl
        exact hk hx
      rw [RetPlace.savedFor, if_neg hk]
      exact foldl_savedFor hx ((List.mem_cons.mp hmem).resolve_left hne)

/-- What saves of retentive records leave of the fabric (07 R217). -/
structure SavedRecords (l : List Nat) (s t : State) : Prop where
  store : t.fabric.store = s.fabric.store
  failed : t.fabric.failed = s.fabric.failed
  forces : t.fabric.forces = s.fabric.forces
  forceDue : t.fabric.forceDue = s.fabric.forceDue
  saveDue : ∀ k, k ∈ t.fabric.saveDue → k ∈ s.fabric.saveDue ∧ k ∉ l
  places : t.fabric.places = tabMap (fun _ x => l.foldl (RetPlace.savedFor s) x) s.fabric.places
  power : t.power = s.power
  only : Only [.fabric, .chk] s t

theorem retentiveImage_congr {s t : State} (hstore : t.fabric.store = s.fabric.store) (hforces : t.fabric.forces = s.fabric.forces)
    (pt : Nat) : retentiveImage t pt = retentiveImage s pt := by
  rw [retentiveImage, retentiveImage, point_of_store hstore, forceOf_of_forces hforces]

theorem sound_congr {s t : State} (hstore : t.fabric.store = s.fabric.store) (hfailed : t.fabric.failed = s.fabric.failed)
    (pt : Nat) (h : Sound s pt) : Sound t pt := by
  simpa only [Sound, point_of_store hstore, defined_of_store hstore, State.failedPt, hfailed] using h

/-- Writing copy 0 and then copy 1 of the places of an identifier writes both. -/
theorem tabMap_copies (pt : Nat) (r : PointRec) (places : Tab RetPlace) :
    tabMap (fun _ x => if x.holds pt then { x with copy1 := r } else x)
      (tabMap (fun _ x => if x.holds pt then { x with copy0 := r } else x) places) =
    tabMap (fun _ x => if x.holds pt then x.saved r else x) places := by
  have hcopies (x : RetPlace) :
      (fun y : RetPlace => if y.holds pt then { y with copy1 := r } else y) (if x.holds pt then { x with copy0 := r } else x) =
      if x.holds pt then x.saved r else x := by
    dsimp only
    by_cases hx : x.holds pt = true
    · have hx0 : RetPlace.holds { x with copy0 := r } pt = true := hx
      rw [if_pos hx, if_pos hx, if_pos hx0]
      rfl
    · rw [if_neg hx, if_neg hx, if_neg hx]
  rw [tabMap_tabMap]
  exact congrArg (tabMap · places) (funext fun _ => funext hcopies)

/-- An identifier leaves the pending saves. -/
def undue (s : State) (pt : Nat) : State := { s with fabric := { s.fabric with saveDue := s.fabric.saveDue.filter (· != pt) } }

/-- The places of an identifier are changed. -/
def editPlaces (s : State) (pt : Nat) (f : RetPlace → RetPlace) : State :=
  { s with fabric := { s.fabric with places := tabMap (fun _ x => if x.holds pt then f x else x) s.fabric.places } }

/-- An image is written to the places of an identifier, copy 0 before copy 1 (07 R217). -/
def writeCopies (s : State) (pt : Nat) (r : PointRec) : State :=
  mramWrite (editPlaces (mramWrite (editPlaces s pt fun x => { x with copy0 := r }) r.check 28) pt fun x => { x with copy1 := r })
    r.check 28

theorem writeCopies_fabric (s : State) (pt : Nat) (r : PointRec) : (writeCopies s pt r).fabric =
    { s.fabric with places := tabMap (fun _ x => if x.holds pt then x.saved r else x) s.fabric.places } := by
  simp only [writeCopies, mramWrite, editPlaces, chkUnit_fabric, tabMap_copies]

theorem only_writeCopies (s : State) (pt : Nat) (r : PointRec) : Only [.fabric, .chk] s (writeCopies s pt r) := by
  have hwrite (t : State) (f : RetPlace → RetPlace) : Only [.fabric, .chk] t (mramWrite (editPlaces t pt f) r.check 28) :=
    Only.seq (only_fabric t _) (only_chkUnit _ 2 28 r.check true)
  exact Only.trans (hwrite s _) (hwrite _ _)

/-- The image of a record whose check value is right is written to its place. -/
theorem saveRetentive_eq {s t : State} {pt : Nat} (hload : loadPoint (undue s pt) pt = t) (hfailed : t.failedPt pt = false) :
    saveRetentive s pt = writeCopies t pt (retentiveImage t pt) := by
  subst hload
  exact if_neg fun h => Bool.false_ne_true (hfailed.symm.trans h)

theorem saveRetentive_sound {s : State} {pt : Nat} (hs : Sound s pt) : SavedRecords [pt] s (saveRetentive s pt) := by
  have hdue : Sound (undue s pt) pt := sound_congr rfl rfl pt hs
  have hintact := intact_of_sound hdue
  have hfailed := loadPoint_failed_of_intact hintact
  have hload : Only [.fabric, .chk] s (loadPoint (undue s pt) pt) :=
    Only.mono (Only.seq (only_fabric s _) (only_loadPoint_of_intact hintact)) (by decide)
  obtain ⟨-, -, hfine, -, -⟩ := sound_loadPoint hdue
  have himage : retentiveImage (loadPoint (undue s pt) pt) pt = retentiveImage s pt :=
    retentiveImage_congr (loadPoint_store _ pt) (loadPoint_forces _ pt) pt
  rw [saveRetentive_eq rfl hfine, himage]
  have hfabric := writeCopies_fabric (loadPoint (undue s pt) pt) pt (retentiveImage s pt)
  have honly : Only [.fabric, .chk] s _ := Only.trans hload (only_writeCopies _ pt (retentiveImage s pt))
  refine ⟨?_, ?_, ?_, ?_, fun k hk => ?_, ?_, honly .power (by decide), honly⟩
  · rw [hfabric]
    exact loadPoint_store _ pt
  · rw [hfabric]
    exact hfailed
  · rw [hfabric]
    exact loadPoint_forces _ pt
  · rw [hfabric]
    exact loadPoint_forceDue _ pt
  · rw [hfabric] at hk
    have hdueAt : k ∈ (loadPoint (undue s pt) pt).fabric.saveDue := hk
    rw [loadPoint_saveDue] at hdueAt
    simpa [undue] using hdueAt
  · rw [hfabric, loadPoint_places]
    rfl

theorem foldl_saveRetentive : ∀ (l : List Nat) (s : State), (∀ pt ∈ l, Sound s pt) → SavedRecords l s (l.foldl saveRetentive s)
  | [], s, _ => ⟨rfl, rfl, rfl, rfl, fun k hk => ⟨hk, List.not_mem_nil⟩, by simp [tabMap], rfl, Only.refl _ s⟩
  | pt :: l, s, h => by
    have hhead := saveRetentive_sound (h pt List.mem_cons_self)
    have htail := foldl_saveRetentive l (saveRetentive s pt) fun k hk =>
      sound_congr hhead.store hhead.failed k (h k (List.mem_cons_of_mem pt hk))
    have himage : RetPlace.savedFor (saveRetentive s pt) = RetPlace.savedFor s := by
      funext x k
      rw [RetPlace.savedFor, RetPlace.savedFor, retentiveImage_congr hhead.store hhead.forces]
    refine ⟨htail.store.trans hhead.store, htail.failed.trans hhead.failed, htail.forces.trans hhead.forces,
      htail.forceDue.trans hhead.forceDue, fun k hk => ?_, ?_, htail.power.trans hhead.power, Only.trans hhead.only htail.only⟩
    · obtain ⟨hkept, hl⟩ := htail.saveDue k hk
      obtain ⟨hdue, hpt⟩ := hhead.saveDue k hkept
      exact ⟨hdue, by simpa [hl] using hpt⟩
    · rw [List.foldl_cons, htail.places, hhead.places, tabMap_tabMap, himage]
      rfl

/-- What saves of force places leave of the fabric (07 R217). -/
structure SavedForces (l : List Nat) (s t : State) : Prop where
  store : t.fabric.store = s.fabric.store
  forces : t.fabric.forces = s.fabric.forces
  saveDue : t.fabric.saveDue = s.fabric.saveDue
  places : t.fabric.places = s.fabric.places
  forceDue : ∀ k, k ∈ t.fabric.forceDue → k ∈ s.fabric.forceDue ∧ k ∉ l
  written : ∀ i f, tabGet s.fabric.forces i = some f →
    i ∈ l ∨ (tabGet s.fabric.forceCopy0 i = some (forceImage s f) ∧ tabGet s.fabric.forceCopy1 i = some (forceImage s f)) →
    tabGet t.fabric.forceCopy0 i = some (forceImage s f) ∧ tabGet t.fabric.forceCopy1 i = some (forceImage s f)
  only : Only [.fabric, .chk] s t

/-- The fabric after the save of a force index (07 R217). -/
def Fabric.forceSaved (f : Fabric) (i : Nat) (copy0 copy1 : Tab ForceCopy) : Fabric :=
  { f with forceDue := f.forceDue.filter (· != i), forceCopy0 := copy0, forceCopy1 := copy1 }

theorem saveForce_of_some {s : State} {i : Nat} {f : Force} (h : tabGet s.fabric.forces i = some f) :
    (saveForce s i).fabric = s.fabric.forceSaved i (tabSet s.fabric.forceCopy0 i (forceImage s f))
      (tabSet s.fabric.forceCopy1 i (forceImage s f)) := by
  rw [saveForce, h]
  simp only [mramWrite, chkUnit_fabric]
  rfl

theorem saveForce_of_none {s : State} {i : Nat} (h : tabGet s.fabric.forces i = none) :
    (saveForce s i).fabric = s.fabric.forceSaved i (tabDel s.fabric.forceCopy0 i) (tabDel s.fabric.forceCopy1 i) := by
  rw [saveForce, h]
  rfl

theorem only_saveForce (s : State) (i : Nat) : Only [.fabric, .chk] s (saveForce s i) := by
  have hwrite (t : State) (f : Fabric) (v : Word) : Only [.fabric, .chk] t (mramWrite { t with fabric := f } v 24) :=
    Only.seq (only_fabric t f) (only_chkUnit _ 2 24 v true)
  unfold saveForce
  split
  · exact Only.trans (hwrite s _ _) (hwrite _ _ _)
  · exact Only.mono (only_fabric s _) (by decide)

theorem forceImage_congr {s t : State} (hstore : t.fabric.store = s.fabric.store) (f : Force) : forceImage t f = forceImage s f := by
  simp only [forceImage, point_of_store hstore]

theorem saveForce_saved (s : State) (i : Nat) : SavedForces [i] s (saveForce s i) := by
  have hsaved : ∃ c0 c1, (saveForce s i).fabric = s.fabric.forceSaved i c0 c1 ∧
      ∀ j f, tabGet s.fabric.forces j = some f →
        j ∈ [i] ∨ (tabGet s.fabric.forceCopy0 j = some (forceImage s f) ∧ tabGet s.fabric.forceCopy1 j = some (forceImage s f)) →
        tabGet c0 j = some (forceImage s f) ∧ tabGet c1 j = some (forceImage s f) := by
    cases hi : tabGet s.fabric.forces i with
    | some f =>
      refine ⟨_, _, saveForce_of_some hi, fun j g hj hcopies => ?_⟩
      by_cases hij : j = i
      · subst hij
        obtain rfl : f = g := Option.some.inj (hi.symm.trans hj)
        exact ⟨tabGet_set_same .., tabGet_set_same ..⟩
      · rw [tabGet_set_other _ hij, tabGet_set_other _ hij]
        exact hcopies.resolve_left (by simpa using hij)
    | none =>
      refine ⟨_, _, saveForce_of_none hi, fun j g hj hcopies => ?_⟩
      have hij : j ≠ i := by
        rintro rfl
        simp [hi] at hj
      obtain ⟨h0, h1⟩ := hcopies.resolve_left (by simpa using hij)
      exact ⟨tabGet_tabDel_of_some hij h0, tabGet_tabDel_of_some hij h1⟩
  obtain ⟨c0, c1, hfabric, hcopies⟩ := hsaved
  refine ⟨?_, ?_, ?_, ?_, fun k hk => ?_, ?_, only_saveForce s i⟩
  · rw [hfabric]; rfl
  · rw [hfabric]; rfl
  · rw [hfabric]; rfl
  · rw [hfabric]; rfl
  · simpa [hfabric, Fabric.forceSaved] using hk
  · rw [hfabric]
    exact hcopies

theorem foldl_saveForce : ∀ (l : List Nat) (s : State), SavedForces l s (l.foldl saveForce s)
  | [], s => ⟨rfl, rfl, rfl, rfl, fun k hk => ⟨hk, List.not_mem_nil⟩,
      fun i f _ h => h.resolve_left List.not_mem_nil, Only.refl _ s⟩
  | i :: l, s => by
    have hhead := saveForce_saved s i
    have htail := foldl_saveForce l (saveForce s i)
    refine ⟨htail.store.trans hhead.store, htail.forces.trans hhead.forces, htail.saveDue.trans hhead.saveDue,
      htail.places.trans hhead.places, fun k hk => ?_, fun j f hj hcopies => ?_, Only.trans hhead.only htail.only⟩
    · obtain ⟨hkept, hl⟩ := htail.forceDue k hk
      obtain ⟨hdue, hi⟩ := hhead.forceDue k hkept
      exact ⟨hdue, by simpa [hl] using hi⟩
    · have hwritten := htail.written j f (by rw [hhead.forces, hj])
      rw [forceImage_congr hhead.store] at hwritten
      by_cases hl : j ∈ l
      · exact hwritten (.inl hl)
      · refine hwritten (.inr (hhead.written j f hj ?_))
        simpa [hl] using hcopies

/-- Every pending save is made, where both areas are restored (07 R217, 17 R469). -/
theorem saveStore_restored {s : State} (hrun : s.running iPF = true) (hretain : s.power.retainBack = true)
    (hforces : s.power.forcesBack = true) (hsound : ∀ pt ∈ s.fabric.saveDue, Sound s pt) :
    saveStore s = (s.fabric.forceDue.foldl saveForce (s.fabric.saveDue.foldl saveRetentive s)) := by
  have hrecords := foldl_saveRetentive s.fabric.saveDue s hsound
  simp only [saveStore, hrun, Bool.not_true, Bool.false_eq_true, if_false, hretain, if_true, hrecords.power, hforces,
    hrecords.forceDue]

/-- What the saves of a restored store leave: nothing pending, and every place that was pending with its image in both
copies (R106, 07 R217). -/
structure Saved (s t : State) : Prop where
  saveDue : t.fabric.saveDue = []
  forceDue : t.fabric.forceDue = []
  store : t.fabric.store = s.fabric.store
  forces : t.fabric.forces = s.fabric.forces
  places : ∀ k x pt, tabGet s.fabric.places k = some x → x.holds pt = true → pt ∈ s.fabric.saveDue →
    tabGet t.fabric.places k = some (x.saved (retentiveImage s pt))
  copies : ∀ i f, i ∈ s.fabric.forceDue → tabGet s.fabric.forces i = some f →
    tabGet t.fabric.forceCopy0 i = some (forceImage s f) ∧ tabGet t.fabric.forceCopy1 i = some (forceImage s f)
  only : Only [.fabric, .chk] s t

theorem saveStore_saves {s : State} (hrun : s.running iPF = true) (hretain : s.power.retainBack = true)
    (hforces : s.power.forcesBack = true) (hsound : ∀ pt ∈ s.fabric.saveDue, Sound s pt) : Saved s (saveStore s) := by
  rw [saveStore_restored hrun hretain hforces hsound]
  have hrecords := foldl_saveRetentive s.fabric.saveDue s hsound
  have hcopies := foldl_saveForce s.fabric.forceDue (s.fabric.saveDue.foldl saveRetentive s)
  refine ⟨?_, ?_, hcopies.store.trans hrecords.store, hcopies.forces.trans hrecords.forces, fun k x pt hx hholds hdue => ?_,
    fun i f hdue hf => ?_, Only.trans hrecords.only hcopies.only⟩
  · rw [hcopies.saveDue, List.eq_nil_iff_forall_not_mem]
    intro k hk
    obtain ⟨hdue, hnot⟩ := hrecords.saveDue k hk
    exact hnot hdue
  · rw [List.eq_nil_iff_forall_not_mem]
    intro k hk
    obtain ⟨hdue, hnot⟩ := hcopies.forceDue k hk
    rw [hrecords.forceDue] at hdue
    exact hnot hdue
  · rw [hcopies.places, hrecords.places, tabGet_tabMap, hx]
    exact congrArg some (foldl_savedFor hholds hdue)
  · have hwritten := hcopies.written i f (by rw [hrecords.forces, hf]) (.inl hdue)
    rwa [forceImage_congr hrecords.store] at hwritten

/-! ### The scrubber (R107) -/

/-- The record that the scrubber verifies next. -/
abbrev scrubAt (s : State) : Nat := s.rfield rPfScrubPos 0 25

theorem scrubRead_good {s : State} (hrun : s.running iPF = true) (hon : s.rbit rPfCtrl 0 = true)
    (hgood : s.defined (scrubAt s) = false ∨ (s.point (scrubAt s)).check = (s.point (scrubAt s)).right)
    (hin : scrubAt s + 1 < pointCount) :
    scrubRead s = (s.chkUnit 9 28 (s.point (scrubAt s)).right true).setReg rPfScrubPos (scrubAt s + 1) := by
  have hright : (if s.defined (scrubAt s) then (s.point (scrubAt s)).check == (s.point (scrubAt s)).right else true) = true := by
    rcases hgood with h | h <;> simp [h]
  simp only [scrubRead, hrun, hon, hright, Bool.not_true, Bool.or_self, Bool.false_eq_true, if_false, if_true,
    Nat.mod_eq_of_lt hin, if_neg (Nat.ne_of_lt hin)]

theorem scrubRead_bad {s : State} (hrun : s.running iPF = true) (hon : s.rbit rPfCtrl 0 = true)
    (hdefined : s.defined (scrubAt s) = true) (hbad : (s.point (scrubAt s)).check ≠ (s.point (scrubAt s)).right)
    (hin : scrubAt s + 1 < pointCount) :
    scrubRead s = (markFailed (s.chkUnit 9 28 (s.point (scrubAt s)).right false) (scrubAt s)).setReg rPfScrubPos (scrubAt s + 1) := by
  have hwrong : (if s.defined (scrubAt s) then (s.point (scrubAt s)).check == (s.point (scrubAt s)).right else true) = false := by
    simp [hdefined, hbad]
  simp only [scrubRead, hrun, hon, hwrong, Bool.not_true, Bool.or_self, Bool.false_eq_true, if_false,
    Nat.mod_eq_of_lt hin, if_neg (Nat.ne_of_lt hin)]

theorem scrubRead_off {s : State} (h : s.running iPF = false ∨ s.rbit rPfCtrl 0 = false) : scrubRead s = s := by
  rcases h with h | h <;> simp [scrubRead, h]

end Sys2Proof.Machine
end

section
/-! SUPPORT. Accesses of islands and cores at the fabric, the image operations and the scrubber's find (03 R84 to R92, R99,
R101, R105, R107). -/

namespace Sys2Proof.Machine

open Sys2Proof.Safety

/-! ### Accesses of islands and cores (R90, R92) -/

/-- The fabric's port takes requests of an island (02 R65). -/
structure Reaches (s : State) (src : Nat) : Prop where
  other : src ≠ iPF
  run : (s.isl iPF).state = .run
  drain : (s.isl iPF).draining = false
  epoch : s.epochOf src iPF = 0 ∨ s.epochOf src iPF = (s.isl iPF).epoch

/-- The requester has noted the fabric's epoch. -/
abbrev noted (s : State) (src : Nat) : State := s.noteEpoch src iPF (s.isl iPF).epoch

theorem only_lastError (s : State) (src dst source status : Nat) : Only [.regs] s (s.lastError src dst source status) := by
  unfold State.lastError
  split
  · exact Only.refl _ s
  · exact only_setReg s _ _

theorem only_fabAnswer (s : State) (r : FabRes) : Only [.outs] s (fabAnswer s r) := by
  intro p hp
  cases p
  case outs => simp at hp
  all_goals rfl

theorem exec_fabricRead {s w : State} {who : Requester} {pt : Nat} {r : FabRes} (h : Reaches s who.island)
    (hread : fabRead (noted s who.island) (pathOf s who).tenant pt = (r, w)) :
    exec (.fabricRead who pt) s = .next (fabAnswer (w.lastError who.island iPF 0 r.status) r) := by
  change execFabricRead who pt s = _
  rw [execFabricRead, readFrom, crossing_answers 0 FabRes.refused h.other h.run h.drain h.epoch hread]

theorem exec_fabricWrite {s w : State} {who : Requester} {pt type quality time st : Nat} {value : Word64}
    (h : Reaches s who.island)
    (hwrite : fabWrite (noted s who.island) (pathOf s who).tenant (pathOf s who).writer pt type quality value time = (st, w)) :
    exec (.fabricWrite who pt type quality value time) s =
      .next (fabAnswer (w.lastError who.island iPF 0 st) { status := st }) := by
  change execFabricWrite who pt type quality value time s = _
  rw [execFabricWrite, writeFrom, crossStatus, crossing_answers 0 id h.other h.run h.drain h.epoch hwrite]
  rfl

theorem only_noted (s : State) (src : Nat) : Only [.islands] s (noted s src) := only_noteEpoch s src iPF _

theorem fabAnswer_fabric (s : State) (r : FabRes) : (fabAnswer s r).fabric = s.fabric := rfl

/-- The answer to an access without rights is the fabric as loading the record leaves it (R90). -/
theorem denied_fabric (s : State) (src : Nat) (r : FabRes) (status : Nat) :
    (fabAnswer ((s.stick rPfDenied rPfEvent 4).lastError src iPF 0 status) r).fabric = s.fabric := by
  rw [fabAnswer_fabric, lastError_fabric, stick_fabric]

theorem only_denied {s : State} {pt : Nat} (src : Nat) (r : FabRes) (hs : Sound s pt) :
    Only [.islands, .fabric, .chk, .regs, .outs] s
      (fabAnswer (((loadPoint (noted s src) pt).stick rPfDenied rPfEvent 4).lastError src iPF 0 stTenantMismatch) r) :=
  Only.mono (Only.seq (only_noted s src) (Only.seq (only_loadPoint_of_intact (s := noted s src) (intact_of_sound hs))
    (Only.seq (only_stick _ rPfDenied rPfEvent 4 1) (Only.seq (only_lastError _ src iPF 0 stTenantMismatch)
      (only_fabAnswer _ r))))) (by decide)

/-- Either access without rights is answered with the mismatch alone (R90). -/
theorem exec_fabric_without_rights {s : State} {p : Instr} {who : Requester} {pt type quality time : Nat} {value : Word64}
    (hp : p ∈ ([.fabricRead who pt, .fabricWrite who pt type quality value time] : List Instr)) (h : Reaches s who.island)
    (hs : Sound s pt) (hnone : rightsOf s (s.point pt) (pathOf s who).tenant = 0) : ∃ r : FabRes, r.status = stTenantMismatch ∧
    exec p s = .next (fabAnswer
      (((loadPoint (noted s who.island) pt).stick rPfDenied rPfEvent 4).lastError who.island iPF 0 stTenantMismatch) r) := by
  simp only [List.mem_cons, List.not_mem_nil, or_false] at hp
  rcases hp with rfl | rfl
  · exact ⟨_, rfl, exec_fabricRead h (fabRead_without_rights (s := noted s who.island) hs hnone)⟩
  · exact ⟨{ status := stTenantMismatch }, rfl, exec_fabricWrite h
      (fabWrite_without_rights (s := noted s who.island) _ type quality value time hs hnone)⟩

/-! ### The path of a requester (R86) -/

theorem pathOf_core {s : State} {who : Requester} (h : who.writer / 2 ^ 28 = 7) :
    (pathOf s who).tenant = s.mail.partition ∧ (pathOf s who).writer = 7 * 2 ^ 28 := by
  rw [pathOf, if_pos h]
  exact ⟨rfl, rfl⟩

theorem pathTenant_mailbox {s : State} {m : Nat} (hm : m < 64) :
    pathTenant s (routeWriter (.mailbox m)) = (routeBind s (.mailbox m)).map Bind.tenant := by
  have hkind : routeWriter (.mailbox m) / 2 ^ 28 = 6 := by simp only [routeWriter]; omega
  have hnumber : routeWriter (.mailbox m) % 2 ^ 28 = m := by simp only [routeWriter]; omega
  have hbit : bitOf m 6 = false := by
    simp only [bitOf, decide_eq_false_iff_not]
    omega
  simp only [pathTenant, hkind, hnumber, hbit, Nat.mod_eq_of_lt hm]
  rfl

theorem pathOf_mailbox {s : State} {who : Requester} {x : Bind} (hwriter : who.writer = routeWriter (.mailbox (who.writer % 16)))
    (hbind : routeBind s (.mailbox (who.writer % 16)) = some x) : (pathOf s who).tenant = x.tenant := by
  have hkind : ¬who.writer / 2 ^ 28 = 7 := by
    rw [hwriter]
    simp only [routeWriter]
    omega
  have htenant : pathTenant s who.writer = some x.tenant := by
    rw [hwriter, pathTenant_mailbox (by omega), hbind]
    rfl
  rw [pathOf, if_neg hkind, htenant]
  rfl

/-! ### Image operations (R99, R101) -/

/-- What reads at the fabric leave alone. -/
structure OnlyRead (s t : State) : Prop where
  store : t.fabric.store = s.fabric.store
  queue : t.fabric.imageQueue = s.fabric.imageQueue
  only : Only [.regs, .fabric, .chk] s t

theorem OnlyRead.trans {s t u : State} (h : OnlyRead s t) (k : OnlyRead t u) : OnlyRead s u :=
  ⟨k.store.trans h.store, k.queue.trans h.queue, Only.trans h.only k.only⟩

theorem onlyRead_fabRead (s : State) (tenant pt : Nat) : OnlyRead s (fabRead s tenant pt).2 := by
  have hload : OnlyRead s (loadPoint s pt) := ⟨loadPoint_store s pt, loadPoint_imageQueue s pt, only_loadPoint s pt⟩
  change OnlyRead s (judged s pt tenant 0 .read).2
  unfold judged
  split
  · exact ⟨rfl, rfl, Only.refl _ s⟩
  · dsimp only
    split
    · exact hload
    · exact hload.trans ⟨by rw [stick_fabric], by rw [stick_fabric],
        Only.mono (only_stick _ rPfDenied rPfEvent 4 1) (by decide)⟩

theorem onlyRead_foldl {α β : Type} (f : β × State → α → β × State) (h : ∀ a x, OnlyRead a.2 (f a x).2) :
    ∀ (l : List α) (a : β × State), OnlyRead a.2 (l.foldl f a).2
  | [], a => ⟨rfl, rfl, Only.refl _ a.2⟩
  | x :: l, a => (h a x).trans (onlyRead_foldl f h l (f a x))

theorem onlyRead_performGather (s : State) (k tenant : Nat) (ms : List Mapped) :
    OnlyRead s (performGather s k tenant ms).2 := by
  refine onlyRead_foldl (β := Tab Slot × Nat) _ (fun a m => ?_) ms (([], 0), s)
  exact onlyRead_fabRead a.2 tenant m.pt

theorem only_setTask (s : State) (k : Nat) (x : Task) : Only [.thyme] s (s.setTask k x) := by
  intro p hp
  cases p
  case thyme => simp at hp
  all_goals rfl

theorem setTask_task_same (s : State) (k : Nat) (x : Task) : (s.setTask k x).task k = x := by
  simp [State.task, State.setTask, tabGetD]

theorem task_of_thyme {s t : State} (h : t.thyme = s.thyme) (k : Nat) : t.task k = s.task k := by
  rw [State.task, h, State.task]

theorem only_popImage (s : State) : Only [.fabric] s (popImage s) := only_fabric s _

theorem gatherNow_of_cfg {s : State} {k : Nat} {l : Loaded} {c : TaskCfg} {r : (Tab Slot × Nat) × State}
    (hprog : progOf s k = some l) (hcfg : cfgOf s k = some c) (hr : r = performGather s k c.tenant (mappedOf l.prog k 0)) :
    gatherNow s k = r.2.setTask k { r.2.task k with gathered := some r.1.1, gfail := r.1.2 } := by
  subst hr
  simp only [gatherNow, hprog, hcfg]

theorem scatterNow_of_one {s w : State} {k : Nat} {c : TaskCfg} {o : Offer} {st : Nat} (hcfg : cfgOf s k = some c)
    (hoffered : (s.task k).offered = [o])
    (hwrite : fabWrite s c.tenant (taskWriter k) o.pt o.type qGood (BitVec.ofNat 64 o.value) (s.task k).release = (st, w)) :
    scatterNow s k = w.setTask k { w.task k with offered := [{ o with status := some st }] } := by
  simp only [scatterNow, hcfg, hoffered, List.foldl_cons, List.foldl_nil, hwrite, List.nil_append]

/-- The operation at the head of the queue is performed when the store is ready (R99, R108). -/
theorem exec_imageGather {s : State} {k : Nat} {rest : List ImageOp} (hrun : s.running iPF = true)
    (hready : s.rbit rPfStatus 0 = true) (hqueue : s.fabric.imageQueue = { task := k, gather := true } :: rest) :
    exec .imageGather s = .next (if (s.task k).state == .gathering then gatherNow (popImage s) k else popImage s) := by
  change execImageGather s = _
  simp only [execImageGather, hqueue, hrun, hready, Bool.and_self, if_true]

theorem exec_imageScatter {s : State} {k : Nat} {rest : List ImageOp} (hrun : s.running iPF = true)
    (hready : s.rbit rPfStatus 0 = true) (hqueue : s.fabric.imageQueue = { task := k, gather := false } :: rest) :
    exec .imageScatter s = .next (if (s.task k).state == .scattering then scatterNow (popImage s) k else popImage s) := by
  change execImageScatter s = _
  simp only [execImageScatter, hqueue, hrun, hready, Bool.not_false, Bool.and_self, if_true]

theorem exec_image_waits {s : State} {i : Instr} (hi : i ∈ ([.imageGather, .imageScatter] : List Instr))
    (hready : s.rbit rPfStatus 0 = false) : exec i s = .next s := by
  simp only [List.mem_cons, List.not_mem_nil, or_false] at hi
  rcases hi with rfl | rfl
  · change execImageGather s = _
    rw [execImageGather]
    cases s.fabric.imageQueue <;> simp [hready]
  · change execImageScatter s = _
    rw [execImageScatter]
    cases s.fabric.imageQueue <;> simp [hready]

theorem popImage_queue {s : State} {o : ImageOp} {rest : List ImageOp} (h : s.fabric.imageQueue = o :: rest) :
    (popImage s).fabric.imageQueue = rest := by
  simp [popImage, h]

/-! ### A bad record is found (R105) -/

theorem reg_setReg_listed_same {s : State} {a v : Nat} (hv : v % 2 ^ 32 ≠ regReset a) : (s.setReg a v).reg a = v % 2 ^ 32 := by
  rw [reg_eq_getD, regs_setReg_listed hv, tabGet_set_same]
  rfl

/-- What marking a record leaves in the registers and the list of marks (R105). -/
structure MarkedFailed (s t : State) (pt : Nat) : Prop where
  failed : t.fabric.failed = pt :: s.fabric.failed
  store : t.fabric.store = s.fabric.store
  event : t.rbit rPfEvent 0 = true
  last : t.reg rPfLastChk = (pt + 2 ^ 31) % 2 ^ 32

theorem markedFailed {s : State} {pt : Nat} (h : s.failedPt pt = false) (hpt : pt < 2 ^ 25) : MarkedFailed s (markFailed s pt) pt := by
  have hmark : markFailed s pt = _ := if_neg fun hfailed => Bool.false_ne_true (h.symm.trans hfailed)
  have hlisted : (pt + 2 ^ 31) % 2 ^ 32 ≠ regReset rPfLastChk := by
    rw [show regReset rPfLastChk = 0 by decide]
    omega
  rw [hmark]
  refine ⟨?_, ?_, ?_, ?_⟩
  · rw [setReg_fabric, raise_fabric, stick_fabric]
  · rw [setReg_fabric, raise_fabric, stick_fabric]
  · exact rbit_setReg_other _ (by decide) (by decide) (rbit_raise_same _ (by decide) (by decide))
  · exact reg_setReg_listed_same hlisted

theorem scrubAt_lt (s : State) : scrubAt s < 2 ^ 25 := Nat.mod_lt _ (by decide)

/-- The scrubber marks the bad record at its position and moves on (R107). -/
theorem scrubRead_marks {s : State} (hrun : s.running iPF = true) (hon : s.rbit rPfCtrl 0 = true)
    (hdefined : s.defined (scrubAt s) = true) (hunmarked : s.failedPt (scrubAt s) = false)
    (hbad : (s.point (scrubAt s)).check ≠ (s.point (scrubAt s)).right) (hin : scrubAt s + 1 < pointCount) :
    MarkedFailed s (scrubRead s) (scrubAt s) ∧ (scrubRead s).reg rPfScrubPos = scrubAt s + 1 ∧
      Only [.regs, .fabric, .chk] s (scrubRead s) := by
  have hmarked : MarkedFailed s (markFailed (s.chkUnit 9 28 (s.point (scrubAt s)).right false) (scrubAt s)) (scrubAt s) := by
    have hu : (s.chkUnit 9 28 (s.point (scrubAt s)).right false).failedPt (scrubAt s) = false := by
      rw [State.failedPt, chkUnit_fabric]
      exact hunmarked
    obtain ⟨hfailed, hstore, hevent, hlast⟩ := markedFailed hu (scrubAt_lt s)
    rw [chkUnit_fabric] at hfailed hstore
    exact ⟨hfailed, hstore, hevent, hlast⟩
  obtain ⟨hfailed, hstore, hevent, hlast⟩ := hmarked
  have hpos := scrubAt_lt s
  have hlisted : (scrubAt s + 1) % 2 ^ 32 ≠ regReset rPfScrubPos := by
    rw [show regReset rPfScrubPos = 0 by decide]
    omega
  rw [scrubRead_bad hrun hon hdefined hbad hin]
  refine ⟨⟨hfailed, hstore, rbit_setReg_other _ (by decide) (by decide) hevent, ?_⟩, ?_, ?_⟩
  · rw [reg_setReg_other_of_listed hlisted (by decide), hlast]
  · rw [reg_setReg_listed_same hlisted]
    exact Nat.mod_eq_of_lt (by omega)
  · exact Only.mono (Only.seq (only_chkUnit s 9 28 _ false) (Only.seq (only_markFailed _ _) (only_setReg _ rPfScrubPos _)))
      (by decide)

end Sys2Proof.Machine
end

section
/-! SETTLED. A fabric access of an island, the image operations, the scrubber, retentive saves and the restore. -/

namespace Sys2Proof.Certificates

open Sys2Proof.Machine Sys2Proof.Safety

/-- Settles O47: each event is the fabric's read, write, load, save or restore of the support lemmas. -/
theorem fabricEvents : Obligations.FabricEvents := by
  unfold Obligations.FabricEvents
  intro s
  refine ⟨?read, ?write, ?core, ?mailbox, ?denied, ?gather, ?scatter, ?faulted, ?waits, ?scrubGood, ?scrubBad, ?scrubOff,
    ?save, ?restore, ?early⟩
  case read =>
    intro who pt hne hrun hdrain hepoch hs hright hforce
    have hvalue := readValue_unforced (s := noted s who.island) hs hforce
    have hread := fabRead_granted (s := noted s who.island) hs hright
    rw [hvalue] at hread
    refine ⟨_, exec_fabricRead ⟨hne, hrun, hdrain, hepoch⟩ hread, rfl, rfl, rfl, rfl, rfl, ?_, ?_⟩
    · exact Only.mono (Only.seq (only_noted s who.island) (Only.seq
        (only_loadPoint_of_intact (s := noted s who.island) (intact_of_sound hs))
        (Only.seq (only_lastError _ who.island iPF 0 stOk) (only_fabAnswer _ _)))) (by decide)
    · exact (congrArg Fabric.store (lastError_fabric ..)).trans (loadPoint_store (noted s who.island) pt)
  case write =>
    intro who pt ql tm v hne hrun hdrain hepoch hs hright hclaim hquality htime hindex _
    obtain ⟨w, hwrite, hw⟩ := fabWrite_unforced (s := noted s who.island) (value := v) hs hright hclaim hquality htime hindex
    have hexec := exec_fabricWrite ⟨hne, hrun, hdrain, hepoch⟩ hwrite
    rw [lastError_ok] at hexec
    exact ⟨_, hexec, rfl, hw.record, Only.mono (Only.seq (only_noted s who.island) (Only.seq hw.only (only_fabAnswer _ _)))
      (by decide), hw.forces, hw.others⟩
  case core => exact fun who h => pathOf_core h
  case mailbox => exact fun who x hwriter hbind => pathOf_mailbox hwriter hbind
  case denied =>
    intro p who pt ty ql tm v hp hne hrun hdrain hepoch hs hnone
    obtain ⟨r, hr, hexec⟩ := exec_fabric_without_rights hp ⟨hne, hrun, hdrain, hepoch⟩ hs hnone
    have hfabric := denied_fabric (loadPoint (noted s who.island) pt) who.island r stTenantMismatch
    refine ⟨_, hexec, hr, ?_, ?_, Only.mono (only_denied who.island r hs) (by decide)⟩
    · rw [hfabric, loadPoint_store]
      rfl
    · rw [hfabric, loadPoint_forces]
      rfl
  case gather =>
    intro k rest l c r hrun hready hqueue hstate _ hprog hcfg hr
    have hread : OnlyRead (popImage s) r.2 := hr ▸ onlyRead_performGather (popImage s) k c.tenant (mappedOf l.prog k 0)
    have hexec := exec_imageGather hrun hready hqueue
    rw [hstate, if_pos (beq_self_eq_true _), gatherNow_of_cfg (s := popImage s) hprog hcfg hr] at hexec
    have htask : r.2.task k = s.task k := task_of_thyme (hread.only .thyme (by decide)) k
    refine ⟨_, hexec, ?_, hread.queue.trans (popImage_queue hqueue), hread.store, ?_⟩
    · rw [setTask_task_same, htask]
    · exact Only.mono (Only.seq (only_popImage s) (Only.seq hread.only (only_setTask _ k _))) (by decide)
  case scatter =>
    intro k rest c o hrun hready hqueue hstate _ hcfg hoffered hpos htime hs htype hright hclaim hindex _
    obtain ⟨w, hwrite, hw⟩ := fabWrite_unforced (s := popImage s) (writer := taskWriter k) (quality := qGood)
      (value := BitVec.ofNat 64 o.value) hs hright hclaim (.inl rfl) htime hindex
    have hexec := exec_imageScatter hrun hready hqueue
    have hwrite' : fabWrite (popImage s) c.tenant (taskWriter k) o.pt o.type qGood (BitVec.ofNat 64 o.value)
        ((popImage s).task k).release = (stOk, w) := htype ▸ hwrite
    rw [hstate, if_pos (beq_self_eq_true _), scatterNow_of_one (s := popImage s) hcfg hoffered hwrite'] at hexec
    refine ⟨_, hexec, hw.record.trans ?_, ?_, hw.queue.trans (popImage_queue hqueue), hw.others⟩
    · rw [writeTime, if_neg (Nat.pos_iff_ne_zero.mp hpos), htype]
      rfl
    · rw [setTask_task_same]
  case faulted =>
    intro p k rest hp hrun hready hqueue hstate
    simp only [List.mem_cons, List.not_mem_nil, or_false] at hp
    rcases hp with rfl | rfl
    · rw [exec_imageGather hrun hready hqueue, hstate]
      rfl
    · rw [exec_imageScatter hrun hready hqueue, hstate]
      rfl
  case waits => exact fun i hi hready => exec_image_waits hi hready
  case scrubGood =>
    intro hrun hon hgood hin
    exact congrArg Host.Outcome.next (scrubRead_good hrun hon hgood hin)
  case scrubBad =>
    intro hrun hon hdefined hunmarked hbad hin
    obtain ⟨hmarked, hpos, honly⟩ := scrubRead_marks hrun hon hdefined hunmarked hbad hin
    have hat := scrubAt_lt s
    exact ⟨_, rfl, hmarked.failed, hmarked.event, hmarked.last.trans (Nat.mod_eq_of_lt (by omega)), hpos, hmarked.store, honly⟩
  case scrubOff =>
    intro hoff
    exact congrArg Host.Outcome.next (scrubRead_off hoff)
  case save =>
    intro hrun hretain hforces _ _ hsound
    obtain ⟨hdue, hforceDue, hstore, hforced, hplaces, hcopies, honly⟩ := saveStore_saves hrun hretain hforces hsound
    exact ⟨_, rfl, hdue, hforceDue, hstore, hforced, fun k x pt _ => hplaces k x pt, hcopies, honly⟩
  case restore =>
    intro hpast hrun hsteward hstatus hstore hsingle hactive
    have hback := restored_storeRestore hrun hsteward hstatus hstore
    refine ⟨storeRestore s, congrArg Host.Outcome.next ?_, hback.ready, hback.retain, hback.forces, hback.closeFrom⟩
    simp [storeStart, hpast, hback.role, hsingle, hactive]
  case early =>
    intro hpast
    exact congrArg Host.Outcome.next (if_pos (by rw [hpast]; rfl))

end Sys2Proof.Certificates
end

section
/-! SUPPORT. Steward's commands without a request that waits for them (04 R121, R133). -/

namespace Sys2Proof.Machine

/-- Steward has nothing to serve under a code: it takes no requests, or none of that code waits on the route with that
tag. -/
abbrev Unserved (s : State) (code : Nat) (r : Route) (tag : Nat) : Prop :=
  stewardReady s = false ∨ findReq s code r tag = none

theorem serve_unserved {s : State} {code : Nat} {r : Route} {tag : Nat} (f : Req → State → Ans)
    (h : Unserved s code r tag) : serve code s r tag f = s := by
  rcases h with hready | hnone
  · simp [serve, hready]
  · exact serve_idle f hnone

/-- A command that is Steward's wrapper and nothing else does nothing then. -/
theorem next_serve_unserved {s : State} {code : Nat} {r : Route} {tag : Nat} {f : Req → State → Ans}
    (h : Unserved s code r tag) : (Host.Outcome.next (serve code s r tag f) : Host.Outcome State Fault Refusal) = .next s :=
  congrArg Host.Outcome.next (serve_unserved f h)

/-- PROGRAM_EXCHANGE starts no exchange where none is asked for. -/
theorem exec_programExchange_unserved {s : State} {r : Route} {tag : Nat} (h : Unserved s 0x0303 r tag)
    (hexchange : s.thyme.exchange = none) : exec (.programExchange r tag) s = .next s := by
  change execProgramExchange r tag s = _
  simp [execProgramExchange, serve_unserved _ h, hexchange]

/-- PROGRAM_UNLOAD completes no unload where none is under way. -/
theorem exec_programUnload_unserved {s : State} {r : Route} {tag : Nat} (h : Unserved s 0x0305 r tag)
    (hunloading : s.thyme.unloading = false) : exec (.programUnload r tag) s = .next s := by
  change execProgramUnload r tag s = _
  simp [execProgramUnload, serve_unserved _ h, hunloading]

/-- FACTORY_RESET resets nothing without its request. -/
theorem exec_factoryReset_unserved {s : State} {r : Route} {tag : Nat} (h : Unserved s 0x0E06 r tag) :
    exec (.factoryReset r tag) s = .next s := by
  have hdue (ok : Req → Bool) : (stewardReady s && (findReq s 0x0E06 r tag).any ok) = false := by
    rcases h with hready | hnone
    · rw [hready, Bool.false_and]
    · rw [hnone, Option.any_none, Bool.and_false]
  change execFactoryReset r tag s = _
  simp only [execFactoryReset, serve_unserved _ h, hdue]
  rfl

end Sys2Proof.Machine
end

section
/-! SETTLED. Commands whose request does not wait. -/

namespace Sys2Proof.Certificates

open Sys2Proof.Machine Sys2Proof.Safety

/-- Settles O28: all commands but three are the wrapper of Steward's commands alone; the other three have more to do only
where an exchange, an unload or their own request is there. The rows stand in the order of Table 5.1. -/
theorem noRequestNoEffect : Obligations.NoRequestNoEffect := by
  unfold Obligations.NoRequestNoEffect
  intro s r tag
  have wrapped {code : Nat} {f : Req → State → Ans} : Unserved s code r tag → s.thyme.unloading = false →
      s.thyme.exchange = none → s.thyme.checking = none →
      (Host.Outcome.next (serve code s r tag f) : Host.Outcome State Fault Refusal) = .next s :=
    fun hidle _ _ _ => next_serve_unserved hidle
  simp only [List.forall_mem_cons]
  and_intros
  iterate 20 exact wrapped
  · exact fun hidle _ hexchange _ => exec_programExchange_unserved hidle hexchange
  · exact wrapped
  · exact fun hidle hunloading _ _ => exec_programUnload_unserved hidle hunloading
  iterate 66 exact wrapped
  · exact fun hidle _ _ _ => exec_factoryReset_unserved hidle
  · exact wrapped
  · exact wrapped
  · exact nofun

end Sys2Proof.Certificates
end

section
/-! SUPPORT. The SPI target's transactions, doorbells and the end of a transfer (04 R128 to R133, R150, R151; 05 R158). -/

namespace Sys2Proof.Machine

open Sys2Proof.Safety

/-! ### Transactions -/

theorem wakeIsl_of_run {s : State} {i : Nat} (h : (s.isl i).state = .run) : s.wakeIsl i = s := by
  simp [State.wakeIsl, h]

/-- The state with the bytes that the SPI target returned. -/
def spiReturns (s : State) (b : List Byte) : State := { s with outs := { s.outs with spiOut := b } }

/-- READ and READ_QUAD are one transaction (R128). -/
theorem exec_spiRead {s : State} {i : Instr} {a n : Nat} (hi : i = .spiRead a n ∨ i = .readQuad a n) :
    exec i s = .next (spiRead s (a % 2 ^ 24) n) := by
  rcases hi with rfl | rfl <;> rfl

/-- WRITE and WRITE_QUAD are one transaction (R128). -/
theorem exec_spiWrite {s : State} {i : Instr} {a : Nat} {d : List Byte} (hi : i = .spiWrite a d ∨ i = .writeQuad a d) :
    exec i s = .next (spiWrite s (a % 2 ^ 24) d) := by
  rcases hi with rfl | rfl <;> rfl

theorem spiRead_closed {s : State} (a n : Nat) (h : spiOpen s = false) : spiRead s a n = spiReturns s (List.replicate n 0) := by
  simp [spiRead, spiReturns, h]

theorem spiRead_buffer {s : State} {a : Nat} (n : Nat) (hopen : spiOpen s = true) (hrun : (s.isl iSAGE).state = .run)
    (ha : a < 0x20000) : spiRead s a n =
      spiReturns s ((List.range n).map fun j => memRead s.mail.buf (a / 0x1000 * 0x1000 + (a + j) % 0x1000)) := by
  simp [spiRead, spiReturns, bufRead, hopen, wakeIsl_of_run hrun, ha]

theorem spiWrite_closed {s : State} (a : Nat) (d : List Byte) (h : spiOpen s = false) : spiWrite s a d = spiReturns s [] := by
  have hclosed : spiOpen { s with outs := { s.outs with spiOut := [] } } = false := h
  simp only [spiWrite, hclosed, Bool.not_false, Bool.true_or, if_true]
  rfl

/-- What a write of at least one byte does while the target answers and SAGE is in RUN (R130). -/
theorem spiWrite_open {s : State} {a : Nat} {d : List Byte} (hopen : spiOpen s = true) (hrun : (s.isl iSAGE).state = .run)
    (hd : d ≠ []) : spiWrite s a d =
      if a < 0x20000 then
        if a / 0x1000 % 2 = 1 then spiReturns s []
        else if (s.box (a / 0x2000)).state = .idle ∨ (s.box (a / 0x2000)).state = .done then
          { spiReturns s [] with
            mail := { s.mail with buf := bufWrite s.mail.buf (a / 0x1000 * 0x1000) (a % 0x1000) d } }
        else mbLost (spiReturns s []) 1
      else (mirrorOffsets a d.length).foldl
        (fun s o => if o = 0 then s else mbWrite s o (fld d (0x100000 + o - a) 4)) (spiReturns s []) := by
  have hopen' : spiOpen (spiReturns s []) = true := hopen
  have hwake : (spiReturns s []).wakeIsl iSAGE = spiReturns s [] := wakeIsl_of_run hrun
  have hempty : d.isEmpty = false := List.isEmpty_eq_false_iff.mpr hd
  have hstart : { s with outs := { s.outs with spiOut := [] } } = spiReturns s [] := rfl
  have hbox (m : Nat) : (spiReturns s []).box m = s.box m := rfl
  simp only [spiWrite, hstart, hopen', hempty, hwake, hbox, Bool.not_true, Bool.or_self, Bool.false_eq_true, if_false,
    Bool.or_eq_true, beq_iff_eq]
  rfl

theorem spiWrite_nil (s : State) (a : Nat) : spiWrite s a [] = spiReturns s [] := by
  simp [spiWrite, spiReturns]

theorem b2n_mul (b : Bool) (k : Nat) : b2n b * k = if b = true then k else 0 := by
  cases b <;> simp [b2n]

/-- The STATUS byte bit by bit (R129). -/
theorem spiStatusByte_eq (s : State) : spiStatusByte s =
    if spiOpen s = true then (if stewardReady s = true then 1 else 0) + (if hostIrq s = true then 2 else 0) +
      (if s.reg rMbEvent = 0 then 0 else 4) else 0 := by
  simp only [spiStatusByte, b2n_mul, bne_iff_ne, ne_eq, ite_not]
  rfl

/-! ### Bytes in a buffer -/

/-- A write that wraps leaves every address it does not name alone. -/
theorem memRead_bufWrite_other {base x : Nat} : ∀ (d : List Byte) {m : Mem} (off : Nat), m.wf = true →
    (∀ j, j < d.length → x ≠ base + (off + j) % 4096) → memRead (bufWrite m base off d) x = memRead m x
  | [], _, _, _, _ => rfl
  | b :: d, m, off, hm, hx => by
    have hfirst : x ≠ base + off % 4096 := hx 0 (by simp)
    have hrest : ∀ j, j < d.length → x ≠ base + (off % 4096 + 1 + j) % 4096 := by
      intro j hj
      have hnext := hx (j + 1) (by simpa using hj)
      omega
    rw [bufWrite, memRead_bufWrite_other d _ (memWrite_wf _ b hm) hrest, memRead_write_other b hm hfirst]

/-- The bytes of a write no longer than the buffer are read back. -/
theorem memRead_bufWrite_at {base : Nat} : ∀ (d : List Byte) {m : Mem} (off j : Nat), m.wf = true → d.length ≤ 4096 →
    j < d.length → memRead (bufWrite m base off d) (base + (off + j) % 4096) = d.getD j 0
  | [], _, _, _, _, _, hj => absurd hj (Nat.not_lt_zero _)
  | b :: d, m, off, 0, hm, hd, _ => by
    have hlater : ∀ k, k < d.length → base + (off + 0) % 4096 ≠ base + (off % 4096 + 1 + k) % 4096 := by
      intro k hk
      rw [List.length_cons] at hd
      omega
    rw [bufWrite, memRead_bufWrite_other d _ (memWrite_wf _ b hm) hlater]
    exact memRead_write_same _ b hm
  | b :: d, m, off, j + 1, hm, hd, hj => by
    rw [List.length_cons] at hd hj
    have hat : (off + (j + 1)) % 4096 = (off % 4096 + 1 + j) % 4096 := by omega
    rw [bufWrite, hat, memRead_bufWrite_at d _ j (memWrite_wf _ b hm) (by omega) (by omega), List.getD_cons_succ]

/-- No aligned register of the mirror lies in a range below it (R130). -/
theorem mirrorOffsets_below {a n : Nat} (h : a + n ≤ 0x100000) : mirrorOffsets a n = [] := by
  refine List.filter_eq_nil_iff.mpr fun o _ hin => ?_
  simp only [Bool.and_eq_true, decide_eq_true_eq] at hin
  omega

theorem only_outs (s : State) (o : Outs) : Only [.outs] s { s with outs := o } := by
  intro p hp
  cases p
  case outs => simp at hp
  all_goals rfl

theorem only_mail (s : State) (m : Mail) : Only [.mail] s { s with mail := m } := by
  intro p hp
  cases p
  case mail => simp at hp
  all_goals rfl

/-! ### Doorbells -/

/-- The one bit of 2^m is bit m. -/
theorem bitOf_two_pow {m k : Nat} : bitOf (2 ^ m) k = decide (k = m) := by
  rw [bitOf_eq_testBit, Nat.testBit_two_pow, decide_eq_decide]
  exact eq_comm

theorem filter_range_eq {m : Nat} : ∀ {n : Nat}, m < n → (List.range n).filter (fun k => decide (k = m)) = [m]
  | 0, hm => absurd hm (Nat.not_lt_zero m)
  | n + 1, hm => by
    rw [List.range_succ, List.filter_append]
    by_cases h : n = m
    · have hnone : (List.range n).filter (fun k => decide (k = m)) = [] := by
        refine List.filter_eq_nil_iff.mpr fun k hk hkm => ?_
        have hlt : k < n := List.mem_range.mp hk
        have heq : k = m := of_decide_eq_true hkm
        omega
      rw [hnone]
      simp only [h, List.filter_cons, List.filter_nil, decide_true, if_true, List.nil_append]
    · have hm' : m < n := by omega
      simp only [filter_range_eq hm', h, List.filter_cons, List.filter_nil, decide_false, Bool.false_eq_true, if_false,
        List.append_nil]

theorem ringBell_free {s : State} {m : Nat} (h : (s.box m).state = .idle ∨ (s.box m).state = .done) :
    ringBell s m = (s.setBox m { s.box m with state := .working }).lower rMbRespReady m := by
  rcases h with h | h <;> simp [ringBell, h]

theorem ringBell_taken {s : State} {m : Nat} (h : (s.box m).state = .working ∨ (s.box m).state = .pending) :
    ringBell s m = (s.stick rMbLost rMbEvent 5).raise rMbEvent 0 := by
  rcases h with h | h <;> simp [ringBell, h, mbLost, State.mbEvent]

theorem stewardReady_ringBell (s : State) (m : Nat) : stewardReady (ringBell s m) = stewardReady s := by
  unfold ringBell
  dsimp only
  split
  · rfl
  · simp [mbLost, State.mbEvent, stewardReady]

/-- A write of one doorbell rings it, and Steward, once ready, takes the waiting requests (R133). -/
theorem doorbellWrite_one (s : State) {m : Nat} (hm : m < 16) :
    doorbellWrite s (2 ^ m) = (if stewardReady s = true then takeDoorbells else fun x => x) (ringBell s m) := by
  simp only [doorbellWrite, bitOf_two_pow, filter_range_eq hm, List.foldl_cons, List.foldl_nil, stewardReady_ringBell]
  split <;> rfl

/-- The carrier host's write of MB_DOORBELL is performed (R133, R151). -/
theorem exec_mbDoorbellWrite_spi {s : State} (v : Word) (hopen : spiOpen s = true) (hrun : (s.isl iSAGE).state = .run) :
    Performs (.mbDoorbellWrite .spi v) s (doorbellWrite s v.toNat) 0 := by
  have hgate : gate s .spi rMbDoorbell v.toNat true = stOk := rfl
  have hisl : agentIsland .spi = addrIsl rMbDoorbell := rfl
  have hrunning : s.running iSAGE = true := by simp [State.running, hrun]
  have haccess : access s .spi rMbDoorbell v.toNat true (fun s => (0, doorbellWrite s v.toNat)) =
      ((stOk, 0), doorbellWrite s v.toNat) := by
    simp only [access, hgate, crossing, hisl, if_true, ne_eq, not_true_eq_false, if_false]
  change execMbDoorbellWrite .spi v s = _
  simp [execMbDoorbellWrite, hopen, wakeIsl_of_run hrun, writeRow, accessRow, agentIsland, hrunning, haccess,
    settleAccess_ok]

theorem exec_mbDoorbellWrite_one {s : State} {m : Nat} (hopen : spiOpen s = true) (hrun : (s.isl iSAGE).state = .run)
    (hm : m < 16) : Performs (.mbDoorbellWrite .spi (BitVec.ofNat 32 (2 ^ m))) s
      ((if stewardReady s = true then takeDoorbells else fun x => x) (ringBell s m)) 0 := by
  have hword : (BitVec.ofNat 32 (2 ^ m)).toNat = 2 ^ m :=
    (BitVec.toNat_ofNat ..).trans (Nat.mod_eq_of_lt (Nat.pow_lt_pow_right (by decide) (by omega)))
  have hexec := exec_mbDoorbellWrite_spi (BitVec.ofNat 32 (2 ^ m)) hopen hrun
  rwa [hword, doorbellWrite_one s hm] at hexec

/-- A write of MB_DOORBELL from inside the module is refused (R151). -/
theorem exec_mbDoorbellWrite_inside {s : State} {by_ : Agent} (v : Word) (hby : by_ ≠ .spi)
    (hrunning : s.running (agentIsland by_) = true) (hrun : (s.isl iSAGE).state = .run) :
    exec (.mbDoorbellWrite by_ v) s = .next (refusedAccess s by_ rMbDoorbell stNotPermitted) := by
  have hgate : gate s by_ rMbDoorbell v.toNat true = stNotPermitted := by
    cases by_
    case spi => exact absurd rfl hby
    all_goals rfl
  have haccess (f : State → Nat × State) : access s by_ rMbDoorbell v.toNat true f =
      ((stNotPermitted, 0), noteRefused s by_ rMbDoorbell stNotPermitted) := by
    rw [access, hgate]
    rfl
  have hrow (f : State → State) : writeRow s by_ rMbDoorbell v.toNat f = refusedAccess s by_ rMbDoorbell stNotPermitted := by
    simp only [writeRow, accessRow, hrunning, haccess, Bool.not_true, Bool.false_eq_true, if_false]
    exact settleAccess_noteRefused (by decide) (by decide)
  have hinside : ¬(by_ = .spi ∧ (!spiOpen s) = true) := fun h => hby h.1
  change execMbDoorbellWrite by_ v s = _
  rw [execMbDoorbellWrite, if_neg hinside, wakeIsl_of_run hrun, hrow]

/-- A refused access from inside the module stands in ISL_LASTERR of its island, and changes no other register. -/
theorem refusedAccess_regs {s : State} {by_ : Agent} {a st : Nat} (hby : by_ ≠ .spi) (hlow : 0 < st) (hst : st < 65536) :
    (refusedAccess s by_ a st).reg (rIslLastErr (agentIsland by_)) = st + addrIsl a % 16 * 65536 + agentSource by_ * 2 ^ 20 ∧
      ∀ b, b ≠ rIslLastErr (agentIsland by_) → (refusedAccess s by_ a st).reg b = s.reg b := by
  have hregs : (refusedAccess s by_ a st).regs = (s.setReg (rIslLastErr (agentIsland by_))
      (st + addrIsl a % 16 * 65536 + agentSource by_ * 2 ^ 20)).regs := by
    rw [refusedAccess, if_neg hby]
  have hsource : agentSource by_ ≤ 2 := by cases by_ <;> decide
  have hreset : regReset (rIslLastErr (agentIsland by_)) = 0 := by cases by_ <;> rfl
  have hword : (st + addrIsl a % 16 * 65536 + agentSource by_ * 2 ^ 20) % 2 ^ 32 =
      st + addrIsl a % 16 * 65536 + agentSource by_ * 2 ^ 20 := Nat.mod_eq_of_lt (by omega)
  have hlisted : (st + addrIsl a % 16 * 65536 + agentSource by_ * 2 ^ 20) % 2 ^ 32 ≠
      regReset (rIslLastErr (agentIsland by_)) := by omega
  refine ⟨?_, fun b hb => ?_⟩
  · rw [reg_of_regs_eq hregs, reg_setReg_listed_same hlisted, hword]
  · rw [reg_of_regs_eq hregs, reg_setReg_other_of_listed hlisted hb]

theorem only_refusedAccess (s : State) (by_ : Agent) (a st : Nat) : Only [.regs, .outs] s (refusedAccess s by_ a st) := by
  have hnoted (t : State) : Only [.regs] s t → Only [.regs, .outs] s { t with outs := (refusedAccess s by_ a st).outs } :=
    fun h => Only.seq h (only_outs t _)
  unfold refusedAccess
  split
  · exact hnoted s (Only.refl _ s)
  · exact hnoted _ (only_setReg s _ _)

/-! ### Transfers that end -/

theorem exec_transferTimeout_due {s : State} {code : Nat} {t : Transfer} (ht : transferOf s code = some t)
    (hdue : t.last + 60 * nsSec ≤ s.now) : exec (.transferTimeout code) s = .next (abandonTransfer s t) := by
  change execTransferTimeout code s = _
  simp only [execTransferTimeout, ht, if_pos hdue]

theorem exec_transferTimeout_early {s : State} {code : Nat}
    (h : transferOf s code = none ∨ ∀ t ∈ s.mail.transfers, s.now < t.last + 60 * nsSec) :
    exec (.transferTimeout code) s = .next s := by
  change execTransferTimeout code s = _
  cases ht : transferOf s code with
  | none => simp only [execTransferTimeout, ht]
  | some t =>
    have hlate : s.now < t.last + 60 * nsSec :=
      h.elim (fun hnone => absurd (hnone.symm.trans ht) (by simp)) fun hall => hall t (List.mem_of_find?_eq_some ht)
    simp only [execTransferTimeout, ht, if_neg (Nat.not_le.mpr hlate)]

end Sys2Proof.Machine
end

section
/-! SETTLED. The SPI target and the doorbells. -/

namespace Sys2Proof.Certificates

open Sys2Proof.Machine Sys2Proof.Safety

/-- Settles O38. A buffer's bytes are those of `bufWrite`; a doorbell is `ringBell` of its mailbox alone. -/
theorem spiAndDoorbells : Obligations.SpiAndDoorbells := by
  unfold Obligations.SpiAndDoorbells
  intro s
  refine ⟨?read, ?write, ?locked, ?ignored, ?closed, ?status, ?ident, ?accepted, ?lost, ?inside, ?timeout, ?early⟩
  case read =>
    intro i a n hi hopen hrun ha
    rw [exec_spiRead hi, Nat.mod_eq_of_lt (by omega), spiRead_buffer n hopen hrun ha]
    rfl
  case write =>
    intro i a d hi hopen hrun hwf ha heven hpos hlen hfree
    have hd : d ≠ [] := List.ne_nil_of_length_pos hpos
    refine ⟨_, exec_spiWrite hi, ?_⟩
    rw [Nat.mod_eq_of_lt (show a < 2 ^ 24 by omega), spiWrite_open hopen hrun hd, if_pos ha, if_neg (by omega), if_pos hfree]
    refine ⟨Only.seq (only_outs s _) (only_mail _ _), rfl, rfl, ?_, fun x hx => ?_⟩
    · refine List.all_eq_true.mpr fun j hj => beq_iff_eq.mpr ?_
      have hat := memRead_bufWrite_at (base := a / 0x1000 * 0x1000) d (a % 0x1000) j hwf hlen (List.mem_range.mp hj)
      rwa [Nat.mod_add_mod] at hat
    · refine memRead_bufWrite_other d (a % 0x1000) hwf fun j hj => ?_
      rw [Nat.mod_add_mod]
      rcases hx with hlow | hhigh | hnone
      · omega
      · omega
      · exact hnone j hj
  case locked =>
    intro i a d hi hopen hrun ha heven hpos hlocked
    have hd : d ≠ [] := List.ne_nil_of_length_pos hpos
    have hbusy : ¬((s.box (a / 0x2000)).state = .idle ∨ (s.box (a / 0x2000)).state = .done) := by
      rcases hlocked with h | h <;> simp [h]
    rw [exec_spiWrite hi, Nat.mod_eq_of_lt (by omega), spiWrite_open hopen hrun hd, if_pos ha, if_neg (by omega), if_neg hbusy]
    rfl
  case ignored =>
    intro i a d hi hwhy ha
    rw [exec_spiWrite hi, Nat.mod_eq_of_lt ha]
    refine congrArg Host.Outcome.next ?_
    rcases hwhy with hclosed | ⟨hrun, haddr⟩
    · exact spiWrite_closed a d hclosed
    by_cases hd : d = []
    · rw [hd]; exact spiWrite_nil s a
    cases hopen : spiOpen s with
    | false => exact spiWrite_closed a d hopen
    | true =>
      rw [spiWrite_open hopen hrun hd]
      rcases haddr with ⟨hbuffer, hodd⟩ | ⟨habove, hbelow⟩
      · rw [if_pos hbuffer, if_pos hodd]
        rfl
      · rw [if_neg (by omega), mirrorOffsets_below hbelow]
        rfl
  case closed =>
    intro i a n hi hclosed
    rw [exec_spiRead hi, spiRead_closed _ n hclosed]
    rfl
  case status =>
    intro n
    rw [← spiStatusByte_eq]
    rfl
  case ident => rfl
  case accepted =>
    intro m hopen hrun hm hfree
    rw [← ringBell_free hfree]
    exact exec_mbDoorbellWrite_one hopen hrun hm
  case lost =>
    intro m hopen hrun hm htaken
    rw [← ringBell_taken htaken]
    exact exec_mbDoorbellWrite_one hopen hrun hm
  case inside =>
    intro by_ v hby hrunning hrun
    obtain ⟨herr, hothers⟩ := refusedAccess_regs (s := s) (a := rMbDoorbell) (st := stNotPermitted) hby (by decide) (by decide)
    exact ⟨_, exec_mbDoorbellWrite_inside v hby hrunning hrun, Only.mono (only_refusedAccess s by_ _ _) (by decide), rfl,
      herr, hothers⟩
  case timeout => exact fun code t => exec_transferTimeout_due
  case early => exact fun code => exec_transferTimeout_early

end Sys2Proof.Certificates
end

section
/-! SUPPORT. Establishing, using and closing sessions (04 R139 to R144, Table 4.11). -/

namespace Sys2Proof.Machine

open Sys2Proof.Safety

/-! ### The offer (steps 1 and 2) -/

theorem freshId_pos (v : Nat) : 0 < freshId v := by
  unfold freshId
  split <;> omega

theorem freshId_lt (v : Nat) : freshId v < 2 ^ 32 := by
  unfold freshId
  split <;> omega

theorem only_freeCtr (s : State) (k : Nat) : Only [.freeCtr] s { s with freeCtr := k } := by
  intro p hp
  cases p
  case freeCtr => simp at hp
  all_goals rfl

/-- A session offered on a HELLO: the tenant, role and credential asked for, and an id that is not 0. -/
structure OfferedFor (s : State) (p : List Byte) (x : Session) : Prop where
  stage : x.stage = .offered
  tenant : x.tenant = fld p 34 2
  role : x.role = fld p 36 1
  credential : x.credential = fld p 38 4
  heard : x.heard = s.now
  id_pos : 0 < x.id
  id_lt : x.id < 2 ^ 32

/-- An acceptable HELLO opens one session and sends one OFFER, of its id, nonce, public key and signature. -/
theorem sessionHello_accepted {s : State} {n : Nat} {p : List Byte} (hready : stewardReady s = true)
    (hon : s.rbit rMbCtrl 1 = true) (hfree : tabGet s.mail.sessions n = none) (hok : helloOk s n p = true)
    (hvault : vaultUp s = true) : ∃ (x : Session) (offer : List Byte), OfferedFor s p x ∧ offer.length = 4 + 32 + 1568 + 4627 ∧
      sessionHello s n p = { s with
        freeCtr := s.freeCtr + 3
        mail := { s.mail with
          sessions := tabSet s.mail.sessions n x, sent := { session := n, body := offer } :: s.mail.sent } } := by
  have hturn : (!stewardReady s || !s.rbit rMbCtrl 1 || (tabGet s.mail.sessions n).isSome) = false := by
    simp [hready, hon, hfree]
  have hgood : (!helloOk s n p || !vaultUp s) = false := by simp [hok, hvault]
  simp only [sessionHello, hturn, hgood, Bool.false_eq_true, if_false]
  refine ⟨_, _, ⟨rfl, rfl, rfl, rfl, rfl, freshId_pos _, freshId_lt _⟩, ?_, rfl⟩
  simp [State.drawBytes]

theorem sessionHello_refused {s : State} {n : Nat} {p : List Byte} (hready : stewardReady s = true)
    (hon : s.rbit rMbCtrl 1 = true) (hfree : tabGet s.mail.sessions n = none)
    (hbad : helloOk s n p = false ∨ vaultUp s = false) : sessionHello s n p = s.stick rMbSessionFail rMbEvent 5 := by
  rcases hbad with hbad | hbad <;> simp [sessionHello, sessionFail, hready, hon, hfree, hbad]

/-! ### The client's key (step 3) -/

/-- The connection of a failed step is closed without a reply, and counted (R139). -/
theorem failSession_eq (s : State) (n : Nat) : failSession s n =
    State.stick { s with mail := { s.mail with sessions := tabDel s.mail.sessions n } } rMbSessionFail rMbEvent 5 := rfl

/-- A key that decapsulates gives the session keys (R140). -/
theorem sessionAccept_opened {s : State} {n k : Nat} {p : List Byte} {x : Session} (hready : stewardReady s = true)
    (hx : tabGet s.mail.sessions n = some x) (hstage : x.stage = .offered) (hlen : p.length = 1568) (hvault : vaultUp s = true)
    (hk : Config.kemDecap x.kemSeed p = some k) : sessionAccept s n p = { s with
      vault := { s.vault with
        sessKeys := tabSet s.vault.sessKeys s.vault.sessNext (leBytes 72 (Config.kmac (leBytes 32 k)
          (transcriptHash { x with transcript := x.transcript ++ p }) 576 "CFM-8420 session"))
        sessNext := s.vault.sessNext + 1 }
      mail := { s.mail with sessions := tabSet s.mail.sessions n { x with
        transcript := x.transcript ++ p, stage := .accepted, keys := s.vault.sessNext, heard := s.now } } } := by
  simp [sessionAccept, hx, hready, hstage, hlen, hvault, hk]
  rfl

theorem sessionAccept_closed {s : State} {n : Nat} {p : List Byte} {x : Session} (hready : stewardReady s = true)
    (hx : tabGet s.mail.sessions n = some x) (hstage : x.stage = .offered)
    (hk : Config.kemDecap x.kemSeed p = none) : sessionAccept s n p = failSession s n := by
  simp [sessionAccept, hx, hready, hstage, hk]

theorem sessionAccept_refused {s : State} {n : Nat} {p : List Byte} {x : Session} (hready : stewardReady s = true)
    (hx : tabGet s.mail.sessions n = some x) (hstage : x.stage = .offered) (hbad : p.length ≠ 1568 ∨ vaultUp s = false) :
    sessionAccept s n p = failSession s n := by
  rcases hbad with hbad | hbad <;> simp [sessionAccept, hx, hready, hstage, hbad]

/-! ### What the use of a key leaves alone -/

/-- Work of the vault on its stored keys: the session keys stay. -/
structure StoredKeyWork (s t : State) : Prop where
  sessKeys : t.vault.sessKeys = s.vault.sessKeys
  only : Only [.regs, .vault, .chk, .power] s t

theorem StoredKeyWork.refl (s : State) : StoredKeyWork s s := ⟨rfl, Only.refl _ s⟩

theorem StoredKeyWork.trans {s t u : State} (h : StoredKeyWork s t) (k : StoredKeyWork t u) : StoredKeyWork s u :=
  ⟨k.sessKeys.trans h.sessKeys, Only.trans h.only k.only⟩

theorem only_vault (s : State) (v : Vault) : Only [.vault] s { s with vault := v } := by
  intro p hp
  cases p
  case vault => simp at hp
  all_goals rfl

theorem only_logEvent (s : State) (level island block bit detail : Nat) :
    Only [.regs, .power] s (s.logEvent level island block bit detail) := by
  intro p hp
  cases p
  case regs | power => simp at hp
  all_goals rfl

/-- Work that does not touch the vault leaves its session keys. -/
theorem storedKeyWork_of_only {ps : List StatePart} {s t : State} (h : Only ps s t) (hvault : StatePart.vault ∉ ps)
    (hps : ∀ p ∈ ps, p ∈ [StatePart.regs, .vault, .chk, .power]) : StoredKeyWork s t :=
  ⟨congrArg Vault.sessKeys (h .vault hvault), Only.mono h hps⟩

theorem storedKeyWork_vault {s : State} {v : Vault} (h : v.sessKeys = s.vault.sessKeys) :
    StoredKeyWork s { s with vault := v } := ⟨h, Only.mono (only_vault s v) (by decide)⟩

/-- One copy of a key record is written. -/
theorem storedKeyWork_keyUnit {s : State} {v : Vault} (k : StoredKey) (h : v.sessKeys = s.vault.sessKeys) :
    StoredKeyWork s (keyUnit { s with vault := v } k) :=
  (storedKeyWork_vault h).trans (storedKeyWork_of_only (only_chkUnit _ 2 124 _ true) (by decide) (by decide))

theorem storedKeyWork_putKey (s : State) (k : StoredKey) : StoredKeyWork s (putKey s k) := by
  have hfirst := storedKeyWork_keyUnit (s := s) (v := { s.vault with
    keys := tabSet s.vault.keys (k.handle % 256) k, copy0 := tabSet s.vault.copy0 (k.handle % 256) { key := k } }) k rfl
  exact hfirst.trans (storedKeyWork_keyUnit k rfl)

theorem storedKeyWork_voidKey (s : State) (k : StoredKey) : StoredKeyWork s (voidKey s k) := by
  have hraise (t : State) : StoredKeyWork t (t.kvEvent 0) :=
    storedKeyWork_of_only (only_raise t rKvEvent 0) (by decide) (by decide)
  have hclear (t : State) : StoredKeyWork t (clearWorking t k.handle) := by
    unfold clearWorking
    split
    · exact storedKeyWork_vault rfl
    · exact StoredKeyWork.refl t
  exact ((storedKeyWork_putKey s _).trans (hclear _)).trans (hraise _)

/-- A key is loaded into the working register and its use counted (R495). -/
def countUse (s : State) (k : StoredKey) : State :=
  State.stick { s with vault := { s.vault with working := k.handle } } rKvOps rKvEvent 6

theorem storedKeyWork_countUse (s : State) (k : StoredKey) : StoredKeyWork s (countUse s k) :=
  (storedKeyWork_vault (v := { s.vault with working := k.handle }) rfl).trans
    (storedKeyWork_of_only (only_stick _ rKvOps rKvEvent 6 1) (by decide) (by decide))

theorem useKey_cases (s : State) (k : StoredKey) : useKey s k = countUse s k ∨
    useKey s k = (voidKey (countUse s k) { k with uses := some 0 }).logEvent lvWarn iVLT 1 0 k.handle ∨
    ∃ n, useKey s k = putKey (countUse s k) { k with uses := some (n - 1) } := by
  cases hk : k.uses with
  | none => exact .inl (by simp only [useKey, hk]; rfl)
  | some n =>
    by_cases hn : n ≤ 1
    · exact .inr (.inl (by simp only [useKey, hk, if_pos hn]; rfl))
    · exact .inr (.inr ⟨n, by simp only [useKey, hk, if_neg hn]; rfl⟩)

theorem storedKeyWork_useKey (s : State) (k : StoredKey) : StoredKeyWork s (useKey s k) := by
  have hcount := storedKeyWork_countUse s k
  rcases useKey_cases s k with huse | huse | ⟨n, huse⟩
  · rw [huse]; exact hcount
  · rw [huse]
    exact hcount.trans ((storedKeyWork_voidKey _ _).trans
      (storedKeyWork_of_only (only_logEvent _ lvWarn iVLT 1 0 k.handle) (by decide) (by decide)))
  · rw [huse]; exact hcount.trans (storedKeyWork_putKey _ _)

theorem storedKeyWork_useCredential (s : State) (tenant : Nat) : StoredKeyWork s (useCredential s tenant) := by
  unfold useCredential
  split
  · exact storedKeyWork_useKey s _
  · exact StoredKeyWork.refl s

/-! ### The proof (steps 4 and 5) and records -/

theorem sessionProof_unopened {s : State} {n : Nat} {p : List Byte} {x : Session} (hready : stewardReady s = true)
    (hx : tabGet s.mail.sessions n = some x) (hstage : x.stage = .accepted) (hopen : openRecord s x p = none) :
    sessionProof s n p = failSession s n := by
  simp [sessionProof, hx, hready, hstage, hopen]

theorem sessionProof_right {s : State} {n c : Nat} {p d : List Byte} {x : Session} (hready : stewardReady s = true)
    (hx : tabGet s.mail.sessions n = some x) (hstage : x.stage = .accepted) (hvault : vaultUp s = true)
    (hopen : openRecord s x p = some (c, d)) (htag : tagMatches s x.tenant (transcriptHash x) "CFM-8420 proof" d = true) :
    sessionProof s n p =
      sessionSend (tookRecord (useCredential s x.tenant) n { x with stage := .established } c) n (leBytes 2 stOk) := by
  simp [sessionProof, hx, hready, hstage, hopen, hvault, htag]

/-- The session keys of a session are erased (R144). -/
def eraseKeys (s : State) (x : Session) : State :=
  { s with vault := { s.vault with sessKeys := tabDel s.vault.sessKeys x.keys } }

theorem sessionProof_wrong {s : State} {n c : Nat} {p d : List Byte} {x : Session} (hready : stewardReady s = true)
    (hx : tabGet s.mail.sessions n = some x) (hstage : x.stage = .accepted) (hvault : vaultUp s = true)
    (hopen : openRecord s x p = some (c, d)) (htag : tagMatches s x.tenant (transcriptHash x) "CFM-8420 proof" d = false) :
    sessionProof s n p = failSession (eraseKeys (useCredential s x.tenant) x) n := by
  simp [sessionProof, eraseKeys, hx, hready, hstage, hopen, hvault, htag]

theorem only_failSession (s : State) (n : Nat) : Only [.mail, .regs] s (failSession s n) :=
  Only.seq (only_mail s _) (only_stick _ rMbSessionFail rMbEvent 5 1)

theorem sessionRecord_unopened {s : State} {n : Nat} {p : List Byte} {x : Session} (hready : stewardReady s = true)
    (hx : tabGet s.mail.sessions n = some x) (hstage : x.stage = .established) (hopen : openRecord s x p = none) :
    sessionRecord s n p = s.stick rMbSessionFail rMbEvent 5 := by
  simp [sessionRecord, sessionFail, hx, hready, hstage, hopen]

/-- A record below the last counter reaches Steward (R141, R143). -/
theorem sessionRecord_opened {s : State} {n c : Nat} {p d : List Byte} {x : Session} (hready : stewardReady s = true)
    (hx : tabGet s.mail.sessions n = some x) (hstage : x.stage = .established) (hopen : openRecord s x p = some (c, d))
    (hc : c + 1 < 2 ^ 32) : sessionRecord s n p =
      letIn (s.setSession n { x with rxNext := c + 1, heard := s.now }) (.session n) (padTo 32 d) (d.drop 32)
        (some (if d.length < 32 then 2 ^ 32 else d.length - 32)) := by
  have hstay : ¬2 ^ 32 ≤ c + 1 := Nat.not_le.mpr hc
  simp only [sessionRecord, hx, hready, hstage, hopen, if_neg hstay, Bool.not_true, bne_self_eq_false, Bool.or_self,
    Bool.false_eq_true, if_false]

/-! ### Closing (R144) -/

theorem only_mail_vault (s : State) (m : Mail) (v : Vault) : Only [.mail, .vault] s { s with mail := m, vault := v } := by
  intro p hp
  cases p
  case mail | vault => simp at hp
  all_goals rfl

/-- An event bit that reads 0 at reset reads 1 once raised, whatever the register table lists. -/
theorem rbit_raise_of_reset_clear (s : State) {a j : Nat} (hreset : bitOf (regReset a) j = false) (hj : j < 32) :
    (s.raise a j).rbit a j = true := by
  have hbit := bitOf_putBits_one (s.reg a) hj
  have hlisted : putBits (s.reg a) j 1 1 % 2 ^ 32 ≠ regReset a := by
    intro h
    rw [h, hreset] at hbit
    exact Bool.false_ne_true hbit
  have hreg : (s.raise a j).reg a = putBits (s.reg a) j 1 1 % 2 ^ 32 := reg_setReg_listed_same hlisted
  rw [State.rbit, hreg, hbit]

theorem only_update (s : State) (u : Update) : Only [.update] s { s with update := u } := by
  intro p hp
  cases p
  case update => simp at hp
  all_goals rfl

/-- The end of what a route had under way: sessions, requests and subscriptions stay. -/
structure WorkEnded (s t : State) : Prop where
  sessions : t.mail.sessions = s.mail.sessions
  inProgress : t.mail.inProgress = s.mail.inProgress
  cov : t.mail.cov = s.mail.cov
  only : Only [.regs, .fabric, .mail, .update, .chk] s t

theorem WorkEnded.refl (s : State) : WorkEnded s s := ⟨rfl, rfl, rfl, Only.refl _ s⟩

theorem WorkEnded.trans {s t u : State} (h : WorkEnded s t) (k : WorkEnded t u) : WorkEnded s u :=
  ⟨k.sessions.trans h.sessions, k.inProgress.trans h.inProgress, k.cov.trans h.cov, Only.trans h.only k.only⟩

theorem workEnded_foldl {α : Type} (f : State → α → State) (h : ∀ s a, WorkEnded s (f s a)) :
    ∀ (l : List α) (s : State), WorkEnded s (l.foldl f s)
  | [], s => WorkEnded.refl s
  | a :: l, s => (h s a).trans (workEnded_foldl f h l (f s a))

/-- Work outside the mailboxes. -/
theorem workEnded_of_only {ps : List StatePart} {s t : State} (h : Only ps s t) (hmail : StatePart.mail ∉ ps)
    (hps : ∀ p ∈ ps, p ∈ [StatePart.regs, .fabric, .mail, .update, .chk]) : WorkEnded s t := by
  have hsame : t.mail = s.mail := h .mail hmail
  exact ⟨by rw [hsame], by rw [hsame], by rw [hsame], Only.mono h hps⟩

theorem workEnded_abandonTransfer (s : State) (t : Transfer) : WorkEnded s (abandonTransfer s t) := by
  have hgone : WorkEnded s { s with mail := { s.mail with transfers := s.mail.transfers.filter (· != t) } } :=
    ⟨rfl, rfl, rfl, Only.mono (only_mail s _) (by decide)⟩
  have hmarked (w : State) : WorkEnded w (abandonUpdate w) :=
    workEnded_of_only (Only.seq (only_update w _) (only_raise _ rUpEvent 3)) (by decide) (by decide)
  unfold abandonTransfer
  dsimp only
  split
  · exact hgone.trans (hmarked _)
  · exact hgone

theorem workEnded_releaseHeld (s : State) (pt writer : Nat) : WorkEnded s (releaseHeld s pt writer) := by
  unfold releaseHeld
  split
  · exact workEnded_of_only (only_editPoint (f := releasePoint) (fun t k => only_putPoint t k _) s pt) (by decide) (by decide)
  · exact WorkEnded.refl s

/-- A session's transfers are abandoned and its claims released. -/
theorem workEnded_of_session (s : State) (n : Nat) :
    WorkEnded s (dropClaims (abandonWhere s (.session n) fun _ => true) (routeWriter (.session n))) :=
  (workEnded_foldl abandonTransfer workEnded_abandonTransfer _ s).trans
    (workEnded_foldl _ (fun t pt => workEnded_releaseHeld t pt _) _ _)

/-- A session that was closed: its keys, requests and subscriptions are gone. -/
structure SessionClosed (s t : State) (n : Nat) (x : Session) : Prop where
  sessions : t.mail.sessions = tabDel s.mail.sessions n
  sessKeys : t.vault.sessKeys = tabDel s.vault.sessKeys x.keys
  inProgress : t.mail.inProgress = s.mail.inProgress.filter fun q => q.route != .session n
  cov : t.mail.cov = s.mail.cov.filter fun c => c.session != n
  event : t.rbit rMbEvent 4 = true
  only : Only [.regs, .fabric, .mail, .vault, .update, .chk] s t

theorem sessionClosed_closeSession {s : State} {n : Nat} {x : Session} (hx : tabGet s.mail.sessions n = some x) :
    SessionClosed s (closeSession s n) n x := by
  have hended := workEnded_of_session s n
  simp only [closeSession, hx]
  generalize dropClaims (abandonWhere s (.session n) fun _ => true) (routeWriter (.session n)) = w at hended ⊢
  obtain ⟨hsessions, hprogress, hcov, honly⟩ := hended
  have hvault : w.vault = s.vault := honly .vault (by decide)
  refine ⟨?_, ?_, ?_, ?_, rbit_raise_of_reset_clear _ (by decide) (by decide), ?_⟩
  · rw [← hsessions]; rfl
  · rw [← hvault]; rfl
  · rw [← hprogress]; rfl
  · rw [← hcov]; rfl
  · exact Only.mono (Only.seq honly (Only.seq (only_mail_vault w _ _) (only_raise _ rMbEvent 4))) (by decide)

theorem sessionTimeout_due {s : State} {n : Nat} {x : Session} (hrun : s.running iSAGE = true)
    (hx : tabGet s.mail.sessions n = some x) (hdue : x.heard + max 10 (s.rfield rMbCtrl 8 8) * nsSec ≤ s.now) :
    sessionTimeout s n = closeSession s n := by
  have hdue' : x.heard + sessionIdle s ≤ s.now := hdue
  simp [sessionTimeout, hx, hrun, hdue']

theorem sessionTimeout_early {s : State} {n : Nat} {x : Session} (hx : tabGet s.mail.sessions n = some x)
    (hearly : s.now < x.heard + max 10 (s.rfield rMbCtrl 8 8) * nsSec) : sessionTimeout s n = s := by
  have hearly' : ¬x.heard + sessionIdle s ≤ s.now := Nat.not_le.mpr hearly
  simp [sessionTimeout, hx, hearly']

end Sys2Proof.Machine
end

section
/-! SETTLED. Sessions. -/

namespace Sys2Proof.Certificates

open Sys2Proof.Machine Sys2Proof.Safety

/-- Settles O42, a step of Table 4.11 or of R141 to R144 in each case. -/
theorem sessionSteps : Obligations.SessionSteps := by
  unfold Obligations.SessionSteps
  intro s
  refine ⟨?hello, ?helloRefused, ?accept, ?acceptRefused, ?proof, ?record, ?close, ?idle⟩
  case hello =>
    intro n p hready hon hfree hok hvault
    obtain ⟨x, offer, hx, hlen, hhello⟩ := sessionHello_accepted hready hon hfree hok hvault
    obtain ⟨hstage, htenant, hrole, hcredential, hheard, hpos, hlt⟩ := hx
    refine ⟨_, congrArg Host.Outcome.next hhello, ?_, ?_, ?_, Only.seq (only_freeCtr s (s.freeCtr + 3)) (only_mail _ _)⟩
    · simp [hstage, htenant, hrole, hcredential, hheard]
    · simpa [hpos] using hlt
    · simp [hlen]
  case helloRefused =>
    intro n p hready hon hfree hbad
    exact congrArg Host.Outcome.next (sessionHello_refused hready hon hfree hbad)
  case accept =>
    intro n p x hready hx hstage hlen hvault
    exact ⟨fun hk => congrArg Host.Outcome.next (sessionAccept_closed hready hx hstage hk),
      fun k hk => congrArg Host.Outcome.next (sessionAccept_opened hready hx hstage hlen hvault hk)⟩
  case acceptRefused =>
    intro n p x hready hx hstage hbad
    exact congrArg Host.Outcome.next (sessionAccept_refused hready hx hstage hbad)
  case proof =>
    intro n p x hready hx hstage hvault
    refine ⟨fun hopen => congrArg Host.Outcome.next (sessionProof_unopened hready hx hstage hopen), fun c d hopen =>
      ⟨fun htag => congrArg Host.Outcome.next (sessionProof_right hready hx hstage hvault hopen htag), fun htag => ?_⟩⟩
    obtain ⟨hkeys, honly⟩ := storedKeyWork_useCredential s x.tenant
    have hmail := honly .mail (by decide)
    refine ⟨_, congrArg Host.Outcome.next (sessionProof_wrong hready hx hstage hvault hopen htag), ?_, ?_, ?_⟩
    · rw [failSession_eq, stick_mail]
      exact congrArg (fun m : Mail => tabDel m.sessions n) hmail
    · rw [failSession_eq, stick_vault]
      exact congrArg (fun k => tabDel k x.keys) hkeys
    · exact Only.mono (Only.seq honly (Only.seq (only_vault _ _) (only_failSession _ n))) (by decide)
  case record =>
    intro n p x hready hx hstage
    exact ⟨fun hopen => congrArg Host.Outcome.next (sessionRecord_unopened hready hx hstage hopen),
      fun c d hopen hc => congrArg Host.Outcome.next (sessionRecord_opened hready hx hstage hopen hc)⟩
  case close =>
    intro i n x hi hx
    have hexec : exec i s = .next (closeSession s n) := by
      rcases hi with rfl | ⟨rfl, hrun, hdue⟩
      · rfl
      · exact congrArg Host.Outcome.next (sessionTimeout_due hrun hx hdue)
    obtain ⟨hsessions, hkeys, hprogress, hcov, hevent, honly⟩ := sessionClosed_closeSession hx
    exact ⟨_, hexec, hsessions, hkeys, hprogress, hcov, hevent, honly⟩
  case idle =>
    intro n x hx hearly
    exact congrArg Host.Outcome.next (sessionTimeout_early hx hearly)

end Sys2Proof.Certificates
end

section
/-! SUPPORT. The BACnet/SC profile: what a service on a hub connection answers, reads of a device's objects, and how
devices, connections and objects come about (04 R142, R145 to R149). -/

namespace Sys2Proof.Machine

open Sys2Proof.Safety

/-! ### Crossings -/

theorem only_wakeIsl (s : State) (i : Nat) : Only [.islands] s (s.wakeIsl i) := by
  unfold State.wakeIsl
  split
  · exact only_setIsl s i _
  · exact Only.refl _ s

theorem only_reach (s : State) (src dst : Nat) : Only [.regs, .islands] s (reach s src dst).2 := by
  have hcount (t : State) : Only [.regs] t (t.countRefused dst) := only_stick t _ _ 7 1
  have hwake : Only [.regs, .islands] s (s.wakeIsl dst) := Only.mono (only_wakeIsl s dst) (by decide)
  have hport : Only [.regs, .islands] s (if portStatus (s.isl dst) (s.epochOf src dst) = stOk then s.wakeIsl dst
      else (s.wakeIsl dst).countRefused dst) := by
    split
    · exact hwake
    · exact Only.trans hwake (Only.mono (hcount _) (by decide))
  unfold reach
  dsimp only
  split
  · exact hport
  · exact Only.trans hport (Only.mono (only_noteEpoch _ src dst _) (by decide))

/-- A crossing touches registers and islands beside what the request touches. -/
theorem only_crossing {α : Type} {ps : List StatePart} (s : State) (src dst source : Nat) (refused : Nat → α)
    (statusOf : α → Nat) {f : State → α × State} (hf : ∀ t, Only ps t (f t).2) :
    Only ([.regs, .islands] ++ ps) s (crossing s src dst source refused statusOf f).2 := by
  have hreach : Only ([.regs, .islands] ++ ps) s (reach s src dst).2 :=
    Only.mono (only_reach s src dst) fun _ hp => List.mem_append_left ps hp
  have herror (t : State) (st : Nat) : Only ([.regs, .islands] ++ ps) t (t.lastError src dst source st) :=
    Only.mono (only_lastError t src dst source st) (by simp)
  have hwork (t : State) : Only ([.regs, .islands] ++ ps) t (f t).2 :=
    Only.mono (hf t) fun _ hp => List.mem_append_right _ hp
  unfold crossing
  dsimp only
  split
  · exact hwork s
  split
  · exact Only.trans hreach (Only.trans (hwork _) (herror _ _))
  · exact Only.trans hreach (herror _ _)

theorem only_readFrom (s : State) (src source tenant pt : Nat) :
    Only [.regs, .islands, .fabric, .chk] s (readFrom s src source tenant pt).2 :=
  Only.mono (only_crossing s src iPF source FabRes.refused (·.status) fun t => (onlyRead_fabRead t tenant pt).only) (by decide)

/-- Reading a property changes no mailbox state. -/
theorem only_bacProperty (s : State) (tenant object property : Nat) :
    Only [.regs, .islands, .fabric, .chk] s (bacProperty s tenant object property).2 := by
  unfold bacProperty
  split
  · exact Only.refl _ s
  · next x _ =>
    have hread := only_readFrom s iSAGE 1 tenant x.pt
    dsimp only
    split
    · exact hread
    · exact hread

theorem only_bacMany (tenant : Nat) : ∀ (l : List (Nat × Nat)) (s : State),
    Only [.regs, .islands, .fabric, .chk] s (bacMany s tenant l).2
  | [], s => Only.refl _ s
  | (o, p) :: l, s => Only.trans (only_bacProperty s tenant o p) (only_bacMany tenant l _)

/-! ### Services on a hub connection -/

/-- An open hub connection on a slot, with Steward ready and the profile enabled (R145). -/
structure HubConnection (s : State) (n : Nat) (x : Session) : Prop where
  session : tabGet s.mail.sessions n = some x
  stage : x.stage = .bacnet
  ready : stewardReady s = true
  enabled : s.rbit rMbCtrl 2 = true

/-- What comes from the hub is a valid record of the connection (R144). -/
def heardOn (s : State) (n : Nat) (x : Session) : State := s.setSession n { x with heard := s.now }

/-- A service that came from the hub. -/
def fromHub : BacnetService → Bool
  | .covDue .. | .ask .. | .connect .. | .map .. => false
  | _ => true

theorem exec_bacnetService_fromHub {s : State} {n : Nat} {x : Session} {svc : BacnetService} (h : HubConnection s n x)
    (hsvc : fromHub svc = true) : exec (.bacnetService n svc) s = .next (bacServe (heardOn s n x) n x svc) := by
  obtain ⟨hx, hstage, hready, hon⟩ := h
  refine congrArg Host.Outcome.next ?_
  cases svc
  case covDue | ask | connect | map => exact absurd hsvc (by simp [fromHub])
  all_goals simp [bacService, heardOn, hx, hstage, hready, hon]

theorem exec_covDue {s : State} {n : Nat} {x : Session} (o : Nat) (h : HubConnection s n x) :
    exec (.bacnetService n (.covDue o)) s = .next (bacCovDue s n x.tenant o) := by
  obtain ⟨hx, hstage, hready, hon⟩ := h
  refine congrArg Host.Outcome.next ?_
  simp [bacService, hx, hstage, hready, hon]

theorem bacServe_readProperty (s : State) (n : Nat) (x : Session) (o p : Nat) :
    ∃ a, bacServe s n x (.readProperty o p) = bacAnswer (bacProperty s x.tenant o p).2 a := ⟨_, rfl⟩

theorem bacServe_readMany (s : State) (n : Nat) (x : Session) (l : List (Nat × Nat)) :
    bacServe s n x (.readPropertyMultiple l) =
      bacAnswer (bacMany s x.tenant l).2 (.multiple (bacMany s x.tenant l).1) := rfl

/-- An answer that reading properties led to, on a connection that was heard. -/
theorem answered_after_reading {s w : State} {n : Nat} {x : Session} (a : BacAnswer)
    (h : Only [.regs, .islands, .fabric, .chk] (heardOn s n x) w) : (bacAnswer w a).mail.bacSent = a :: s.mail.bacSent ∧
      Only [.freeCtr, .regs, .islands, .fabric, .mail, .chk] s (bacAnswer w a) := by
  have hmail : w.mail = (heardOn s n x).mail := h .mail (by decide)
  have hheard : Only [.mail] s (heardOn s n x) := only_mail s _
  refine ⟨?_, Only.mono (Only.seq hheard (Only.seq h (only_mail w _))) (by decide)⟩
  simp only [bacAnswer, hmail]
  rfl

/-- A WriteProperty that names no writable property, or comes to a standby, is denied (R147). -/
theorem bacWrite_denied {s : State} {n tenant o p pr : Nat} {v : Option Word64} {y : BacObject}
    (hy : bacObj s tenant o = some y)
    (hwhy : p ≠ bpPresentValue ∨ bacCommandable y.type = false ∨ pr = 0 ∨ 16 < pr ∨ s.twin.role = .standby) :
    bacWrite s n tenant o p pr v = (bacDenied, s) := by
  have hdenied : (p != bpPresentValue || !bacCommandable y.type || !bacFits y.type (s.point y.pt).type || pr == 0 ||
      decide (16 < pr) || onStandby s) = true := by
    rcases hwhy with h | h | h | h | h <;> simp [h, onStandby]
  simp only [bacWrite, hy, hdenied, if_true]

/-! ### Subscriptions (R149) -/

theorem bacSubscribe_new {s : State} {n tenant o : Nat} (hobj : (bacObj s tenant o).isSome = true)
    (hnew : bacSubscribed s n o = false) (hroom : (s.mail.cov.filter (·.session == n)).length < covLimit) :
    bacSubscribe s n tenant o false = bacAnswer { s with mail := { s.mail with
      cov := s.mail.cov ++ [{ session := n, object := o, last := none }] } } .ack := by
  simp [bacSubscribe, Option.isNone_eq_false_iff.mpr hobj, hnew, Nat.not_le.mpr hroom]

theorem bacSubscribe_full {s : State} {n tenant o : Nat} (hobj : (bacObj s tenant o).isSome = true)
    (hnew : bacSubscribed s n o = false) (hfull : covLimit ≤ (s.mail.cov.filter (·.session == n)).length) :
    bacSubscribe s n tenant o false = bacAnswer s bacNoSpace := by
  simp [bacSubscribe, Option.isNone_eq_false_iff.mpr hobj, hnew, hfull]

theorem bacSubscribe_cancels {s : State} {n tenant o : Nat} (hobj : (bacObj s tenant o).isSome = true) :
    bacSubscribe s n tenant o true = bacAnswer { s with mail := { s.mail with
      cov := s.mail.cov.filter fun c => !(c.session == n && c.object == o) } } .ack := by
  simp [bacSubscribe, Option.isNone_eq_false_iff.mpr hobj]

/-- A cancelled subscription is gone, and no other. -/
theorem bacSubscribed_cancelled {s t : State} {n o : Nat}
    (h : t.mail.cov = s.mail.cov.filter fun c => !(c.session == n && c.object == o)) :
    bacSubscribed t n o = false ∧ ∀ m k, (m ≠ n ∨ k ≠ o) → bacSubscribed t m k = bacSubscribed s m k := by
  refine ⟨?_, fun m k hother => ?_⟩
  · rw [bacSubscribed, h, List.any_filter, List.any_eq_false]
    intro c _
    cases c.session == n && c.object == o <;> simp
  · rw [bacSubscribed, bacSubscribed, h, List.any_filter]
    refine congrArg (List.any s.mail.cov) (funext fun c => ?_)
    cases hasked : c.session == m && c.object == k with
    | false => exact Bool.and_false _
    | true =>
      obtain ⟨hsession, hobject⟩ := (Bool.and_eq_true ..).mp hasked
      have hkept : (c.session == n && c.object == o) = false := by
        rw [beq_iff_eq.mp hsession, beq_iff_eq.mp hobject]
        rcases hother with hm | hk
        · rw [beq_eq_false_iff_ne.mpr hm, Bool.false_and]
        · rw [beq_eq_false_iff_ne.mpr hk, Bool.and_false]
      rw [hkept]
      rfl

/-! ### The first notification (R148, R149) -/

/-- Steward reads an object's point for its tenant: PF is open, the record is sound and unforced, the tenant may read it
and Table 4.12 gives its type to the object. -/
structure Readable (s : State) (tenant : Nat) (y : BacObject) : Prop where
  sound : Sound s y.pt
  island : Open s iPF
  right : bitOf (rightsOf s (s.point y.pt) tenant) 0 = true
  fits : bacFits y.type (s.point y.pt).type = true
  unforced : forceOf s y.pt = none

/-- The state in which Steward has read a point. -/
def readBy (s : State) (y : BacObject) : State := loadPoint (crossed s iPF) y.pt

theorem readFrom_readable {s : State} {tenant : Nat} {y : BacObject} (h : Readable s tenant y) :
    readFrom s iSAGE 1 tenant y.pt = (readValue (crossed s iPF) y.pt, readBy s y) := by
  have hvalue : readValue (crossed s iPF) y.pt = _ := readValue_unforced (s := crossed s iPF) h.sound h.unforced
  exact crossing_open_ok 1 FabRes.refused h.island (fabRead_granted (s := crossed s iPF) h.sound h.right) (by rw [hvalue])

theorem bacProperty_readable {s : State} {tenant object property : Nat} {y : BacObject}
    (hy : bacObj s tenant object = some y) (h : Readable s tenant y) :
    ∃ b, bacProperty s tenant object property = (some b, readBy s y) := by
  have hvalue : readValue (crossed s iPF) y.pt = _ := readValue_unforced (s := crossed s iPF) h.sound h.unforced
  have hgood : ¬((readValue (crossed s iPF) y.pt).status ≠ stOk ∨
      (!bacFits y.type (readValue (crossed s iPF) y.pt).type) = true) := by
    rw [hvalue]
    exact fun hbad => hbad.elim (fun hne => hne rfl) fun hfits => by
      have htrue : bacFits y.type ((crossed s iPF).point y.pt).type = true := h.fits
      rw [htrue] at hfits
      exact Bool.false_ne_true hfits
  simp only [bacProperty, hy, readFrom_readable h, if_neg hgood]
  exact ⟨_, rfl⟩

theorem open_crossed {s : State} {i : Nat} (h : Open s i) : Open (crossed s i) i := by
  obtain ⟨hne, hrun, hdrain, -⟩ := h
  have hisl : (crossed s i).isl i = s.isl i := isl_setIsl_other s _ hne
  refine ⟨hne, by rw [hisl, hrun], by rw [hisl, hdrain], .inr ?_⟩
  have hsage : (crossed s i).isl iSAGE = _ := isl_setIsl_same s iSAGE _
  rw [hisl, State.epochOf, hsage, tabGetD, tabGet_set_same]
  rfl

/-- What was read once can be read again. -/
theorem readable_readBy {s : State} {tenant : Nat} {y : BacObject} (h : Readable s tenant y) :
    Readable (readBy s y) tenant y := by
  have hislands : (readBy s y).islands = (crossed s iPF).islands := only_loadPoint (crossed s iPF) y.pt .islands (by decide)
  obtain ⟨hne, hrun, hdrain, hepoch⟩ := open_crossed h.island
  refine ⟨sound_loadPoint (s := crossed s iPF) h.sound, ⟨hne, ?_, ?_, ?_⟩, ?_, ?_, ?_⟩
  · rwa [isl_of_islands_eq hislands]
  · rwa [isl_of_islands_eq hislands]
  · rwa [State.epochOf, isl_of_islands_eq hislands, isl_of_islands_eq hislands]
  · rw [readBy, loadPoint_point, loadPoint_rightsOf]
    exact h.right
  · rw [readBy, loadPoint_point]
    exact h.fits
  · rw [readBy, loadPoint_forceOf]
    exact h.unforced

theorem only_readBy (s : State) (y : BacObject) : Only [.regs, .islands, .fabric, .chk] s (readBy s y) :=
  Only.mono (Only.seq (only_crossed s iPF) (only_loadPoint _ y.pt)) (by decide)

/-- The one subscription of the module, not yet notified, is notified of the value and flags read. -/
theorem bacCovDue_first {s : State} {n tenant o : Nat} {c : CovSub} {y : BacObject} (hcov : s.mail.cov = [c])
    (hsession : c.session = n) (hobject : c.object = o) (hlast : c.last = none) (hy : bacObj s tenant o = some y)
    (h : Readable s tenant y) : ∃ (w : State) (v : List Byte) (f : Nat), Only [.regs, .islands, .fabric, .chk] s w ∧
      bacCovDue s n tenant o = bacAnswer { w with mail := { w.mail with cov := [{ c with last := some (v, f) }] } }
        (.notify o v f) := by
  have honly := Only.trans (only_readBy s y) (only_readBy (readBy s y) y)
  have hmail : (readBy (readBy s y) y).mail = s.mail := honly .mail (by decide)
  have hmail1 : (readBy s y).mail = s.mail := only_readBy s y .mail (by decide)
  have hy' : bacObj (readBy s y) tenant o = some y := by rw [bacObj, hmail1]; exact hy
  obtain ⟨v, hv⟩ := bacProperty_readable (property := bpPresentValue) hy h
  obtain ⟨f, hf⟩ := bacProperty_readable (property := bpStatusFlags) hy' (readable_readBy h)
  have hsubscribed : bacSubscribed s n o = true := by simp [bacSubscribed, hcov, hsession, hobject]
  refine ⟨readBy (readBy s y) y, v, (f.getD 0 0).toNat, honly, ?_⟩
  simp [bacCovDue, hsubscribed, hv, hf, hmail, hcov, hsession, hobject, hlast]

/-! ### Devices, connections and objects (R142, R145, R146) -/

theorem exec_bacAsk {s : State} {n t : Nat} {p f : List Byte} (hready : stewardReady s = true) (ht : t < nobody)
    (henrolled : enrolled s t = true) : exec (.bacnetService n (.ask t p f)) s = .next (bacAnswer { s with mail :=
      { s.mail with bacHubs := tabSet s.mail.bacHubs t { primary := p, failover := f } } } (.status stOk)) := by
  have hmay : ¬(nobody ≤ t ∨ !enrolled s t) := by
    rw [henrolled]
    exact fun h => h.elim (Nat.not_le.mpr ht) Bool.false_ne_true
  refine congrArg Host.Outcome.next ?_
  simp only [bacService, hready, Bool.not_true, Bool.false_eq_true, if_false, bacAsk, if_neg hmay]

/-- The session of a hub connection: its tenant's, with the role OPERATOR. -/
def hubSession (s : State) (tenant : Nat) : Session :=
  { stage := .bacnet, id := 0, tenant := tenant, role := 1, credential := 0, transcript := [], kemSeed := 0, keys := 0
    rxNext := 0, txNext := 0, heard := s.now, kept := [] }

theorem exec_bacConnect {s : State} {n t : Nat} {b : Bool} (hready : stewardReady s = true) :
    exec (.bacnetService n (.connect t b)) s =
      .next (if bacMayConnect s n t b then s.setSession n (hubSession s t) else s) := by
  refine congrArg Host.Outcome.next ?_
  simp only [bacService, hready, Bool.not_true, Bool.false_eq_true, if_false, bacConnect]
  rfl

theorem bacMayConnect_of_connected {s : State} {n t : Nat} {b : Bool} (h : bacConnected s t = true) :
    bacMayConnect s n t b = false := by
  simp [bacMayConnect, h]

/-- An object as MAP leaves it. -/
def mappedObject (tenant type pt : Nat) (v : Word64) : BacObject :=
  { tenant := tenant, type := type, pt := pt, priority := List.replicate 16 none, relinquish := v, configError := false }

theorem exec_bacMap {s : State} {n t o ty pt : Nat} {v : Word64} (hready : stewardReady s = true)
    (hhubs : (tabGet s.mail.bacHubs t).isSome = true) (hfits : bacFits ty (s.point pt).type = true) :
    exec (.bacnetService n (.map t o ty pt v)) s = .next (
      if (bacObj s t o).isNone ∧ (bacPerModule ≤ s.mail.bacObjects.length ∨
          bacPerDevice ≤ (s.mail.bacObjects.filter fun p => p.2.tenant == t).length) then bacAnswer s (.status stStoreFull)
      else bacAnswer (putBac s o (mappedObject t ty pt v)) (.status stOk)) := by
  refine congrArg Host.Outcome.next ?_
  simp only [bacService, hready, bacMap, Option.isNone_eq_false_iff.mpr hhubs, hfits, Bool.not_true, Bool.false_eq_true,
    if_false]
  rfl

theorem bacObj_putBac (s : State) (o : Nat) (y : BacObject) : bacObj (putBac s o y) y.tenant o = some y := by
  simp [bacObj, putBac]

end Sys2Proof.Machine
end

section
/-! SETTLED. The BACnet/SC profile. -/

namespace Sys2Proof.Certificates

open Sys2Proof.Machine Sys2Proof.Safety

/-- Settles O43: services of a hub connection, then the events that make devices, connections and objects. -/
theorem bacnetServices : Obligations.BacnetServices := by
  unfold Obligations.BacnetServices
  refine ⟨?services, ?devices⟩
  case services =>
    intro s n x hx hstage hready hon
    have hconn : HubConnection s n x := ⟨hx, hstage, hready, hon⟩
    have hexec (svc : BacnetService) (hsvc : fromHub svc = true) := exec_bacnetService_fromHub (svc := svc) hconn hsvc
    refine ⟨hexec .whoIs rfl, ?unknown, ?read, ?readMany, ?subscribe, ?full, ?cancel, ?denied, ?notify, ?unsubscribed,
      fun k => hexec (.other k) rfl⟩
    case unknown =>
      intro o p hnone
      have hnone' : bacObj (heardOn s n x) x.tenant o = none := hnone
      rw [hexec (.readProperty o p) rfl, bacServe, bacProperty, hnone']
      rfl
    case read =>
      intro o p
      obtain ⟨a, ha⟩ := bacServe_readProperty (heardOn s n x) n x o p
      obtain ⟨hsent, honly⟩ := answered_after_reading a (only_bacProperty (heardOn s n x) x.tenant o p)
      rw [hexec (.readProperty o p) rfl, ha]
      exact ⟨_, rfl, by rw [hsent]; rfl, honly⟩
    case readMany =>
      intro l
      obtain ⟨hsent, honly⟩ := answered_after_reading _ (only_bacMany x.tenant l (heardOn s n x))
      rw [hexec (.readPropertyMultiple l) rfl, bacServe_readMany]
      exact ⟨_, rfl, by rw [hsent]; rfl, by rw [hsent]; rfl, honly⟩
    case subscribe =>
      intro o hobj hnew hroom
      rw [hexec (.subscribeCOV o false) rfl, bacServe, bacSubscribe_new (s := heardOn s n x) hobj hnew hroom]
      rfl
    case full =>
      intro o hobj hnew hfull
      rw [hexec (.subscribeCOV o false) rfl, bacServe, bacSubscribe_full (s := heardOn s n x) hobj hnew hfull]
      rfl
    case cancel =>
      intro o hobj
      obtain ⟨hgone, hothers⟩ := bacSubscribed_cancelled (s := s) (t := bacServe (heardOn s n x) n x (.subscribeCOV o true))
        (n := n) (o := o) (by rw [bacServe, bacSubscribe_cancels (s := heardOn s n x) hobj]; rfl)
      refine ⟨_, hexec (.subscribeCOV o true) rfl, hgone, hothers, ?_, ?_⟩
      · rw [bacServe, bacSubscribe_cancels (s := heardOn s n x) hobj]
        rfl
      · rw [bacServe, bacSubscribe_cancels (s := heardOn s n x) hobj]
        exact Only.trans (only_mail s _) (Only.trans (only_mail _ _) (only_mail _ _))
    case denied =>
      intro o p pr v y hy hwhy
      rw [hexec (.writeProperty o p pr v) rfl, bacServe, bacWrite_denied (s := heardOn s n x) hy hwhy]
      rfl
    case notify =>
      intro o c y hcov hsession hobject hlast hy hsound hrun hdrain hepoch hright hfits hforce
      have hreadable : Readable s x.tenant y := ⟨hsound, ⟨by decide, hrun, hdrain, hepoch⟩, hright, hfits, hforce⟩
      obtain ⟨w, v, f, honly, hdue⟩ := bacCovDue_first hcov hsession hobject hlast hy hreadable
      have hmail : w.mail = s.mail := honly .mail (by decide)
      refine ⟨_, v, f, (exec_covDue o hconn).trans (congrArg Host.Outcome.next hdue), ?_, rfl, ?_⟩
      · rw [← hmail]
        rfl
      · exact Only.mono (Only.seq honly (Only.seq (only_mail w _) (only_mail _ _))) (by decide)
    case unsubscribed =>
      intro o hnone
      rw [exec_covDue o hconn, bacCovDue, hnone]
      rfl
  case devices =>
    intro s n hready
    refine ⟨fun t p f => exec_bacAsk hready, ?connect, ?connected, ?map, ?mapFull⟩
    case connect =>
      intro t b hmay
      refine ⟨_, hubSession s t, exec_bacConnect hready, ?_⟩
      rw [if_pos hmay]
      have hget : tabGet (s.setSession n (hubSession s t)).mail.sessions n = some (hubSession s t) := tabGet_set_same n _ _
      refine ⟨hget, rfl, rfl, rfl, ?_, only_mail s _⟩
      rw [routeBind, hget]
      rfl
    case connected =>
      intro t b hconnected
      rw [exec_bacConnect hready, bacMayConnect_of_connected hconnected]
      rfl
    case map =>
      intro t o ty pt v hhubs hfits hmodule hdevice
      have hroom : ¬((bacObj s t o).isNone ∧ (bacPerModule ≤ s.mail.bacObjects.length ∨
          bacPerDevice ≤ (s.mail.bacObjects.filter fun p => p.2.tenant == t).length)) :=
        fun h => h.2.elim (Nat.not_le.mpr hmodule) (Nat.not_le.mpr hdevice)
      refine ⟨_, exec_bacMap hready hhubs hfits, ?_⟩
      rw [if_neg hroom]
      exact ⟨bacObj_putBac s o (mappedObject t ty pt v), rfl, Only.trans (only_mail s _) (only_mail _ _)⟩
    case mapFull =>
      intro t o ty pt v hhubs hfits hnone hfull
      rw [exec_bacMap hready hhubs hfits, if_pos ⟨Option.isNone_iff_eq_none.mpr hnone, hfull⟩]
      rfl

end Sys2Proof.Certificates
end

section
/-! SUPPORT. What a response touches (04 R122, R125, R134, R141). -/

namespace Sys2Proof.Machine

open Sys2Proof.Safety

/-- The parts that a message to a route may touch: a session whose last record it is closes (04 R141). -/
abbrev routeParts : List StatePart := [.regs, .fabric, .mail, .vault, .update, .chk]

theorem only_setBox (s : State) (m : Nat) (x : Mailbox) : Only routeParts s (s.setBox m x) :=
  Only.mono (only_mail s _) (by decide)

theorem only_setSession (s : State) (n : Nat) (x : Session) : Only routeParts s (s.setSession n x) :=
  Only.mono (only_mail s _) (by decide)

theorem only_keep (s : State) (r : Route) (k : Kept) : Only routeParts s (keep s r k) := by
  cases r with
  | mailbox m => exact only_setBox s m _
  | session n =>
    unfold keep
    dsimp only
    split
    · exact only_setSession s n _
    · exact Only.refl _ s

theorem only_closeSession (s : State) (n : Nat) : Only routeParts s (closeSession s n) := by
  cases hx : tabGet s.mail.sessions n with
  | none =>
    rw [closeSession, hx]
    exact Only.refl _ s
  | some x => exact (sessionClosed_closeSession hx).only

theorem only_sessionSend (s : State) (n : Nat) (p : List Byte) : Only routeParts s (sessionSend s n p) := by
  unfold sessionSend
  split
  · exact Only.refl _ s
  · dsimp only
    have hsent (m : Mail) (x : Session) : Only routeParts s (({ s with mail := m } : State).setSession n x) :=
      Only.trans (Only.mono (only_mail s m) (by decide)) (only_setSession _ n x)
    split
    · exact Only.trans (hsent _ _) (only_closeSession _ n)
    · exact hsent _ _

theorem only_putMessage (s : State) (r : Route) (final : Bool) (p : List Byte) :
    Only routeParts s (putMessage s r final p) := by
  have hunit : Only routeParts s (s.chkUnit 1 (p.length - 8) (BitVec.ofNat 32 (fld p 24 4)) true) :=
    Only.mono (only_chkUnit s 1 _ _ true) (by decide)
  refine Only.trans hunit ?_
  cases r with
  | mailbox m =>
    exact Only.trans (Only.mono (only_mail _ _) (by decide))
      (Only.trans (only_setBox _ m _) (Only.mono (only_raise _ rMbRespReady m) (by decide)))
  | session n => exact only_sessionSend _ n p

/-- A response touches what a message to its route touches. -/
theorem only_respond (s : State) (q : Req) (st : Nat) (p : List Byte) : Only routeParts s (respond s q st p) := by
  unfold respond
  split
  · exact Only.refl _ s
  · dsimp only
    have hmail (m : Mail) : Only routeParts s { s with mail := m } := Only.mono (only_mail s m) (by decide)
    split
    · exact Only.trans (hmail _) (only_putMessage _ q.route _ _)
    · exact Only.trans (hmail _) (Only.trans (only_keep _ q.route _) (only_putMessage _ q.route _ _))

end Sys2Proof.Machine
end

section
/-! SUPPORT. Commands without a payload that read status (05 Table 5.1). -/

namespace Sys2Proof.Machine

open Sys2Proof.Safety

/-- A command without a payload that reads status from an island answers OK with what it reads there. -/
theorem serve_statusRead {s : State} {r : Route} {tag code i : Nat} {q : Req} {c : Cmd} {f : State → List Byte}
    (hserved : Served s r tag code q) (hc : cmdOf code = some c) (hpayload : q.payload = []) (hopen : Open s i) :
    serve code s r tag (fun q s => if q.payload.length ≠ 0 then done stBadLength s
      else toIsland s i fun s => ((stOk, f s), s)) = respond (crossed s i) q stOk (f (crossed s i)) := by
  refine serve_answers hserved hc ?_
  rw [hpayload, if_neg (by simp)]
  exact toIsland_ok hopen rfl

theorem exec_systemInfo {s : State} {r : Route} {tag : Nat} {q : Req} (hserved : Served s r tag 0x0101 q)
    (hpayload : q.payload = []) :
    Answers (.systemInfo r tag) s q s (systemBytes s ++ leBytes 8 s.now ++ leBytes 4 0) := by
  refine congrArg Host.Outcome.next (serve_answers hserved rfl ?_)
  rw [if_neg (not_not_intro hpayload)]

theorem exec_recorderStatus {s : State} {r : Route} {tag : Nat} {q : Req} (hserved : Served s r tag 0x0605 q)
    (hpayload : q.payload = []) (hopen : Open s iPF) :
    Answers (.recorderStatus r tag) s q (crossed s iPF)
      (leBytes 4 (s.harvest.series.filter fun p => p.2.tenant == routeTenant s q.route).length ++ leBytes 4 (hvUsed s) ++
        leBytes 1 (b2n (hvFull s)) ++ leBytes 3 0) := by
  refine congrArg Host.Outcome.next (serve_answers hserved rfl ?_)
  rw [if_neg (not_not_intro hpayload)]
  exact toIsland_ok hopen rfl

end Sys2Proof.Machine
end

section
/-! SETTLED. Commands that read status. -/

namespace Sys2Proof.Certificates

open Sys2Proof.Machine Sys2Proof.Safety

/-- Settles O1: each command is a read in the island it asks, and what it reads is not what the crossing records. -/
theorem statusReadsAnswer : Obligations.StatusReadsAnswer := by
  unfold Obligations.StatusReadsAnswer
  intro s r tag q hpayload
  refine ⟨?_, ?_, ?_, ?_, ?_, ?_, ?_, ?_⟩
  · exact fun hserved => exec_systemInfo hserved hpayload
  · exact fun hserved hopen => congrArg Host.Outcome.next (serve_statusRead hserved rfl hpayload hopen)
  · exact fun hserved hopen => congrArg Host.Outcome.next (serve_statusRead hserved rfl hpayload hopen)
  · intro hserved hopen
    have hread := serve_statusRead hserved rfl hpayload hopen
      (f := fun t => if t.twin.role == .active then padTo 256 t.twin.partnerHealth else healthReport t)
    refine congrArg Host.Outcome.next (hread.trans ?_)
    simp only [beq_iff_eq]
    rfl
  · exact fun hserved hopen => congrArg Host.Outcome.next (serve_statusRead hserved rfl hpayload hopen)
  · exact fun hserved hopen => congrArg Host.Outcome.next (serve_statusRead hserved rfl hpayload hopen)
  · exact fun hserved hopen => congrArg Host.Outcome.next (serve_statusRead hserved rfl hpayload hopen)
  · exact fun hserved hopen => exec_recorderStatus hserved hpayload hopen

end Sys2Proof.Certificates
end

section
/-! SUPPORT. Commands marked S on a standby (05 R155). -/

namespace Sys2Proof.Machine

open Sys2Proof.Safety

/-- On a standby a command marked S is answered NOT_ACTIVE, whatever it carries (05 R155). -/
theorem serve_standby {s : State} {r : Route} {tag code : Nat} {q : Req} {c : Cmd} (f : Req → State → Ans)
    (hready : stewardReady s = true) (hq : findReq s code r tag = some q) (hrole : s.twin.role = .standby)
    (hc : cmdOf code = some c) (hs : c.s = true) : serve code s r tag f = respond s q stNotActive [] := by
  have hstandby : onStandby s = true := by rw [onStandby, hrole]; rfl
  simp [serve, hready, hq, hc, hs, hstandby, done]

/-- PROGRAM_EXCHANGE is refused on a standby, and an exchange under way goes on. -/
theorem exec_programExchange_standby {s : State} {r : Route} {tag : Nat} {q : Req} (hready : stewardReady s = true)
    (hq : findReq s 0x0303 r tag = some q) (hrole : s.twin.role = .standby) :
    Refuses (.programExchange r tag) s q s stNotActive := by
  have hthyme : (respond s q stNotActive []).thyme = s.thyme := only_respond s q stNotActive [] .thyme (by decide)
  have hstarts : ¬((!s.thyme.exchange.isSome) = true ∧ s.thyme.exchange.isSome = true ∧
      (!exchangeWaits (respond s q stNotActive [])) = true) := by
    rintro ⟨hwas, his, -⟩
    simp [his] at hwas
  change execProgramExchange r tag s = _
  simp only [execProgramExchange, serve_standby _ hready hq hrole rfl rfl, hthyme]
  rw [if_neg hstarts]

/-- PROGRAM_UNLOAD is refused on a standby; where none is under way, none is completed. -/
theorem exec_programUnload_standby {s : State} {r : Route} {tag : Nat} {q : Req} (hready : stewardReady s = true)
    (hq : findReq s 0x0305 r tag = some q) (hrole : s.twin.role = .standby) (hunloading : s.thyme.unloading = false) :
    Refuses (.programUnload r tag) s q s stNotActive := by
  have hthyme : (respond s q stNotActive []).thyme = s.thyme := only_respond s q stNotActive [] .thyme (by decide)
  change execProgramUnload r tag s = _
  simp [execProgramUnload, serve_standby _ hready hq hrole rfl rfl, hthyme, hunloading]

end Sys2Proof.Machine
end

section
/-! SETTLED. Commands marked S on a standby. -/

namespace Sys2Proof.Certificates

open Sys2Proof.Machine Sys2Proof.Safety

/-- Settles O27: every row but two is the wrapper of Steward's commands alone; PROGRAM_EXCHANGE and PROGRAM_UNLOAD have
more to do only where an exchange starts or an unload is under way. The rows stand in the order of Table 5.1. -/
theorem standbyRefusesMarked : Obligations.StandbyRefusesMarked := by
  unfold Obligations.StandbyRefusesMarked
  intro s r tag q
  have marked {code : Nat} {f : Req → State → Ans} (c : Cmd) (hc : cmdOf code = some c) (hs : c.s = true) :
      stewardReady s = true → findReq s code r tag = some q → s.twin.role = .standby →
      (∀ x ∈ s.mail.inProgress, x.pended = false) → s.thyme.unloading = false →
      (Host.Outcome.next (serve code s r tag f) : Host.Outcome State Fault Refusal) = .next (respond s q stNotActive []) :=
    fun hready hq hrole _ _ => congrArg Host.Outcome.next (serve_standby f hready hq hrole hc hs)
  simp only [List.forall_mem_cons]
  and_intros
  iterate 13 exact marked _ rfl rfl
  · exact fun hready hq hrole _ _ => exec_programExchange_standby hready hq hrole
  · exact marked _ rfl rfl
  · exact fun hready hq hrole _ hunloading => exec_programUnload_standby hready hq hrole hunloading
  iterate 23 exact marked _ rfl rfl
  · exact nofun

end Sys2Proof.Certificates
end

section
/-! SUPPORT. Requests with an unassigned command code (04 R121, R127, Table 4.3; 05 R153). -/

namespace Sys2Proof.Machine

open Sys2Proof.Safety

/-- What leaves a route touches no request but to end it with its session (04 R144). -/
theorem inProgress_closeSession (s : State) (n : Nat) :
    ∀ x ∈ (closeSession s n).mail.inProgress, x ∈ s.mail.inProgress := by
  intro x hx
  cases hn : tabGet s.mail.sessions n with
  | none => rwa [closeSession, hn] at hx
  | some y =>
    rw [(sessionClosed_closeSession hn).inProgress] at hx
    exact (List.mem_filter.mp hx).1

theorem inProgress_sessionSend (s : State) (n : Nat) (p : List Byte) :
    ∀ x ∈ (sessionSend s n p).mail.inProgress, x ∈ s.mail.inProgress := by
  intro x hx
  unfold sessionSend at hx
  split at hx
  · exact hx
  · dsimp only at hx
    split at hx
    · have hleft := inProgress_closeSession _ n x hx
      exact hleft
    · exact hx

/-- A message to a route lets no request in. -/
theorem inProgress_putMessage (s : State) (r : Route) (final : Bool) (p : List Byte) :
    ∀ x ∈ (putMessage s r final p).mail.inProgress, x ∈ s.mail.inProgress := by
  intro x hx
  cases r with
  | mailbox m => simpa [putMessage, State.setBox] using hx
  | session n => simpa using inProgress_sessionSend _ n p x hx

/-- The codes of Table 5.1 in its order. -/
theorem cmdOf_isSome {code : Nat} : (cmdOf code).isSome = true ↔ code ∈ (cmdsLow ++ cmdsHigh).map Cmd.code := by
  simp [cmdOf, List.find?_isSome]

/-- Steward as it judges the header of a request whose CHECK matched: the unit of check channel 0 is counted, and the
route's transfers that the request does not continue are abandoned (04 R121, R127). -/
def checkedRequest (s : State) (r : Route) (p payload : List Byte) : State :=
  abandonWhere (s.chkUnit 0 (24 + payload.length) (crcIscsi (p.take 24 ++ payload)) true) r fun t =>
    t.command != fld p 0 2 || t.tag != fld p 20 4

theorem inProgress_checkedRequest (s : State) (r : Route) (p payload : List Byte) :
    (checkedRequest s r p payload).mail.inProgress = s.mail.inProgress :=
  (workEnded_foldl abandonTransfer workEnded_abandonTransfer _ _).inProgress.trans (by rw [chkUnit_mail])

theorem keptOf_of_mail {s t : State} (h : t.mail = s.mail) (r : Route) : keptOf t r = keptOf s r := by
  cases r with
  | mailbox m => simp only [keptOf, State.box, h]
  | session n => simp only [keptOf, h]

theorem headerStatus_unassigned (s : State) (r : Route) {p : List Byte} (payload : List Byte) (h : cmdOf (fld p 0 2) = none) :
    headerStatus s r p payload = stBadCommand := by
  simp only [headerStatus, h]

/-- Step 3 of Table 4.3: a request that passes steps 1 and 2, and that the route neither kept a response for nor has in
progress, is refused for its code, and no request is let in. -/
theorem letIn_unassigned {s : State} {r : Route} {p payload : List Byte} {carried : Option Nat}
    (hlength : fld p 16 4 = payload.length) (hfits : payload.length ≤ 4064)
    (hcarried : carried = none ∨ carried = some payload.length)
    (hcheck : (crcIscsi (p.take 24 ++ payload)).toNat = fld p 24 4)
    (hkept : (keptOf s r).find? (·.seq == fld p 2 2) = none)
    (hnew : (s.mail.inProgress.any fun x =>
      x.route == r && x.seq == fld p 2 2 && x.command == fld p 0 2 && x.tag == fld p 20 4) = false)
    (hcode : cmdOf (fld p 0 2) = none) {q : Req}
    (hq : q = { route := r, command := fld p 0 2, seq := fld p 2 2, tag := fld p 20 4, session := fld p 8 4
                more := bitOf (fld p 6 2) 1, payload := payload, pended := false }) :
    letIn s r p payload carried = putMessage (checkedRequest s r p payload) r true
      (responseOf (checkedRequest s r p payload) q stBadCommand []) ∧
      ∀ x ∈ (letIn s r p payload carried).mail.inProgress, x ∈ s.mail.inProgress := by
  have hlen : ¬(4064 < fld p 16 4 ∨ carried.isSome = true ∧ carried ≠ some (fld p 16 4)) := by
    rw [hlength]
    rcases hcarried with rfl | rfl <;> simp <;> omega
  have hgood : ((crcIscsi (p.take 24 ++ payload)).toNat == fld p 24 4) = true := beq_iff_eq.mpr hcheck
  have hkept' (t : State) (ht : t.mail = s.mail) : (keptOf t r).find? (·.seq == fld p 2 2) = none := by
    rw [keptOf_of_mail ht, hkept]
  have hlet : letIn s r p payload carried = putMessage (checkedRequest s r p payload) r true
      (responseOf (checkedRequest s r p payload) q stBadCommand []) := by
    unfold letIn
    dsimp only
    rw [if_neg hlen, hgood, hkept' _ (chkUnit_mail ..), chkUnit_mail, hnew, headerStatus_unassigned _ r payload hcode, hlength,
      hq]
    rfl
  refine ⟨hlet, fun x hx => ?_⟩
  rw [hlet] at hx
  have hleft := inProgress_putMessage _ r true _ x hx
  rwa [inProgress_checkedRequest] at hleft

/-- Without an open transfer nothing is abandoned. -/
theorem abandonWhere_of_no_transfer {s : State} (r : Route) (f : Transfer → Bool) (h : s.mail.transfers = []) :
    abandonWhere s r f = s := by
  simp [abandonWhere, h]

end Sys2Proof.Machine
end

section
/-! SETTLED. Requests with an unassigned command code. -/

namespace Sys2Proof.Certificates

open Sys2Proof.Machine Sys2Proof.Safety

/-- The header of a request with the unassigned code 0xFFFF, without a payload. -/
def unassignedHeader : List Byte := message 0xFFFF 1 0 0 0 0 7 []

/-- Refutes O26: what it means to conclude stands, in its formula, inside the function that selects the transfers to
abandon, so what it states of every state `a` is that `a` is the one Steward has as it judges the header. With no transfer
open that is one state, whatever the function. The request below fulfils the premises in the state after a module reset,
and a state in which a command waits is not that one. With the function closed before the conclusion both hold
(`cmdOf_isSome`, `letIn_unassigned`). -/
theorem not_unassignedCommand : ¬ Obligations.UnassignedCommand := by
  unfold Obligations.UnassignedCommand
  rintro ⟨-, hall⟩
  have hcheck : (crcIscsi (unassignedHeader.take 24 ++ [])).toNat = fld unassignedHeader 24 4 := by decide +kernel
  have hone (a : State) : a = State.reset.chkUnit 0 24 (crcIscsi (unassignedHeader.take 24 ++ [])) true :=
    (hall State.reset a (.mailbox 0) unassignedHeader [] none _ (by decide) (by decide) (by decide) (.inl rfl) hcheck (by decide)
      (by decide) (by decide) rfl).trans (abandonWhere_of_no_transfer _ _ (by rw [chkUnit_mail]; rfl))
  have hqueue := congrArg State.pending (hone { State.reset with pending := [.spiIdent] })
  rw [chkUnit_pending] at hqueue
  exact absurd hqueue (by decide)

end Sys2Proof.Certificates
end

section
/-! SUPPORT. What an active module has to ship (16 R451; log 66), and what a response leaves of it. -/

namespace Sys2Proof.Machine

/-- An active module whose partner is in STANDBY queues what it ships behind a body that waits (log 66). -/
theorem ship_behind {s : State} {records : List (List Byte)} (hrole : s.twin.role = .active) (hpartner : s.twin.partner = 2)
    (hrecords : records ≠ []) (hwaits : s.twin.ship ≠ []) :
    (ship s records).twin.ship = s.twin.ship ++ [records.flatten] := by
  simp [ship, hrole, hpartner, hrecords, hwaits]

theorem twin_respond (s : State) (q : Req) (st : Nat) (p : List Byte) : (respond s q st p).twin = s.twin :=
  only_respond s q st p .twin (by decide)

end Sys2Proof.Machine
end

section
/-! SETTLED. Commands that carry lists. -/

namespace Sys2Proof.Certificates

open Sys2Proof.Machine Sys2Proof.Safety

/-- A LOOP_ENABLE in mailbox 0 that asks for loop 3 alone. -/
def loopEnableRequest : Req :=
  { route := .mailbox 0, command := 0x0402, seq := 1, tag := 7, session := 0, more := false
    payload := leBytes 2 3 ++ leBytes 2 1 ++ leBytes 4 1, pended := false }

/-- An active module whose partner is in STANDBY: loop 3 is not defined, and one body waits to be shipped. -/
def activeWithoutLoops : State :=
  { State.reset with
    islands := [(iSAGE, { state := .run }), (iLOOP, { state := .run })]
    mail := { State.reset.mail with ready := true, inProgress := [loopEnableRequest] }
    twin := { State.reset.twin with role := .active, partner := 2, ship := [[]] } }

/-- Refutes O2: its clause on LOOP_ENABLE has the module ship the request's payload whatever becomes of the entries. What is
shipped is the accepted entries, loop by loop (`shipEnables`): where none is accepted an active module ships nothing, and
the bodies that wait to be shipped are as they were. -/
theorem not_listCommandsAnswer : ¬ Obligations.ListCommandsAnswer := by
  unfold Obligations.ListCommandsAnswer
  intro hall
  have hserved : Served activeWithoutLoops (.mailbox 0) 7 0x0402 loopEnableRequest := by decide
  obtain ⟨-, -, -, -, -, -, -, -, -, henable, -⟩ := hall activeWithoutLoops (.mailbox 0) 7 loopEnableRequest 1
  obtain ⟨w, p, hw, -, honly⟩ := henable hserved (by decide) (by decide) (by decide) (by decide) (by decide) (by decide)
    (by decide)
  have htwin : w.twin = activeWithoutLoops.twin := honly .twin (by decide)
  have hshipped : (shipConfig w 0x0402 loopEnableRequest.payload).twin.ship.length = 2 := by
    rw [shipConfig, ship_behind (by rw [htwin]; rfl) (by rw [htwin]; rfl) (by simp) (by rw [htwin]; decide), htwin]
    rfl
  have hkept : (match execLoopEnable (.mailbox 0) 7 activeWithoutLoops with
      | .next t => t.twin.ship.length
      | _ => 2) = 1 := by decide +kernel
  have hresponds : execLoopEnable (.mailbox 0) 7 activeWithoutLoops =
      .next (respond (shipConfig w 0x0402 loopEnableRequest.payload) loopEnableRequest stOk p) := hw
  rw [hresponds] at hkept
  simp only [twin_respond, hshipped] at hkept
  exact absurd hkept (by decide)

end Sys2Proof.Certificates
end

section
/-! SUPPORT. The system commands (05 R154): bindings of mailboxes that begin and end (04 R136, R138, R158), the settings of
an interface, and the reset that stays due while control is given up (16 R436 to R438). -/

namespace Sys2Proof.Machine

open Sys2Proof.Safety

/-! ### Bindings of mailboxes -/

/-- Every mailbox keeps its binding. -/
def SameBinds (s t : State) : Prop := ∀ k, (t.box k).bind = (s.box k).bind

theorem SameBinds.refl (s : State) : SameBinds s s := fun _ => rfl

theorem SameBinds.trans {s t u : State} (h : SameBinds s t) (k : SameBinds t u) : SameBinds s u :=
  fun m => (k m).trans (h m)

theorem sameBinds_foldl {α : Type} (f : State → α → State) (h : ∀ s a, SameBinds s (f s a)) :
    ∀ (l : List α) (s : State), SameBinds s (l.foldl f s)
  | [], s => SameBinds.refl s
  | a :: l, s => (h s a).trans (sameBinds_foldl f h l (f s a))

theorem sameBinds_of_boxes {s t : State} (h : t.mail.boxes = s.mail.boxes) : SameBinds s t :=
  fun k => by rw [State.box, h, State.box]

theorem sameBinds_of_only {ps : List StatePart} {s t : State} (h : Only ps s t) (hmail : StatePart.mail ∉ ps) :
    SameBinds s t :=
  sameBinds_of_boxes (congrArg Mail.boxes (h .mail hmail))

theorem box_setBox_same (s : State) (m : Nat) (x : Mailbox) : (s.setBox m x).box m = x := by
  simp [State.box, State.setBox, tabGetD]

theorem box_setBox_other (s : State) {m k : Nat} (x : Mailbox) (h : k ≠ m) : (s.setBox m x).box k = s.box k := by
  simp [State.box, State.setBox, tabGetD, tabGet_set_other x h]

theorem sameBinds_setBox {s : State} {m : Nat} {x : Mailbox} (h : x.bind = (s.box m).bind) : SameBinds s (s.setBox m x) := by
  intro k
  by_cases hk : k = m
  · rw [hk, box_setBox_same, h]
  · rw [box_setBox_other s x hk]

theorem sameBinds_abandonTransfer (s : State) (t : Transfer) : SameBinds s (abandonTransfer s t) := by
  unfold abandonTransfer
  dsimp only
  split
  · exact sameBinds_of_boxes rfl
  · exact sameBinds_of_boxes rfl

theorem sameBinds_releaseHeld (s : State) (pt writer : Nat) : SameBinds s (releaseHeld s pt writer) := by
  unfold releaseHeld
  split
  · exact sameBinds_of_only (only_editPoint (f := releasePoint) (fun t k => only_putPoint t k _) s pt) (by decide)
  · exact SameBinds.refl s

/-- What a route had under way ends, and no binding with it. -/
theorem sameBinds_routeEnds (s : State) (r : Route) :
    SameBinds s (dropClaims (abandonWhere s r fun _ => true) (routeWriter r)) :=
  (sameBinds_foldl _ sameBinds_abandonTransfer _ s).trans (sameBinds_foldl _ (fun t pt => sameBinds_releaseHeld t pt _) _ _)

theorem sameBinds_closeSession (s : State) (n : Nat) : SameBinds s (closeSession s n) := by
  unfold closeSession
  split
  · exact SameBinds.refl s
  · exact (sameBinds_routeEnds s (.session n)).trans (sameBinds_of_boxes rfl)

theorem sameBinds_sessionSend (s : State) (n : Nat) (p : List Byte) : SameBinds s (sessionSend s n p) := by
  unfold sessionSend
  split
  · exact SameBinds.refl s
  · dsimp only
    split
    · exact SameBinds.trans (sameBinds_of_boxes rfl) (sameBinds_closeSession _ n)
    · exact sameBinds_of_boxes rfl

theorem sameBinds_putMessage (s : State) (r : Route) (final : Bool) (p : List Byte) :
    SameBinds s (putMessage s r final p) := by
  have hunit := sameBinds_of_only (only_chkUnit s 1 (p.length - 8) (BitVec.ofNat 32 (fld p 24 4)) true) (by decide)
  refine hunit.trans ?_
  cases r with
  | mailbox m =>
    have hbox (t : State) (buf : Mem) (st : MbState) : SameBinds t
        (({ t with mail := { t.mail with buf := buf } } : State).setBox m { t.box m with state := st }) :=
      SameBinds.trans (sameBinds_of_boxes rfl) (sameBinds_setBox rfl)
    exact (hbox _ _ _).trans (sameBinds_of_only (only_raise _ rMbRespReady m) (by decide))
  | session n => exact sameBinds_sessionSend _ n p

theorem sameBinds_keep (s : State) (r : Route) (k : Kept) : SameBinds s (keep s r k) := by
  cases r with
  | mailbox m => exact sameBinds_setBox rfl
  | session n =>
    unfold keep
    dsimp only
    split
    · exact sameBinds_of_boxes rfl
    · exact SameBinds.refl s

theorem sameBinds_respond (s : State) (q : Req) (st : Nat) (p : List Byte) : SameBinds s (respond s q st p) := by
  unfold respond
  split
  · exact SameBinds.refl s
  · dsimp only
    have hmail (l : List Req) : SameBinds s { s with mail := { s.mail with inProgress := l } } := sameBinds_of_boxes rfl
    split
    · exact (hmail _).trans (sameBinds_putMessage _ q.route _ _)
    · exact (hmail _).trans ((sameBinds_keep _ q.route _).trans (sameBinds_putMessage _ q.route _ _))

/-! ### Binding and unbinding (R136, R138) -/

/-- A mailbox has a binding, or none, and every other keeps its own; nothing but the mailboxes and what a route holds is
touched. -/
structure Rebound (s t : State) (m : Nat) (b : Option Bind) : Prop where
  bind : (t.box m).bind = b
  others : ∀ k, k ≠ m → (t.box k).bind = (s.box k).bind
  only : Only routeParts s t

theorem Rebound.after {s t u : State} {m : Nat} {b : Option Bind} (h : SameBinds s t) (honly : Only routeParts s t)
    (k : Rebound t u m b) : Rebound s u m b :=
  ⟨k.bind, fun n hn => (k.others n hn).trans (h n), Only.trans honly k.only⟩

theorem Rebound.before {s t u : State} {m : Nat} {b : Option Bind} (h : Rebound s t m b) (k : SameBinds t u)
    (honly : Only routeParts t u) : Rebound s u m b :=
  ⟨(k m).trans h.bind, fun n hn => (k n).trans (h.others n hn), Only.trans h.only honly⟩

theorem rebound_setBox (s : State) (m : Nat) (b : Option Bind) :
    Rebound s (s.setBox m { s.box m with bind := b }) m b :=
  ⟨by rw [box_setBox_same], fun k hk => by rw [box_setBox_other s _ hk], only_setBox s m _⟩

theorem only_routeEnds (s : State) (r : Route) :
    Only routeParts s (dropClaims (abandonWhere s r fun _ => true) (routeWriter r)) :=
  Only.mono ((workEnded_foldl abandonTransfer workEnded_abandonTransfer _ s).trans
    (workEnded_foldl _ (fun t pt => workEnded_releaseHeld t pt _) _ _)).only (by decide)

theorem rebound_unbindBox (s : State) (m : Nat) : Rebound s (unbindBox s m) m none := by
  have hended := only_routeEnds s (.mailbox m)
  have hbinds := sameBinds_routeEnds s (.mailbox m)
  unfold unbindBox
  dsimp only
  generalize dropClaims (abandonWhere s (.mailbox m) fun _ => true) (routeWriter (.mailbox m)) = w at hended hbinds ⊢
  refine Rebound.before (Rebound.after hbinds hended (Rebound.before (rebound_setBox w m none) ?_ ?_))
    (sameBinds_foldl _ (fun t q => sameBinds_respond t q _ _) _ _) (only_foldl _ (fun t q => only_respond t q _ _) _ _)
  · exact sameBinds_of_only (only_vault _ _) (by decide)
  · exact Only.mono (only_vault _ _) (by decide)

theorem rebound_bindBox (s : State) (m : Nat) (b : Bind) : Rebound s (bindBox s m b) m (some b) := by
  unfold bindBox
  dsimp only
  split
  · have hfree := rebound_unbindBox s m
    have hbound := rebound_setBox (unbindBox s m) m (some b)
    exact ⟨hbound.bind, fun k hk => (hbound.others k hk).trans (hfree.others k hk), Only.trans hfree.only hbound.only⟩
  · exact rebound_setBox s m (some b)

/-- The request that rebinds a mailbox is set aside while what waits on the mailbox is ended. -/
theorem Rebound.aside {s : State} {q : Req} {m : Nat} {b : Option Bind} {f : State → State}
    (h : Rebound (takeOut s q) (f (takeOut s q)) m b) : Rebound s (putBack (f (takeOut s q)) q) m b := by
  have hout : Only routeParts s (takeOut s q) := Only.mono (only_mail s _) (by decide)
  have hback (t : State) : Only routeParts t (putBack t q) := Only.mono (only_mail t _) (by decide)
  have hkept : SameBinds s (takeOut s q) := sameBinds_of_boxes rfl
  exact Rebound.before (Rebound.after hkept hout h) (sameBinds_of_boxes rfl) (hback _)

/-! ### MAILBOX_BIND and NET_CONFIG -/

/-- The payload of a MAILBOX_BIND without an authorisation. -/
def bindPayload (m ro tenant : Nat) : List Byte := leBytes 1 m ++ leBytes 1 ro ++ leBytes 2 tenant ++ leBytes 2 0 ++ leBytes 2 0

theorem exec_mailboxBind_house {s : State} {r : Route} {tag m ro : Nat} {q : Req} (hserved : Served s r tag 0x0102 q)
    (hpayload : q.payload = bindPayload m ro 0) (h1 : 1 ≤ m) (hm : m ≤ 15) (hro : ro ≤ 3) :
    Answers (.mailboxBind r tag) s q (putBack (bindBox (takeOut s q) m { tenant := 0, role := ro }) q) [] := by
  refine congrArg Host.Outcome.next (serve_answers hserved rfl ?_)
  have hm' : m % 256 = m := by omega
  have hro' : ro % 256 = ro := by omega
  have hfields : ¬(m = 0 ∨ 15 < m ∨ 3 < ro) := by omega
  simp [hpayload, bindPayload, hm', hro', hfields, done]

theorem exec_mailboxBind_none {s : State} {r : Route} {tag m ro : Nat} {q : Req} (hserved : Served s r tag 0x0102 q)
    (hpayload : q.payload = bindPayload m ro 0xFFF) (h1 : 1 ≤ m) (hm : m ≤ 15) (hro : ro ≤ 3)
    (hhouse : routeTenant s q.route = house) :
    Answers (.mailboxBind r tag) s q (if (s.box m).bind = none then s else putBack (unbindBox (takeOut s q) m) q) [] := by
  refine congrArg Host.Outcome.next (serve_answers hserved rfl ?_)
  have hm' : m % 256 = m := by omega
  have hro' : ro % 256 = ro := by omega
  have hfields : ¬(m = 0 ∨ 15 < m ∨ 3 < ro) := by omega
  by_cases hbind : (s.box m).bind = none
  · simp [hpayload, bindPayload, hm', hro', hfields, hhouse, hbind, done]
  · simp [hpayload, bindPayload, hm', hro', hfields, hhouse, hbind, done]

theorem exec_netConfig {s : State} {r : Route} {tag i l : Nat} {a : List Byte} {q : Req} (hserved : Served s r tag 0x0103 q)
    (hpayload : q.payload = leBytes 1 i ++ leBytes 1 l ++ leBytes 2 0 ++ a) (hi : i < 2) (hl : l ≤ 128) (ha : a.length = 32) :
    Answers (.netConfig r tag) s q (shipConfig
      { s with mail := if i = 0 then { s.mail with netHost := q.payload } else { s.mail with netRing := q.payload } }
      0x0103 q.payload) [] := by
  refine congrArg Host.Outcome.next (serve_answers hserved rfl ?_)
  have hinterface : fld q.payload 0 1 = i := by simp [hpayload]; omega
  have hlen : fld q.payload 1 1 = l := by simp [hpayload]; omega
  have hzero : fld q.payload 2 2 = 0 := by simp [hpayload]
  have hlength : q.payload.length = 36 := by simp [hpayload, ha]
  have hfields : ¬((0 : Nat) ≠ 0 ∨ 1 < i ∨ 128 < l) := by omega
  simp only [hlength, hinterface, hlen, hzero, netConfig]
  rw [if_neg (by decide), if_neg hfields]
  rfl

/-! ### What giving up control leaves of the power part (R437) -/

/-- What every step of a fold leaves as it is, the fold leaves as it is. -/
theorem foldl_keeps {α σ β : Type} (g : σ → β) (f : σ → α → σ) (h : ∀ x a, g (f x a) = g x) :
    ∀ (l : List α) (x : σ), g (l.foldl f x) = g x
  | [], _ => rfl
  | a :: l, x => (foldl_keeps g f h l (f x a)).trans (h x a)

@[simp] theorem respond_power (s : State) (q : Req) (st : Nat) (p : List Byte) : (respond s q st p).power = s.power :=
  only_respond s q st p .power (by decide)

@[simp] theorem complete_power (s : State) (code st : Nat) (p : List Byte) : (complete_ s code st p).power = s.power := by
  unfold complete_
  split
  · exact respond_power ..
  · rfl

@[simp] theorem ship_power (s : State) (records : List (List Byte)) : (ship s records).power = s.power :=
  only_ship s records .power (by decide)

@[simp] theorem twinSend_power (s : State) (kind : Nat) (body : List Byte) : (twinSend s kind body).power = s.power :=
  only_twinSend s kind body .power (by decide)

@[simp] theorem releaseOutputs_power (s : State) (os : List (Nat × Nat)) : (releaseOutputs s os).power = s.power := by
  have hrelease (t : State) (pt writer : Nat) : (releaseHeld t pt writer).power = t.power :=
    (workEnded_releaseHeld t pt writer).only .power (by decide)
  exact foldl_keeps State.power _ (fun t o => hrelease t _ _) os s

theorem only_judged (s : State) (pt tenant writer : Nat) (op : FabOp) :
    Only [.regs, .fabric, .chk] s (judged s pt tenant writer op).2 := by
  unfold judged
  split
  · exact Only.refl _ s
  · dsimp only
    split
    · exact only_loadPoint s pt
    · exact Only.trans (only_loadPoint s pt) (Only.mono (only_stick _ rPfDenied rPfEvent 4 1) (by decide))

theorem only_tryClaim (s : State) (tenant writer pt : Nat) : Only [.regs, .fabric, .chk] s (tryClaim s tenant writer pt).2 := by
  have hjudged := only_judged s pt tenant writer .write
  unfold tryClaim
  dsimp only
  split
  · exact hjudged
  split
  · exact hjudged
  split
  · exact hjudged
  · exact Only.trans hjudged (Only.mono (only_putPoint _ pt _) (by decide))

@[simp] theorem claimEach_power (s : State) (os : List (Nat × Nat × Nat)) : (claimEach s os).2.power = s.power := by
  refine foldl_keeps (fun (a : Nat × List (Nat × Nat) × Nat × State) => a.2.2.2.power) _ (fun a o => ?_) os (stOk, [], 0, s)
  have hclaim : (crossStatus a.2.2.2 iSAGE iPF 1 fun s => tryClaim s o.2.1 (taskWriter o.1) o.2.2).2.power = a.2.2.2.power :=
    only_crossing a.2.2.2 iSAGE iPF 1 id id (fun t => only_tryClaim t _ _ _) .power (by decide)
  dsimp only
  split
  · rfl
  split
  · exact hclaim
  · exact (releaseOutputs_power ..).trans hclaim

@[simp] theorem claimOutputs_power (s : State) (p : Program) : (claimOutputs s p).2.power = s.power := claimEach_power ..

@[simp] theorem unloadNow_power (s : State) : (unloadNow s).power = s.power := by
  unfold unloadNow setLast
  dsimp only
  split
  · exact releaseOutputs_power ..
  · rfl

@[simp] theorem startProgram_power (s : State) : (startProgram s).power = s.power := by
  unfold startProgram
  split
  · rfl
  · refine (wakeIsl_power ..).trans ((foldl_keeps State.power _ ?_ _ _).trans rfl)
    exact fun _ _ => rfl

@[simp] theorem putBackOld_power (s : State) (p : Program) (old : Option Loaded) (run : Bool) :
    (putBackOld s p old run).power = s.power := by
  unfold putBackOld installProgram
  dsimp only
  split
  · split
    · simp
    · simp
  · simp

@[simp] theorem replaceNow_power (s : State) (p : Program) : (replaceNow s p).power = s.power := by
  unfold replaceNow
  dsimp only
  split
  · split
    · simp [setLast, installProgram]
    · simp
  · split
    · simp [setLast, installProgram]
    · simp

@[simp] theorem finishExchange_power (s : State) : (finishExchange s).power = s.power := by
  unfold finishExchange
  split
  · simp [setLast]
  · rfl

@[simp] theorem exchanged_power (s : State) (t : Nat) (inNew : Bool) : (exchanged s t inNew).power = s.power := by
  have hlast (u : State) : (if inNew then setLast u (u.thyme.next.map Loaded.prog) else u).power = u.power := by
    split
    · rfl
    · rfl
  unfold exchanged
  split
  · dsimp only
    split
    · exact (finishExchange_power _).trans (hlast _)
    · exact hlast _
  · rfl

@[simp] theorem exchangeTask_power (s : State) (t : Nat) : (exchangeTask s t).power = s.power := by
  unfold exchangeTask
  split
  · split
    · simp
    · simp
  · rfl

@[simp] theorem sweepTask_power (s : State) (t : Nat) : (sweepTask s t).power = s.power := by
  unfold sweepTask
  dsimp only
  split
  · split
    · split
      · split
        · rfl
        · exact exchangeTask_power s t
      split
      · split
        · exact exchanged_power s t true
        · exact exchangeTask_power s t
      · rfl
    · rfl
  · rfl

@[simp] theorem afterCycles_power (s : State) : (afterCycles s).power = s.power := by
  unfold afterCycles
  split
  · simp
  split
  · split
    · rfl
    split
    · split
      · rfl
      · exact replaceNow_power ..
    · exact foldl_keeps State.power _ sweepTask_power _ s
  · rfl

@[simp] theorem countOverruns_power (s : State) (t n : Nat) : (countOverruns s t n).power = s.power := by
  have hcount (u : State) (a k : Nat) : (u.thCount a k).power = u.power := by
    unfold State.thCount
    split
    · rfl
    · exact stick_power ..
  unfold countOverruns
  dsimp only
  split
  · rfl
  split
  · simp [hcount]
  · simp [hcount]

@[simp] theorem stopAll_power (s : State) : (stopAll s).power = s.power := by
  unfold stopAll
  dsimp only
  rw [lower_power]

@[simp] theorem faultTask_power (s : State) (t code : Nat) : (faultTask s t code).power = s.power := by
  have hstops (u : State) : (if u.rbit rThCtrl 1 then stopAll u else u).power = u.power :=
    ite_both State.power (stopAll_power u) rfl
  exact (hstops _).trans ((raise_power ..).trans ((setReg_power ..).trans (setTask_power ..)))

@[simp] theorem completeCycle_power (s : State) (t : Nat) : (completeCycle s t).power = s.power := by
  have hmax (u : State) (a us : Nat) : (if u.reg a < us then u.setReg a us else u).power = u.power :=
    ite_both State.power (setReg_power ..) rfl
  unfold completeCycle
  split
  · rfl
  · refine (afterCycles_power _).trans (ite_both State.power ?_ ?_)
    · simp only [faultTask_power, shipCycle, ship_power, wrapAdd_power, hmax, setReg_power, setTask_power, countOverruns_power]
    · simp only [shipCycle, ship_power, wrapAdd_power, hmax, setReg_power, setTask_power, countOverruns_power]

@[simp] theorem enterShadow_power (s : State) : (enterShadow s).power = s.power := by
  refine (afterCycles_power _).trans ((foldl_keeps State.power _ (fun t o => ?_) _ _).trans rfl)
  split
  · rfl
  · exact completeCycle_power t o.task

@[simp] theorem leaveShadow_power (s : State) : (leaveShadow s).power = s.power := afterCycles_power _

@[simp] theorem busRole_power (s : State) : (busRole s).power = s.power := by
  refine foldl_keeps State.power _ (fun t c => ?_) _ s
  dsimp only
  split
  · rfl
  · rfl
  · rfl

@[simp] theorem enterRole_power (s : State) (role : TwinRole) (cause island : Nat) (cold : Bool) :
    (enterRole s role cause island cold).power = s.power := by
  unfold enterRole
  refine ite_both State.power ?_ (ite_both State.power ((leaveShadow_power _).trans ?_) ((enterShadow_power _).trans ?_))
  all_goals simp only [busRole_power, twEvent_power, setReg_power]

@[simp] theorem leaseLost_power (s : State) (handover : Bool) : (leaseLost s handover).power = s.power :=
  foldl_keeps State.power _ (fun t q => respond_power t q _ _) _ s

@[simp] theorem leaseBurstOut_power (s : State) : (leaseBurstOut s).power = s.power := by
  unfold leaseBurstOut
  split
  · rfl
  · rfl

@[simp] theorem setReady_power (s : State) (ready : Bool) (cause : Nat) : (setReady s ready cause).power = s.power := by
  unfold setReady
  dsimp only
  split
  · rfl
  · rfl

/-! ### SYSTEM_RESET -/

/-- A module that gives up control, or notes that it cannot, keeps the reset that is due (R436, R438). -/
theorem reset_giveUp (s : State) (cause island : Nat) : (giveUp s cause island).power.reset = s.power.reset := by
  unfold giveUp
  dsimp only
  split
  · rfl
  split
  · unfold noteCause
    dsimp only
    split
    · rfl
    · rfl
  · simp

theorem reset_withdraw (s : State) (cause island : Nat) : (withdraw s cause island).power.reset = s.power.reset := by
  unfold withdraw
  dsimp only
  split
  · split
    · simp
    · simp [notReady]
  · rfl

theorem reset_selfCause (s : State) (cause island : Nat) : (selfCause s cause island).power.reset = s.power.reset := by
  unfold selfCause
  split
  · exact reset_giveUp s cause island
  · exact reset_withdraw s cause island

/-- A module on its own has no control to give up and no grant to end. -/
theorem selfCause_single {s : State} (cause island : Nat) (h : s.twin.role = .single) : selfCause s cause island = s := by
  simp [selfCause, withdraw, h]

/-- The reset of SYSTEM_RESET is due: of the module, or of SAGE alone (R154). -/
def resetDue (s : State) (k : Nat) : State :=
  { s with power := { s.power with reset := some { cause := 3, at_ := s.now + 100 * nsMs, sage := k == 1 } } }

theorem exec_systemReset {s : State} {r : Route} {tag k : Nat} {q : Req} (hserved : Served s r tag 0x0104 q)
    (hpayload : q.payload = leBytes 1 k ++ leBytes 3 0) (hk : k < 2) :
    Answers (.systemReset r tag) s q (selfCause (resetDue s k) 7 iSAGE) [] := by
  refine congrArg Host.Outcome.next (serve_answers hserved rfl ?_)
  have hk' : k % 256 = k := by omega
  have hrange : ¬1 < k := by omega
  simp [hpayload, hk', hrange, done, resetDue]

end Sys2Proof.Machine
end

section
/-! SETTLED. The system commands. -/

namespace Sys2Proof.Certificates

open Sys2Proof.Machine Sys2Proof.Safety

/-- Settles O12: the mailbox's binding with what ends at it, the interface's settings, and the reset that stays due
whatever becomes of the role. -/
theorem systemCommandEffect : Obligations.SystemCommandEffect := by
  unfold Obligations.SystemCommandEffect
  intro s r tag q
  refine ⟨?_, ?_, ?_, ?_, ?_⟩
  · intro m ro hserved hpayload h1 hm hro
    obtain ⟨hbind, hothers, honly⟩ := (rebound_bindBox (takeOut s q) m { tenant := 0, role := ro }).aside
      (f := fun t => bindBox t m { tenant := 0, role := ro })
    exact ⟨_, exec_mailboxBind_house hserved hpayload h1 hm hro, hbind, honly, hothers⟩
  · intro m ro hserved hpayload h1 hm hro hhouse
    have hexec := exec_mailboxBind_none hserved hpayload h1 hm hro hhouse
    by_cases hnone : (s.box m).bind = none
    · rw [if_pos hnone] at hexec
      exact ⟨s, hexec, hnone, Only.refl _ s⟩
    · rw [if_neg hnone] at hexec
      obtain ⟨hbind, -, honly⟩ := (rebound_unbindBox (takeOut s q) m).aside (f := fun t => unbindBox t m)
      exact ⟨_, hexec, hbind, honly⟩
  · exact fun i l a hserved hpayload hi hl ha => exec_netConfig hserved hpayload hi hl ha
  · intro k hserved hpayload hk hrole
    have hexec := exec_systemReset hserved hpayload hk
    rwa [selfCause_single (s := resetDue s k) 7 iSAGE hrole] at hexec
  · exact fun k hserved hpayload hk => ⟨_, exec_systemReset hserved hpayload hk, reset_selfCause _ 7 iSAGE⟩

end Sys2Proof.Certificates
end

section
/-! SUPPORT. One instruction of Thyme (06 R171, R181): what its operation answers is what the command leaves. -/

namespace Sys2Proof.Machine

open Sys2Proof.Safety

/-! ### Operands (06 R173, R174) -/

theorem eq_ok_of_toOption {ε α : Type} {e : Except ε α} {a : α} (h : e.toOption = some a) : e = .ok a := by
  cases e with
  | error x => exact absurd h nofun
  | ok b => exact congrArg _ (Option.some.inj h)

theorem eq_error_of_toOption {ε α : Type} {e : Except ε α} {x : ε} (h : e.toOption = none)
    (hx : ∀ y, e = .error y → y = x) : e = .error x := by
  cases e with
  | error y => rw [hx y rfl]
  | ok b => exact absurd h nofun

/-- An operand or an address fails by its index alone. -/
def IndexOnly {α : Type} (e : Except Nat α) : Prop := ∀ y, e = .error y → y = tfIndex

theorem indexOnly_ite {p : Prop} [Decidable p] {a : Nat} : IndexOnly (if p then .ok a else .error tfIndex) := by
  intro y h
  split at h
  · exact nomatch h
  · exact (Except.error.inj h).symm

theorem IndexOnly.map {α β : Type} {e : Except Nat α} (h : IndexOnly e) (g : α → β) : IndexOnly (e.map g) := by
  intro y hy
  cases e with
  | error x => exact h y (congrArg _ (Except.error.inj hy))
  | ok a => exact nomatch hy

theorem indexOnly_ok {α : Type} (a : α) : IndexOnly (.ok a) := fun _ h => nomatch h

theorem indexOnly_bitAddr (c : ThCtx) (w : Nat) (x : ThMem) : IndexOnly (bitAddr c w x) := indexOnly_ite
theorem indexOnly_wordAddr (c : ThCtx) (w : Nat) (x : ThMem) : IndexOnly (wordAddr c w x) := indexOnly_ite
theorem indexOnly_wideAddr (c : ThCtx) (w : Nat) (x : ThMem) : IndexOnly (wideAddr c w x) := indexOnly_ite

theorem indexOnly_bitOperand (c : ThCtx) (w : Nat) (x : ThMem) : IndexOnly (bitOperand c w x) := by
  unfold bitOperand
  split
  · exact (indexOnly_bitAddr c w x).map _
  · exact indexOnly_ok _

theorem indexOnly_wordOperand (conv : Int → Nat) (c : ThCtx) (w : Nat) (x : ThMem) : IndexOnly (wordOperand conv c w x) := by
  unfold wordOperand
  split
  · exact (indexOnly_wordAddr c w x).map _
  · split <;> exact indexOnly_ok _

theorem indexOnly_wideOperand (conv : Int → Nat) (c : ThCtx) (w : Nat) (x : ThMem) : IndexOnly (wideOperand conv c w x) := by
  unfold wideOperand
  split
  · exact (indexOnly_wideAddr c w x).map _
  · split <;> exact indexOnly_ok _

/-! ### From an operation to its command -/

/-- The command executes words of an opcode by an operation. -/
def Runs (i : Instr) (op : Nat) (f : ThOp) : Prop := ∀ s, exec i s = .next (execWord op f s)

section
variable {i : Instr} {op : Nat} {f : ThOp} {s : State} {t w : Nat} {l : Loaded} {c : TaskCfg}

theorem Runs.leaves {r : ThMem} (hi : Runs i op f) (h : Executes s op t l c w)
    (hf : f (around s t c) w (workOf s t l) = .ok r) : Leaves i s t l r := by
  obtain ⟨hrun, hfetch⟩ := h
  rw [Leaves, hi]
  simp only [execWord, hrun, if_true, hfetch, hf]

theorem Runs.faults {code : Nat} (hi : Runs i op f) (h : Executes s op t l c w)
    (hf : f (around s t c) w (workOf s t l) = .error code) : Faults i s t code := by
  obtain ⟨hrun, hfetch⟩ := h
  rw [Faults, hi]
  simp only [execWord, hrun, if_true, hfetch, hf]

/-- An operation that reads its operand, or judges its address, before it works on it. -/
theorem Runs.leaves_read {α : Type} {e : Except Nat α} {g : α → ThRes} {a : α} {r : ThMem} (hi : Runs i op f)
    (h : Executes s op t l c w) (hf : f (around s t c) w (workOf s t l) = e >>= g) (he : e.toOption = some a)
    (hg : g a = .ok r) : Leaves i s t l r :=
  hi.leaves h (by rw [hf, eq_ok_of_toOption he]; exact hg)

theorem Runs.faults_index {α : Type} {e : Except Nat α} {g : α → ThRes} (hi : Runs i op f)
    (h : Executes s op t l c w) (hf : f (around s t c) w (workOf s t l) = e >>= g) (he : e.toOption = none)
    (hx : IndexOnly e) : Faults i s t tfIndex :=
  hi.faults h (by rw [hf, eq_error_of_toOption he hx]; rfl)

end

end Sys2Proof.Machine
end

section
/-! SUPPORT. The bit instructions, the branch and call stacks and the word moves as operations (06 Tables 6.5, 6.6, 6.8
and 6.12). -/

namespace Sys2Proof.Machine

open Sys2Proof.Safety

/-! ### Bit logic (Table 6.5) -/

/-- The instructions that combine a bit operand into BA, with their opcodes. -/
def bitReads : List (Instr × Nat × (Bool → Bool → Bool)) :=
  [(.thLd, 1, fun _ b => b), (.thLdn, 2, fun _ b => !b), (.thAnd, 3, fun a b => a && b), (.thAndn, 4, fun a b => a && !b),
    (.thOr, 5, fun a b => a || b), (.thOrn, 6, fun a b => a || !b), (.thXor, 7, fun a b => a != b),
    (.thXorn, 8, fun a b => a != !b)]

theorem runs_bitReads {p : Instr × Nat × (Bool → Bool → Bool)} (hp : p ∈ bitReads) : Runs p.1 p.2.1 (opBit p.2.2) := by
  simp only [bitReads, List.mem_cons, List.not_mem_nil, or_false] at hp
  rcases hp with rfl | rfl | rfl | rfl | rfl | rfl | rfl | rfl <;> exact fun _ => rfl

/-- The instructions that store into a bit slot: whether BA makes them store, and what. -/
def bitWrites : List (Instr × Nat × (Bool → Bool) × (Bool → Bool)) :=
  [(.thSt, 9, fun _ => true, fun a => a), (.thStn, 10, fun _ => true, fun a => !a), (.thSet, 11, fun a => a, fun _ => true),
    (.thRst, 12, fun a => a, fun _ => false)]

theorem runs_bitWrites {p : Instr × Nat × (Bool → Bool) × (Bool → Bool)} (hp : p ∈ bitWrites) :
    Runs p.1 p.2.1 (opStore fun a => if p.2.2.1 a then some (p.2.2.2 a) else none) := by
  simp only [bitWrites, List.mem_cons, List.not_mem_nil, or_false] at hp
  rcases hp with rfl | rfl | rfl | rfl <;> exact fun _ => rfl

theorem opStore_stores {g v : Bool → Bool} {c : ThCtx} {w a : Nat} {x : ThMem} (ha : (bitAddr c w x).toOption = some a) :
    opStore (fun b => if g b then some (v b) else none) c w x =
      .ok (if g x.m.ba = true then x.setBit a (v x.m.ba) else x) := by
  rw [opStore, eq_ok_of_toOption ha]
  change Except.ok _ = _
  cases g x.m.ba <;> rfl

/-! ### Stacks (Tables 6.6 and 6.12) -/

/-- The instructions that open a branch: the operation kept and what BA becomes. -/
def branchPushes : List (Instr × Nat × BrOp × (Bool → Bool)) :=
  [(.thAndb, 16, .and, fun _ => true), (.thOrb, 17, .or, fun _ => false), (.thXorb, 18, .xor, fun _ => false),
    (.thPush, 20, .none, fun a => a)]

theorem runs_branchPushes {p : Instr × Nat × BrOp × (Bool → Bool)} (hp : p ∈ branchPushes) :
    Runs p.1 p.2.1 (opBranch p.2.2.1 p.2.2.2) := by
  simp only [branchPushes, List.mem_cons, List.not_mem_nil, or_false] at hp
  rcases hp with rfl | rfl | rfl | rfl <;> exact fun _ => rfl

theorem opBranch_over {o : BrOp} {g : Bool → Bool} {c : ThCtx} {w : Nat} {x : ThMem} (h : 16 ≤ x.m.branch.length) :
    opBranch o g c w x = .error tfBranchOver := if_pos h

theorem opBranch_pushes {o : BrOp} {g : Bool → Bool} {c : ThCtx} {w : Nat} {x : ThMem} (h : x.m.branch.length < 16) :
    opBranch o g c w x = .ok { x with m := { x.m with branch := (x.m.ba, o) :: x.m.branch, ba := g x.m.ba } } :=
  if_neg (by omega)

theorem opTop_under {pop : Bool} {g : Bool → Bool × BrOp → Bool} {c : ThCtx} {w : Nat} {x : ThMem} (h : x.m.branch = []) :
    opTop pop g c w x = .error tfBranchUnder := by
  rw [opTop, h]

theorem opTop_takes {pop : Bool} {g : Bool → Bool × BrOp → Bool} {c : ThCtx} {w : Nat} {x : ThMem} {e : Bool × BrOp}
    {rest : List (Bool × BrOp)} (h : x.m.branch = e :: rest) :
    opTop pop g c w x = .ok { x with m := { x.m with ba := g x.m.ba e, branch := if pop then rest else e :: rest } } := by
  rw [opTop, h]

theorem closeBranch_eq (ba b : Bool) (o : BrOp) : closeBranch ba (b, o) =
    if o = .and then b && ba else if o = .or then b || ba else if o = .xor then b != ba else ba := by
  cases o <;> rfl

theorem wTarget_eq (w : Nat) : wTarget w = w % 2 ^ 18 := by simp [wTarget, bitsOf]

/-- The jumps, with the test of BA that takes them. -/
def jumps : List (Instr × Nat × (Bool → Bool)) :=
  [(.thJmp, 120, fun _ => true), (.thJt, 121, fun a => a), (.thJf, 122, fun a => !a)]

theorem runs_jumps {p : Instr × Nat × (Bool → Bool)} (hp : p ∈ jumps) : Runs p.1 p.2.1 (opJump p.2.2) := by
  simp only [jumps, List.mem_cons, List.not_mem_nil, or_false] at hp
  rcases hp with rfl | rfl | rfl <;> exact fun _ => rfl

theorem opJump_eq (g : Bool → Bool) (c : ThCtx) (w : Nat) (x : ThMem) :
    opJump g c w x = .ok (if g x.m.ba = true then { x with m := { x.m with pc := w % 2 ^ 18 } } else x) := by
  rw [opJump, wTarget_eq]; rfl

theorem opCall_over {c : ThCtx} {w : Nat} {x : ThMem} (h : 16 ≤ x.m.calls.length) : opCall c w x = .error tfCallOver := if_pos h

theorem opCall_calls {c : ThCtx} {w : Nat} {x : ThMem} (h : x.m.calls.length < 16) :
    opCall c w x = .ok { x with m := { x.m with calls := x.m.pc :: x.m.calls, pc := w % 2 ^ 18 } } := by
  rw [opCall, if_neg (by omega), wTarget_eq]; rfl

theorem opRet_under {c : ThCtx} {w : Nat} {x : ThMem} (h : x.m.calls = []) : opRet c w x = .error tfCallUnder := by
  rw [opRet, h]

theorem opRet_returns {c : ThCtx} {w a : Nat} {x : ThMem} {rest : List Nat} (h : x.m.calls = a :: rest) :
    opRet c w x = .ok { x with m := { x.m with calls := rest, pc := a } } := by
  rw [opRet, h]; rfl

theorem exec_thEnd {s : State} {t w : Nat} {l : Loaded} {c : TaskCfg} (h : Executes s 125 t l c w) :
    exec .thEnd s = .next (endCycle (dispatch s) t l) := by
  obtain ⟨hrun, hfetch⟩ := h
  change Host.Outcome.next _ = _
  simp only [hrun, if_true, hfetch]

end Sys2Proof.Machine
end

section
/-! SETTLED. The bit instructions and the stacks. -/

namespace Sys2Proof.Certificates

open Sys2Proof.Machine Sys2Proof.Safety

/-- Settles O29: each instruction is one operation on its operand or address; without one, the fault is INDEX. -/
theorem thymeBitLogic : Obligations.ThymeBitLogic := by
  unfold Obligations.ThymeBitLogic
  intro s t w l c
  refine ⟨?_, ?_, ?_, ?_, ?_, ?_, ?_, ?_⟩
  · exact fun p b hp h hb => (runs_bitReads hp).leaves_read h rfl hb rfl
  · exact fun p hp h hb => (runs_bitReads hp).faults_index h rfl hb (indexOnly_bitOperand _ _ _)
  · exact fun p a hp h ha => (runs_bitWrites hp).leaves h (opStore_stores ha)
  · exact fun p hp h ha => (runs_bitWrites hp).faults_index h rfl ha (indexOnly_bitAddr _ _ _)
  · exact fun h => Runs.leaves (f := opNota) (fun _ => rfl) h rfl
  · exact fun h => Runs.leaves (f := opSeta) (fun _ => rfl) h rfl
  · exact fun h => Runs.leaves (f := opClra) (fun _ => rfl) h rfl
  · exact fun h => Runs.leaves (f := opNop) (fun _ => rfl) h rfl

/-- Settles O30: a full stack and an empty one fault; otherwise the instruction pushes, closes or pops. -/
theorem thymeStacks : Obligations.ThymeStacks := by
  unfold Obligations.ThymeStacks
  intro s t w l c
  refine ⟨?_, ?_, ?_, ?_, ?_, ?_, ?_, ?_, ?_, ?_, ?_, ?_, ?_⟩
  · exact fun p hp h hroom => (runs_branchPushes hp).leaves h (opBranch_pushes hroom)
  · exact fun p hp h hfull => (runs_branchPushes hp).faults h (opBranch_over hfull)
  · intro b o rest h htop
    rw [← closeBranch_eq]
    exact Runs.leaves (f := opClose) (fun _ => rfl) h (opTop_takes htop)
  · intro b o rest h htop
    have hread := opTop_takes (pop := false) (g := fun _ e => e.1) (c := around s t c) (w := w) htop
    rw [if_neg Bool.false_ne_true, ← htop] at hread
    exact Runs.leaves (f := opRead) (fun _ => rfl) h hread
  · exact fun b o rest h htop => Runs.leaves (f := opPop) (fun _ => rfl) h (opTop_takes htop)
  · intro p hp h hempty
    simp only [List.mem_cons, List.not_mem_nil, or_false] at hp
    rcases hp with rfl | rfl | rfl
    · exact Runs.faults (f := opClose) (fun _ => rfl) h (opTop_under hempty)
    · exact Runs.faults (f := opRead) (fun _ => rfl) h (opTop_under hempty)
    · exact Runs.faults (f := opPop) (fun _ => rfl) h (opTop_under hempty)
  · exact fun p hp h => (runs_jumps hp).leaves h (opJump_eq ..)
  · exact fun h hroom => Runs.leaves (f := opCall) (fun _ => rfl) h (opCall_calls hroom)
  · exact fun h hfull => Runs.faults (f := opCall) (fun _ => rfl) h (opCall_over hfull)
  · exact fun a rest h hcalls => Runs.leaves (f := opRet) (fun _ => rfl) h (opRet_returns hcalls)
  · exact fun h hempty => Runs.faults (f := opRet) (fun _ => rfl) h (opRet_under hempty)
  · exact exec_thEnd
  · exact fun h => Runs.leaves (f := opClrv) (fun _ => rfl) h rfl

end Sys2Proof.Certificates
end

section
/-! SUPPORT. Results and flags of Thyme's word instructions (06 R177, Tables 6.8 and 6.9): what is stored, and when Z, N
and V follow. -/

namespace Sys2Proof.Machine

open Sys2Proof.Safety

/-! ### Results with their flags -/

/-- A 32-bit result in WACC with its flags. -/
theorem zn32_result {x : ThMem} {v : Nat} {a : Word} {f g : Bool} (ha : BitVec.ofNat 32 v = a) (hf : (x.m.v || f) = g) :
    ((x.setAcc v).zn32).orV f = { x with m := { x.m with wacc := a, z := a == 0, n := a.msb, v := g } } := by
  subst ha hf; rfl

/-- The sign of a 64-bit result is that of its high word. -/
theorem msb_high (v : Nat) : (BitVec.ofNat 32 (v / 2 ^ 32)).msb = decide (2 ^ 63 ≤ v % 2 ^ 64) := by
  rw [BitVec.msb_eq_decide, BitVec.toNat_ofNat, decide_eq_decide]
  omega

/-- A 64-bit result in WEXT:WACC with its flags. -/
theorem zn64_setAcc64 (x : ThMem) (v : Nat) : (x.setAcc64 v).zn64 =
    { x with m := { x.m with
        wacc := BitVec.ofNat 32 v, wext := BitVec.ofNat 32 (v / 2 ^ 32), z := decide (v % 2 ^ 64 = 0)
        n := decide (2 ^ 63 ≤ v % 2 ^ 64) } } := by
  have hz : (BitVec.ofNat 32 v == 0 && BitVec.ofNat 32 (v / 2 ^ 32) == 0) = decide (v % 2 ^ 64 = 0) := by
    rw [Bool.eq_iff_iff]
    simp only [Bool.and_eq_true, beq_iff_eq, decide_eq_true_eq, ← BitVec.toNat_inj, BitVec.toNat_ofNat, BitVec.ofNat_eq_ofNat]
    omega
  rw [← hz, ← msb_high]; rfl

theorem zn64_result {x : ThMem} {v : Nat} {f g : Bool} (hv : v < 2 ^ 64) (hf : (x.m.v || f) = g) :
    ((x.setAcc64 v).zn64).orV f =
      { x with m := { x.m with
          wacc := BitVec.ofNat 32 v, wext := BitVec.ofNat 32 (v / 2 ^ 32), z := decide (v = 0), n := decide (2 ^ 63 ≤ v)
          v := g } } := by
  rw [zn64_setAcc64, Nat.mod_eq_of_lt hv]
  subst hf; rfl

/-! ### Word moves (Table 6.8) -/

theorem bitsOf_zero (v n : Nat) : bitsOf v 0 n = v % 2 ^ n := by simp [bitsOf]

theorem setAcc_b2n (x : ThMem) (b : Bool) : (x.setAcc (b2n b)).zn32 =
    { x with m := { x.m with wacc := if b = true then 1 else 0, z := !b, n := false } } := by
  have hacc : BitVec.ofNat 32 (b2n b) = if b = true then 1 else 0 := by cases b <;> decide
  have hz : ((if b = true then 1 else 0 : Word) == 0) = !b := by cases b <;> decide
  have hn : (if b = true then 1 else 0 : Word).msb = false := by cases b <;> decide
  rw [ThMem.zn32, ThMem.setAcc, hacc, hz, hn]

theorem setWord_acc (x : ThMem) (a : Nat) : x.setWord a x.m.wacc.toNat =
    { x with words := tabSet x.words a { tabGetD x.words a {} with value := x.m.wacc.toNat } } := by
  rw [ThMem.setWord, Nat.mod_eq_of_lt x.m.wacc.isLt]; rfl

theorem tabGetD_set_other {β : Type} {i j : Nat} (v d : β) (t : Tab β) (h : j ≠ i) :
    tabGetD (tabSet t i v) j d = tabGetD t j d := by
  rw [tabGetD, tabGet_set_other v h]; rfl

theorem wide_mod (m : Mach) : m.wide % 2 ^ 32 = m.wacc.toNat := by
  have := m.wacc.isLt
  rw [Mach.wide]; omega

theorem wide_div (m : Mach) : m.wide / 2 ^ 32 % 2 ^ 32 = m.wext.toNat := by
  have := m.wacc.isLt
  have := m.wext.isLt
  rw [Mach.wide]; omega

theorem setWide_wide (x : ThMem) (a : Nat) : x.setWide a x.m.wide =
    { x with
      words := tabSet (tabSet x.words a { tabGetD x.words a {} with value := x.m.wacc.toNat }) (a + 1)
        { tabGetD x.words (a + 1) {} with value := x.m.wext.toNat } } := by
  simp only [ThMem.setWide, ThMem.setWord, ThMem.wordSlot, wide_mod, wide_div, tabGetD_set_other _ _ _ (Nat.succ_ne_self a)]

theorem setBit_nonzero (x : ThMem) (a : Nat) : x.setBit a (x.m.wacc != 0) =
    { x with bits := tabSet x.bits a { tabGetD x.bits a {} with value := if x.m.wacc = 0 then 0 else 1 } } := by
  have hv : b2n (x.m.wacc != 0) = if x.m.wacc = 0 then 0 else 1 := by
    by_cases h : x.m.wacc = 0 <;> simp [h, b2n]
  rw [ThMem.setBit, hv]; rfl

end Sys2Proof.Machine
end

section
/-! SETTLED. The word moves. -/

namespace Sys2Proof.Certificates

open Sys2Proof.Machine Sys2Proof.Safety

/-- Settles O32: a move reads its operand or judges its address, and then loads or stores. -/
theorem thymeWordMoves : Obligations.ThymeWordMoves := by
  unfold Obligations.ThymeWordMoves
  intro s t w l c
  refine ⟨?_, ?_, ?_, ?_, ?_, ?_, ?_, ?_, ?_, ?_, ?_, ?_, ?_⟩
  · exact fun v h hv => Runs.leaves_read (f := opLdw) (fun _ => rfl) h rfl hv rfl
  · exact fun b h hb => Runs.leaves_read (f := opLdb) (fun _ => rfl) h rfl hb (congrArg _ (setAcc_b2n _ b))
  · intro h
    have hldwh : opLdwh (around s t c) w (workOf s t l) = .ok ((workOf s t l).setAcc
        ((workOf s t l).m.wacc.toNat % 2 ^ 16 + w % 2 ^ 16 * 2 ^ 16)) := by
      rw [opLdwh, wAddr, bitsOf_zero, bitsOf_zero]
    exact Runs.leaves (fun _ => rfl) h hldwh
  · exact fun a h ha => Runs.leaves_read (f := opStw) (fun _ => rfl) h rfl ha (congrArg _ (setWord_acc _ a))
  · intro a h ha
    refine Runs.leaves_read (f := opStwc) (fun _ => rfl) h rfl ha ?_
    rw [setWord_acc]
  · intro p hp h ha
    simp only [List.mem_cons, List.not_mem_nil, or_false] at hp
    rcases hp with rfl | rfl | rfl
    · exact Runs.faults_index (f := opStw) (fun _ => rfl) h rfl ha (indexOnly_wordAddr _ _ _)
    · exact Runs.faults_index (f := opStwc) (fun _ => rfl) h rfl ha (indexOnly_wordAddr _ _ _)
    · exact Runs.faults_index (f := opLdq) (fun _ => rfl) h rfl ha (indexOnly_wordAddr _ _ _)
  · exact fun a h ha => Runs.leaves_read (f := opLdq) (fun _ => rfl) h rfl ha rfl
  · exact fun a h ha => Runs.leaves_read (f := opLdqb) (fun _ => rfl) h rfl ha rfl
  · exact fun h => Runs.leaves (f := opLdix) (fun _ => rfl) h rfl
  · exact fun v h hv => Runs.leaves_read (f := opLdw64) (fun _ => rfl) h rfl hv (congrArg _ (zn64_setAcc64 _ v))
  · exact fun a h ha => Runs.leaves_read (f := opStw64) (fun _ => rfl) h rfl ha (congrArg _ (setWide_wide _ a))
  · exact fun h => Runs.leaves (f := opXch) (fun _ => rfl) h rfl
  · exact fun a h ha => Runs.leaves_read (f := opStnz) (fun _ => rfl) h rfl ha (congrArg _ (setBit_nonzero _ a))

end Sys2Proof.Certificates
end

section
/-! SUPPORT. Integer arithmetic of Thyme (06 R177, Table 6.9): exact results narrowed to a width, quotients and remainders,
shifts; the compares (R180, Table 6.11). -/

namespace Sys2Proof.Machine

open Sys2Proof.Safety

/-! ### Exact results narrowed (R177) -/

theorem uNat_lt (w : Nat) (i : Int) : uNat w i < 2 ^ w := by
  have hpos : (0 : Int) < (2 ^ w : Nat) := by exact_mod_cast Nat.two_pow_pos w
  have := Int.emod_lt_of_pos i hpos
  have := Int.emod_nonneg i (Int.ne_of_gt hpos)
  unfold uNat
  omega

theorem ofNat_uNat (w : Nat) (i : Int) : BitVec.ofNat w (uNat w i) = BitVec.ofInt w i := by
  apply BitVec.eq_of_toNat_eq
  rw [BitVec.toNat_ofNat, BitVec.toNat_ofInt, Nat.mod_eq_of_lt (uNat_lt w i)]
  rfl

theorem sInt_toNat (a : Word) : sInt 32 a.toNat = a.toInt := by
  have := a.isLt
  rw [BitVec.toInt_eq_toNat_cond, sInt]
  split <;> split <;> omega

theorem not_fitsInt_32 (i : Int) : (!fitsInt 32 i) = decide (i < -2147483648 ∨ 2147483647 < i) := by
  rw [Bool.eq_iff_iff]
  simp only [fitsInt, Bool.not_eq_true', Bool.and_eq_false_iff, decide_eq_false_iff_not, decide_eq_true_eq]
  omega

theorem not_fitsInt_64 (i : Int) :
    (!fitsInt 64 i) = decide (i < -9223372036854775808 ∨ 9223372036854775807 < i) := by
  rw [Bool.eq_iff_iff]
  simp only [fitsInt, Bool.not_eq_true', Bool.and_eq_false_iff, decide_eq_false_iff_not, decide_eq_true_eq]
  omega

/-- A value of two's complement is at most half the range away from 0. -/
theorem natAbs_sInt_le {w : Nat} (hw : 0 < w) (v : Nat) : (sInt w v).natAbs ≤ 2 ^ (w - 1) := by
  have htwo : 2 ^ w = 2 * 2 ^ (w - 1) := by rw [← Nat.pow_succ', Nat.succ_eq_add_one, Nat.sub_add_cancel hw]
  have hlt : v % 2 ^ w < 2 ^ w := Nat.mod_lt _ (Nat.two_pow_pos w)
  rw [sInt]
  split <;> omega

theorem sInt_ne_zero {w v : Nat} (h : v % 2 ^ w ≠ 0) : sInt w v ≠ 0 := by
  have hlt : v % 2 ^ w < 2 ^ w := Nat.mod_lt _ (Nat.two_pow_pos w)
  rw [sInt]
  split <;> omega

/-! ### Quotients and remainders -/

/-- A quotient or remainder: 0 with V for the divisor 0, and otherwise the exact result narrowed. -/
def divided (g : Int → Int → Int) (w a x : Nat) : Res :=
  if x % 2 ^ w = 0 then (0, true) else narrow w (g (sInt w a) (sInt w x))

/-- A remainder always fits: it is smaller than the divisor. -/
theorem fitsInt_tmod {w x : Nat} (hw : 0 < w) (a : Nat) (hx : x % 2 ^ w ≠ 0) :
    fitsInt w ((sInt w a).tmod (sInt w x)) = true := by
  have hdivisor : 0 < (sInt w x).natAbs := Int.natAbs_pos.mpr (sInt_ne_zero hx)
  have hle := natAbs_sInt_le hw x
  have hrem : ((sInt w a).tmod (sInt w x)).natAbs < (sInt w x).natAbs := by
    rw [Int.natAbs_tmod]; exact Nat.mod_lt _ hdivisor
  have hpow : ((2 : Int) ^ (w - 1)) = ((2 ^ (w - 1) : Nat) : Int) := by norm_cast
  simp only [fitsInt, hpow, Bool.and_eq_true, decide_eq_true_eq]
  omega

theorem modInt_eq {w : Nat} (hw : 0 < w) : modInt w = divided Int.tmod w := by
  funext a x
  by_cases hx : x % 2 ^ w = 0
  · rw [modInt, divided, if_pos hx, if_pos hx]
  · rw [modInt, divided, if_neg hx, if_neg hx, narrow, fitsInt_tmod hw a hx]; rfl

/-- A quotient or remainder whose magnitude is at most the dividend's: it cannot leave the range below. -/
def Shrinks (g : Int → Int → Int) : Prop := ∀ a b, (g a b).natAbs ≤ a.natAbs

theorem shrinks_tdiv : Shrinks Int.tdiv := Int.natAbs_tdiv_le_natAbs
theorem shrinks_tmod : Shrinks Int.tmod := fun a b => by rw [Int.natAbs_tmod]; exact Nat.mod_le ..

theorem divided_zero (g : Int → Int → Int) (w a : Nat) : divided g w a 0 = (0, true) := if_pos (Nat.zero_mod _)

theorem divided_32 {g : Int → Int → Int} (hg : Shrinks g) (a : Nat) {v : Nat} (hpos : 0 < v) (hlt : v < 2 ^ 32) :
    divided g 32 a v = (uNat 32 (g (sInt 32 a) (sInt 32 v)), decide (2147483647 < g (sInt 32 a) (sInt 32 v))) := by
  have hdividend := natAbs_sInt_le (by decide : 0 < 32) a
  have hresult := hg (sInt 32 a) (sInt 32 v)
  rw [divided, if_neg (by omega), narrow, not_fitsInt_32, Prod.mk.injEq, decide_eq_decide]
  omega

theorem divided_64 {g : Int → Int → Int} (hg : Shrinks g) (a : Nat) {v : Nat} (hpos : 0 < v) (hlt : v < 2 ^ 64) :
    divided g 64 a v = (uNat 64 (g (sInt 64 a) (sInt 64 v)), decide (9223372036854775807 < g (sInt 64 a) (sInt 64 v))) := by
  have hdividend := natAbs_sInt_le (by decide : 0 < 64) a
  have hresult := hg (sInt 64 a) (sInt 64 v)
  rw [divided, if_neg (by omega), narrow, not_fitsInt_64, Prod.mk.injEq, decide_eq_decide]
  omega

/-! ### The tables of instructions -/

/-- The signed instructions whose exact result is narrowed. -/
def exact32 : List (Instr × Nat × (Int → Int → Int)) :=
  [(.thAdd, 56, fun a b => a + b), (.thSub, 57, fun a b => a - b), (.thMul, 58, fun a b => a * b)]

/-- Their forms over WEXT:WACC. -/
def exact64 : List (Instr × Nat × (Int → Int → Int)) :=
  [(.thAdd64, 80, fun a b => a + b), (.thSub64, 81, fun a b => a - b), (.thMul64, 82, fun a b => a * b)]

theorem runs_exact32 {p : Instr × Nat × (Int → Int → Int)} (hp : p ∈ exact32) :
    Runs p.1 p.2.1 (opWord conv32 fun a b => narrow 32 (p.2.2 (sInt 32 a) (sInt 32 b))) := by
  simp only [exact32, List.mem_cons, List.not_mem_nil, or_false] at hp
  rcases hp with rfl | rfl | rfl <;> exact fun _ => rfl

theorem runs_exact64 {p : Instr × Nat × (Int → Int → Int)} (hp : p ∈ exact64) :
    Runs p.1 p.2.1 (opWide conv64 fun a b => narrow 64 (p.2.2 (sInt 64 a) (sInt 64 b))) := by
  simp only [exact64, List.mem_cons, List.not_mem_nil, or_false] at hp
  rcases hp with rfl | rfl | rfl <;> exact fun _ => rfl

/-- The signed quotients and remainders. -/
def divisions32 : List (Instr × Nat × (Int → Int → Int)) := [(.thDiv, 59, Int.tdiv), (.thMod, 60, Int.tmod)]

/-- Their forms over WEXT:WACC. -/
def divisions64 : List (Instr × Nat × (Int → Int → Int)) := [(.thDiv64, 83, Int.tdiv), (.thMod64, 84, Int.tmod)]

theorem runs_thMod : Runs .thMod 60 (opWord conv32 (divided Int.tmod 32)) := by
  rw [← modInt_eq (by decide)]; exact fun _ => rfl

theorem runs_thMod64 : Runs .thMod64 84 (opWide conv64 (divided Int.tmod 64)) := by
  rw [← modInt_eq (by decide)]; exact fun _ => rfl

theorem runs_divisions32 {p : Instr × Nat × (Int → Int → Int)} (hp : p ∈ divisions32) :
    Runs p.1 p.2.1 (opWord conv32 (divided p.2.2 32)) ∧ Shrinks p.2.2 := by
  simp only [divisions32, List.mem_cons, List.not_mem_nil, or_false] at hp
  rcases hp with rfl | rfl
  · exact ⟨fun _ => rfl, shrinks_tdiv⟩
  · exact ⟨runs_thMod, shrinks_tmod⟩

theorem runs_divisions64 {p : Instr × Nat × (Int → Int → Int)} (hp : p ∈ divisions64) :
    Runs p.1 p.2.1 (opWide conv64 (divided p.2.2 64)) ∧ Shrinks p.2.2 := by
  simp only [divisions64, List.mem_cons, List.not_mem_nil, or_false] at hp
  rcases hp with rfl | rfl
  · exact ⟨fun _ => rfl, shrinks_tdiv⟩
  · exact ⟨runs_thMod64, shrinks_tmod⟩

/-- Unsigned quotient and remainder, and the bitwise instructions. -/
def natResults : List (Instr × Nat × (Nat → Nat → Nat)) :=
  [(.thDivu, 61, fun a b => a / b), (.thModu, 62, fun a b => a % b), (.thAndw, 65, fun a b => a &&& b),
    (.thOrw, 66, fun a b => a ||| b), (.thXorw, 67, fun a b => a ^^^ b)]

theorem runs_natResults {p : Instr × Nat × (Nat → Nat → Nat)} (hp : p ∈ natResults) :
    ∃ f, Runs p.1 p.2.1 (opWord conv32 f) ∧ ∀ a v, (0 < v ∨ 65 ≤ p.2.1) → f a v = (p.2.2 a v, false) := by
  simp only [natResults, List.mem_cons, List.not_mem_nil, or_false] at hp
  rcases hp with rfl | rfl | rfl | rfl | rfl
  · exact ⟨divNat, fun _ => rfl, fun a v hv => if_neg (hv.elim Nat.ne_of_gt fun h => absurd h (by decide))⟩
  · exact ⟨modNat, fun _ => rfl, fun a v hv => if_neg (hv.elim Nat.ne_of_gt fun h => absurd h (by decide))⟩
  all_goals exact ⟨_, fun _ => rfl, fun _ _ _ => rfl⟩

/-- The instructions that divide by a word. -/
def wordDivisors : List (Instr × Nat) := [(.thDiv, 59), (.thMod, 60), (.thDivu, 61), (.thModu, 62)]

theorem runs_wordDivisors {p : Instr × Nat} (hp : p ∈ wordDivisors) :
    ∃ f, Runs p.1 p.2 (opWord conv32 f) ∧ ∀ a, f a 0 = (0, true) := by
  simp only [wordDivisors, List.mem_cons, List.not_mem_nil, or_false] at hp
  rcases hp with rfl | rfl | rfl | rfl
  · exact ⟨_, fun _ => rfl, divided_zero Int.tdiv 32⟩
  · exact ⟨_, runs_thMod, divided_zero Int.tmod 32⟩
  · exact ⟨divNat, fun _ => rfl, fun _ => rfl⟩
  · exact ⟨modNat, fun _ => rfl, fun _ => rfl⟩

/-! ### Results without V, and by the divisor 0 -/

theorem zn32_keeps_v (x : ThMem) (v : Nat) : ((x.setAcc v).zn32).orV false =
    { x with m := { x.m with wacc := BitVec.ofNat 32 v, z := BitVec.ofNat 32 v == 0, n := (BitVec.ofNat 32 v).msb } } :=
  zn32_result rfl (Bool.or_false _)

theorem zn32_zero (x : ThMem) : ((x.setAcc 0).zn32).orV true =
    { x with m := { x.m with wacc := 0, z := true, n := false, v := true } } := by
  rw [zn32_result (a := 0) rfl (Bool.or_true _)]; rfl

theorem zn64_zero (x : ThMem) : ((x.setAcc64 0).zn64).orV true =
    { x with m := { x.m with wacc := 0, wext := 0, z := true, n := false, v := true } } := by
  rw [zn64_result (by decide) (Bool.or_true _)]; rfl

/-! ### Operations on WACC alone -/

theorem opUnary_result {f : Nat → Nat → Res} {c : ThCtx} {w v : Nat} {b : Bool} {x : ThMem}
    (h : f x.m.wacc.toNat (w % 32) = (v, b)) : opUnary f c w x = .ok (((x.setAcc v).zn32).orV b) := by
  rw [opUnary, wShift, bitsOf_zero]
  exact h ▸ rfl

/-- -2^31 alone has no negation in 32 bits, and no absolute value. -/
theorem overflows_of_toInt (a : Word) : (a.toInt = -2147483648) = (a = 0x80000000#32) := by
  have := a.isLt
  rw [← BitVec.toNat_inj, BitVec.toInt_eq_toNat_cond, BitVec.toNat_ofNat, eq_iff_iff]
  split <;> omega

theorem toInt_range (a : Word) : -2147483648 ≤ a.toInt ∧ a.toInt ≤ 2147483647 := by
  have := a.isLt
  rw [BitVec.toInt_eq_toNat_cond]
  split <;> omega

theorem negInt_word (a : Word) : negInt 32 a.toNat = (uNat 32 (-a.toInt), a == 0x80000000#32) := by
  have := toInt_range a
  rw [negInt, narrow, sInt_toNat, not_fitsInt_32, Prod.mk.injEq, Bool.eq_iff_iff, decide_eq_true_eq, beq_iff_eq,
    ← overflows_of_toInt]
  omega

theorem ofNat_neg (a : Word) : BitVec.ofNat 32 (uNat 32 (-a.toInt)) = 0 - a := by
  rw [ofNat_uNat, BitVec.ofInt_neg, BitVec.ofInt_toInt, BitVec.ofNat_eq_ofNat, BitVec.zero_sub]

theorem absInt_word (a : Word) : absInt 32 a.toNat = (uNat 32 a.toInt.natAbs, a == 0x80000000#32) := by
  have := toInt_range a
  rw [absInt, narrow, sInt_toNat, not_fitsInt_32, Prod.mk.injEq, Bool.eq_iff_iff, decide_eq_true_eq, beq_iff_eq,
    ← overflows_of_toInt]
  omega

theorem ofNat_abs (a : Word) : BitVec.ofNat 32 (uNat 32 a.toInt.natAbs) = if a.msb = true then 0 - a else a := by
  have hsign := BitVec.toInt_eq_msb_cond a
  have := a.isLt
  split at hsign
  · next hneg =>
    have hmag : (a.toInt.natAbs : Int) = -a.toInt := by omega
    rw [if_pos hneg, hmag, ofNat_neg]
  · next hpos =>
    have hmag : (a.toInt.natAbs : Int) = a.toInt := by omega
    rw [if_neg hpos, hmag, ofNat_uNat, BitVec.ofInt_toInt]

theorem ofNat_not (a : Word) : BitVec.ofNat 32 (2 ^ 32 - 1 - a.toNat) = ~~~a := by
  apply BitVec.eq_of_toNat_eq
  rw [BitVec.toNat_ofNat, BitVec.toNat_not]
  omega

theorem ofNat_shl (a : Word) (n : Nat) : BitVec.ofNat 32 (a.toNat * 2 ^ n) = a <<< n := by
  apply BitVec.eq_of_toNat_eq
  rw [BitVec.toNat_ofNat, BitVec.toNat_shiftLeft, Nat.shiftLeft_eq]

theorem ofNat_shr (a : Word) (n : Nat) : BitVec.ofNat 32 (a.toNat / 2 ^ n) = a >>> n := by
  apply BitVec.eq_of_toNat_eq
  rw [BitVec.toNat_ofNat, BitVec.toNat_ushiftRight, Nat.shiftRight_eq_div_pow]
  exact Nat.mod_eq_of_lt (Nat.lt_of_le_of_lt (Nat.div_le_self ..) a.isLt)

theorem ofNat_sar (a : Word) (n : Nat) :
    BitVec.ofNat 32 (uNat 32 ((sInt 32 a.toNat).fdiv ((2 : Int) ^ n))) = a.sshiftRight n := by
  rw [ofNat_uNat, sInt_toNat, BitVec.sshiftRight_eq, Int.fdiv_eq_ediv_of_nonneg _ (Int.pow_nonneg (by decide)), Int.shiftRight_eq_div_pow]
  norm_cast

/-- The two halves of a rotation share no bit, so that their sum is their union. -/
theorem ofNat_rol (a : Word) {n : Nat} (hn : n < 32) :
    BitVec.ofNat 32 (a.toNat * 2 ^ n + a.toNat / 2 ^ (32 - n)) = a.rotateLeft n := by
  have hsplit : (2 ^ 32 : Nat) = 2 ^ n * 2 ^ (32 - n) := by rw [← Nat.pow_add]; congr 1; omega
  have hlow : a.toNat / 2 ^ (32 - n) < 2 ^ n :=
    Nat.div_lt_of_lt_mul (by rw [Nat.mul_comm, ← hsplit]; exact a.isLt)
  have hhigh : a.toNat * 2 ^ n % 2 ^ 32 = 2 ^ n * (a.toNat % 2 ^ (32 - n)) := by
    rw [Nat.mul_comm, hsplit, Nat.mul_mod_mul_left]
  have hroom : 2 ^ n * (a.toNat % 2 ^ (32 - n)) + a.toNat / 2 ^ (32 - n) < 2 ^ 32 := by
    have hrest : a.toNat % 2 ^ (32 - n) + 1 ≤ 2 ^ (32 - n) := Nat.mod_lt _ (Nat.two_pow_pos _)
    calc 2 ^ n * (a.toNat % 2 ^ (32 - n)) + a.toNat / 2 ^ (32 - n)
        < 2 ^ n * (a.toNat % 2 ^ (32 - n)) + 2 ^ n := Nat.add_lt_add_left hlow _
      _ = 2 ^ n * (a.toNat % 2 ^ (32 - n) + 1) := (Nat.mul_succ ..).symm
      _ ≤ 2 ^ n * 2 ^ (32 - n) := Nat.mul_le_mul_left _ hrest
      _ = 2 ^ 32 := hsplit.symm
  apply BitVec.eq_of_toNat_eq
  rw [BitVec.toNat_ofNat, BitVec.toNat_rotateLeft, Nat.mod_eq_of_lt hn, Nat.shiftLeft_eq, Nat.shiftRight_eq_div_pow, hhigh,
    ← Nat.two_pow_add_eq_or_of_lt hlow, ← Nat.mod_add_mod, hhigh, Nat.mod_eq_of_lt hroom]

/-- Complement and shifts, by the count of the word. -/
def shifts : List (Instr × Nat × (Word → Nat → Word)) :=
  [(.thNotw, 68, fun a _ => ~~~a), (.thShl, 69, fun a n => a <<< n), (.thShr, 70, fun a n => a >>> n),
    (.thSar, 71, fun a n => a.sshiftRight n), (.thRol, 72, fun a n => a.rotateLeft n)]

theorem runs_shifts {p : Instr × Nat × (Word → Nat → Word)} (hp : p ∈ shifts) :
    ∃ f : Nat → Nat → Nat, Runs p.1 p.2.1 (opUnary fun a n => (f a n, false)) ∧
      ∀ (a : Word) n, n < 32 → BitVec.ofNat 32 (f a.toNat n) = p.2.2 a n := by
  simp only [shifts, List.mem_cons, List.not_mem_nil, or_false] at hp
  rcases hp with rfl | rfl | rfl | rfl | rfl
  · exact ⟨_, fun _ => rfl, fun a _ _ => ofNat_not a⟩
  · exact ⟨_, fun _ => rfl, fun a n _ => ofNat_shl a n⟩
  · exact ⟨_, fun _ => rfl, fun a n _ => ofNat_shr a n⟩
  · exact ⟨_, fun _ => rfl, fun a n _ => ofNat_sar a n⟩
  · exact ⟨_, fun _ => rfl, fun a _ hn => ofNat_rol a hn⟩

/-! ### Compares (R180) -/

theorem compareInto_eq (w : Nat) (o : Option Ordering) (x : ThMem) {g : Bool} (hg : g = relation (w / 2 ^ 16 % 16) o) :
    compareInto w o x =
      { x with m := { x.m with ba := if w / 2 ^ 20 % 2 = 1 then x.m.ba && g else g } } := by
  subst hg
  simp only [compareInto, ThMem.setBa, wComb, bitOf, decide_eq_true_eq]
  rfl

end Sys2Proof.Machine
end

section
/-! SETTLED. Integer arithmetic and the compares. -/

namespace Sys2Proof.Certificates

open Sys2Proof.Machine Sys2Proof.Safety

/-- Settles O33: the exact result is narrowed to 32 bits, and V tells whether it fitted. -/
theorem thymeArithmetic32 : Obligations.ThymeArithmetic32 := by
  unfold Obligations.ThymeArithmetic32
  intro s t w l c
  refine ⟨?_, ?_, ?_, ?_, ?_, ?_, ?_, ?_⟩
  · intro p v hp h hv
    exact (runs_exact32 hp).leaves_read h rfl hv
      (congrArg _ (zn32_result (ofNat_uNat 32 _) (congrArg _ (not_fitsInt_32 _))))
  · intro p v hp h hv hpos hlt
    obtain ⟨hruns, hshrinks⟩ := runs_divisions32 hp
    refine hruns.leaves_read h rfl hv (congrArg _ ?_)
    simp only [divided_32 hshrinks _ hpos hlt]
    exact zn32_result (ofNat_uNat 32 _) rfl
  · intro p v hp h hv hdivisor
    obtain ⟨f, hruns, hf⟩ := runs_natResults hp
    refine hruns.leaves_read h rfl hv (congrArg _ ?_)
    simp only [hf _ v hdivisor]
    exact zn32_keeps_v ..
  · intro p hp h hv
    obtain ⟨f, hruns, hf⟩ := runs_wordDivisors hp
    refine hruns.leaves_read h rfl hv (congrArg _ ?_)
    simp only [hf]
    exact zn32_zero _
  · intro p hp h hv
    simp only [List.mem_cons, List.not_mem_nil, or_false] at hp
    rcases hp with rfl | rfl | rfl | rfl | rfl | rfl | rfl | rfl | rfl | rfl | rfl <;>
      exact Runs.faults_index (fun _ => rfl) h rfl hv (indexOnly_wordOperand _ _ _ _)
  · exact fun h => Runs.leaves (f := opNeg) (fun _ => rfl) h
      ((opUnary_result (f := fun a _ => negInt 32 a) (negInt_word _)).trans (congrArg _ (zn32_result (ofNat_neg _) rfl)))
  · exact fun h => Runs.leaves (f := opAbs) (fun _ => rfl) h
      ((opUnary_result (f := fun a _ => absInt 32 a) (absInt_word _)).trans (congrArg _ (zn32_result (ofNat_abs _) rfl)))
  · intro p hp h
    obtain ⟨f, hruns, hf⟩ := runs_shifts hp
    rw [← hf _ _ (Nat.mod_lt w (by decide))]
    exact hruns.leaves h ((opUnary_result rfl).trans (congrArg _ (zn32_keeps_v ..)))

/-- Settles O34: as in 32 bits, over WEXT:WACC; a compare changes BA alone. -/
theorem thymeArithmetic64 : Obligations.ThymeArithmetic64 := by
  unfold Obligations.ThymeArithmetic64
  intro s t w l c
  refine ⟨?_, ?_, ?_, ?_, ?_, ?_, ?_, ?_⟩
  · intro p v hp h hv
    exact (runs_exact64 hp).leaves_read h rfl hv
      (congrArg _ (zn64_result (uNat_lt 64 _) (congrArg _ (not_fitsInt_64 _))))
  · intro p v hp h hv hpos hlt
    obtain ⟨hruns, hshrinks⟩ := runs_divisions64 hp
    refine hruns.leaves_read h rfl hv (congrArg _ ?_)
    simp only [divided_64 hshrinks _ hpos hlt]
    exact zn64_result (uNat_lt 64 _) rfl
  · intro p hp h hv
    simp only [List.mem_cons, List.not_mem_nil, or_false] at hp
    rcases hp with rfl | rfl
    · exact Runs.leaves_read (f := opDiv64) (fun _ => rfl) h rfl hv (congrArg _ (zn64_zero _))
    · exact Runs.leaves_read (f := opMod64) (fun _ => rfl) h rfl hv (congrArg _ (zn64_zero _))
  · intro p hp h hv
    simp only [List.mem_cons, List.not_mem_nil, or_false] at hp
    rcases hp with rfl | rfl | rfl | rfl | rfl | rfl | rfl <;>
      exact Runs.faults_index (fun _ => rfl) h rfl hv (indexOnly_wideOperand _ _ _ _)
  · intro p v g hp h hv hg
    simp only [List.mem_cons, List.not_mem_nil, or_false] at hp
    rcases hp with rfl | rfl
    · exact Runs.leaves_read (f := opCmpi) (fun _ => rfl) h rfl hv (congrArg _ (compareInto_eq w _ _ hg))
    · exact Runs.leaves_read (f := opCmpu) (fun _ => rfl) h rfl hv (congrArg _ (compareInto_eq w _ _ hg))
  · intro p v g hp h hv hg
    obtain rfl := List.mem_singleton.mp hp
    exact Runs.leaves_read (f := opCmpf) (fun _ => rfl) h rfl hv (congrArg _ (compareInto_eq w _ _ hg))
  · intro p v g hp h hv hg
    obtain rfl := List.mem_singleton.mp hp
    exact Runs.leaves_read (f := opCmpl) (fun _ => rfl) h rfl hv (congrArg _ (compareInto_eq w _ _ hg))
  · intro p v g hp h hv hg
    obtain rfl := List.mem_singleton.mp hp
    exact Runs.leaves_read (f := opCmpd) (fun _ => rfl) h rfl hv (congrArg _ (compareInto_eq w _ _ hg))

end Sys2Proof.Certificates
end

section
/-! SUPPORT. Float arithmetic and conversions of Thyme (06 R177, R178, Table 6.10): results, the flags of a float, and
what a conversion leaves of Z and N. -/

namespace Sys2Proof.Machine

open Sys2Proof.Safety

/-! ### Results with the flags of a float -/

theorem znF32_result {x : ThMem} {v : Nat} {f g : Bool} (hf : (x.m.v || f) = g) :
    ((x.setAcc v).znF32).orV f =
      { x with m := { x.m with
          wacc := BitVec.ofNat 32 v, z := BitVec.ofNat 32 v <<< 1 == 0, n := (BitVec.ofNat 32 v).msb, v := g } } := by
  subst hf; rfl

theorem znF64_result {x : ThMem} {v : Nat} {f g : Bool} (hf : (x.m.v || f) = g) :
    ((x.setAcc64 v).znF64).orV f =
      { x with m := { x.m with
          wacc := BitVec.ofNat 32 v, wext := BitVec.ofNat 32 (v / 2 ^ 32), z := decide (v % 2 ^ 63 = 0)
          n := decide (2 ^ 63 ≤ v % 2 ^ 64), v := g } } := by
  have hz : (BitVec.ofNat 32 v == 0 && BitVec.ofNat 32 (v / 2 ^ 32) <<< 1 == 0) = decide (v % 2 ^ 63 = 0) := by
    rw [Bool.eq_iff_iff]
    simp only [Bool.and_eq_true, beq_iff_eq, decide_eq_true_eq, ← BitVec.toNat_inj, BitVec.toNat_shiftLeft,
      BitVec.toNat_ofNat, BitVec.ofNat_eq_ofNat, Nat.shiftLeft_eq]
    omega
  subst hf
  rw [← hz, ← msb_high]; rfl

/-! ### Arithmetic -/

/-- A float result; V when it is not finite though both operands are, and for a divisor 0. -/
def fltResult (f : FFmt) (g : Nat → Nat → Nat) (divides : Bool) (a x : Nat) : Res :=
  (g a x, (fisFin f a && fisFin f x && !fisFin f (g a x)) || (divides && fabs f x == 0))

theorem addFlt_eq (f : FFmt) : addFlt f = fltResult f (fadd f) false := by
  funext a x; simp [addFlt, floatRes, fltResult]

theorem subFlt_eq (f : FFmt) : subFlt f = fltResult f (fsub f) false := by
  funext a x; simp [subFlt, floatRes, fltResult]

theorem mulFlt_eq (f : FFmt) : mulFlt f = fltResult f (fmul f) false := by
  funext a x; simp [mulFlt, floatRes, fltResult]

theorem divFlt_eq (f : FFmt) : divFlt f = fltResult f (fdiv f) true := by
  funext a x; simp [divFlt, floatRes, fltResult]

/-- The binary32 and binary64 instructions, and whether they divide. -/
def floats32 : List (Instr × Nat × (Nat → Nat → Nat) × Bool) :=
  [(.thAddf, 88, fadd fmt32, false), (.thSubf, 89, fsub fmt32, false), (.thMulf, 90, fmul fmt32, false),
    (.thDivf, 91, fdiv fmt32, true)]

def floats64 : List (Instr × Nat × (Nat → Nat → Nat) × Bool) :=
  [(.thAddd, 96, fadd fmt64, false), (.thSubd, 97, fsub fmt64, false), (.thMuld, 98, fmul fmt64, false),
    (.thDivd, 99, fdiv fmt64, true)]

theorem runs_floats32 {p : Instr × Nat × (Nat → Nat → Nat) × Bool} (hp : p ∈ floats32) :
    Runs p.1 p.2.1 (opF32 (fltResult fmt32 p.2.2.1 p.2.2.2)) := by
  simp only [floats32, List.mem_cons, List.not_mem_nil, or_false] at hp
  rcases hp with rfl | rfl | rfl | rfl
  · rw [← addFlt_eq]; exact fun _ => rfl
  · rw [← subFlt_eq]; exact fun _ => rfl
  · rw [← mulFlt_eq]; exact fun _ => rfl
  · rw [← divFlt_eq]; exact fun _ => rfl

theorem runs_floats64 {p : Instr × Nat × (Nat → Nat → Nat) × Bool} (hp : p ∈ floats64) :
    Runs p.1 p.2.1 (opF64 (fltResult fmt64 p.2.2.1 p.2.2.2)) := by
  simp only [floats64, List.mem_cons, List.not_mem_nil, or_false] at hp
  rcases hp with rfl | rfl | rfl | rfl
  · rw [← addFlt_eq]; exact fun _ => rfl
  · rw [← subFlt_eq]; exact fun _ => rfl
  · rw [← mulFlt_eq]; exact fun _ => rfl
  · rw [← divFlt_eq]; exact fun _ => rfl

/-! ### Operations without Z and N -/

theorem fabs_fmt32 (a : Nat) : fabs fmt32 a = a % 2 ^ 31 := bitsOf_zero a 31

theorem fneg_fmt32 (a : Word) : fneg fmt32 a.toNat = (a.toNat + 2 ^ 31) % 2 ^ 32 := by
  have := a.isLt
  have hsign : fmt32.e + fmt32.m = 31 := rfl
  rw [fneg, hsign, bitOf]
  by_cases hneg : 2 ^ 31 ≤ a.toNat
  · rw [if_pos (decide_eq_true (by omega))]; omega
  · rw [if_neg (by rw [decide_eq_true_eq]; omega)]; omega

/-- The operations on WACC alone: the result, and whether it sets V. -/
def conversions32 : List (Instr × Nat × (Nat → Nat × Bool)) :=
  [(.thSqrtf, 92, fun a => (fsqrt fmt32 a, flt fmt32 a 0)), (.thAbsf, 93, fun a => (a % 2 ^ 31, false)),
    (.thNegf, 94, fun a => ((a + 2 ^ 31) % 2 ^ 32, false)), (.thItof, 104, fun a => (fofInt fmt32 (sInt 32 a), false)),
    (.thUtof, 105, fun a => (fofInt fmt32 a, false)),
    (.thFtoi, 106, fun a => (uNat 32 (ftoInt fmt32 32 a).1, (ftoInt fmt32 32 a).2))]

theorem runs_conversions32 {p : Instr × Nat × (Nat → Nat × Bool)} (hp : p ∈ conversions32) :
    ∃ f, Runs p.1 p.2.1 (opConv32 f) ∧ ∀ a : Word, f a.toNat = p.2.2 a.toNat := by
  simp only [conversions32, List.mem_cons, List.not_mem_nil, or_false] at hp
  rcases hp with rfl | rfl | rfl | rfl | rfl | rfl
  · exact ⟨_, fun _ => rfl, fun _ => rfl⟩
  · exact ⟨_, fun _ => rfl, fun a => congrArg (·, false) (fabs_fmt32 a.toNat)⟩
  · exact ⟨_, fun _ => rfl, fun a => congrArg (·, false) (fneg_fmt32 a)⟩
  all_goals exact ⟨_, fun _ => rfl, fun _ => rfl⟩

theorem opConv32_eq {f g : Nat → Res} (c : ThCtx) (w : Nat) (x : ThMem) (h : ∀ a : Word, f a.toNat = g a.toNat) :
    opConv32 f c w x = .ok { x with m := { x.m with
      wacc := BitVec.ofNat 32 (g x.m.wacc.toNat).1, v := x.m.v || (g x.m.wacc.toNat).2 } } := by
  rw [opConv32, h]; rfl

/-- The operations on WEXT:WACC, and those that widen WACC. -/
def conversions64 : List (Instr × Nat × (Nat → Nat × Bool)) :=
  [(.thSqrtd, 100, fun a => (fsqrt fmt64 a, flt fmt64 a 0)),
    (.thDtof, 108, fun a => (fconv fmt64 fmt32 a, fisFin fmt64 a && !fisFin fmt32 (fconv fmt64 fmt32 a))),
    (.thLtod, 110, fun a => (fofInt fmt64 (sInt 64 a), false)),
    (.thDtol, 111, fun a => (uNat 64 (ftoInt fmt64 64 a).1, (ftoInt fmt64 64 a).2)),
    (.thFtod, 107, fun a => (fconv fmt32 fmt64 (a % 2 ^ 32), false)), (.thItol, 109, fun a => (uNat 64 (sInt 32 a), false))]

/-- A conversion that widens WACC is one of WEXT:WACC that looks at the low word alone. -/
theorem opWiden_eq {f g : Nat → Nat} (h : ∀ a, g a = f (a % 2 ^ 32)) : opWiden f = opConv64 fun a => (g a, false) := by
  funext c w x
  have hlow : g x.m.wide = f x.m.wacc.toNat := by rw [h, wide_mod]
  simp only [opWiden, opConv64, hlow, ThMem.orV, Bool.or_false]

theorem runs_thFtod : Runs .thFtod 107 (opConv64 fun a => (fconv fmt32 fmt64 (a % 2 ^ 32), false)) := by
  rw [← opWiden_eq (f := fconv fmt32 fmt64) fun _ => rfl]; exact fun _ => rfl

theorem runs_thItol : Runs .thItol 109 (opConv64 fun a => (uNat 64 (sInt 32 a), false)) := by
  rw [← opWiden_eq (f := fun a => uNat 64 (sInt 32 a)) fun a => by simp [sInt]]; exact fun _ => rfl

theorem runs_conversions64 {p : Instr × Nat × (Nat → Nat × Bool)} (hp : p ∈ conversions64) :
    Runs p.1 p.2.1 (opConv64 p.2.2) := by
  simp only [conversions64, List.mem_cons, List.not_mem_nil, or_false] at hp
  rcases hp with rfl | rfl | rfl | rfl | rfl | rfl
  · exact fun _ => rfl
  · exact fun _ => rfl
  · exact fun _ => rfl
  · exact fun _ => rfl
  · exact runs_thFtod
  · exact runs_thItol

end Sys2Proof.Machine
end

section
/-! SETTLED. Float arithmetic and conversions. -/

namespace Sys2Proof.Certificates

open Sys2Proof.Machine Sys2Proof.Safety

/-- Settles O35: each operation is one result of its format, with the flags of a float; a conversion leaves Z and N. -/
theorem thymeFloat : Obligations.ThymeFloat := by
  unfold Obligations.ThymeFloat
  intro s t w l c
  refine ⟨?_, ?_, ?_, ?_, ?_, ?_⟩
  · exact fun p v hp h hv => (runs_floats32 hp).leaves_read h rfl hv
      (congrArg _ (znF32_result (Bool.or_assoc ..).symm))
  · exact fun p v hp h hv => (runs_floats64 hp).leaves_read h rfl hv
      (congrArg _ (znF64_result (Bool.or_assoc ..).symm))
  · intro p hp h hv
    simp only [List.mem_cons, List.not_mem_nil, or_false] at hp
    rcases hp with rfl | rfl | rfl | rfl | rfl <;>
      exact Runs.faults_index (fun _ => rfl) h rfl hv (indexOnly_wordOperand _ _ _ _)
  · intro p hp h hv
    simp only [List.mem_cons, List.not_mem_nil, or_false] at hp
    rcases hp with rfl | rfl | rfl | rfl | rfl <;>
      exact Runs.faults_index (fun _ => rfl) h rfl hv (indexOnly_wideOperand _ _ _ _)
  · intro p hp h
    obtain ⟨f, hruns, hf⟩ := runs_conversions32 hp
    exact hruns.leaves h (opConv32_eq _ w _ hf)
  · exact fun p hp h => (runs_conversions64 hp).leaves h rfl

end Sys2Proof.Certificates
end

section
/-! SETTLED. Programs that start, stop and go, and the task cycle. -/

namespace Sys2Proof.Certificates

open Sys2Proof.Machine Sys2Proof.Safety

/-! ### A session that closes with its response -/

/-- A PROGRAM_UNLOAD of a session that has one record left to send. -/
def unloadRequest : Req :=
  { route := .session 4, command := 0x0305, seq := 1, tag := 7, session := 9, more := false, payload := [], pended := false }

/-- A program without code and tasks. -/
def emptyProgram : Program := { id := 9, mask := 0, code := [], tasks := [], maps := [], insts := [], image := [] }

/-- Every island runs, a program without tasks is loaded, and the request waits; the vault holds the session's keys. -/
def lastRecordUnload : State :=
  { islands := (List.range 12).map fun i => (i, { state := .run })
    mail := { ready := true, sessions := [(4, lastRecordSession)], inProgress := [unloadRequest] }
    thyme := { loaded := some { prog := emptyProgram } }
    vault := { sessKeys := [(2, [])] } }

/-- Refutes O8: its clause on the unload of a loaded program has `vault` stay as it is, which the clause on an exchange does
not. Where the response PENDING is the last record its session may send (04 R141), the session closes, and the vault loses
its keys. -/
theorem not_programRunEffect : ¬ Obligations.ProgramRunEffect := by
  unfold Obligations.ProgramRunEffect
  intro hall
  have hserved : Served lastRecordUnload (.session 4) 7 0x0305 unloadRequest := by decide
  have hopen : Open lastRecordUnload iTHY := by decide
  obtain ⟨-, -, -, -, -, -, hunload⟩ := hall lastRecordUnload (.session 4) 7 unloadRequest
  obtain ⟨t, ht, -, -, -, -, -, -, -, honly⟩ := hunload hserved hopen rfl rfl rfl rfl rfl
  have hvault : t.vault = lastRecordUnload.vault := honly .vault (by decide)
  have hlost : t.vault.sessKeys = [] := by
    cases ht
    decide
  rw [hvault] at hlost
  exact absurd hlost (by decide)

/-! ### A register table that lists TH_CTRL twice -/

/-- SAGE and THY in RUN, and TH_CTRL listed twice with RUN set: data of the state's type outside the canonical form of its
tables (`tabWf`), which the statement on the task cycle does not ask for. -/
def thCtrlTwice : State :=
  { State.reset with
    regs := [(rThCtrl, 1), (rThCtrl, 1)]
    islands := [(iSAGE, { state := .run }), (iTHY, { state := .run })] }

/-- In a canonical table a stop clears RUN. -/
theorem thRun_stopProgram {s : State} (h : tabWf s.regs = true) : thRun (stopProgram s) = false := by
  have hreg : (stopProgram s).reg rThCtrl = putBits (s.reg rThCtrl) 0 1 0 % 2 ^ 32 := reg_setReg_same _ _ h
  rw [thRun, State.rbit, hreg, bitOf, putBits, bitsOf]
  exact decide_eq_false (by omega)

/-- Refutes O49: its clause on a write of TH_CTRL that stops the program lacks `tabWf s.regs`. Where the table lists TH_CTRL
twice with RUN set, clearing RUN reaches the reset value and removes the first entry; the second stays, and RUN reads 1. In
a canonical table the stop clears it (`thRun_stopProgram`). -/
theorem not_taskCycleEffect : ¬ Obligations.TaskCycleEffect := by
  unfold Obligations.TaskCycleEffect
  intro hall
  have hreach : Reaches thCtrlTwice .steward rThCtrl (0 : Word).toNat true := by decide
  obtain ⟨-, -, -, -, -, -, -, -, hstop⟩ := hall thCtrlTwice 0
  obtain ⟨t, ht, hrun, -⟩ := hstop .steward 0 (by decide) hreach rfl (by decide) rfl (by decide) rfl rfl
  have hleft : thRun t = true := by
    cases ht
    decide
  rw [hrun] at hleft
  exact absurd hleft (by decide)

end Sys2Proof.Certificates
end

section
/-! SUPPORT. Thyme's edge detectors, timers and counters as operations (06 Table 6.7; 07 R202 to R208). -/

namespace Sys2Proof.Machine

open Sys2Proof.Safety

theorem wInst_eq (w : Nat) : wInst w = w % 2 ^ 15 := bitsOf_zero w 15

/-! ### Edge detectors (R208) -/

/-- The edge detectors, with the edge of the input against the previous one. -/
def edgeDetectors : List (Instr × Nat × (Bool → Bool → Bool)) :=
  [(.thEdgp, 24, fun i v => i && !v), (.thEdgn, 25, fun i v => !i && v)]

theorem runs_edgeDetectors {p : Instr × Nat × (Bool → Bool → Bool)} (hp : p ∈ edgeDetectors) :
    Runs p.1 p.2.1 (opEdge p.2.2) := by
  simp only [edgeDetectors, List.mem_cons, List.not_mem_nil, or_false] at hp
  rcases hp with rfl | rfl <;> exact fun _ => rfl

theorem opEdge_eq (f : Bool → Bool → Bool) (c : ThCtx) (w : Nat) (x : ThMem) :
    opEdge f c w x = .ok { x with
      edges := tabSet x.edges (w % 2 ^ 15) { prev := x.m.ba, fresh := false }
      m := { x.m with
        ba := f x.m.ba (if (tabGetD x.edges (w % 2 ^ 15) {}).fresh = true then x.m.ba
          else (tabGetD x.edges (w % 2 ^ 15) {}).prev) } } := by
  rw [opEdge, wInst_eq]; rfl

/-! ### Timers (R202 to R205) -/

/-- The timers, with the evaluation of each (R204). -/
def timerKinds : List (Instr × Nat × (TimerInst → Bool → Nat → Nat → TimerInst)) :=
  [(.thTon, 26, tonEval), (.thTof, 27, tofEval), (.thTp, 28, tpEval)]

theorem runs_timerKinds {p : Instr × Nat × (TimerInst → Bool → Nat → Nat → TimerInst)} (hp : p ∈ timerKinds) :
    Runs p.1 p.2.1 (opTimer p.2.2) := by
  simp only [timerKinds, List.mem_cons, List.not_mem_nil, or_false] at hp
  rcases hp with rfl | rfl | rfl <;> exact fun _ => rfl

/-- What a timer stores of itself: IN = BA, PT = WACC in the word's UNIT (R203). -/
theorem opTimer_eq (f : TimerInst → Bool → Nat → Nat → TimerInst) (c : ThCtx) (w : Nat) (x : ThMem) {i : TimerInst}
    (hi : i = f (tabGetD x.timers (w % 2 ^ 15) {}) x.m.ba (x.m.wacc.toNat * unitUs (wUnit w)) c.clock) :
    opTimer f c w x = .ok { x with timers := tabSet x.timers (w % 2 ^ 15) i, m := { x.m with ba := i.q } } := by
  rw [hi, opTimer, wInst_eq]; rfl

/-- A value held at the largest word: Z and N are those of the held value, and V tells that it was held (R205). -/
theorem zn32_held (x : ThMem) (q : Nat) :
    ((x.setAcc (min q 0xFFFFFFFF)).zn32).orV (decide (0xFFFFFFFF < q)) =
      { x with m := { x.m with
          wacc := BitVec.ofNat 32 (min q 0xFFFFFFFF), z := decide (q = 0), n := decide (2 ^ 31 ≤ min q 0xFFFFFFFF)
          v := x.m.v || decide (0xFFFFFFFF < q) } } := by
  have hz : (BitVec.ofNat 32 (min q 0xFFFFFFFF) == 0) = decide (q = 0) := by
    rw [Bool.eq_iff_iff, beq_iff_eq, decide_eq_true_eq, ← BitVec.toNat_inj, BitVec.toNat_ofNat]
    simp only [BitVec.ofNat_eq_ofNat, BitVec.toNat_ofNat]
    omega
  have hn : (BitVec.ofNat 32 (min q 0xFFFFFFFF)).msb = decide (2 ^ 31 ≤ min q 0xFFFFFFFF) := by
    rw [BitVec.msb_eq_decide, BitVec.toNat_ofNat, decide_eq_decide]
    omega
  rw [zn32_result rfl rfl, hz, hn]

theorem opTet_eq (c : ThCtx) (w : Nat) (x : ThMem) {q : Nat}
    (hq : q = (tabGetD x.timers (w % 2 ^ 15) {}).et / unitUs (wUnit w)) :
    opTet c w x = .ok { x with m := { x.m with
      wacc := BitVec.ofNat 32 (min q 0xFFFFFFFF), z := decide (q = 0), n := decide (2 ^ 31 ≤ min q 0xFFFFFFFF)
      v := x.m.v || decide (0xFFFFFFFF < q) } } := by
  rw [← zn32_held, hq, opTet, wInst_eq]

/-! ### Counters (R207) -/

/-- A counter counts up on a rising input, unless its memory is fresh or CV is the largest i32. -/
theorem ctuEval_eq (k : CounterInst) (cu : Bool) : ctuEval k cu = { k with
    cv := if cu = true ∧ k.upFresh = false ∧ k.upPrev = false ∧ k.cv < 2147483647 then k.cv + 1 else k.cv
    upPrev := cu, upFresh := false } := by
  obtain ⟨cv, up, dn, upFresh, dnFresh⟩ := k
  cases upFresh with
  | true => simp [ctuEval]
  | false => by_cases hcount : cu = true ∧ up = false ∧ cv < 2147483647 <;> simp [ctuEval, hcount, and_assoc]

/-- A counter counts down on a rising input, unless its memory is fresh or CV is the least i32. -/
theorem ctdEval_eq (k : CounterInst) (cd : Bool) : ctdEval k cd = { k with
    cv := if cd = true ∧ k.dnFresh = false ∧ k.dnPrev = false ∧ -2147483648 < k.cv then k.cv - 1 else k.cv
    dnPrev := cd, dnFresh := false } := by
  obtain ⟨cv, up, dn, upFresh, dnFresh⟩ := k
  cases dnFresh with
  | true => simp [ctdEval]
  | false => by_cases hcount : cd = true ∧ dn = false ∧ -2147483648 < cv <;> simp [ctdEval, hcount, and_assoc]

theorem opCtu_eq (c : ThCtx) (w : Nat) (x : ThMem) {k : CounterInst} {cv : Int}
    (hk : k = tabGetD x.counters (w % 2 ^ 15) {})
    (hcv : cv = if x.m.ba = true ∧ k.upFresh = false ∧ k.upPrev = false ∧ k.cv < 2147483647 then k.cv + 1 else k.cv) :
    opCtu c w x = .ok { x with
      counters := tabSet x.counters (w % 2 ^ 15) { k with cv := cv, upPrev := x.m.ba, upFresh := false }
      m := { x.m with ba := decide (sInt 32 x.m.wacc.toNat ≤ cv) } } := by
  rw [opCtu, ThMem.counter, ctuEval_eq, wInst_eq, ← hk, ← hcv, ThMem.setCounter, wInst_eq]; rfl

theorem opCtd_eq (c : ThCtx) (w : Nat) (x : ThMem) {k : CounterInst} {cv : Int}
    (hk : k = tabGetD x.counters (w % 2 ^ 15) {})
    (hcv : cv = if x.m.ba = true ∧ k.dnFresh = false ∧ k.dnPrev = false ∧ -2147483648 < k.cv then k.cv - 1 else k.cv) :
    opCtd c w x = .ok { x with
      counters := tabSet x.counters (w % 2 ^ 15) { k with cv := cv, dnPrev := x.m.ba, dnFresh := false }
      m := { x.m with ba := decide (cv ≤ 0) } } := by
  rw [opCtd, ThMem.counter, ctdEval_eq, wInst_eq, ← hk, ← hcv, ThMem.setCounter, wInst_eq]; rfl

/-- CV of the counter of a word is replaced. -/
theorem setCounter_cv (x : ThMem) (w : Nat) (cv : Int) : x.setCounter w { x.counter w with cv := cv } =
    { x with counters := tabSet x.counters (w % 2 ^ 15) { tabGetD x.counters (w % 2 ^ 15) {} with cv := cv } } := by
  rw [ThMem.setCounter, ThMem.counter, wInst_eq]

theorem opCrst_eq (c : ThCtx) (w : Nat) (x : ThMem) : opCrst c w x = .ok (if x.m.ba = true then
    { x with counters := tabSet x.counters (w % 2 ^ 15) { tabGetD x.counters (w % 2 ^ 15) {} with cv := 0 } } else x) := by
  rw [opCrst, setCounter_cv]

theorem opCld_eq (c : ThCtx) (w : Nat) (x : ThMem) : opCld c w x = .ok (if x.m.ba = true then
    { x with
      counters := tabSet x.counters (w % 2 ^ 15)
        { tabGetD x.counters (w % 2 ^ 15) {} with cv := sInt 32 x.m.wacc.toNat } } else x) := by
  rw [opCld, setCounter_cv]

theorem opTcv_eq (c : ThCtx) (w : Nat) (x : ThMem) {a : Word}
    (ha : a = BitVec.ofInt 32 (tabGetD x.counters (w % 2 ^ 15) {}).cv) :
    opTcv c w x = .ok { x with m := { x.m with wacc := a, z := a == 0, n := a.msb } } := by
  rw [ha, ← ofNat_uNat, opTcv, ThMem.counter, wInst_eq]; rfl

end Sys2Proof.Machine
end

section
/-! SETTLED. Edge detectors, timers and counters. -/

namespace Sys2Proof.Certificates

open Sys2Proof.Machine Sys2Proof.Safety

/-- Settles O31: each instruction reads its detector, timer or counter, stores what that becomes, and loads an accumulator
from it. -/
theorem thymeInstances : Obligations.ThymeInstances := by
  unfold Obligations.ThymeInstances
  intro s t w l c
  refine ⟨?_, ?_, ?_, ?_, ?_, ?_, ?_, ?_⟩
  · exact fun p hp h => (runs_edgeDetectors hp).leaves h (opEdge_eq ..)
  · exact fun p hp h => (runs_timerKinds hp).leaves h (opTimer_eq _ _ w _ rfl)
  · exact fun h => Runs.leaves (f := opTet) (fun _ => rfl) h (opTet_eq _ w _ rfl)
  · exact fun cv h hcv => Runs.leaves (f := opCtu) (fun _ => rfl) h (opCtu_eq _ w _ rfl hcv)
  · exact fun cv h hcv => Runs.leaves (f := opCtd) (fun _ => rfl) h (opCtd_eq _ w _ rfl hcv)
  · exact fun h => Runs.leaves (f := opCrst) (fun _ => rfl) h (opCrst_eq ..)
  · exact fun h => Runs.leaves (f := opCld) (fun _ => rfl) h (opCld_eq ..)
  · exact fun h => Runs.leaves (f := opTcv) (fun _ => rfl) h (opTcv_eq _ w _ rfl)

end Sys2Proof.Certificates
end

section
/-! SUPPORT. Changes of the configuration under which the system points stand (22 R570; 10 R285): the parts that defining
and undefining them touches. -/

namespace Sys2Proof.Machine

open Sys2Proof.Safety

/-- The parts that a change of the system points may touch. -/
abbrev systemPointParts : List StatePart := [.regs, .fabric, .harvest, .switch, .twin, .chk]

theorem only_claimFree (s : State) (pt writer : Nat) : Only [.regs, .fabric, .chk] s (claimFree s pt writer) := by
  refine Only.mono (only_editPoint (ps := [.fabric, .chk]) (fun t pt => ?_) s pt) (by decide)
  split
  · exact Only.refl _ t
  · exact only_putPoint t pt _

theorem only_claimForDevice (s : State) (pt : Nat) : Only [.regs, .fabric, .chk] s (claimForDevice s pt) := by
  unfold claimForDevice
  split
  · exact only_claimFree s pt _
  · exact Only.refl _ s

theorem only_definePoint (s : State) (pt owner type : Nat) (retentive : Bool) :
    Only [.regs, .fabric, .chk] s (definePoint s pt owner type retentive) := by
  have hput : Only [.regs, .fabric, .chk] s (s.putPoint pt (PointRec.fresh owner type retentive)) :=
    Only.mono (only_putPoint s pt _) (by decide)
  unfold definePoint
  dsimp only
  refine Only.trans (Only.trans hput ?_) (only_claimForDevice _ pt)
  split
  · split
    · exact Only.mono (only_fabric _ _) (by decide)
    · exact Only.refl _ _
  · exact Only.refl _ _

theorem only_sysValue (s : State) (pt : Nat) : Only [.fabric, .chk] s (sysValue s pt) := by
  unfold sysValue
  split
  · exact only_putPoint s pt _
  · exact Only.refl _ s

theorem only_sysDefine (s : State) (x : SysPoint) : Only systemPointParts s (sysDefine s x) :=
  Only.mono (Only.seq (only_definePoint s x.pt x.owner x.type false)
    (Only.seq (only_putPoint _ x.pt _) (only_sysValue _ x.pt))) (by decide)

theorem only_syncSystem (s : State) : Only systemPointParts s (syncSystem s) := by
  unfold syncSystem
  refine Only.trans (only_foldl _ (fun t pt => (undefinePoint_keeps t pt).2.2) _ s) (only_foldl _ (fun t x => ?_) _ _)
  split
  · exact Only.refl _ t
  · exact only_sysDefine t x

theorem only_resync (s : State) : Only systemPointParts s (resync s) := by
  unfold resync
  split
  · exact only_syncSystem s
  · exact Only.refl _ s

@[simp] theorem resync_meter (s : State) : (resync s).meter = s.meter := only_resync s .meter (by decide)

theorem only_meter (s : State) (m : Meter) : Only [.meter] s { s with meter := m } := by
  intro p hp
  cases p
  case meter => simp at hp
  all_goals rfl

/-- A meter change inside MTR that Sage core 0 asked for, and the system points brought in line with it. -/
theorem only_resync_meter (s : State) (m : Meter) :
    Only [.regs, .islands, .fabric, .harvest, .meter, .switch, .twin, .chk] s (resync { crossed s iMTR with meter := m }) :=
  Only.mono (Only.seq (only_crossed s iMTR) (Only.seq (only_meter _ m) (only_resync _))) (by decide)

end Sys2Proof.Machine
end

section
/-! SUPPORT. The metering commands (05 Table 5.1; 09 R264, R265, R268; 10 R288, R295, R297): what MTR does with the payload
of each that Steward takes. -/

namespace Sys2Proof.Machine

open Sys2Proof.Safety

/-- Outside the active role nothing is shipped (16 R451). -/
theorem shipConfig_single {s : State} (code : Nat) (payload : List Byte) (h : s.twin.role = .single) :
    shipConfig s code payload = s := by
  simp [shipConfig, ship, h]

/-- A list without a second entry repeats none. -/
theorem eraseDups_single (n : Nat) : [n].eraseDups = [n] := rfl

theorem routeTenant_of_mail {s t : State} (h : t.mail = s.mail) (r : Route) : routeTenant t r = routeTenant s r := by
  cases r <;> simp [routeTenant, routeBind, State.box, h]

/-- Requests that agree on the state at their requester and on the state their target meets are one crossing. -/
theorem crossing_congr {α : Type} {s : State} {src dst source : Nat} {refused : Nat → α} {statusOf : α → Nat}
    {f g : State → α × State} (h : f s = g s) (hreach : f (reach s src dst).2 = g (reach s src dst).2) :
    crossing s src dst source refused statusOf f = crossing s src dst source refused statusOf g := by
  unfold crossing
  dsimp only
  rw [h, hreach]

/-- A configuration command that MTR performs with OK ships its payload. -/
theorem toIsland_configures {s w : State} {code : Nat} {p : List Byte} {f : State → List Byte → Nat × State}
    (hopen : Open s iMTR) (hf : f (crossed s iMTR) p = (stOk, w)) :
    toIsland s iMTR (fun t => done (f t p).1 (if (f t p).1 = stOk then shipConfig (f t p).2 code p else (f t p).2)) =
      ((stOk, []), shipConfig w code p) :=
  toIsland_ok hopen (by simp [hf, done])

/-! ### CIRCUIT_MAP -/

/-- An entry as a circuit takes it where none was mapped (R265). -/
def freshCircuit (s : State) (cfg : CircuitCfg) : Circuit := { cfg := cfg, cal := s.meter.cal, lastEnd := s.meter.lastSample }

theorem putCircuit_unmapped {s : State} {e : Nat × CircuitCfg} (hkind : e.2.kind ≠ 0)
    (hnone : tabGet s.meter.circuits e.1 = none) : putCircuit s e = s.setCircuit e.1 (freshCircuit s e.2) := by
  simp [putCircuit, hnone, hkind, freshCircuit]

theorem circuitMap_one {s : State} {p : List Byte} (hcount : fld p 0 2 = 1) (hzero : fld p 2 2 = 0)
    (hformed : circuitFormed (sub p 4 8) = true) (hkind : (circuitOf (sub p 4 8)).2.kind ≠ 0)
    (hsound : mapSound (tabSet (latestMap s) (circuitOf (sub p 4 8)).1 (circuitOf (sub p 4 8)).2) s.meter.cal = true)
    (hnone : tabGet s.meter.circuits (circuitOf (sub p 4 8)).1 = none) :
    circuitMap s p = (stOk, resync (s.setCircuit (circuitOf (sub p 4 8)).1 (freshCircuit s (circuitOf (sub p 4 8)).2))) := by
  simp [circuitMap, hcount, hzero, entriesAt_single, hformed, hkind, hsound, eraseDups_single,
    putCircuit_unmapped hkind hnone]

theorem exec_circuitMap_one {s : State} {r : Route} {tag : Nat} {q : Req} (hserved : Served s r tag 0x0502 q)
    (hopen : Open s iMTR) (hlength : q.payload.length = 12) (hcount : fld q.payload 0 2 = 1) {w : State}
    (hmap : circuitMap (crossed s iMTR) q.payload = (stOk, w)) :
    Answers (.circuitMap r tag) s q (shipConfig w 0x0502 q.payload) [] := by
  refine congrArg Host.Outcome.next (serve_answers hserved rfl ?_)
  simp only [hlength, hcount]
  rw [if_neg (by decide)]
  exact toIsland_configures (f := circuitMap) hopen hmap

/-! ### CALIBRATION_LOAD -/

/-- A request that brings all of a transfer's data at once (R158). -/
theorem transferPart_single {s : State} {q : Req} {total check : Nat} {data : List Byte}
    (hnone : transferOf s q.command = none) (hmore : q.more = false) (hlength : data.length = total) :
    ∃ t : Transfer, transferPart s q 0 total check data = .whole t ∧ t.data = data := by
  refine ⟨{ command := q.command, route := q.route, tag := q.tag, total := total, data := data, received := data.length
            last := s.now, check := check }, ?_, rfl⟩
  simp [transferPart, hnone, hmore, hlength]

/-- A calibration set that is complete waits for its check (R268). -/
def calibrationWaits (s : State) (d : List Byte) : State :=
  { crossed s iMTR with
    mail := { s.mail with transfers := s.mail.transfers.filter (·.command != 0x0503) }
    meter := { s.meter with calDue := some d } }

theorem exec_calibrationLoad_whole {s : State} {r : Route} {tag : Nat} {q : Req} {d : List Byte}
    (hserved : Served s r tag 0x0503 q) (hopen : Open s iMTR) (hpayload : q.payload = leBytes 4 0 ++ leBytes 4 976 ++ d)
    (hlength : d.length = 976) (hmore : q.more = false) (hcommand : q.command = 0x0503)
    (hnone : transferOf s 0x0503 = none) (hdue : s.meter.calDue = none) :
    Pends (.calibrationLoad r tag) s q (calibrationWaits s d) [] := by
  obtain ⟨t, hpart, rfl⟩ := transferPart_single (check := 0) (by rw [hcommand]; exact hnone) hmore hlength
  have hopen' : Open (endTransfer s 0x0503) iMTR := hopen
  have hoffset : fld q.payload 0 4 = 0 := by simp [hpayload]
  have htotal : fld q.payload 4 4 = 976 := by simp [hpayload]
  have hlong : ¬q.payload.length < 8 := by simp [hpayload, hlength]
  have hdata : q.payload.drop 8 = t.data := by simp [hpayload, List.drop_append, List.drop_eq_nil_of_le]
  have hbody : (crossed (endTransfer s 0x0503) iMTR).meter.calDue = none := hdue
  refine congrArg Host.Outcome.next ((serve_served _ hserved rfl).trans ?_)
  simp only [hlong, hoffset, htotal, hdata, hpart, if_false, ne_eq, not_true_eq_false, toIsland_open _ hopen', hbody,
    Option.isSome_none, Bool.false_eq_true, done, lastError_pended]
  rfl

theorem calibrationChecked_single {s : State} {q : Req} {d : List Byte} (hdue : s.meter.calDue = some d)
    (hrun : s.running iMTR = true) (hpended : pendedReq s 0x0503 = some q) (hrole : s.twin.role = .single) :
    calibrationChecked s = if calSound s d = true then
        respond { s with meter := { s.meter with calDue := none, cal := calOf d, calSaved := some (mramPair d) } } q stOk []
      else respond { s with meter := { s.meter with calDue := none } } q stBadArgument [] := by
  have hcomplete (t : State) (ht : t.mail = s.mail) (st : Nat) : complete_ t 0x0503 st [] = respond t q st [] := by
    have : pendedReq t 0x0503 = some q := by rw [pendedReq, ht]; exact hpended
    rw [complete_, this]
  have hrun' (m : Meter) : ({ s with meter := m } : State).running iMTR = true := hrun
  have hsound (m : Meter) (hm : m.circuits = s.meter.circuits) : calSound { s with meter := m } d = calSound s d := by
    simp only [calSound, latestMap, hm]
  simp only [calibrationChecked, hdue, hrun', loadCalibration, hsound]
  by_cases h : calSound s d = true
  · simp [h, shipConfig_single, hrole, hcomplete]
  · simp [h, hcomplete]

/-! ### ACC_CONFIG and SPILL_CONFIG -/

theorem exec_accConfig {s : State} {r : Route} {tag n m : Nat} {q : Req} (hserved : Served s r tag 0x0504 q)
    (hopen : Open s iMTR) (hpayload : q.payload = leBytes 2 n ++ leBytes 1 m ++ leBytes 1 0) (hn : n < 65536) (hm : m < 2)
    (hassigned : accAssigned n = true) (hcombined : accCombined n = true) :
    Answers (.accConfig r tag) s q (shipConfig
      ((crossed s iMTR).setAcc n { s.acc n with newAbsolute := some (m == 1) }) 0x0504 q.payload) [] := by
  have hnumber : fld q.payload 0 2 = n := by simp [hpayload]; omega
  have hmode : fld q.payload 2 1 = m := by simp [hpayload]; omega
  have hzero : fld q.payload 3 1 = 0 := by simp [hpayload]
  have hvalid : ¬((0 : Nat) ≠ 0 ∨ 1 < m ∨ (!accAssigned n) = true ∨ (!accCombined n) = true) := by
    simp [hassigned, hcombined]; omega
  have hconf : accConfig (crossed s iMTR) q.payload =
      (stOk, (crossed s iMTR).setAcc n { s.acc n with newAbsolute := some (m == 1) }) := by
    simp only [accConfig, hnumber, hmode, hzero]
    rw [if_neg hvalid]
    rfl
  refine congrArg Host.Outcome.next (serve_answers hserved rfl ?_)
  rw [if_neg (by simp [hpayload])]
  exact toIsland_configures (f := accConfig) hopen hconf

/-- A spill output bound anew (R297); a threshold of 0 leaves it unbound. -/
def Spill.bind (x : Spill) (n th wd : Nat) : Spill :=
  { x with bound := th != 0, acc := n, threshold := th, width := wd, residue := 0, backlog := 0, fresh := true }

theorem exec_spillConfig {s : State} {r : Route} {tag o n th wd : Nat} {q : Req} (hserved : Served s r tag 0x0506 q)
    (hopen : Open s iMTR) (hpayload : q.payload = leBytes 1 o ++ leBytes 1 0 ++ leBytes 2 n ++ leBytes 4 th ++ leBytes 2 wd ++
      leBytes 2 0) (ho : o < 8) (hn : n < 65536) (hth : th < 2 ^ 32) (hlow : 10 ≤ wd) (hhigh : wd ≤ 100)
    (hassigned : accAssigned n = true) :
    Answers (.spillConfig r tag) s q (shipConfig ((crossed s iMTR).setSpill o ((s.spill o).bind n th wd)) 0x0506 q.payload)
      [] := by
  have houtput : fld q.payload 0 1 = o := by simp [hpayload]; omega
  have hnumber : fld q.payload 2 2 = n := by simp [hpayload]; omega
  have hthreshold : fld q.payload 4 4 = th := by simp [hpayload]; omega
  have hwidth : fld q.payload 8 2 = wd := by simp [hpayload]; omega
  have hzero : fld q.payload 1 1 = 0 := by simp [hpayload]
  have hzero' : fld q.payload 10 2 = 0 := by simp [hpayload]
  have hvalid : ¬((0 : Nat) ≠ 0 ∨ (0 : Nat) ≠ 0 ∨ 8 ≤ o ∨ wd < 10 ∨ 100 < wd ∨ (!accAssigned n) = true) := by
    simp [hassigned]; omega
  have hconf : spillConfig (crossed s iMTR) q.payload =
      (stOk, (crossed s iMTR).setSpill o ((s.spill o).bind n th wd)) := by
    simp only [spillConfig, houtput, hnumber, hthreshold, hwidth, hzero, hzero']
    rw [if_neg hvalid]
    rfl
  refine congrArg Host.Outcome.next (serve_answers hserved rfl ?_)
  rw [if_neg (by simp [hpayload])]
  exact toIsland_configures (f := spillConfig) hopen hconf

/-! ### APPORTION_SET -/

/-- A fixed share of a circuit (R295). -/
def waitingEntry (c v : Nat) : AppEntry := { circuit := c, source := 0, value := v }

/-- A tenant's first slot with one entry that waits for the next block of its circuit (R295). -/
def waitingSlot (te c v : Nat) : TenantSlot :=
  { tenant := te, entries := [], newEntries := some [waitingEntry c v], newLeft := [c] }

theorem apportionSet_first {s : State} {p : List Byte} {te c v : Nat}
    (hp : p = leBytes 2 te ++ leBytes 2 1 ++ leBytes 2 c ++ leBytes 2 0 ++ leBytes 4 v) (hhouse : te ≠ house)
    (hte : te < nobody) (henrolled : enrolled s te = true) (hc : c < 48) (hv : v ≤ wholeShare) (hslots : s.meter.slots = [])
    (hmapped : (tabGet s.meter.circuits c).isSome = true) : apportionSet s p =
      (stOk, resync { s with meter := { s.meter with slots := tabSet [] 0 (waitingSlot te c v) } }) := by
  have htenant : fld p 0 2 = te := by simp [hp]; exact Nat.lt_trans hte (by decide)
  have hcount : fld p 2 2 = 1 := by simp [hp]
  have hentry : (entriesAt p 4 8 1).map (fun e =>
      ({ circuit := fld e 0 2, source := fld e 2 2, value := fld e 4 4 } : AppEntry)) = [waitingEntry c v] := by
    have hcircuit : c % 65536 = c := by omega
    have hvalue : v % 4294967296 = v := Nat.mod_eq_of_lt (Nat.lt_of_le_of_lt hv (by decide))
    simp [hp, entriesAt_single, sub_zero_of_length, waitingEntry, hcircuit, hvalue]
  have hfree : tabFree ([] : Tab TenantSlot) 0 256 = some 0 := rfl
  have hbusy : tabGet s.meter.circuits c ≠ none := Option.isSome_iff_ne_none.mp hmapped
  simp only [apportionSet, htenant, hcount, hentry, hslots, List.find?_nil, List.filter_nil, List.flatMap_nil,
    List.append_nil, List.map_cons, List.map_nil, eraseDups_single, Option.map_none, Option.none_or, hfree]
  rw [if_neg, if_neg (by simp)]
  · simp [tabGetD, tabGet, waitingEntry, waitingSlot, eraseDups_single, hbusy]
  · simp [waitingEntry, hhouse, henrolled]
    omega

theorem exec_apportionSet_first {s : State} {r : Route} {tag te c v : Nat} {q : Req} (hserved : Served s r tag 0x0505 q)
    (hopen : Open s iMTR) (hpayload : q.payload = leBytes 2 te ++ leBytes 2 1 ++ leBytes 2 c ++ leBytes 2 0 ++ leBytes 4 v)
    {w : State} (hset : apportionSet (crossed s iMTR) q.payload = (stOk, w)) :
    Answers (.apportionSet r tag) s q (shipConfig w 0x0505 q.payload) [] := by
  have hcount : fld q.payload 2 2 = 1 := by simp [hpayload]
  have hlength : q.payload.length = 12 := by simp [hpayload]
  refine congrArg Host.Outcome.next (serve_answers hserved rfl ?_)
  simp only [hcount, hlength]
  rw [if_neg (by decide)]
  exact toIsland_configures (f := apportionSet) hopen hset

/-! ### METER_READ, INSTANT_READ and DEMAND_READ -/

/-- What the reading of a point on behalf of a tenant touches, from MTR (R167). -/
theorem only_accReadable (s : State) (tenant n : Nat) : Only [.regs, .islands, .fabric, .chk] s (accReadable s tenant n).2 :=
  Only.mono (only_crossing s iMTR iPF 0 id id fun t => only_judged t _ tenant 0 .read) (by decide)

theorem meter_accReadable (s : State) (tenant n : Nat) : (accReadable s tenant n).2.meter = s.meter :=
  only_accReadable s tenant n .meter (by decide)

/-- The entry of METER_READ for an accumulator whose count is sound (05 Table 5.9). -/
def soundEntry (n : Nat) (x : Acc) : List Byte :=
  leBytes 2 n ++ leBytes 2 0 ++ leBytes 1 x.wraps ++ leBytes 1 (x.reported / 2 ^ 48 % 256) ++
    leBytes 1 (b2n x.wrapPending + b2n x.absolute * 2) ++ leBytes 1 0 ++ leBytes 8 x.reported ++
    leBytes 4 (x.reported / 2 ^ 16 % 2 ^ 32) ++ leBytes 4 0 ++ leBytes 8 x.time

theorem meterEntry_readable {s : State} {tenant n : Nat} (hassigned : accAssigned n = true)
    (hread : (accReadable s tenant n).1 = stOk) (hsound : (s.acc n).failed = false) :
    meterEntry s tenant n = (soundEntry n (s.acc n), (accReadable s tenant n).2) := by
  have hacc : (accReadable s tenant n).2.acc n = s.acc n := by rw [State.acc, meter_accReadable]; rfl
  simp only [meterEntry, hassigned, hread, hacc, hsound]
  rfl

theorem exec_meterRead_one {s : State} {r : Route} {tag n : Nat} {q : Req} (hserved : Served s r tag 0x0501 q)
    (hopen : Open s iMTR) (hpayload : q.payload = leBytes 2 n ++ leBytes 2 1) (hn : n < 65536)
    (hassigned : accAssigned n = true) (hread : (accReadable (crossed s iMTR) (routeTenant s q.route) n).1 = stOk)
    (hsound : (s.acc n).failed = false) :
    Answers (.meterRead r tag) s q (accReadable (crossed s iMTR) (routeTenant s q.route) n).2
      (leBytes 2 1 ++ leBytes 6 0 ++ soundEntry n (s.acc n)) := by
  have hfirst : fld q.payload 0 2 = n := by simp [hpayload]; omega
  have hcount : fld q.payload 2 2 = 1 := by simp [hpayload]
  have hstatus : fld (soundEntry n (s.acc n)) 2 2 = stOk := by simp [soundEntry]
  have hentry := meterEntry_readable hassigned hread (s := crossed s iMTR) hsound
  have hcross := crossing_open_ok 1 (fun st => leBytes 2 n ++ leBytes 2 st ++ leBytes 28 0)
    (f := fun s => meterEntry s (routeTenant _ q.route) n) (statusOf := fun e => fld e 2 2) hopen hentry hstatus
  refine congrArg Host.Outcome.next (serve_answers hserved rfl ?_)
  simp only [hfirst, hcount, List.range_one, List.foldl_cons, List.foldl_nil, Nat.add_zero, hcross]
  rw [if_neg (by simp [hpayload]), if_neg (by decide)]
  simp

/-- The instantaneous values of a single-phase circuit that has completed a block, in the order of R282. -/
def phaseValues (x : Circuit) : List Byte :=
  ([2, 5, 0xC, 0x10, 0x14, 1, 0x15].map fun o => leBytes 4 (x.out.values.getD o 0).toNat).flatten

/-- The judgement of an INSTANT_READ, on the circuit's point P total (R282). -/
def instantReadable (s : State) (tenant c : Nat) : Nat × State :=
  crossStatus s iMTR iPF 0 fun s => judged s (circuitBase c + 0xC) tenant 0 .read

theorem only_instantReadable (s : State) (tenant c : Nat) :
    Only [.regs, .islands, .fabric, .chk] s (instantReadable s tenant c).2 :=
  Only.mono (only_crossing s iMTR iPF 0 id id fun t => only_judged t _ tenant 0 .read) (by decide)

/-- The tenant of a route is the same on both sides of the crossing from MTR to the fabric. -/
theorem instantReadable_of_route (s : State) (r : Route) (c : Nat) :
    (crossStatus s iMTR iPF 0 fun t => judged t (circuitBase c + 0xC) (routeTenant t r) 0 .read) =
      instantReadable s (routeTenant s r) c := by
  have hmail : (reach s iMTR iPF).2.mail = s.mail := only_reach s iMTR iPF .mail (by decide)
  unfold instantReadable crossStatus
  apply crossing_congr
  · rfl
  · rw [routeTenant_of_mail hmail]

theorem instantEntry_valid {s : State} {tenant c : Nat} {x : Circuit} (hx : tabGet s.meter.circuits c = some x)
    (hread : (instantReadable s tenant c).1 = stOk) (hvalid : x.out.valid = true) (hkind : x.cfg.kind = 1) :
    instantEntry s tenant c = (leBytes 2 c ++ leBytes 2 0 ++ phaseValues x, (instantReadable s tenant c).2) := by
  have hvalues (t : State) : instantValues t x =
      ([2, 5, 0xC, 0x10, 0x14, 1, 0x15].map fun o => x.out.values.getD o 0, t) := by
    simp [instantValues, hvalid, hkind]
  simp only [instantReadable] at hread ⊢
  simp only [instantEntry, hx, hread, hvalues]
  simp [phaseValues]

theorem exec_instantRead_one {s : State} {r : Route} {tag c : Nat} {q : Req} {x : Circuit}
    (hserved : Served s r tag 0x0508 q) (hopen : Open s iMTR) (hpayload : q.payload = leBytes 2 c ++ leBytes 2 1)
    (hc : c < 65536) (hx : tabGet s.meter.circuits c = some x)
    (hread : (instantReadable (crossed s iMTR) (routeTenant s q.route) c).1 = stOk) (hvalid : x.out.valid = true)
    (hkind : x.cfg.kind = 1) :
    Answers (.instantRead r tag) s q (instantReadable (crossed s iMTR) (routeTenant s q.route) c).2
      (leBytes 2 c ++ leBytes 2 0 ++ phaseValues x) := by
  have hfirst : fld q.payload 0 2 = c := by simp [hpayload]; omega
  have hcount : fld q.payload 2 2 = 1 := by simp [hpayload]
  have hstatus : fld (leBytes 2 c ++ leBytes 2 0 ++ phaseValues x) 2 2 = stOk := by simp
  have hentry := instantEntry_valid (s := crossed s iMTR) hx hread hvalid hkind
  have hcross := crossing_open_ok 1 (fun st => leBytes 2 c ++ leBytes 2 st ++ leBytes 28 0)
    (f := fun s => instantEntry s (routeTenant _ q.route) c) (statusOf := fun e => fld e 2 2) hopen hentry hstatus
  refine congrArg Host.Outcome.next (serve_answers hserved rfl ?_)
  simp only [hfirst, hcount, List.range_one, List.foldl_cons, List.foldl_nil, Nat.add_zero, hcross]
  rw [if_neg (by simp [hpayload]), if_neg (by decide)]
  simp

/-- The most recent completed intervals, oldest first, as DEMAND_READ answers them (R292). -/
def demandBytes (d : Demand) (m : Nat) : List Byte :=
  ((d.history.take m).reverse.map fun x => leBytes 8 x.start ++ leBytes 4 x.imp ++ leBytes 4 x.exp ++ leBytes 8 0).flatten

theorem exec_demandRead {s : State} {r : Route} {tag n m : Nat} {q : Req} (hserved : Served s r tag 0x0507 q)
    (hopen : Open s iMTR) (hpayload : q.payload = leBytes 2 n ++ leBytes 2 m) (hn : n < 65536) (hlow : 1 ≤ m)
    (hhigh : m ≤ 126) (hassigned : accAssigned n = true) (hdemand : accDemand n = true) (hdefined : s.defined (accPoint n) = true)
    (hread : (accReadable (crossed s iMTR) (routeTenant s q.route) n).1 = stOk) :
    Answers (.demandRead r tag) s q (accReadable (crossed s iMTR) (routeTenant s q.route) n).2
      (demandBytes (s.demand n) m) := by
  have hnumber : fld q.payload 0 2 = n := by simp [hpayload]; omega
  have hcount : fld q.payload 2 2 = m := by simp [hpayload]; omega
  have htenant : routeTenant (crossed s iMTR) q.route = routeTenant s q.route := rfl
  have hkept : (accReadable (crossed s iMTR) (routeTenant s q.route) n).2.demand n = s.demand n := by
    rw [State.demand, meter_accReadable]; rfl
  have hknown : ¬((!accAssigned n) = true ∨ (!accDemand n) = true ∨ (!(crossed s iMTR).defined (accPoint n)) = true) := by
    have : (crossed s iMTR).defined (accPoint n) = true := hdefined
    simp [hassigned, hdemand, this]
  refine congrArg Host.Outcome.next (serve_answers hserved rfl ?_)
  simp only [hnumber, hcount]
  rw [if_neg (by simp [hpayload]), if_neg (by omega)]
  refine toIsland_ok hopen ?_
  rw [if_neg hknown, htenant, if_neg (by simp [hread]), hkept]
  rfl

end Sys2Proof.Machine
end

section
/-! SETTLED. The metering commands. -/

namespace Sys2Proof.Certificates

open Sys2Proof.Machine Sys2Proof.Safety

/-- Settles O10: each clause is the command's lemma above; what touches the system points is read through `resync`, which
leaves the meter alone. -/
theorem meteringCommandEffect : Obligations.MeteringCommandEffect := by
  unfold Obligations.MeteringCommandEffect
  intro s r tag q
  refine ⟨?_, ?_, ?_, ?_, ?_, ?_, ?_, ?_, ?_⟩
  · intro hserved hopen hlength hcount hzero hformed hkind hsound hnone
    have hmap := circuitMap_one (s := crossed s iMTR) hcount hzero hformed hkind hsound hnone
    refine ⟨_, exec_circuitMap_one hserved hopen hlength hcount hmap, ?_, only_resync_meter s _⟩
    rw [resync_meter]
    exact tabGet_set_same ..
  · exact fun d => exec_calibrationLoad_whole
  · exact fun d => calibrationChecked_single
  · exact fun n m => exec_accConfig
  · intro te c v k hserved hopen hpayload hhouse hte henrolled hc hv hslots hk hmapped
    have hset := apportionSet_first (s := crossed s iMTR) hpayload hhouse hte henrolled hc hv hslots hmapped
    refine ⟨_, exec_apportionSet_first hserved hopen hpayload hset, ?_, only_resync_meter s _⟩
    rw [resync_meter, hk]
    exact tabGet_set_same ..
  · exact fun o n th wd => exec_spillConfig
  · exact fun n => exec_meterRead_one
  · intro c x hserved hopen hpayload hc hx hread hvalid hkind
    rw [instantReadable_of_route] at hread
    have hexec := exec_instantRead_one hserved hopen hpayload hc hx hread hvalid hkind
    have honly := Only.seq (only_crossed s iMTR) (only_instantReadable (crossed s iMTR) (routeTenant s q.route) c)
    refine ⟨_, hexec, Only.mono honly ?_⟩
    decide
  · exact fun n m => exec_demandRead

end Sys2Proof.Certificates
end

section
/-! SUPPORT. The accumulator actions at ME_ACC_CTRL (10 R287, Table 10.16). -/

namespace Sys2Proof.Machine

open Sys2Proof.Safety

theorem writeReg_accCtrl (s : State) (by_ : Agent) (v : Nat) : writeReg s by_ rMeAccCtrl v = (stOk, accCtrlWrite s v) := rfl

/-- SNAP is a write of ME_ACC_CTRL with its bit set. -/
theorem exec_snap_performed {s : State} {by_ : Agent} {v : Word}
    (h : Safety.Reaches s by_ rMeAccCtrl (v.toNat ||| 0x10000) true) :
    Performs (.snap by_ v) s (accCtrlWrite (met s by_ rMeAccCtrl) (v.toNat ||| 0x10000)) 0 := by
  have hvalue : (v ||| 0x10000#32).toNat = v.toNat ||| 0x10000 := by simp
  have hok := congrArg Prod.fst (writeReg_accCtrl (met s by_ rMeAccCtrl) by_ (v ||| 0x10000#32).toNat)
  have hwrite := exec_registerWrite_performed (hvalue ▸ h) (by decide) hok
  rw [hvalue] at hwrite
  exact hwrite

theorem tabWf_regs_setReg {s : State} (a v : Nat) (h : tabWf s.regs = true) : tabWf (s.setReg a v).regs = true := by
  unfold State.setReg
  dsimp only
  split
  · exact tabDel_wf a h
  · exact tabSet_wf a _ h

/-- The register table is canonical and shows a word in ME_ACC_CTRL. -/
def NamesAcc (s : State) (n : Nat) : Prop := tabWf s.regs = true ∧ s.reg rMeAccCtrl = n

theorem NamesAcc.setReg_other {s : State} {n a : Nat} (v : Nat) (h : NamesAcc s n) (ha : rMeAccCtrl ≠ a) :
    NamesAcc (s.setReg a v) n :=
  ⟨tabWf_regs_setReg a v h.1, (reg_setReg_other v h.1 ha).trans h.2⟩

/-- Where the table lists every register once, ME_ACC_CTRL names the accumulator of its last write. -/
theorem reg_accCtrlWrite {s : State} (v : Nat) (h : tabWf s.regs = true) : (accCtrlWrite s v).reg rMeAccCtrl = v % 4096 := by
  have hnumber : bitsOf v 0 12 = v % 4096 := bitsOf_zero v 12
  have hstored : NamesAcc (s.setReg rMeAccCtrl (v % 4096)) (v % 4096) :=
    ⟨tabWf_regs_setReg _ _ h, (reg_setReg_same _ _ h).trans (by omega)⟩
  have hmarks (t : State) (m : Meter) : ({ t with meter := m } : State).reg rMeAccCtrl = t.reg rMeAccCtrl := rfl
  have hacc (t : State) (c : Prop) [Decidable c] (n : Nat) (x : Acc) :
      (if c then t else t.setAcc n x).reg rMeAccCtrl = t.reg rMeAccCtrl := ite_both (State.reg · rMeAccCtrl) rfl rfl
  unfold accCtrlWrite
  simp only [hnumber, hmarks, hacc]
  split
  · exact (((hstored.setReg_other _ (by decide)).setReg_other _ (by decide)).setReg_other _ (by decide)).2
  · exact hstored.2

end Sys2Proof.Machine
end

section
/-! SETTLED. Events of metering. -/

namespace Sys2Proof.Certificates

open Sys2Proof.Machine Sys2Proof.Safety

/-- SAGE and MTR in RUN, and ME_ACC_CTRL listed twice with 7: data of the state's type outside the canonical form of its
tables (`tabWf`), which the statement does not ask for. -/
def accCtrlTwice : State :=
  { State.reset with
    regs := [(rMeAccCtrl, 7), (rMeAccCtrl, 7)]
    islands := [(iSAGE, { state := .run }), (iMTR, { state := .run })] }

/-- Refutes O51: its clauses on SNAP and SAVE_NOW lack `tabWf s.regs`. Where the table lists ME_ACC_CTRL twice with 7, SNAP of
accumulator 0 writes its reset value and removes the first entry; the second stays, and the register still names
accumulator 7. In every canonical state it names the one written (`reg_accCtrlWrite`). -/
theorem not_meteringEvents : ¬ Obligations.MeteringEvents := by
  unfold Obligations.MeteringEvents
  intro hall
  have hreach : Safety.Reaches accCtrlTwice .steward rMeAccCtrl ((0 : Word).toNat ||| 0x10000) true := by decide
  obtain ⟨-, -, -, -, -, -, -, -, -, hsnap, -⟩ := hall accCtrlTwice
  obtain ⟨t, ht, -, hnumber, -⟩ := hsnap .steward 0 hreach (by decide) (by decide) (by decide)
  have hregs := congrArg State.regs (Host.Outcome.next.inj (ht.symm.trans (exec_snap_performed hreach)))
  have hkept : t.reg rMeAccCtrl = 7 := (reg_of_regs_eq hregs rMeAccCtrl).trans (by decide)
  rw [hkept] at hnumber
  exact absurd hnumber (by decide)

end Sys2Proof.Certificates
end

section
/-! SUPPORT. RECORDER_READ of one series (05 R166, Table 5.8; 11 R329, R330): what Steward reads through window 0, and what
the response carries. -/

namespace Sys2Proof.Machine

open Sys2Proof.Safety

/-! ### The payload that a response carries -/

theorem drop_responseOf (s : State) (q : Req) (status : Nat) (p : List Byte) : (responseOf s q status p).drop 32 = p :=
  List.drop_left' (by simp)

/-- A mailbox keeps the response to the request it had in progress (04 R125). -/
theorem kept_respond_mailbox {s : State} {q : Req} {m : Nat} (p : List Byte) (hroute : q.route = .mailbox m)
    (hin : s.mail.inProgress.contains q = true) :
    ((respond s q stOk p).box m).kept =
      some { seq := q.seq, command := q.command, tag := q.tag, response := responseOf s q stOk p } := by
  have hstatus : ¬(stOk = stBadLength ∨ stOk = stBadCheck) := by decide
  unfold respond
  simp only [hin, Bool.not_true, Bool.false_eq_true, if_false, if_neg hstatus, hroute, putMessage, raise_box]
  simp [keep, State.box, State.setBox, tabGetD]

/-- Responses to one request in a mailbox, alike in what they leave, carry the same payload. -/
theorem payload_of_respond_mailbox {s t : State} {q : Req} {m : Nat} {p p' : List Byte} (hroute : q.route = .mailbox m)
    (hs : s.mail.inProgress.contains q = true) (ht : t.mail.inProgress.contains q = true)
    (h : respond s q stOk p = respond t q stOk p') : p = p' := by
  have hkept := congrArg (fun u => (u.box m).kept) h
  simp only [kept_respond_mailbox _ hroute hs, kept_respond_mailbox _ hroute ht, Option.some.injEq, Kept.mk.injEq] at hkept
  obtain ⟨-, -, -, hresponse⟩ := hkept
  simpa only [drop_responseOf] using congrArg (List.drop 32) hresponse

/-! ### One entry -/

/-- The entry of a series that recording changes under every attempt (11 R329). -/
def busyEntry (k : Nat) : List Byte := leBytes 2 k ++ leBytes 2 stBusy ++ List.replicate 60 0

/-- The entry of a series' current record (05 Table 5.8). -/
def recordEntry (k : Nat) (x : HvSeries) (full : Bool) : List Byte :=
  leBytes 2 k ++ leBytes 2 0 ++ leBytes 1 x.bins ++ leBytes 1 (b2n x.current.stuck + b2n full * 2) ++ leBytes 2 0 ++
    leBytes 4 x.seq ++ leBytes 4 x.current.count ++ leBytes 8 x.current.sum.toNat ++ leBytes 8 x.current.min.toNat ++
    leBytes 8 x.current.minTime ++ leBytes 8 x.current.max.toNat ++ leBytes 8 x.current.maxTime ++ leBytes 8 0 ++
    (x.current.bins.map (leBytes 4)).flatten

theorem ownSeries_tenant {s : State} {k : Nat} {x : HvSeries} (hx : tabGet s.harvest.series k = some x) :
    ownSeries s x.tenant k = some x := by
  rw [ownSeries, hx]
  exact if_pos (beq_self_eq_true x.tenant)

theorem recorderEntry_own {s : State} {k : Nat} {x : HvSeries} (hx : tabGet s.harvest.series k = some x) :
    recorderEntry s x.tenant k = if recordingChanges s k then busyEntry k else recordEntry k x (hvFull s) := by
  rw [recorderEntry, ownSeries_tenant hx]
  rfl

theorem recordEntry_length (k : Nat) (x : HvSeries) (full : Bool) :
    (recordEntry k x full).length = 64 + 4 * x.current.bins.length := by
  have hbins : (x.current.bins.map (leBytes 4)).flatten.length = 4 * x.current.bins.length := by
    rw [flatten_length_of (k := 4) (by simp)]; simp
  simp only [recordEntry, List.length_append, leBytes_length, hbins]

theorem recorderEntry_fits {s : State} {k : Nat} {x : HvSeries} (hx : tabGet s.harvest.series k = some x)
    (hbins : x.current.bins.length ≤ 64) : (recorderEntry s x.tenant k).length ≤ 4056 := by
  rw [recorderEntry_own hx]
  split
  · simp [busyEntry]
  · rw [recordEntry_length]; omega

theorem recorderEntries_one {s : State} {tenant k room : Nat} (hfit : (recorderEntry s tenant k).length ≤ room) :
    recorderEntries s tenant k 1 k room = ([recorderEntry s tenant k], 1, 0xFFFF) := by
  simp [recorderEntries, Nat.not_lt.mpr hfit]

/-! ### The command -/

/-- Window 0 as Steward reads through it: PF has it serve the route's tenant (11 R330). -/
def windowFor (s : State) (tenant : Nat) : State := (crossed s iPF).setReg (rHvWTenant 0) tenant

/-- The response of one entry, with no series left to ask for (05 R166). -/
def oneEntry (e : List Byte) : List Byte := leBytes 2 1 ++ leBytes 2 0xFFFF ++ leBytes 4 0 ++ e

theorem exec_recorderRead_one {s : State} {r : Route} {tag k : Nat} {q : Req} {x : HvSeries}
    (hserved : Served s r tag 0x0603 q) (hopen : Open s iPF) (hpayload : q.payload = leBytes 2 k ++ leBytes 2 k)
    (hk : k < 65536) (hx : tabGet s.harvest.series k = some x) (htenant : x.tenant = routeTenant s q.route)
    (hbins : x.current.bins.length ≤ 64) :
    Answers (.recorderRead r tag) s q (windowRead (windowFor s x.tenant) x.tenant k)
      (oneEntry (recorderEntry (windowFor s x.tenant) x.tenant k)) := by
  have hfirst : fld q.payload 0 2 = k := by simp [hpayload]; omega
  have hlast : fld q.payload 2 2 = k := by simp [hpayload]; omega
  have hentries : recorderEntries ((crossed s iPF).setReg (rHvWTenant 0) x.tenant) x.tenant k 1 k 4056 =
      ([recorderEntry (windowFor s x.tenant) x.tenant k], 1, 0xFFFF) :=
    recorderEntries_one (recorderEntry_fits hx hbins)
  refine congrArg Host.Outcome.next (serve_answers hserved rfl ?_)
  simp only [hfirst, hlast, ← htenant, Nat.sub_self, Nat.zero_add]
  rw [if_neg (by simp [hpayload]), if_neg (Nat.lt_irrefl k)]
  refine toIsland_ok hopen ?_
  simp [hentries, oneEntry, windowFor]

theorem only_windowSelect (s : State) (w v : Nat) : Only [.regs] s (windowSelect s w v) :=
  Only.trans (only_setReg s _ v) (only_setReg _ _ 0)

theorem only_windowRead (s : State) (tenant k : Nat) : Only [.regs] s (windowRead s tenant k) :=
  Only.trans (only_windowSelect s 0 k) (only_setReg _ _ _)

theorem only_windowFor (s : State) (tenant : Nat) : Only [.islands, .regs] s (windowFor s tenant) :=
  Only.seq (only_crossed s iPF) (only_setReg _ _ tenant)

theorem rbit_windowFor {s : State} {a : Nat} (tenant i : Nat) (hwf : tabWf s.regs = true) (ha : a ≠ rHvWTenant 0) :
    (windowFor s tenant).rbit a i = s.rbit a i :=
  congrArg (bitOf · i) (reg_setReg_other (s := crossed s iPF) tenant hwf ha)

/-- Where the register table lists every register once, serving a tenant changes neither what recording does nor FULL. -/
theorem recordingChanges_windowFor {s : State} (tenant k : Nat) (hwf : tabWf s.regs = true) :
    recordingChanges (windowFor s tenant) k = recordingChanges s k ∧ hvFull (windowFor s tenant) = hvFull s := by
  have hfull : hvFull (windowFor s tenant) = hvFull s := rbit_windowFor tenant 0 hwf (by decide)
  have hon : (windowFor s tenant).rbit rHvCtrl 0 = s.rbit rHvCtrl 0 := rbit_windowFor tenant 0 hwf (by decide)
  have hqueue : (windowFor s tenant).harvest.queue = s.harvest.queue := rfl
  exact ⟨by rw [recordingChanges, hon, hfull, hqueue, recordingChanges], hfull⟩

/-- What `Obligations.SeriesCommandEffect` says of RECORDER_READ, where the register table is in its canonical form. -/
theorem exec_recorderRead_canonical {s : State} {r : Route} {tag k : Nat} {q : Req} {x : HvSeries}
    (hwf : tabWf s.regs = true) (hserved : Served s r tag 0x0603 q) (hopen : Open s iPF)
    (hpayload : q.payload = leBytes 2 k ++ leBytes 2 k) (hk : k < 65536) (hx : tabGet s.harvest.series k = some x)
    (htenant : x.tenant = routeTenant s q.route) (hbins : x.current.bins.length ≤ 64) :
    ∃ w, Answers (.recorderRead r tag) s q w
        (oneEntry (if recordingChanges s k then busyEntry k else recordEntry k x (hvFull s))) ∧
      Only [.regs, .islands] s w := by
  have hexec := exec_recorderRead_one hserved hopen hpayload hk hx htenant hbins
  obtain ⟨hchanges, hfull⟩ := recordingChanges_windowFor x.tenant k hwf
  rw [recorderEntry_own (s := windowFor s x.tenant) hx, hchanges, hfull] at hexec
  exact ⟨_, hexec, Only.mono (Only.seq (only_windowFor s _) (only_windowRead _ _ k)) (by decide)⟩

end Sys2Proof.Machine
end

section
/-! SETTLED. The recorder commands. -/

namespace Sys2Proof.Certificates

open Sys2Proof.Machine Sys2Proof.Safety

/-- An empty series of no tenant's route, as an unbound mailbox reads it. -/
def unownedSeries : HvSeries :=
  { tenant := nobody, pt := 0x0100000, bins := 1, low := 0, width := 0x3FF0000000000000, linked := false, next := none
    current := HvRecord.empty 1 0, closed := [], seq := 0 }

/-- A RECORDER_READ of series 0 alone in mailbox 1, which is bound to no tenant. -/
def recorderRequest : Req :=
  { route := .mailbox 1, command := 0x0603, seq := 1, tag := 7, session := 0, more := false
    payload := leBytes 2 0 ++ leBytes 2 0, pended := false }

/-- SAGE and PF in RUN, and HV_STATUS listed behind HV_WTENANT, whose address is the higher one: data of the state's type
outside the canonical form of its tables (`tabWf`), which the statement does not ask for. HV_STATUS.FULL reads 0. -/
def statusBehindTenant : State :=
  { State.reset with
    regs := [(rHvWTenant 0, 0), (rHvStatus, 1)]
    islands := [(iSAGE, { state := .run }), (iPF, { state := .run })]
    harvest := { State.reset.harvest with series := [(0, unownedSeries)] }
    mail := { State.reset.mail with ready := true, inProgress := [recorderRequest] } }

/-- Refutes O11: its clause on RECORDER_READ lacks `tabWf s.regs`. The route of an unbound mailbox has HV_WTENANT's reset
value as its tenant, so serving it removes that register's entry; where HV_STATUS stands behind it, HV_STATUS comes to light,
and the entry answers FULL where the state had none. In every canonical state the clause holds
(`exec_recorderRead_canonical`). -/
theorem not_seriesCommandEffect : ¬ Obligations.SeriesCommandEffect := by
  unfold Obligations.SeriesCommandEffect
  intro hall
  have hserved : Served statusBehindTenant (.mailbox 1) 7 0x0603 recorderRequest := by decide
  have hopen : Open statusBehindTenant iPF := by decide
  obtain ⟨-, -, -, hread⟩ := hall statusBehindTenant (.mailbox 1) 7 recorderRequest
  obtain ⟨-, hrecord⟩ := hread 0 unownedSeries hserved hopen rfl (by decide) rfl rfl (by decide)
  obtain ⟨w, hw, honly⟩ := hrecord (by decide)
  have hexec := exec_recorderRead_one (x := unownedSeries) hserved hopen rfl (by decide) rfl rfl (by decide)
  have hmail : w.mail = statusBehindTenant.mail := honly .mail (by decide)
  have hanswered : w.mail.inProgress.contains recorderRequest = true := by rw [hmail]; decide
  have hpayload : oneEntry (recordEntry 0 unownedSeries false) = oneEntry (recordEntry 0 unownedSeries true) :=
    payload_of_respond_mailbox rfl hanswered (by decide) (Host.Outcome.next.inj (hw.symm.trans hexec))
  exact absurd hpayload (by decide)

end Sys2Proof.Certificates
end

section
/-! SUPPORT. A close at a boundary and the choice of a record at a window (11 R321, R327; Tables 11.1 and 11.5): what the
registers show, where the register table is canonical and the boundary a u64. -/

namespace Sys2Proof.Machine

open Sys2Proof.Safety

/-- A register shows a word of 32 bits. -/
theorem reg_lt (s : State) {a : Nat} (hreset : regReset a < 2 ^ 32) : s.reg a < 2 ^ 32 := by
  unfold State.reg
  split
  · exact BitVec.isLt _
  · exact hreset

/-! ### The close -/

/-- Outside the active role nothing is shipped (16 R451). -/
theorem ship_single {s : State} (records : List (List Byte)) (h : s.twin.role = .single) : ship s records = s := by
  simp [ship, h]

/-- Every series closed at a boundary, the boundary in HV_CLOSE, and CLOSED set (11 R321). -/
def closedAt (s : State) (c : Nat) : State :=
  ((({ s with harvest := { s.harvest with
      series := tabMap (fun _ x => closeSeries x c) s.harvest.series, lastClose := c } } : State).setReg
    rHvCloseLo (c % 2 ^ 32)).setReg rHvCloseHi (c / 2 ^ 32)).raise rHvEvent 1

/-- A close that is due, with room for it, on a module without a partner. -/
theorem exec_harvestClose_room {s : State} {c : Nat} (hrun : s.running iPF = true) (hshadow : s.shadow = false)
    (hsingle : s.twin.role = .single) (hdue : closeDue s = some c) (hroom : closeNeed s ≤ regionBytes - hvUsed s)
    (hfew : s.harvest.series.any (fun e => decide (65535 ≤ e.2.closed.length)) = false) :
    exec .harvestClose s = .next (closedAt s c) := by
  have hfits : ¬(regionBytes - hvUsed s < closeNeed s ∨
      s.harvest.series.any (fun e => decide (65535 ≤ e.2.closed.length)) = true) := by
    rw [hfew]; simpa using hroom
  have hrole : (closedAt s c).twin.role = .single := hsingle
  have hcloses : closeAll s c = closedAt s c := by
    rw [closeAll, if_neg hfits]
    exact ship_single _ hrole
  change Host.Outcome.next _ = _
  simp [hrun, hshadow, hdue, hcloses]

theorem only_closedAt (s : State) (c : Nat) : Only [.harvest, .regs] s (closedAt s c) :=
  Only.seq (only_harvest s _) (Only.trans (only_setReg _ _ _) (Only.trans (only_setReg _ _ _) (only_raise _ _ _)))

/-- HV_CLOSE shows the boundary where it is a u64 and the register table lists every register once. -/
theorem reg_closedAt {s : State} {c : Nat} (hwf : tabWf s.regs = true) (hc : c < 2 ^ 64) :
    (closedAt s c).reg rHvCloseLo = c % 2 ^ 32 ∧ (closedAt s c).reg rHvCloseHi = c / 2 ^ 32 := by
  have hwf' : tabWf (s.setReg rHvCloseLo (c % 2 ^ 32)).regs = true := tabWf_regs_setReg _ _ hwf
  have hraise (t : State) {a : Nat} (ha : a ≠ rHvEvent) : (t.raise rHvEvent 1).reg a = t.reg a :=
    reg_raise_other (by decide) (by decide) ha
  constructor
  · calc (closedAt s c).reg rHvCloseLo
        = ((s.setReg rHvCloseLo (c % 2 ^ 32)).setReg rHvCloseHi (c / 2 ^ 32)).reg rHvCloseLo := hraise _ (by decide)
      _ = (s.setReg rHvCloseLo (c % 2 ^ 32)).reg rHvCloseLo := reg_setReg_other _ hwf' (by decide)
      _ = c % 2 ^ 32 := by rw [reg_setReg_same _ _ hwf, Nat.mod_mod]
  · calc (closedAt s c).reg rHvCloseHi
        = ((s.setReg rHvCloseLo (c % 2 ^ 32)).setReg rHvCloseHi (c / 2 ^ 32)).reg rHvCloseHi := hraise _ (by decide)
      _ = c / 2 ^ 32 := by rw [reg_setReg_same _ _ hwf']; omega

/-- What `Obligations.HarvestEvents` says of a close with room left, where the register table is in its canonical form and
the boundary a u64 (13 R361). -/
theorem exec_harvestClose_canonical {s : State} {k c : Nat} {x : HvSeries} (hwf : tabWf s.regs = true) (hc : c < 2 ^ 64)
    (hrun : s.running iPF = true) (hshadow : s.shadow = false)
    (hsingle : s.twin.role = .single) (hdue : closeDue s = some c) (hroom : closeNeed s ≤ regionBytes - hvUsed s)
    (hfew : s.harvest.series.any (fun e => decide (65535 ≤ e.2.closed.length)) = false)
    (hx : tabGet s.harvest.series k = some x) :
    ∃ t, exec .harvestClose s = .next t ∧ tabGet t.harvest.series k = some (closeSeries x c) ∧
      t.reg rHvCloseLo = c % 2 ^ 32 ∧ t.reg rHvCloseHi = c / 2 ^ 32 ∧ t.harvest.lastClose = c ∧
      t.rbit rHvEvent 1 = true ∧ Only [.regs, .harvest] s t := by
  obtain ⟨hlow, hhigh⟩ := reg_closedAt hwf hc
  refine ⟨_, exec_harvestClose_room hrun hshadow hsingle hdue hroom hfew, ?_, hlow, hhigh, rfl,
    rbit_raise_same _ (by decide) (by decide), Only.mono (only_closedAt s c) (by decide)⟩
  change tabGet (tabMap (fun _ x => closeSeries x c) s.harvest.series) k = _
  rw [tabGet_tabMap, hx]
  rfl

/-! ### The selection -/

/-- A write that is performed has its effect, and ends OK. -/
theorem writeRow_performed {s : State} {by_ : Agent} {a v : Nat} {f : State → State} (h : Safety.Reaches s by_ a v true) :
    writeRow s by_ a v f = settleAccess (f (met s by_ a)) by_ stOk 0 := by
  obtain ⟨hgate, hrun, -, hopen⟩ := h
  simp only [writeRow, accessRow, access, hrun, hgate, ne_eq, not_true_eq_false, if_false, Bool.not_true, Bool.false_eq_true,
    crossing_performed _ _ _ _ hopen, met]
  split
  · rfl
  · simp

/-- A selection stores the record's number and puts the cursor to 0 (11 R327). -/
theorem reg_windowSelect {s : State} (w : Nat) {v : Nat} (hv : v < 2 ^ 32) (hwf : tabWf s.regs = true) :
    (windowSelect s w v).reg (rHvWSel w) = v ∧ (windowSelect s w v).reg (rHvWCur w) = 0 := by
  have hwf' : tabWf (s.setReg (rHvWSel w) v).regs = true := tabWf_regs_setReg _ _ hwf
  have hne : rHvWSel w ≠ rHvWCur w := by simp only [rHvWSel, rHvWCur]; omega
  constructor
  · rw [windowSelect, reg_setReg_other _ hwf' hne, reg_setReg_same _ _ hwf, Nat.mod_eq_of_lt hv]
  · rw [windowSelect, reg_setReg_same _ _ hwf', Nat.zero_mod]

theorem only_met_windowSelect (s : State) (a : Agent) (w v : Nat) :
    Only [.regs, .islands] s (windowSelect (met s a (rHvWSel w)) w v) :=
  Only.trans (only_met_setReg s a _ _ v) (Only.mono (only_setReg _ _ 0) (by decide))

/-- What `Obligations.HarvestEvents` says of a write of HV_WSEL, where the register table is in its canonical form. -/
theorem exec_hvWselWrite_canonical {s : State} {a : Agent} {w : Nat} {v : Word} (hwf : tabWf s.regs = true) (hw : w < 2)
    (hreach : Safety.Reaches s a (rHvWSel w) v.toNat true) :
    ∃ t, exec (.hvWselWrite a w v) s = .next t ∧ t.outs.readStatus = 0 ∧ t.reg (rHvWSel w) = v.toNat ∧
      t.reg (rHvWCur w) = 0 ∧ Only [.regs, .outs, .islands] s t := by
  have hexec : exec (.hvWselWrite a w v) s = .next (settleAccess (windowSelect (met s a (rHvWSel w)) w v.toNat) a stOk 0) := by
    change Host.Outcome.next _ = _
    rw [if_pos hw, writeRow_performed hreach]
  obtain ⟨hselected, hcursor⟩ := reg_windowSelect (s := met s a (rHvWSel w)) w v.isLt (by rwa [met_regs])
  rw [settleAccess_ok] at hexec
  exact ⟨_, hexec, rfl, hselected, hcursor,
    Only.mono (Only.seq (only_met_windowSelect s a w v.toNat) (only_outs _ _)) (by decide)⟩

end Sys2Proof.Machine
end

section
/-! SETTLED. Events of Harvest. -/

namespace Sys2Proof.Certificates

open Sys2Proof.Machine Sys2Proof.Safety

/-- An empty series of the house. -/
def houseSeries : HvSeries :=
  { tenant := house, pt := 0x0100000, bins := 1, low := 0, width := 0x3FF0000000000000, linked := false, next := none
    current := HvRecord.empty 1 0, closed := [], seq := 0 }

/-- PF in RUN, a close every minute, and the first minute of TAI whose nanoseconds exceed a u64 (in the year 2554; 13 R361):
every table is canonical, and the time unit's 48-bit seconds hold the instant. -/
def afterU64Time : State :=
  { State.reset with
    regs := [(rHvCtrl, 0x101)]
    islands := [(iPF, { state := .run })]
    clock := { State.reset.clock with time16 := 307445735 * 60 * nsSec * 65536 }
    harvest := { State.reset.harvest with series := [(0, houseSeries)] } }

/-- Refutes O52: its clause on a close with room left has HV_CLOSE_HI read `c / 2 ^ 32` for every boundary c, without
`c < 2 ^ 64`. A boundary after the year 2554 has more than 64 bits, and a register shows 32. With a canonical register table
and a boundary of 64 bits the clause holds (`exec_harvestClose_canonical`). The clause on HV_WSEL lacks `tabWf s.regs`
besides (`reg_setReg_of_listed_twice`, `exec_hvWselWrite_canonical`). -/
theorem not_harvestEvents : ¬ Obligations.HarvestEvents := by
  unfold Obligations.HarvestEvents
  intro hall
  have hdue : closeDue afterU64Time = some (307445735 * 60 * nsSec) := by decide
  obtain ⟨-, -, -, -, hclose, -⟩ := hall afterU64Time
  obtain ⟨t, -, -, -, hhigh, -⟩ :=
    hclose 0 _ houseSeries (by decide) (by decide) (by decide) hdue (by decide) (by decide) (by decide)
  have hword : t.reg rHvCloseHi < 2 ^ 32 := reg_lt t (by decide)
  rw [hhigh] at hword
  exact absurd hword (by decide)

end Sys2Proof.Certificates
end

section
/-! SUPPORT. Writes of SW_CTRL and SW_UC_CMD (12 R346, R347, Tables 12.9, 12.10): what the registers show, where the register table
is canonical and an entry's address has at most 64 bits. -/

namespace Sys2Proof.Machine

open Sys2Proof.Safety

theorem only_switch (s : State) (x : Switch) : Only [.switch] s { s with switch := x } := by
  intro p hp
  cases p
  case switch => simp at hp
  all_goals rfl

/-! ### FLUSH_DYN -/

/-- The dynamic entries removed, and what SW_CTRL keeps of the word written. -/
def flushed (s : State) (v : Nat) : State :=
  { s.setReg rSwCtrl (v &&& 3) with switch := { s.switch with uc := tabFilter (fun _ e => e.static) s.switch.uc } }

theorem swCtrlWrite_flush (s : State) {v : Nat} (hflush : bitOf v 2 = true) : swCtrlWrite s v = flushed s v :=
  if_pos hflush

@[simp] theorem flushed_uc (s : State) (v : Nat) :
    (flushed s v).switch.uc = tabFilter (fun _ e => e.static) s.switch.uc := rfl

@[simp] theorem flushed_regs (s : State) (v : Nat) : (flushed s v).regs = (s.setReg rSwCtrl (v &&& 3)).regs := rfl

/-- SW_CTRL keeps its two stored bits of the word written, where the register table lists every register once. -/
theorem reg_flushed {s : State} (v : Nat) (hwf : tabWf s.regs = true) : (flushed s v).reg rSwCtrl = v &&& 3 := by
  have hle : v &&& 3 ≤ 3 := Nat.and_le_right
  rw [reg_of_regs_eq (flushed_regs s v), reg_setReg_same _ _ hwf, Nat.mod_eq_of_lt (by omega)]

/-- FLUSH_DYN is a write of SW_CTRL with its bit set. -/
theorem exec_flushDyn_performed {s : State} {a : Agent} {v : Word} (hreach : Safety.Reaches s a rSwCtrl v.toNat true)
    (hflush : bitOf v.toNat 2 = true) : Performs (.flushDyn a v) s (flushed (met s a rSwCtrl) v.toNat) 0 := by
  change Host.Outcome.next (writeRow s a rSwCtrl v.toNat fun t => swCtrlWrite t v.toNat) = _
  rw [writeRow_performed hreach, swCtrlWrite_flush _ hflush, settleAccess_ok]

theorem met_switch (s : State) (a : Agent) (n : Nat) : (met s a n).switch = s.switch :=
  ite_both State.switch rfl rfl

theorem only_flushed (s : State) (a : Agent) (v : Nat) :
    Only [.regs, .islands, .switch] s (flushed (met s a rSwCtrl) v) :=
  Only.seq (only_met_setReg s a rSwCtrl rSwCtrl (v &&& 3)) (only_switch _ _)

/-- What `Obligations.SwitchEvents` says of FLUSH_DYN, where the register table is in its canonical form. -/
theorem exec_flushDyn_canonical {s : State} {a : Agent} {v : Word} (hwf : tabWf s.regs = true)
    (hreach : Safety.Reaches s a rSwCtrl v.toNat true) (hflush : bitOf v.toNat 2 = true) :
    ∃ t, exec (.flushDyn a v) s = .next t ∧ t.outs.readStatus = 0 ∧
      t.switch.uc = tabFilter (fun _ e => e.static) s.switch.uc ∧ t.reg rSwCtrl = v.toNat &&& 3 ∧
      Only [.regs, .outs, .islands, .switch] s t := by
  have huc : (flushed (met s a rSwCtrl) v.toNat).switch.uc = tabFilter (fun _ e => e.static) s.switch.uc := by
    rw [flushed_uc, met_switch]
  exact ⟨_, exec_flushDyn_performed hreach hflush, rfl, huc, reg_flushed v.toNat (by rwa [met_regs]),
    Only.mono (Only.seq (only_flushed s a v.toNat) (only_outs _ _)) (by decide)⟩

/-! ### An entry shown in the registers -/

/-- An entry in the address and data registers (Table 12.10). -/
def entryShown (s : State) (e : UcEntry) : State :=
  ((s.setReg rSwUcMacLo (e.mac % 2 ^ 32)).setReg rSwUcMacHi (e.mac / 2 ^ 32)).setReg rSwUcData e.data

theorem entryShown_switch (s : State) (e : UcEntry) : (entryShown s e).switch = s.switch := by
  rw [entryShown, setReg_switch, setReg_switch, setReg_switch]

theorem ucFound_some {s : State} {i : Option Nat} {e : UcEntry} (he : i.bind (tabGet s.switch.uc) = some e) :
    ucFound s i = { entryShown s e with switch := { (entryShown s e).switch with ucFound := true } } := by
  simp only [ucFound, he, entryShown]

theorem ucData_lt (e : UcEntry) : e.data < 2 ^ 32 := by
  have hports : e.ports % 2 ^ 20 < 2 ^ 20 := Nat.mod_lt _ (by decide)
  unfold UcEntry.data
  cases e.static <;> simp [b2n] <;> omega

/-- The registers show the entry where their table lists every register once and the address has at most 64 bits. -/
theorem reg_entryShown {s : State} {e : UcEntry} (hwf : tabWf s.regs = true) (hmac : e.mac < 2 ^ 64) :
    (entryShown s e).reg rSwUcMacLo = e.mac % 2 ^ 32 ∧ (entryShown s e).reg rSwUcMacHi = e.mac / 2 ^ 32 ∧
      (entryShown s e).reg rSwUcData = e.data := by
  have hlow : tabWf (s.setReg rSwUcMacLo (e.mac % 2 ^ 32)).regs = true := tabWf_regs_setReg _ _ hwf
  have hhigh : tabWf ((s.setReg rSwUcMacLo (e.mac % 2 ^ 32)).setReg rSwUcMacHi (e.mac / 2 ^ 32)).regs = true :=
    tabWf_regs_setReg _ _ hlow
  unfold entryShown
  refine ⟨?_, ?_, ?_⟩
  · rw [reg_setReg_other _ hhigh (by decide), reg_setReg_other _ hlow (by decide), reg_setReg_same _ _ hwf, Nat.mod_mod]
  · rw [reg_setReg_other _ hhigh (by decide), reg_setReg_same _ _ hlow, Nat.mod_eq_of_lt (by omega)]
  · rw [reg_setReg_same _ _ hhigh, Nat.mod_eq_of_lt (ucData_lt e)]

theorem only_entryShown (s : State) (e : UcEntry) : Only [.regs] s (entryShown s e) :=
  Only.trans (only_setReg s _ _) (Only.trans (only_setReg _ _ _) (only_setReg _ _ _))

theorem reg_ucFound {s : State} {i : Option Nat} {e : UcEntry} (he : i.bind (tabGet s.switch.uc) = some e) (b : Nat) :
    (ucFound s i).reg b = (entryShown s e).reg b := by
  have hmark (t : State) (x : Switch) : ({ t with switch := x } : State).reg b = t.reg b := rfl
  rw [ucFound_some he, hmark]

theorem ucFound_switch {s : State} {i : Option Nat} {e : UcEntry} (he : i.bind (tabGet s.switch.uc) = some e) :
    (ucFound s i).switch = { s.switch with ucFound := true } := by
  rw [ucFound_some he, entryShown_switch]

theorem only_ucFound {s : State} {i : Option Nat} {e : UcEntry} (he : i.bind (tabGet s.switch.uc) = some e) :
    Only [.regs, .switch] s (ucFound s i) := by
  rw [ucFound_some he]
  exact Only.seq (only_entryShown s e) (only_switch _ _)

/-- A write of SW_UC_CMD with the operation READ. -/
theorem ucCmdWrite_read (s : State) {v : Nat} (hop : v % 4 = 3) :
    ucCmdWrite s v = ucFound (s.setReg rSwUcCmd (v &&& 0xFFFC)) (some (bitsOf v 2 14)) := by
  simp [ucCmdWrite, hop]

/-- What `Obligations.SwitchEvents` says of UC_READ, where the register table is in its canonical form and the entry's
address has at most 64 bits. -/
theorem exec_ucRead_canonical {s : State} {a : Agent} {v : Word} {e : UcEntry} (hwf : tabWf s.regs = true)
    (hmac : e.mac < 2 ^ 64) (hreach : Safety.Reaches s a rSwUcCmd v.toNat true) (hop : v.toNat % 4 = 3)
    (he : tabGet s.switch.uc (bitsOf v.toNat 2 14) = some e) :
    ∃ t, exec (.ucRead a v) s = .next t ∧ t.outs.readStatus = 0 ∧ t.switch.ucFound = true ∧
      t.reg rSwUcMacLo = e.mac % 2 ^ 32 ∧ t.reg rSwUcMacHi = e.mac / 2 ^ 32 ∧ t.reg rSwUcData = e.data ∧
      t.switch.uc = s.switch.uc ∧ Only [.regs, .outs, .islands, .switch] s t := by
  have hswitch : ((met s a rSwUcCmd).setReg rSwUcCmd (v.toNat &&& 0xFFFC)).switch = s.switch := met_switch s a rSwUcCmd
  have hstored : tabWf ((met s a rSwUcCmd).setReg rSwUcCmd (v.toNat &&& 0xFFFC)).regs = true :=
    tabWf_regs_setReg _ _ (by rwa [met_regs])
  have hstays := only_met_setReg s a rSwUcCmd rSwUcCmd (v.toNat &&& 0xFFFC)
  have hexec : Performs (.ucRead a v) s
      (ucFound ((met s a rSwUcCmd).setReg rSwUcCmd (v.toNat &&& 0xFFFC)) (some (bitsOf v.toNat 2 14))) 0 := by
    change Host.Outcome.next (writeRow s a rSwUcCmd v.toNat fun t => ucCmdWrite t v.toNat) = _
    rw [writeRow_performed hreach, ucCmdWrite_read _ hop, settleAccess_ok]
  generalize (met s a rSwUcCmd).setReg rSwUcCmd (v.toNat &&& 0xFFFC) = w at hswitch hstored hstays hexec
  have hentry : (some (bitsOf v.toNat 2 14)).bind (tabGet w.switch.uc) = some e := by rw [hswitch]; exact he
  have hfound := ucFound_switch hentry
  have hshows := reg_ucFound hentry
  have honly := Only.seq hstays (only_ucFound hentry)
  rw [hswitch] at hfound
  have huc : (ucFound w (some (bitsOf v.toNat 2 14))).switch.uc = s.switch.uc := by rw [hfound]
  obtain ⟨hlow, hhigh, hdata⟩ := reg_entryShown hstored hmac
  exact ⟨_, hexec, rfl, congrArg Switch.ucFound hfound, (hshows _).trans hlow, (hshows _).trans hhigh,
    (hshows _).trans hdata, huc, Only.mono (Only.seq honly (only_outs _ _)) (by decide)⟩

end Sys2Proof.Machine
end

section
/-! SETTLED. Events of the switch. -/

namespace Sys2Proof.Certificates

open Sys2Proof.Machine Sys2Proof.Safety

/-- SAGE and SW in RUN, and SW_CTRL listed twice with FWD_EN alone: data of the state's type outside the canonical form of
its tables (`tabWf`), which the statement does not ask for. -/
def swCtrlTwice : State :=
  { State.reset with
    regs := [(rSwCtrl, 1), (rSwCtrl, 1)]
    islands := [(iSAGE, { state := .run }), (iSW, { state := .run })] }

/-- Refutes O53: its clause on FLUSH_DYN lacks `tabWf s.regs`. Where the table lists SW_CTRL twice with 1, FLUSH_DYN with both
stored bits set writes its reset value 3 and removes the first entry; the second stays, and the register still reads 1. In
every canonical state the clause holds (`exec_flushDyn_canonical`). The clause on UC_READ lacks it too, and a bound of 64 bits
on the entry's address, whose upper part one register shows (`exec_ucRead_canonical`). -/
theorem not_switchEvents : ¬ Obligations.SwitchEvents := by
  unfold Obligations.SwitchEvents
  intro hall
  have hreach : Safety.Reaches swCtrlTwice .steward rSwCtrl (7 : Word).toNat true := by decide
  have hflush : bitOf (7 : Word).toNat 2 = true := by decide
  obtain ⟨-, -, -, -, -, -, -, -, -, -, -, -, -, -, -, -, hflushes, -⟩ := hall swCtrlTwice 0
  obtain ⟨t, ht, -, -, hword, -⟩ := hflushes .steward 7 hreach hflush
  have hregs : t.regs = (flushed (met swCtrlTwice .steward rSwCtrl) (7 : Word).toNat).regs :=
    congrArg State.regs (Host.Outcome.next.inj (ht.symm.trans (exec_flushDyn_performed hreach hflush)))
  have hkept : t.reg rSwCtrl = 1 :=
    calc t.reg rSwCtrl
        = ((met swCtrlTwice .steward rSwCtrl).setReg rSwCtrl ((7 : Word).toNat &&& 3)).reg rSwCtrl :=
          reg_of_regs_eq (hregs.trans (flushed_regs _ _)) rSwCtrl
      _ = 1 := reg_setReg_of_listed_twice (w := 1) (met_regs ..) (by decide)
  rw [hkept] at hword
  exact absurd hword (by decide)

end Sys2Proof.Certificates
end
